-- ==== Sys2Proof/Word.lean ====
section
/-! DEFINITION. The bit-vector types of the registers and bytes of the module, and the index types of its parts. -/

namespace Sys2Proof

/-- A 32-bit register word (R3). -/
abbrev Word := BitVec 32

/-- One byte of a host-visible structure (R3). -/
abbrev Byte := BitVec 8

/-- An HDA number, 0 to 15 (R20). -/
abbrev HdaNo := Fin 16

/-- A media unit index, 2 × HDA + actuator (R20); a volume has the number of its media unit. -/
abbrev MuNo := Fin 32

/-- A PCI Express endpoint, 0 or 1 (R55). -/
abbrev EpNo := Fin 2

/-- A tag, 0 to 16,383 (R351). -/
abbrev TagNo := Fin 16384

end Sys2Proof
end

