-- ==== Sys2Proof/Syntax.lean ====
section
/-! DEFINITION. The commands of the module: the operand records and one constructor for each row of the opcode table. -/

namespace Sys2Proof

/-- One sector as the module holds it between host and medium (R148): its 4,096 data bytes and 16 metadata bytes
(ciphertext once encrypted), the tag that names it, its CRC and its seal. -/
structure Sector where
  data : List Byte := []
  hmeta : List Byte := []
  vol : Nat := 0
  lba : Nat := 0
  /-- Zone generation it was written in (R150, R538). -/
  zgen : Nat := 0
  kdom : Nat := 0
  scrc : BitVec 32 := 0
  smac : BitVec 32 := 0
  /-- Words of the sector whose POISON bit is set, by number (R461, R463). -/
  marks : List Nat := []
deriving DecidableEq, Repr

/-- Number of poisoned words. -/
def Sector.poisoned (x : Sector) : Nat := x.marks.length

/-- A word of the sector is poisoned. -/
def Sector.poison (x : Sector) : Bool := !x.marks.isEmpty

/-- A rate zone record (R147). -/
structure RateZone where
  firstTrack : Nat := 0
  lastTrack : Nat := 0
  k : Nat := 0
  spt : Nat := 0
  btrk : Nat := 0
  conv : Bool := false
deriving DecidableEq, Repr

/-- A zone map entry (R169), with its slip entries. -/
structure ZoneMap where
  head : Nat := 0
  rz : Nat := 0
  conv : Bool := false
  btrk : Nat := 0
  firstTrack : Nat := 0
  cap : Nat := 0
  slipCnt : Nat := 0
  slips : List Nat := []
deriving DecidableEq, Repr

/-- The format's records as the medium holds them (R147, R169, R171): the 16 bytes of each rate zone record by head × 64 + zone, the 16 bytes of
each zone map entry, and the slip list. -/
structure FmtRecords where
  rateZones : List (Nat × List Byte) := []
  zoneMap : List (List Byte) := []
  slips : List Nat := []
deriving DecidableEq, Repr

/-- What the sub-converters of both readers sample of one sector (R177): by sub-converter, its samples in turn; sample n of a reader is number n / 8 of
the sub-converter in active slot n mod 8, n counted from start[s]. -/
structure Signal where
  conv0 : List (List Int) := []
  conv1 : List (List Int) := []
deriving DecidableEq, Repr

/-- What a port read met in an SRAM (R466): the SRAM and the word; 0 good, 1 corrected, 2 uncorrectable. -/
structure SramRead where
  sram : Nat := 0
  word : Nat := 0
  finding : Nat := 0
deriving DecidableEq, Repr

/-- How a preamplifier frame ends: the cycles it had, the bits the line turned over, and the value of a live register (R108 to R114). -/
structure FrameIn where
  cycles : Nat := 0
  flips : List Bool := []
  live : Nat := 0
deriving DecidableEq, Repr

/-- How memory answers for the metadata of a burst: the bits in error, and the burst that it returns, another one where an address line fails
(R461, R462). -/
structure BurstMeta where
  flips : BitVec 56 := 0
  source : Nat := 0
deriving DecidableEq, Repr

/-- What a burst outside the cache's lines holds: a sector, by its key; bytes of the staged firmware image from an offset; an entry of an MU's channel
or write table; or nothing that the model names (R459). -/
inductive Held where
  | none
  | sector (key : Nat)
  | staged (offset : Nat)
  | entry (mu : MuNo) (index : Nat) (write : Bool)
deriving DecidableEq, Repr

/-- A read of one burst: its number A[35:6], its metadata and the bits in error of its eight words as memory answers, and what it holds (R461, R462). -/
structure BurstRead where
  burst : Nat
  hmeta : BurstMeta := {}
  words : List (BitVec 72) := []
  holds : Held := .none
deriving DecidableEq, Repr

/-- A READ or VERIFY at egress, and the bursts in which it finds an error (R462, R463). -/
structure EgressIn where
  tag : TagNo
  reads : List BurstRead := []
deriving DecidableEq, Repr

/-- A fetch by WAS, and the bursts in which it finds an error (R462, R463). -/
structure EncodeIn where
  mu : MuNo
  reads : List BurstRead := []
deriving DecidableEq, Repr

/-- The loads of a take: whether PFLT stays after the clearing frame (R118), and the bursts in which they find an error (R462, R463). -/
structure TableIn where
  stays : Bool := false
  reads : List BurstRead := []
deriving DecidableEq, Repr

/-- What the check of a firmware slot found: its signature, its components' digests (R529, R532). -/
structure SlotCheck where
  sigOk : Bool := true
  compsOk : Bool := true
deriving DecidableEq, Repr

/-- What the medium's format says of an MU once read (R171, R172): rate zones by head × 64 + zone, zones in order. -/
structure MuFormat where
  rateZones : List (Nat × RateZone) := []
  zones : List ZoneMap := []
deriving DecidableEq, Repr

/-- What the journal on the medium says of a zone (R171): zone, state code of R400, write pointer, generation, key domain; and the location tags
found on the zone's last written track. -/
structure JournalEntry where
  zone : Nat
  st : Nat
  wp : Nat
  gen : Nat
  kdom : Option Nat
  tags : List Nat := []
deriving DecidableEq, Repr

/-- A command whose data passed through a failed entry (R332, R466): its tag, the first sector affected as an offset in its range, and how many. -/
structure Loss where
  tag : TagNo
  first : Nat
  count : Nat
deriving DecidableEq, Repr

/-- The clock as SCH sees it at a choice (R434, R435): the operating time in ms, and the age in ms of each eligible take in their fixed order. -/
structure SchClock where
  now : Nat
  ages : List Nat
deriving DecidableEq, Repr

/-- The configuration-space fields whose writes act on the module (R320, R325, R328 to R330). -/
inductive CfgField where
  /-- The two DWs of BAR0 (R323). -/
  | bar0 (upper : Bool) (value : Word)
  | busMaster (on : Bool)
  | memorySpace (on : Bool)
  | d3hot (on : Bool)
  | functionMask (on : Bool)
  | aspmL1 (on : Bool)
  | aspmL12 (on : Bool)
  | ltrEnable (on : Bool)
  | relaxedOrdering (on : Bool)
  /-- The codes of Device Control and Device Control 2 (R320). -/
  | maxPayload (code : Nat)
  | maxReadRequest (code : Nat)
  | tenBitTags (on : Bool)
  | completionTimeout (code : Nat)
  /-- AER control (R320, R332). -/
  | ecrcGeneration (on : Bool)
  | ecrcCheck (on : Bool)
  | aerSeverity (mask : Word)
  /-- Write 1 to clear of the error bits of Device Status. -/
  | deviceStatus (mask : Nat)
  /-- Write 1 to clear of the AER status registers. -/
  | aerUncorrectable (mask : Word)
  | aerCorrectable (mask : Word)
deriving DecidableEq, Repr

/-- What a bring-up of an HDA finds (R123, R127, R130): the descriptor memory as read (none when it does not acknowledge),
PA_ID and PA_CAPS of both actuators, the read that failed its parity (actuator and register), whether every PA_SCRATCH pattern
came back, PA_STAT after it was cleared, the step at which a supply failed or reached its limit, and the HDA temperature
in 1/16 °C (none when the sensor does not acknowledge). -/
structure BringUp where
  bytes : Option (List Byte) := none
  idA : Nat := 0
  idB : Nat := 0
  capsA : Nat := 0
  capsB : Nat := 0
  parityBad : Option (Nat × Nat) := none
  scratchOk : Bool := true
  statA : Nat := 0
  statB : Nat := 0
  supplyStep : Option Nat := none
  temp : Option Int := none
deriving DecidableEq, Repr

/-- What a sequencer meets in one cycle (R143, R291, R307): the number of the cycle in its wedge, and the ECC of its microword's and of its nanoword's
fetch: 0 good, 1 corrected, 2 uncorrectable. -/
structure CycleIn where
  cycle : Nat := 0
  micro : Nat := 0
  nano : Nat := 0
deriving DecidableEq, Repr

/-- What one reader demodulates of a servo field (R247, R248): the 32 bits taken as the sync mark and their place in servo symbols from the
predicted one, W and its two parity bits, the 24 Gray-coded bits of the track identity, and the four burst amplitudes. -/
structure ReaderIn where
  sync : BitVec 32 := 0
  syncAt : Int := 0
  wedge : Nat := 0
  parityHi : Bool := false
  parityLo : Bool := false
  gray : Nat := 0
  a : Nat := 0
  b : Nat := 0
  c : Nat := 0
  d : Nat := 0
deriving DecidableEq, Repr

/-- One actuator at a servo sample: its two readers, and the measured VCM current in command units (R281). -/
structure ActIn where
  r0 : ReaderIn := {}
  r1 : ReaderIn := {}
  current : Int := 0
deriving DecidableEq, Repr

/-- One servo wedge of an HDA (R138, R244, R254): the wedge, both actuators, and the speed over the last 512 marks in rpm. -/
structure WedgeIn where
  wedge : Nat := 0
  a : ActIn := {}
  b : ActIn := {}
  speed : Int := 0
deriving DecidableEq, Repr

/-- What a start finds on the pins, the vault and in NOR (R62, R319, R499, R553): FACTORY_N low, the vault channels that pass their test, and
whether the record of the reaction masks and the stored link mode check. -/
structure StartIn where
  factoryLow : Bool := false
  channels : BitVec 8 := 0xFF
  masksOk : Bool := true
  linkOk : Bool := true
deriving DecidableEq, Repr

/-- A zone that the journal of its MU shows open (R503): volume, zone, journalled write pointer and CAP. -/
structure OpenZone where
  vol : Nat
  zone : Nat
  wp : Nat
  cap : Nat
deriving DecidableEq, Repr

/-- What a replay finds (R503): a copy of the metadata and of the seal checks, the sectors of the manifest that fail their checks or are missing
(volume × 2³³ + LBA), the volumes whose format record does not name the accepted HDA and actuator, and the zones that journals show open. -/
structure ReplayIn where
  metaOk : Bool := true
  sealOk : Bool := true
  bad : List Nat := []
  foreign : List Nat := []
  openZones : List OpenZone := []
deriving DecidableEq, Repr

/-- What MNS measures (R93 to R97): each feed's RMS voltage in 0.1 V, frequency in 0.01 Hz and power in 0.1 W, the share of stage A in percent, the
bus in mV and 10 mA, the bank voltage in 10 mV and its temperature in °C. -/
structure Measured where
  vrmsA : Nat := 0
  vrmsB : Nat := 0
  freqA : Nat := 0
  freqB : Nat := 0
  pinA : Nat := 0
  pinB : Nat := 0
  shareA : Nat := 0
  busV : Nat := 0
  busI : Nat := 0
  vBank : Nat := 0
  temp : Int := 0
deriving DecidableEq, Repr

/-- What CALIBRATE CALREF measures (R593, R594): the corrections of items 1 and 2 in 0.01 ppm and of item 3 in 0.001 %, the bytes that the record
holds of items 4 and 5, and the raw results. -/
structure CalrefIn where
  osc : Int := 0
  core : Int := 0
  vref : Int := 0
  adc : List Byte := []
  raw : List Byte := []
deriving DecidableEq, Repr

/-- The task in the hands of a management core that hangs (R447, R552): a managed command by its tag, or the recovery take of an MU. -/
inductive HungTask where
  | none
  | command (tag : Nat)
  | recovery (mu : Nat)
deriving DecidableEq, Repr

/-- The commands of the block: one constructor for each row of the opcode table, in the table's order.
The operands are what the sender presents in that step (log entry 2). -/
inductive Instr where
  /-- POWER_ON (R603): Mains reaching an unpowered module starts the power-on sequence that ends with GSTAT.READY. -/
  | powerOn (feed : Nat) (found : StartIn)
  /-- FEED_PRESENT (R75): A feed's 1 s qualification expires with its input in range; the feed becomes present and its input stage soft-starts. -/
  | feedPresent (feed : Nat)
  /-- FEED_LOST (R75): The 12 ms peak window or the 200 ms RMS evaluation declares a feed lost; the loss counter is incremented. -/
  | feedLost (feed : Nat)
  /-- INPUT_STAGE_FAULT (R76): The hold-up converter has fed the bus for 2 ms while a feed is present, so the power-fail signal is asserted. -/
  | inputStageFault
  /-- BUS_COLLAPSE (R76): The 12 V bus has stayed below 11.4 V for 20 µs, so the power-fail signal is asserted. -/
  | busCollapse
  /-- HOLDUP_CONVERTER_JOIN (R76): The bus falls below 11.6 V and the hold-up converter joins it within 5 µs. -/
  | holdupConverterJoin
  /-- SPINUP_ADMIT (R81): The lowest-numbered waiting HDA starts its spin-up once concurrency and ledger allow it. -/
  | spinupAdmit
  /-- SPINUP_ALLOCATION_RUN (R81): An HDA's ledger allocation changes from spin-up to running current at lock on target or 20 s after spin-up started. -/
  | spinupAllocationRun (h : HdaNo)
  /-- E_USABLE_UPDATE (R84): Every 10 ms MNS recomputes usable hold-up energy and the energy bound on dirty data. -/
  | eUsableUpdate (m : Measured)
  /-- HOLDUP_TEST_START (R85): A health test that is due or requested starts once the charger runs, the bank is full and no power fail is asserted. -/
  | holdupTestStart
  /-- HOLDUP_TEST_DONE (R86): At 1.1 s the test measures V1, computes capacitance and ESR, resumes the charger and publishes the results. -/
  | holdupTestDone (v0 v0s v1 : Nat) (cellOver : Bool)
  /-- FAN_OVERCURRENT (R67): A fan header enters current limit and one event is raised. -/
  | fanOvercurrent (fan : Nat)
  /-- FAN_STALL (R584): A fan reads below 300 rpm for 3 s at duty of at least 20 % and is declared stalled. -/
  | fanStall (fan rpm : Nat)
  /-- FAN_DUTY_UPDATE (R583): Once per second THP sets the common fan duty from the smallest sensor margin or the manual setting. -/
  | fanDutyUpdate
  /-- CALREF_PRESENT (R66): CAL_DET has been low for 10 ms and CALREF is treated as present. -/
  | calrefPresent
  /-- CALREF_GONE (R66): CAL_DET has been high for 10 ms and CALREF is treated as absent. -/
  | calrefGone
  /-- MODULE_RESET (R441): MRST_N held low for 5 µs starts a module reset: gates close, heads retract, SDRAM enters self-refresh and islands reset. -/
  | moduleReset
  /-- VLT_RELEASE (R441): VLT is released from reset at most 2 ms after a module reset begins, whether or not MRST_N is still low. -/
  | vltRelease (channels : BitVec 8)
  /-- MODULE_RESTART (R612): MRST_N rises after a module reset and the warm restart sequence begins. -/
  | moduleRestart (found : StartIn)
  /-- PERST_ASSERT (R333): An endpoint's PERST# goes low, resetting its configuration space and Noesh state. -/
  | perstAssert (ep : EpNo)
  /-- PERST_RELEASE (R333): PERST# rises and link training starts within 20 ms. -/
  | perstRelease (ep : EpNo)
  /-- HOT_RESET (R333): A hot reset or link down resets the endpoint's non-sticky configuration and Noesh state. -/
  | hotReset (ep : EpNo)
  /-- FUNCTION_LEVEL_RESET (R333): Initiate FLR resets the function's configuration and Noesh state while the link stays up. -/
  | functionLevelReset (ep : EpNo)
  /-- CONTROLLER_RESET (R336): A write of 1 to GCTL.CRST starts a controller reset of the endpoint unless one is already in progress. -/
  | controllerReset (ep : EpNo)
  /-- CONTROLLER_RESET_DONE (R372): The controller reset finishes its host-memory writes and CRST_BUSY clears. -/
  | controllerResetDone (ep : EpNo)
  /-- COLD_FILL_DONE (R468): The cold fill of all buffer regions completes and BUF admits other clients. -/
  | coldFillDone
  /-- WARM_FILL_DONE (R468): The warm fill completes and the preserved dirty index and zone states are rebuilt. -/
  | warmFillDone
  /-- FIDDLEHEAD_START (R513): Stage 0 finishes slot selection, verification and measurement and releases core 0 into the fiddlehead. -/
  | fiddleheadStart (okA okB : Bool) (lostKeys : List Nat)
  /-- STAGE2_START (R513): The fiddlehead has loaded and measured the stage 2 components and stage 2 starts. -/
  | stage2Start (failed : List Nat) (patch vendor : List Byte) (badRecords : List Nat)
  /-- HDA_TABLES_LOAD (R603): HDA calibration records are loaded into coefficient memory and tables and measured; replay becomes due if an image exists. -/
  | hdaTablesLoad (badRecords : List Nat) (openZones : List OpenZone)
  /-- REPLAY_START (R605): Replay of the selected image starts once step 9 is done and the vault bound suffices or the bank has left CHARGING. -/
  | replayStart
  /-- REPLAY_DONE (R502): Replay finishes restoring sectors and records, writes the REPLAYED mark and raises VAULT_REPLAY. -/
  | replayDone (found : ReplayIn)
  /-- BOOT_READY (R603): The slate is signed and written and GSTAT.READY becomes 1. -/
  | bootReady (slateOk : Bool)
  /-- THERMAL_HOLD_RESTART (R580): After every counting module sensor has stayed below release for 60 s, the module restarts into thermal hold. -/
  | thermalHoldRestart (found : StartIn)
  /-- VAULT_DUMP_DONE (R501): Both seal pages are written and the dump ends. -/
  | vaultDumpDone
  /-- DUMP_RESTART (R615): After the 10 ms reset hold, the module starts as from power-on step 3 with a cold fill and replay. -/
  | dumpRestart (found : StartIn)
  /-- BUS_SWITCH_OFF (R78): With no feed present, MNS switches the bus off at the end of the dump and no sooner than 56.4 ms. -/
  | busSwitchOff (progress : Nat)
  /-- VAULT_BOUND_UPDATE (R496): Every 10 ms VLT recomputes the vault bound from erased capacity and good channels. -/
  | vaultBoundUpdate (erased : Nat)
  /-- VAULT_ERASE_DONE (R498): An erase pass of a vault area completes. -/
  | vaultEraseDone
  /-- VAULT_BLOCK_RETIRE (R499): A vault block fails an erase or program and is retired. -/
  | vaultBlockRetire (area channel : Nat)
  /-- VAULT_CHANNEL_FAILED (R499): A vault channel does not answer or retires more than 64 blocks in a pass and is failed. -/
  | vaultChannelFailed (channel progress : Nat)
  /-- HDA_INSERTED (R130): HPRES_N has been low for 50 ms; the HDA is present and bring-up starts. -/
  | hdaInserted (h : HdaNo)
  /-- HDA_ACCEPTED (R130): Bring-up completes and the HDA is accepted in HS3. -/
  | hdaAccepted (h : HdaNo) (found : BringUp)
  /-- HDA_REJECTED (R131): A bring-up step fails, the port domain is turned off and the HDA is rejected. -/
  | hdaRejected (h : HdaNo) (found : BringUp)
  /-- HDA_REMOVED (R135): HPRES_N high for 10 µs makes the HDA absent; a removal in ACCEPTED, ACTIVE or RELEASING is a surprise removal. -/
  | hdaRemoved (h : HdaNo)
  /-- HDA_RELEASED (R134): A release drains its commands and data, unloads, stops and turns off the port domain. -/
  | hdaReleased (h : HdaNo)
  /-- PREAMP_FAULT (R118): A falling edge of PFLT cuts the write gate, reads PA_STAT and raises PREAMP_FAULT. -/
  | preampFault (mu : MuNo) (stat : Nat)
  /-- PREAMP_FRAME_END (R113): A preamp link frame ends when PSEL falls and a written register takes effect. -/
  | preampFrameEnd (mu : MuNo) (frame : FrameIn)
  /-- HDA_TEMP_READ (R127): Once per second the module reads an HDA temperature sensor. -/
  | hdaTempRead (h : HdaNo) (reading : Option Int)
  /-- CLK_INDEX_EDGE (R156): At each index edge CLK measures speed, counts marks and decides lock progress and band. -/
  | clkIndexEdge (h : HdaNo) (marks speed : Nat) (edgesOk : Bool) (bemf : Nat)
  /-- SYMBOL_CLOCK_SETTLED (R151): 20 µs after the symbol clocks start, the TSQs may open gates. -/
  | symbolClockSettled (h : HdaNo)
  /-- CLK_LOCK_LOST (R152): A mark edge misses its window, or count or speed fails, and lock is lost with a write gate cut and failed take. -/
  | clkLockLost (h : HdaNo) (case : Nat) (lateA lateB : Bool)
  /-- K_CHANGE_DONE (R154): After a rate-zone move the new symbol clock is in phase and the TSQ resumes. -/
  | kChangeDone (mu : MuNo)
  /-- SERVO_WEDGE_SAMPLE (R244): Each wedge SRV demodulates, forms PES, runs the loops and sends commands to the drivers. -/
  | servoWedgeSample (h : HdaNo) (sample : WedgeIn)
  /-- SRV_ENGINE_FAULT (R276): An overrun deadline, ECC error, driver trip or over-speed is an engine fault that triggers emergency retract. -/
  | srvEngineFault (h : HdaNo) (kind : Nat) (act : Nat)
  /-- SEEK_START (R262): A seek starts after any jitter delay and throttle dwell. -/
  | seekStart (mu : MuNo)
  /-- COIL_MODEL_UPDATE (R265): Every 1 ms SRV updates each actuator's estimated coil temperature. -/
  | coilModelUpdate (hda : HdaNo) (act : Fin 2) (ms : Nat)
  /-- SPINUP_COMMUTATE (R267): After 300 ms alignment, open-loop commutation starts. -/
  | spinupCommutate (h : HdaNo)
  /-- SPUN_UP (R267): The spindle stays at target for one revolution and becomes SPUN_UP. -/
  | spunUp (h : HdaNo)
  /-- SPINUP_FAIL (R268): No back-EMF by 1.5 s or no SPUN_UP by 20 s fails the spin-up. -/
  | spinupFail (h : HdaNo)
  /-- SPINDLE_UNDERSPEED (R270): Back-EMF speed below 4,500 rpm with heads loaded triggers emergency retract. -/
  | spindleUnderspeed (h : HdaNo) (rpm : Nat)
  /-- SPINDLE_STOPPED (R269): Back-EMF speed has stayed below 60 rpm for 1 s and the spindle is STOPPED. -/
  | spindleStopped (h : HdaNo)
  /-- HEAD_LOAD_START (R271): An actuator's load starts once spindle, lock, band and sets allow. -/
  | headLoadStart (mu : MuNo)
  /-- HEAD_LOADED (R271): Position is acquired and read settle reached; the actuator is FOLLOWING. -/
  | headLoaded (mu : MuNo) (copy0 : List Byte) (records : FmtRecords) (journal : List JournalEntry) (copy1 : List Byte) (convKdom : Nat)
  /-- HEAD_LOAD_FAIL (R271): No position by 250 ms or no settle by 400 ms fails the load and stops the MU. -/
  | headLoadFail (mu : MuNo)
  /-- HEAD_UNLOAD (R272): An unload starts with a seek to the outermost track. -/
  | headUnload (mu : MuNo)
  /-- HEAD_PARKED (R272): Back-EMF velocity stays low for 20 ms and the actuator is PARKED. -/
  | headParked (mu : MuNo)
  /-- HEAD_UNLOAD_FAIL (R272): An unload not parked at 400 ms ends with RET_I for RET_T. -/
  | headUnloadFail (mu : MuNo)
  /-- EMERGENCY_RETRACT (R273): The retract sequencer drives every unparked actuator of the HDA to the ramp. -/
  | emergencyRetract (h : HdaNo)
  /-- RETRACT_PARKED (R274): A retract ends after RET_T or low velocity and the actuator is PARKED. -/
  | retractParked (h : HdaNo)
  /-- CAPTURE_START (R281): Capture begins at the first wedge 0 sample after SETTLE samples of injection. -/
  | captureStart (h : HdaNo)
  /-- CAPTURE_DONE (R282): The capture record is complete and TUNING ends. -/
  | captureDone (h : HdaNo)
  /-- LATENT_TEST_DUE (R558): An actuator loaded for 720 operating hours without a load raises one event. -/
  | latentTestDue (mu : MuNo)
  /-- TAKE_ISSUE (R435): When an MU's TSQ becomes IDLE, SCH issues the next take by slip, age, urgency and access cost. -/
  | takeIssue (mu : MuNo) (clock : SchClock) (angle : Nat)
  /-- TABLES_READY (R188): The channel and write table loads of the take complete. -/
  | tablesReady (mu : MuNo) (found : TableIn)
  /-- TSQ_CYCLE (R291): The sequencer executes one microword and its nanoword in a sequencer cycle. -/
  | tsqCycle (mu : MuNo) (inputs : CycleIn)
  /-- TSQ_SAFE_VIOLATION (R300): The safe-point count reaches 65 and one event is raised. -/
  | tsqSafeViolation (mu : MuNo)
  /-- MICROCODE_SWAP_INSTALL (R314): Once all sequencers are idle, the region is written and checked in all sixteen copies and dispatch resumes. -/
  | microcodeSwapInstall (copiesOk : Bool)
  /-- SECTOR_START (R189): A sector's position arrives and its read gate opens or its write span is driven. -/
  | sectorStart (mu : MuNo)
  /-- CLAPPER_DECISION (R190): The clapper detector accepts the earliest qualifying candidate or sets CLAP_MISS. -/
  | clapperDecision (mu : MuNo) (signal : Signal)
  /-- SECTOR_ENCODE (R213): WAS fetches, CRC-checks and encodes a sector ahead of its write. -/
  | sectorEncode (fetch : EncodeIn)
  /-- ASSIST_MONITOR_READ (R225): A PA_AST_MON read frame ends in a data segment of a write attempt. -/
  | assistMonitorRead (mu : MuNo) (mon : Nat) (parityOk : Bool)
  /-- AST_CUT_NOGATE (R233): AE has been high without WG for 2 µs and the assist is cut. -/
  | astCutNogate (mu : MuNo)
  /-- RECOVERY_TAKE_SUBMIT (R445): MGT prepares the next ladder take of a command and submits it to SCH. -/
  | recoveryTakeSubmit (mu : MuNo)
  /-- LDP_GRANT (R197): A free decoder engine is granted to a waiting attempt by floor, reservation and round robin. -/
  | ldpGrant
  /-- DECODE_ATTEMPT_DONE (R192): An LDPC attempt converges or spends its budget and the sector is accepted or the search continues. -/
  | decodeAttemptDone (mu : MuNo) (sector locals : Nat) (memory : SramRead)
  /-- CONVERTER_SWAP (R178): A due spare swap takes effect while the read gate is closed or within a pad. -/
  | converterSwap (converter : Nat)
  /-- CONVERTER_SPARE_PERIOD (R595): A 100 ms spare calibration period ends and the swap becomes due or the converter stalls. -/
  | converterSparePeriod (converter : Nat) (ok : Bool)
  /-- PORT_CLAIM (R353): A read of PORT_CLAIM grants a tag or returns NOT_READY, BUSY_ACTIVATING or NO_TAG. -/
  | portClaim (ep : EpNo) (port : Nat)
  /-- TASK_PACKET (R358): A 64-byte write to the TASK window is checked statically and accepted or refused. -/
  | taskPacket (ep : EpNo) (port : Nat) (bytes : List Byte)
  /-- PORT_TAG_COUNT_WRITE (R354): A write to PORT_TAG_COUNT applies the staged allotment or sets ALLOT_ERR. -/
  | portTagCountWrite (ep : EpNo) (port value : Nat)
  /-- CQ_ENABLE (R366): A write setting ENABLE enables the queue or is refused with CFG_ERR. -/
  | cqEnable (ep : EpNo) (queue : Nat) (ctl : Word)
  /-- CQ_DISABLE (R366): A write clearing ENABLE disables the queue or is refused while it is in use. -/
  | cqDisable (ep : EpNo) (queue : Nat) (ctl : Word)
  /-- CQ_HEAD_WRITE (R368): A HEAD write consumes entries and frees their tags, or is refused with CQ_HEAD_ERROR. -/
  | cqHeadWrite (ep : EpNo) (queue value : Nat)
  /-- FAULT_SUM_CLEAR (R349): A W1C write to FAULT_SUM clears bits and may release SMB_ALERT_N. -/
  | faultSumClear (ep : EpNo) (mask : Word)
  /-- FAULT_PIN_RELEASE (R568): A write of 1 to FAULT_PIN_STAT.ASSERTED releases FAULT_N. -/
  | faultPinRelease (ep : EpNo) (value : Word)
  /-- REGISTER_WRITE (R4): A BAR0 write to a register without behaviour of its own acts by its access type. -/
  | registerWrite (ep : EpNo) (address : Nat) (words : List Word) (whole : Bool)
  /-- INTAKE (R427): ZCX takes in an accepted command, checks state and disposes of it. -/
  | intake (tag : TagNo)
  /-- OVERFLOW_TO_SCH (R429): A command in an MU's overflow list enters SCH when an entry frees. -/
  | overflowToSch (mu : MuNo)
  /-- DIRTY_BUDGET_GRANT (R437): The write at the head of the budget list is granted its dirty budget and staging room. -/
  | dirtyBudgetGrant
  /-- HOST_DATA_FETCH_DONE (R24): HLK finishes fetching a write's data from host memory for encryption and storage. -/
  | hostDataFetchDone (tag : TagNo) (sectors metas : List (List Byte))
  /-- WRITE_COMMIT (R25): The last sector is in buffer memory and ZCX advances the write pointer at the buffer commit point. -/
  | writeCommit (tag : TagNo)
  /-- DESTAGE_HANDOVER (R433): The destage engine hands a track of a zone to SCH on a whole track, idle 2 s timer, urgency or flush. -/
  | destageHandover (mu : MuNo) (zone offset now : Nat)
  /-- FLUSH_COMPLETE (R438): Every covered sector is on the medium or dropped and the FLUSH completes. -/
  | flushComplete (tag : TagNo)
  /-- READ_EGRESS_DONE (R205): A read's data has been written to host memory and it completes with its status. -/
  | readEgressDone (egress : EgressIn)
  /-- HOST_MEMORY_ERROR (R332): A host memory read fails or times out and the command completes with HOST_MEMORY_ERROR. -/
  | hostMemoryError (tag : TagNo) (address aerBit : Nat)
  /-- CQ_POST (R367): A final completion is written to its queue once there is room. -/
  | cqPost (ep : EpNo) (queue : Nat)
  /-- COALESCE_TIMER (R369): The coalescing time expires and an MSI-X message is sent. -/
  | coalesceTimer (ep : EpNo) (queue : Nat)
  /-- EVENT_NOTICE_POST (R383): An event notice is posted to each bound event queue when it has room. -/
  | eventNoticePost (ep : EpNo) (queue : Nat)
  /-- CACHE_FILL_COMPLETE (R487): A fill from the medium completes and the line is installed or dropped if DOOMED. -/
  | cacheFillComplete (frame : Nat)
  /-- REKEY_PASS_DONE (R491): The re-key pass ends with lines invalidated and a new key installed. -/
  | rekeyPassDone
  /-- CACHE_CONFLICT_WINDOW (R495): Each 1 s window BCA judges set-group conflicts against the threshold. -/
  | cacheConflictWindow
  /-- BUF_SCRUB_STEP (R470): The buffer scrubber reads the next burst and repairs what it finds. -/
  | bufScrubStep (hmeta : BurstMeta) (words : List (BitVec 72)) (holds : Held)
  /-- SRAM_SCRUB (R467): An SRAM scrubber reads a word and writes back corrections. -/
  | sramScrub (sub inst sram word : Nat) (uncorrectable : Bool) (lost : List Loss)
  /-- ACTIVATION_HANDOVER (R442): The running firmware has written the handover record for an IMMEDIATE activation. -/
  | activationHandover
  /-- ACTIVATION_NEW_FW_START (R532): SEC verifies and measures the new slot and the new firmware starts and reads the handover record. -/
  | activationNewFwStart (found : SlotCheck) (slateOk : Bool)
  /-- ACTIVATION_DONE (R442): The new firmware resumes work and posts the FW_ACTIVATE completion. -/
  | activationDone (vendor : List Byte)
  /-- ACTIVATION_TIMEOUT (R532): With no completion 3.0 s after acceptance, SEC halts the new firmware and restarts the previous slot. -/
  | activationTimeout (slateOk : Bool)
  /-- FAULT_EVENT_ACCEPT (R549): FLT accepts one fault message, stamps it, enters it in history and queues a log record. -/
  | faultEventAccept
  /-- NMI_SNAPSHOT (R563): Within 50 µs the firmware queues the source's register snapshot records. -/
  | nmiSnapshot
  /-- LOG_RECORD_WRITE (R564): The log writer finishes programming one record into its ring. -/
  | logRecordWrite (ok : Bool)
  /-- LOG_SEGMENT_ERASE (R562): A ring's oldest segment is erased, or retired on failure. -/
  | logSegmentErase (ringH ok : Bool)
  /-- HANDSHAKE_STALL (R36): An offered item not accepted within 1 ms raises one stall event. -/
  | handshakeStall (sub inst sender sinst cls : Nat)
  /-- MGT_HANG (R447): A core misses its 100 ms heartbeat and one event is raised. -/
  | mgtHang (core : Nat) (task : HungTask)
  /-- MGT_LOAD_PUBLISH (R446): Every 100 ms MGT_LOAD is published and saturation judged. -/
  | mgtLoadPublish (load : Nat)
  /-- LATENT_TEST (R558): A due latent-fault test runs and sets or clears its FLT_LATENT bit. -/
  | latentTest (test sub inst part : Nat) (pass : Bool)
  /-- OPS_TICK (R9): Each second OPS advances and carries into OPH at 3,600. -/
  | opsTick
  /-- SENSOR_READING (R575): Every 10 ms THP reads a module sensor and updates its level. -/
  | sensorReading (n : Nat) (reading : Option Int)
  /-- SENSOR_COMPARE (R573): Every 10 s paired sensors are compared and a sensor may be failed. -/
  | sensorCompare
  /-- PS_ENTRY_STEP (R588): A step of power-state entry completes and the next state is reached. -/
  | psEntryStep
  /-- PS_EXIT_STEP (R589): A step of power-state exit completes and the next shallower state is reached. -/
  | psExitStep
  /-- WAKE_TIMER (R590): The TIMER wake period expires in PS4 and fires a wake. -/
  | wakeTimer
  /-- WAKE (R590): A fired or latched wake starts the exit to the state PS4 was entered from. -/
  | wake
  /-- CHANNEL_GATING (R585): A channel's clocks are gated after its TSQ has been IDLE for 1 ms in PS1. -/
  | channelGating (mu : MuNo)
  /-- GOVERNOR_EVAL (R158): At the end of each 2 s window the FOLLOW governor sets the speed target. -/
  | governorEval (h : HdaNo) (busy : Nat)
  /-- SPEED_TARGET_REACHED (R159): The spindle reaches its target and SLEWING clears. -/
  | speedTargetReached (h : HdaNo)
  /-- CAL_CORRECTION (R582): Every 1 s CAL corrects the oscillators and reference for temperature. -/
  | calCorrection
  /-- LINK_TRAINED (R322): Link training ends and DEGRADED is set with an event if below full speed or width. -/
  | linkTrained (ep : EpNo) (speed width : Nat)
  /-- ASPM_L1_ENTRY (R329): The link enters L1 or L1.2 as the host has enabled. -/
  | aspmL1Entry (ep : EpNo) (l12 : Bool)
  /-- AER_CORRECTABLE (R332): A correctable link error is logged and counted. -/
  | aerCorrectable (ep : EpNo) (aerBit : Nat)
  /-- BAR0_WRITE_DISCARD (R332): A poisoned or malformed TLP to BAR0 is discarded. -/
  | bar0WriteDiscard (ep : EpNo) (aerBit address : Nat) (lost : List Loss)
  /-- DOE_REQUEST (R337): A DOE request is written and answered with Data Object Ready within 1 s. -/
  | doeRequest (ep : EpNo) (kind : Nat) (bytes : List Byte)
  /-- DOE_ABORT (R337): A DOE Abort empties both mailboxes and discards the request. -/
  | doeAbort (ep : EpNo)
  /-- SPDM_GET_VERSION (R523): Answers VERSION 1.2 and resets the connection state. -/
  | spdmGetVersion (conn : Fin 3) (request : List Byte)
  /-- SPDM_GET_CAPABILITIES (R523): Answers the responder's capabilities. -/
  | spdmGetCapabilities (conn : Fin 3) (request : List Byte)
  /-- SPDM_NEGOTIATE_ALGORITHMS (R523): Selects SM2 and SM3 or answers InvalidRequest. -/
  | spdmNegotiateAlgorithms (conn : Fin 3) (request : List Byte)
  /-- SPDM_GET_DIGESTS (R523): Returns the slot 0 certificate digest. -/
  | spdmGetDigests (conn : Fin 3) (request : List Byte)
  /-- SPDM_GET_CERTIFICATE (R523): Returns the certificate chain of slot 0. -/
  | spdmGetCertificate (conn : Fin 3) (request : List Byte)
  /-- SPDM_CHALLENGE (R523): Returns CHALLENGE_AUTH signed with the DIK. -/
  | spdmChallenge (conn : Fin 3) (request : List Byte) (ready : Bool)
  /-- SPDM_GET_MEASUREMENTS (R524): Returns the requested measurement blocks, signed when asked. -/
  | spdmGetMeasurements (conn : Fin 3) (request : List Byte) (ready : Bool)
  /-- SPDM_CHUNK_GET (R523): Returns the next part of a long response. -/
  | spdmChunkGet (conn : Fin 3) (request : List Byte)
  /-- SPDM_RESPOND_IF_READY (R523): Returns a response deferred with ResponseNotReady. -/
  | spdmRespondIfReady (conn : Fin 3) (request : List Byte)
  /-- SPDM_UNSUPPORTED (R523): Any other request is answered ERROR UnsupportedRequest and counted. -/
  | spdmUnsupported (conn : Fin 3) (request : List Byte)
  /-- MCTP_SET_ENDPOINT_ID (R347): The MCTP control message sets the module's endpoint ID. -/
  | mctpSetEndpointId (inst op eid : Nat)
  /-- MCTP_GET_ENDPOINT_ID (R347): The MCTP control message returns the endpoint ID. -/
  | mctpGetEndpointId (inst : Nat)
  /-- MCTP_GET_VERSION_SUPPORT (R347): The MCTP control message returns supported versions. -/
  | mctpGetVersionSupport (inst msgType : Nat)
  /-- MCTP_GET_MESSAGE_TYPE_SUPPORT (R347): The MCTP control message returns supported message types. -/
  | mctpGetMessageTypeSupport (inst : Nat)
  /-- OHMITH_REGISTER_READ (R348): An Ohmith management message reads 1 to 16 DW of permitted BAR0 space. -/
  | ohmithRegisterRead (addr count : Nat)
  /-- OHMITH_TASK_PACKET (R348): An Ohmith management message carries a permitted task packet and returns its completion and data. -/
  | ohmithTaskPacket (bytes : List Byte)
  /-- SMBUS_ALERT_RESPONSE (R349): The module answers the Alert Response Address with its own address. -/
  | smbusAlertResponse
  /-- READ (R390): Delivers sectors from cache or medium to host memory at the packet's recovery level. -/
  | read (tag : TagNo)
  /-- WRITE (R392): Stores sectors by the write flow after the zone state checks. -/
  | write (tag : TagNo)
  /-- ZONE_APPEND (R393): Writes data at the zone's write pointer and returns the first LBA written. -/
  | zoneAppend (tag : TagNo)
  /-- VERIFY (R390): Reads sectors as READ does without transferring data. -/
  | verify (tag : TagNo)
  /-- FLUSH (R438): Waits until writes completed before it are on the medium, holding later commands with BARRIER. -/
  | flush (tag : TagNo)
  /-- ZONE_MGMT_OPEN (R396): Opens a zone explicitly, taking a context and binding a key domain. -/
  | zoneMgmtOpen (tag : TagNo)
  /-- ZONE_MGMT_CLOSE (R396): Closes an open zone and releases its context. -/
  | zoneMgmtClose (tag : TagNo)
  /-- ZONE_MGMT_FINISH (R396): Makes a zone FULL with its write pointer at CAP. -/
  | zoneMgmtFinish (tag : TagNo)
  /-- ZONE_MGMT_RESET (R398): Empties a zone, advances its generation and discards its pending data. -/
  | zoneMgmtReset (tag : TagNo)
  /-- ZONE_REPORT (R399): Writes a header and filtered zone descriptors to host memory. -/
  | zoneReport (tag : TagNo)
  /-- ABORT (R379): Aborts a target command under the single-completion rule. -/
  | abort (tag : TagNo)
  /-- CACHE_CTL_DISABLE (R492): Disables the cache, stranding dirty lines with FORCE. -/
  | cacheCtlDisable (tag : TagNo)
  /-- CACHE_CTL_ENABLE (R494): Enables the cache by INVALIDATE or RESUME. -/
  | cacheCtlEnable (tag : TagNo)
  /-- CACHE_CTL_FLUSH_RANGE (R489): Hands every dirty sector of a range to destage and completes when they are on the medium. -/
  | cacheCtlFlushRange (tag : TagNo)
  /-- CACHE_CTL_INVALIDATE_RANGE (R490): Invalidates clean lines of a range and, with DISCARD, drops conventional dirty sectors. -/
  | cacheCtlInvalidateRange (tag : TagNo) (token : List Byte)
  /-- CACHE_CTL_REKEY (R491): Invalidates the cache and installs a new set-hash key. -/
  | cacheCtlRekey (tag : TagNo)
  /-- SCRUB_MEDIA (R403): Reads every written sector of a run of zones and reports sectors not read. -/
  | scrubMedia (tag : TagNo)
  /-- SCRUB_BUFFER (R470): Runs one full pass of the buffer scrubber. -/
  | scrubBuffer (tag : TagNo)
  /-- IDENTIFY_MODULE (R404): Writes the module identify data to host memory. -/
  | identifyModule (tag : TagNo)
  /-- IDENTIFY_VOLUME (R405): Writes the volume identify data to host memory. -/
  | identifyVolume (tag : TagNo)
  /-- GET_FEATURE_CURRENT (R406): Returns the value of a feature in force. -/
  | getFeatureCurrent (tag : TagNo)
  /-- GET_FEATURE_SAVED (R406): Returns the stored value of a feature. -/
  | getFeatureSaved (tag : TagNo)
  /-- GET_FEATURE_DEFAULT (R406): Returns the factory value of a feature. -/
  | getFeatureDefault (tag : TagNo)
  /-- SET_FEATURE (R407): Sets and stores a feature value. -/
  | setFeature (tag : TagNo) (token : List Byte)
  /-- GET_LOG (R408): Writes a snapshot of a log page to host memory. -/
  | getLog (tag : TagNo)
  /-- CLEAR_LOG (R410): Empties a log page, writing a CLEARED marker for the continuity log. -/
  | clearLog (tag : TagNo) (token : List Byte)
  /-- GET_SLATE_READ (R412): Returns the slate of a given number. -/
  | getSlateRead (tag : TagNo)
  /-- GET_SLATE_NEWEST (R412): Returns the last slate written. -/
  | getSlateNewest (tag : TagNo)
  /-- GET_SLATE_OLDEST_UNEXPORTED (R412): Returns the oldest slate not yet exported. -/
  | getSlateOldestUnexported (tag : TagNo)
  /-- GET_SLATE_MARK_EXPORTED (R520): Marks every retained slate up to a number as exported. -/
  | getSlateMarkExported (tag : TagNo)
  /-- ATTEST_QUOTE (R521): Writes a DIK-signed quote over the slate and late list with the host nonce. -/
  | attestQuote (tag : TagNo) (nonce : List Byte)
  /-- FW_DOWNLOAD_PART (R415): Copies part of a firmware image into the staging area. -/
  | fwDownloadPart (tag : TagNo) (data : List Byte)
  /-- FW_DOWNLOAD_COMMIT (R529): Verifies the staged image and writes it into the slot not running. -/
  | fwDownloadCommit (tag : TagNo)
  /-- FW_DOWNLOAD_DISCARD (R415): Empties the firmware staging area. -/
  | fwDownloadDiscard (tag : TagNo)
  /-- FW_ACTIVATE_NEXT_RESET (R531): Selects a slot for the next boot, or cancels a pending selection. -/
  | fwActivateNextReset (tag : TagNo)
  /-- FW_ACTIVATE_IMMEDIATE (R442): Starts an immediate firmware activation with handover. -/
  | fwActivateImmediate (tag : TagNo)
  /-- POWER_STATE_SET (R417): Moves the module to a power state and completes when it is reached. -/
  | powerStateSet (tag : TagNo)
  /-- POWER_STATE_GET (R417): Returns the present module power state. -/
  | powerStateGet (tag : TagNo)
  /-- HDA_CTL_SET_HS (R418): Moves one HDA to a power state HS0 to HS3. -/
  | hdaCtlSetHs (tag : TagNo)
  /-- HDA_CTL_RELEASE (R134): Starts the orderly release of an HDA. -/
  | hdaCtlRelease (tag : TagNo)
  /-- HDA_CTL_RESTART (R418): Spins up and loads a stopped HDA and ends its MU stop. -/
  | hdaCtlRestart (tag : TagNo)
  /-- HDA_CTL_GET (R418): Returns THP_PORT_STAT of an HDA. -/
  | hdaCtlGet (tag : TagNo)
  /-- CALIBRATE_HOLDUP_TEST (R85): Requests a hold-up health test and returns its results. -/
  | calibrateHoldupTest (tag : TagNo)
  /-- CALIBRATE_CALREF (R594): Measures items 1 to 5 against CALREF and stores a new module record. -/
  | calibrateCalref (tag : TagNo) (token : List Byte)
  /-- CALIBRATE_CHANNEL (R596): Recalibrates an MU's channel and write tables from written sectors. -/
  | calibrateChannel (tag : TagNo) (token : List Byte) (adapted : List (Nat × List Byte))
  /-- CALIBRATE_STORE (R597): Stores a new calibration record for the volume's HDA. -/
  | calibrateStore (tag : TagNo) (token : List Byte)
  /-- CALIBRATE_CONVERTER (R595): Retries stalled converters and completes after nine spare periods each. -/
  | calibrateConverter (tag : TagNo)
  /-- MICROCODE_LOAD_LOAD (R312): Verifies and installs a customer microcode image. -/
  | microcodeLoadLoad (tag : TagNo) (data : List Byte)
  /-- MICROCODE_LOAD_CLEAR (R313): Replaces the customer region with fill words. -/
  | microcodeLoadClear (tag : TagNo)
  /-- MICROCODE_LOAD_BIND (R313): Binds hooks for the named MUs. -/
  | microcodeLoadBind (tag : TagNo)
  /-- MICROCODE_LOAD_UNBIND (R313): Unbinds hooks for the named MUs. -/
  | microcodeLoadUnbind (tag : TagNo)
  /-- MICROCODE_LOAD_ROM_MODE (R305): Returns the sequencers to ROM mode in factory mode only. -/
  | microcodeLoadRomMode (tag : TagNo)
  /-- KEY_MGMT_CREATE (R533): Creates keys for an EMPTY key domain. -/
  | keyMgmtCreate (tag : TagNo) (token : List Byte)
  /-- KEY_MGMT_LOCK (R536): Locks a key domain after in-flight SEC passes finish. -/
  | keyMgmtLock (tag : TagNo)
  /-- KEY_MGMT_UNLOCK (R536): Unwraps a locked domain's key into key RAM. -/
  | keyMgmtUnlock (tag : TagNo) (token : List Byte)
  /-- KEY_MGMT_ERASE (R537): Destroys a domain's keys and drops its pending data with deferred errors. -/
  | keyMgmtErase (tag : TagNo) (token : List Byte)
  /-- KEY_MGMT_ENROL_CUSTODIAN (R527): Enrols a custodian public key into a slot. -/
  | keyMgmtEnrolCustodian (tag : TagNo) (token data : List Byte)
  /-- KEY_MGMT_REMOVE_CUSTODIAN (R527): Removes a custodian key from a slot. -/
  | keyMgmtRemoveCustodian (tag : TagNo) (token : List Byte)
  /-- KEY_MGMT_ENROL_MAKER_KEY (R527): Enrols or replaces an HDA maker key. -/
  | keyMgmtEnrolMakerKey (tag : TagNo) (token data : List Byte)
  /-- KEY_MGMT_REMOVE_MAKER_KEY (R414): Removes an HDA maker key. -/
  | keyMgmtRemoveMakerKey (tag : TagNo) (token : List Byte)
  /-- KEY_MGMT_STATUS (R414): Returns a key domain's state and bound zone count. -/
  | keyMgmtStatus (tag : TagNo)
  /-- AUTH_NONCE (R411): Returns a fresh device nonce for the endpoint. -/
  | authNonce (tag : TagNo)
  /-- SERVO_TUNE_START (R424): Starts an injection and capture and completes when the capture ends. -/
  | servoTuneStart (tag : TagNo)
  /-- SERVO_TUNE_STOP (R424): Ends a capture in progress. -/
  | servoTuneStop (tag : TagNo)
  /-- SERVO_TUNE_REPLACE (R424): Checks and installs a replacement servo set or table. -/
  | servoTuneReplace (tag : TagNo) (token data : List Byte)
  /-- CLEAR_THERMAL_HOLD (R419): Ends thermal hold once counting module sensors are below release. -/
  | clearThermalHold (tag : TagNo)
  /-- COUNTER_CTL_CLEAR_RANGE (R425): Clears the counters in a BAR0 range. -/
  | counterCtlClearRange (tag : TagNo)
  /-- COUNTER_CTL_CLEAR_ALL (R425): Clears every counter except OPH, OPS and PCC. -/
  | counterCtlClearAll (tag : TagNo)
  /-- COUNTER_CTL_CLEAR_TIME (R425): Clears OPH, OPS and PCC in factory mode. -/
  | counterCtlClearTime (tag : TagNo)
  /-- FAULT_CTL_SET_MASK (R553): Sets the reaction mask of a source. -/
  | faultCtlSetMask (tag : TagNo)
  /-- FAULT_CTL_GET_MASK (R426): Returns the reaction mask of a source. -/
  | faultCtlGetMask (tag : TagNo)
  /-- FAULT_CTL_RESTORE_DEFAULTS (R554): Restores every reaction mask to its default. -/
  | faultCtlRestoreDefaults (tag : TagNo)
  /-- FAULT_CTL_INJECT (R556): Injects a fault message or forces a detector in factory mode. -/
  | faultCtlInject (tag : TagNo)
  /-- VOLUME_CTL_FORMAT (R420): Writes a new format record, empties zones and zeroes conventional sectors. -/
  | volumeCtlFormat (tag : TagNo) (token : List Byte) (rateZones : List (Nat × List Byte)) (zones : List (List Byte) × List Nat)
  /-- VOLUME_CTL_RELEASE (R344): The owner releases a volume, leaving it unowned. -/
  | volumeCtlRelease (tag : TagNo)
  /-- VOLUME_CTL_TAKEOVER (R344): Takes ownership of a volume, with FORCE against a live owner. -/
  | volumeCtlTakeover (tag : TagNo)
  /-- VOLUME_CTL_SET_DEFAULT_KDOM (R420): Sets the volume's default key domain for future bindings. -/
  | volumeCtlSetDefaultKdom (tag : TagNo)
  /-- EVENT_ARM_BIND (R421): Binds an EVENT queue to a volume or to module scope. -/
  | eventArmBind (tag : TagNo)
  /-- EVENT_ARM_UNBIND (R421): Removes an EVENT queue binding. -/
  | eventArmUnbind (tag : TagNo)
  /-- CONFIG_SPACE_WRITE (R325): A host write to configuration space changes Bus Master Enable, Memory Space Enable, the D-state, the MSI-X function mask, ASPM or LTR enables, and the module acts on it. -/
  | configSpaceWrite (ep : EpNo) (field : CfgField)
  /-- ASPM_L1_EXIT (R329): The link leaves L1 or L1.2 and returns to L0, and HLK_LINK_STAT.PM follows. -/
  | aspmL1Exit (ep : EpNo)
  /-- FUNCTION_LEVEL_RESET_DONE (R333): The function-level reset finishes its host-memory writes and the function is ready again within 10 ms. -/
  | functionLevelResetDone (ep : EpNo)
  /-- FAN_STALL_END (R584): A stalled fan has read at or above 300 rpm for 3 s and its stall ends. -/
  | fanStallEnd (fan rpm : Nat)
  /-- FAN_CURRENT_LIMIT_EXIT (R67): A fan header leaves foldback current limit, which re-arms the event for the next entry. -/
  | fanCurrentLimitExit (fan : Nat)
  /-- BACK_EMF_DETECTED (R267): Back-EMF zero crossings are found on the undriven phase during spin-up and commutation passes to follow them. -/
  | backEmfDetected (h : HdaNo) (rpm : Nat)
  /-- SEGMENT_LIST_FETCHED (R364): HLK finishes fetching and checking a command's whole segment list, and either lets data move or completes the command with INVALID_FIELD. -/
  | segmentListFetched (tag : TagNo) (dataList metaList : List (List Byte))
  /-- CALREF_MEASUREMENT_DONE (R594): The 1 s gates and conversions of CALIBRATE CALREF finish, so c0 is set and the module record stored, or the command fails. -/
  | calrefMeasurementDone (found : CalrefIn)
deriving DecidableEq, Repr

end Sys2Proof
end

