-- ==== Sys2Proof/Decode.lean ====
section
/-! DEFINITION. Commands as words. The opcode table gives no row a field or an encoding: a command is named, not encoded, so no
word spells one (log entry 2). The 64 bytes of a task packet are decoded by `parsePacket` in Machine/Operands.lean. -/

namespace Sys2Proof

/-- The command that a word spells by the table's bits: the table gives no row bits, so none. DESIGN CHOICE, log entry 2. -/
def decodeTableWord (nbits w : Nat) : Option Instr :=
  match nbits, w with
  | _, _ => none

end Sys2Proof
end

