-- ==== Sys2Proof/Config.lean ====
section
/-! DEFINITION. What the specification leaves open: free values and uninterpreted functions without a body.
No statement can see a value of one, so a statement about a free value holds for every value of it (log entry 3). -/

namespace Sys2Proof.Config

/-- The `n`-th free value: a random draw, a signature word, or a value the specification does not state. -/
opaque free : Nat → Nat

/-- SM3 of a byte string (GB/T 32905, named and not stated by R507). -/
opaque sm3 : List Byte → BitVec 256

/-- The parameters a, b and the base point's x and y of the curve, which R509 names by GB/T 32918. -/
opaque sm2Curve : List Byte

/-- The order n of the base point (R509). -/
opaque sm2Order : Nat

/-- Whether an SM2 signature over the value e verifies under a public key, its r and s in range (R507, R509). -/
opaque sm2Verify : List Byte → BitVec 256 → List Byte → Bool

/-- The SM2 signature of the DIK over the value e, made with a random draw; its 64 bytes as a number (R507, R509). -/
opaque sm2Sign : Nat → BitVec 256 → Nat

/-- Whether 64 bytes are a point of the SM2 curve (R527). -/
opaque onCurve : List Byte → Bool

/-- SM4-XTS of R534 under the key of a number: volume, LBA, whether the unit is metadata, and the plain bytes. -/
opaque sm4Encrypt : Nat → Nat → Nat → Bool → List Byte → List Byte

/-- SM4-XTS decryption of R534. -/
opaque sm4Decrypt : Nat → Nat → Nat → Bool → List Byte → List Byte

/-- SEAL of R534 under the key of a number: the bytes of LTAG and KDOM. -/
opaque sealOf : Nat → List Byte → BitVec 32

/-- Microwords of the ROM region 0x000 to 0x7FF (R303): the specification gives none of them. -/
opaque romMicro : Nat → Word

/-- Nanowords of the ROM region 0x000 to 0x3FF (R303). -/
opaque romNano : Nat → BitVec 192

/-- Whether the generator of R280 rounds its sine at an amplitude and a phase away from zero. -/
opaque sineUp : Nat → Nat → Bool

/-- Feedback taps of a 15-bit sequence, used where they make it maximal-length (R280): the specification does not name its polynomial. DESIGN CHOICE, log entry 3. -/
opaque prbsTaps : BitVec 15

/-- The shift of the circulant in a block row and block column of the parity-check matrix of R182, which the specification does not list; none for a
zero block. -/
opaque circulant : Nat → Nat → Option Nat

/-- The codeword of the code of R182 that carries 4,128 payload bytes. -/
opaque ldpcEncode : List Byte → BitVec 37120

/-- The 4,128 payload bytes that a codeword carries. -/
opaque ldpcPayload : BitVec 37120 → List Byte

/-- The fine-phase interpolator of R179 off its centre: the phase in 1/64 symbol, and the samples before, at and after a symbol. -/
opaque interpolate : Int → Int → Int → Int → Int

/-- Where the gain and offset loops of R179 end: AGC_GAIN, the gain and offset they start from, and the samples of their stretch. -/
opaque agcLoop : Nat → Nat → Int → List Int → Nat × Int

/-- Where the fine-phase loop of R179 ends: PHASE_KP, PHASE_KI, the phase it starts from, and the samples of its stretch. -/
opaque phaseLoop : Nat → Nat → Int → List Int → Int

/-- The sliced decisions of the equaliser output under a target (R190). -/
opaque sliced : List Int → List Int → List Bool

/-- The taps of a reader after a payload that converged (R180): the tap step code, the target, the taps in use, the reader's samples and the codeword. -/
opaque lmsTaps : Nat → List Int → List Int → List (List Int) → BitVec 37120 → List Int

/-- The neighbours' symbols at a symbol of a sector, through the equaliser's cross-track estimate (R200, step 6): the codewords by track and sector. -/
opaque crossTrack : List (Nat × Nat × BitVec 37120) → Nat → Nat → Int

/-- The noise-predictive soft-output detector (R181): the states of its trellis, the target, the eight pattern records, NP_STEP, the takes added into the slot and the sums of
their samples over the payload, and the decoder's extrinsic information. -/
opaque detector : Nat → List Int → List (Int × Int × Nat × Int) → Nat → Nat → List Int → List Int → List Int

/-- The magnitude of a min-sum message from the least magnitude of its inputs (R182): the specification states no scaling. -/
opaque minSumScale : Nat → Int

/-- Bytes of the texts and keys fixed at manufacture (R404, R507, R511), by item and offset: 0 module serial, 1 DIK public key,
2 DIK certificate, 3 its length, 4 certificate chain, 5 its length, 6 digest of the boot ROM, 7 its version, 8 to 11 Ohmith
firmware keys 1 to 4, 12 digests of the components loaded at manufacture. -/
opaque identity : Nat → Nat → Byte

/-- The 64 bits of the Device Serial Number capability, made from the module serial (R324): the specification states no form. -/
opaque serialNumber : Nat

/-- The check bits of a word under the (72,64) Hsiao code, whose matrix no rule gives (R461). DESIGN CHOICE, log entry 99. -/
opaque checkBits : BitVec 64 → BitVec 8

/-- What the code finds when more than two bits of a word are in error, by their number (R461). DESIGN CHOICE, log entry 99. -/
opaque beyondCode : Nat → Nat

end Sys2Proof.Config
end

