-- ==== Sys2Proof/Machine/Sparse.lean ====
section
/-! DEFINITION. Indexed stores as plain data: a list of key and value pairs in one canonical form
(keys strictly rising, no value equal to what an unlisted key reads as), with its read and its write. -/

namespace Sys2Proof.Machine

/-- An indexed store: the values that differ from the default, by key. DESIGN CHOICE, log entry 32. -/
abbrev Sparse (α : Type) := List (Nat × α)

/-- The value at key `k`; `d` where nothing is listed. DESIGN CHOICE, log entry 32. -/
def sget {α : Type} (m : Sparse α) (k : Nat) (d : α) : α :=
  match m with
  | [] => d
  | (j, v) :: r => if j = k then v else sget r k d

/-- The store without key `k`. -/
def sdel {α : Type} (m : Sparse α) (k : Nat) : Sparse α :=
  match m with
  | [] => []
  | (j, w) :: r => if j = k then sdel r k else (j, w) :: sdel r k

/-- An entry put before the first larger key. -/
def sins {α : Type} (m : Sparse α) (k : Nat) (v : α) : Sparse α :=
  match m with
  | [] => [(k, v)]
  | (j, w) :: r => if k < j then (k, v) :: (j, w) :: r else (j, w) :: sins r k v

/-- The store with `v` at key `k`. Writing the default removes the entry, so equal stores are equal data. DESIGN CHOICE, log entry 32. -/
def sset {α : Type} [DecidableEq α] (m : Sparse α) (k : Nat) (v d : α) : Sparse α :=
  if v = d then sdel m k else sins (sdel m k) k v

/-- The store with `f` applied at key `k`. -/
def supd {α : Type} [DecidableEq α] (m : Sparse α) (k : Nat) (d : α) (f : α → α) : Sparse α :=
  sset m k (f (sget m k d)) d

/-- The store with `f` applied to every listed value; values that become the default are no longer listed. -/
def smap {α : Type} [DecidableEq α] (m : Sparse α) (d : α) (f : α → α) : Sparse α :=
  (m.map fun e => (e.1, f e.2)).filter fun e => decide (e.2 ≠ d)

/-- The store without the keys that `p` names. -/
def sdrop {α : Type} (m : Sparse α) (p : Nat → Bool) : Sparse α :=
  m.filter (fun e => !p e.1)

/-- Every key listed is above `b`, keys rise strictly, and no value is the default. -/
def sortedAbove {α : Type} [DecidableEq α] (d : α) : Option Nat → Sparse α → Bool
  | _, [] => true
  | b, (k, v) :: r =>
    (match b with
     | none => true
     | some b => decide (b < k)) && decide (v ≠ d) && sortedAbove d (some k) r

/-- The canonical form of a store. -/
def swf {α : Type} [DecidableEq α] (d : α) (m : Sparse α) : Bool := sortedAbove d none m

end Sys2Proof.Machine
end

