-- ==== Sys2Proof/Machine/State.lean ====
section
/-! DEFINITION. The state of the module as plain data, its state at reset, and the reasons a step can stop.
Every field's value at reset stands as its default here; INVENTORY.md names the rule of each. -/

namespace Sys2Proof.Machine

/-! ## Counters, operating time (00_scope.md) -/

/-- A counter: COUNT and SAT (R12, R18). -/
structure Ctr where
  count : Nat := 0
  sat : Bool := false
deriving DecidableEq, Repr

/-- The operating-time registers (R9, R14): OPH and PCC saturate, OPS runs 0 to 3,599. `up` counts every second with OPS and is cleared by no command:
the time by which the model orders commits and takes. DESIGN CHOICE, log entry 7. -/
structure OpTime where
  oph : Nat := 0
  ops : Nat := 0
  pcc : Nat := 0
  ophSat : Bool := false
  pccSat : Bool := false
  up : Nat := 0
deriving DecidableEq, Repr

/-! ## Faults and the continuity log (16_faults_log.md) -/

/-- One offered event (R543): the 64-bit message, the mark of R556, and the stamp of a vault image header (R549). -/
structure Ev where
  msg : BitVec 64
  injected : Bool := false
  stamp : Option OpTime := none
deriving DecidableEq, Repr

/-- One entry of the fault history queue (R555). -/
structure HistEntry where
  msg : BitVec 64
  oph : Nat
  ops : Nat
  logged : Bool
  injected : Bool
  react : BitVec 5
  hseq : Nat
deriving DecidableEq, Repr

/-- The fault collector (R548 to R571). -/
structure Flt where
  /-- Messages offered and not yet accepted, in the order of offering; a source's first eight stand in its event buffer (R548). -/
  offered : List Ev := []
  /-- Sources at which an occurrence that found the buffer full waits and has been counted (R548). -/
  holding : List Nat := []
  /-- The fault history queue, oldest first, at most 64 entries (R555). -/
  hist : List HistEntry := []
  hseq : Nat := 0
  /-- Reaction masks by source identifier; an unlisted source has its subsystem's default (R550, R554). -/
  masks : Sparse (BitVec 5) := []
  masksDefaulted : Bool := false
  /-- FLT_LATENT.FAILED (R558, R570). -/
  latent : BitVec 9 := 0
  /-- FAULT_PIN_STAT.ASSERTED and FIRST_SRC (R568). -/
  pin : Bool := false
  firstSrc : Nat := 0
deriving DecidableEq, Repr

/-- A continuity log record without RSEQ and RCRC, which the writer adds (R559). -/
structure LogRec where
  oph : Nat := 0
  ops : Nat := 0
  pcc : Nat := 0
  sev : Nat := 0
  cont : Bool := false
  injected : Bool := false
  event : Nat := 0
  source : Nat := 0
  /-- Bytes 16 to 59; shorter lists are padded with zeros (RSVD). -/
  data : List Byte := []
  /-- The CLEAR_LOG command that completes when its CLEARED marker is written (R566). -/
  cmd : Option Nat := none
deriving DecidableEq, Repr

/-- What waits in the LOG front-end queue: a record, or the boundary of R618. -/
inductive LogItem where
  | record (r : LogRec)
  /-- A CLEARED or FLOOR marker in one of the two reserve slots, at its place in the order (R564). -/
  | reserve (r : LogRec)
  | boundary
deriving DecidableEq, Repr

/-- A record in NOR with its write index (R559). -/
structure LogSlot where
  index : Nat
  entry : LogRec
deriving DecidableEq, Repr

/-- A segment of the log being written or held: its number and the records that the page returns of it (R562, R566). -/
structure LogSeg where
  no : Nat
  recs : List LogSlot := []
deriving DecidableEq, Repr

/-- One ring of the log (R562): its segments oldest first; the last is being written. -/
structure Ring where
  segs : List LogSeg := []
  /-- Slots used in the segment being written, retired slots included. -/
  used : Nat := 0
  /-- Erased segments ready to be written, in the order of their use. -/
  erased : List Nat := []
  /-- Segments retired by a failed erase (R564). -/
  retired : Nat := 0
deriving DecidableEq, Repr

/-- An interrupt of core 0 by MGT_NMI whose snapshot is still to be copied (R550, R563). -/
structure NmiPending where
  src : Nat
  header : LogRec
deriving DecidableEq, Repr

/-- The front end of the continuity log, in the always-on island (R564, R618). -/
structure LogFe where
  queue : List LogItem := []
  pendingDrops : Nat := 0
  dropSev : Nat := 0
  /-- The START marker of this boot is still to be written, with its boot count and CAUSE. -/
  startDue : Option (Nat × Nat) := none
  /-- The writer runs (stage 2 is up). -/
  running : Bool := false
  nmi : List NmiPending := []
  /-- LOG_SEV_FLOOR in force (R407, R570). -/
  floor : Nat := 2
deriving DecidableEq, Repr

/-! ## Mains and hold-up (02_module_power.md) -/

/-- One mains feed (R75, R93, R94). -/
structure Feed where
  present : Bool := false
  vrms : Nat := 0
  freq : Nat := 0
  pin : Nat := 0
  stageFault : Bool := false
deriving DecidableEq, Repr

/-- MNS_HOLDUP_STAT.STATE (R96). -/
inductive BankState where
  | charging | ready | testing | failed
deriving DecidableEq, Repr

/-- The hold-up bank (R84 to R88, R96, R97). -/
structure Bank where
  eUsable : Nat := 0
  eBound : Nat := 0
  st : BankState := .charging
  worn : Bool := false
  /-- Capacitance in mF and ESR in mΩ found by the last health test, kept in NOR. -/
  capMF : Nat := 3000
  esrMO : Nat := 0
  /-- Bank voltage in units of 10 mV and temperature in °C. -/
  vBank : Nat := 0
  temp : Int := 0
  testOph : Nat := 0
  /-- A test has run since power-on; the temperature of the last one. -/
  tested : Bool := false
  lastTestTemp : Int := 0
  /-- Seconds of operating time since the last test, up to the 24 hours of R85. -/
  sinceTest : Nat := 0
  /-- The state to return to after a test, and the test requests of the host that wait (R85). -/
  beforeTest : BankState := .charging
  hostRequests : List Nat := []
deriving DecidableEq, Repr

/-- What an HDA holds in the ledger (R80), in mA. -/
inductive Alloc where
  | zero
  | spinUp (ma : Nat)
  | run (ma : Nat)
deriving DecidableEq, Repr

/-- The mains and hold-up subsystem (R92 to R98). -/
structure Mns where
  feedA : Feed := {}
  feedB : Feed := {}
  shareA : Nat := 0
  busV : Nat := 0
  busI : Nat := 0
  /-- The 12 V bus is up: the always-on island runs. -/
  busUp : Bool := false
  /-- The power-fail signal. -/
  powerFail : Bool := false
  bank : Bank := {}
  chargePaused : Bool := false
  alloc : Sparse Alloc := []
  /-- HDAs waiting for spin-up, in ascending number (R81). -/
  waiting : List Nat := []
  /-- The hold-up converter supplies the bus (R76). -/
  converterOn : Bool := false
  /-- PWRGD, WAKE_N driven low, MRST_N low as sampled, FACTORY_N sampled low (R61 to R64). -/
  pwrgd : Bool := false
  wakeN : Bool := false
  factory : Bool := false
  /-- CALREF connected (R66). -/
  calref : Bool := false
deriving DecidableEq, Repr

/-! ## Thermal, fans, power states, calibration (17_thermal_power_calibration.md) -/

/-- One temperature sensor (R572 to R575, R601), in units of 1/16 °C. -/
structure Sensor where
  temp : Int := 0
  valid : Bool := false
  /-- 0 NORMAL, 1 WARNING, 2 THROTTLE. -/
  level : Nat := 0
  failed : Bool := false
  /-- Successive comparisons that differed from the partner by more than 15 °C. -/
  diffs : Nat := 0
  maxPon : Int := -32768
  maxLife : Int := -32768
deriving DecidableEq, Repr

/-- One fan header (R67, R584, R601). -/
structure Fan where
  rpm : Nat := 0
  stall : Bool := false
  currentLimit : Bool := false
deriving DecidableEq, Repr

/-- A thermal trip record (R581). -/
structure Trip where
  sensor : Nat
  tripNo : Nat
  pcc : Nat
  oph : Nat
  ops : Nat
  readings : List Int
deriving DecidableEq, Repr

/-- The thermal manager (R572 to R584). -/
structure Thp where
  sensors : Sparse Sensor := []
  fans : Sparse Fan := []
  duty : Nat := 100
  /-- THERM_SUM.LEVEL last posted: 0 NORMAL, 1 WARNING, 2 THROTTLE, 3 HOLD. -/
  level : Nat := 0
  wrGate : BitVec 16 := 0
  /-- The module is in thermal hold: GSTAT.THERMAL_HOLD (R580). -/
  hold : Bool := false
  /-- A thermal shutdown has run and the restart of R580 is awaited. -/
  shutdown : Bool := false
  /-- A shutdown reached its threshold during a vault dump and takes effect after it (R49). -/
  shutdownPending : Option Nat := none
deriving DecidableEq, Repr

/-- One power domain (R591, R592): powered, clamped, channels open. -/
structure Domain where
  on : Bool := false
  clamped : Bool := true
  chansOpen : Bool := false
deriving DecidableEq, Repr

/-- The power-state machine (R585 to R592, R601). -/
structure Pwr where
  pstate : Nat := 0
  target : Nat := 3
  transit : Bool := false
  /-- The last step of R588 or R589 done in the transition under way, and the command that asked for it. -/
  step : Nat := 0
  requester : Option Nat := none
  ret : Nat := 0
  wakeLatched : Bool := false
  /-- Last wake: 0 none, 1 HOST, 2 SMBUS, 3 TIMER. -/
  wakeSrc : Nat := 0
  timerLeft : Nat := 0
  /-- Channel gating is in force (R585), and the gated channels by MU. -/
  gating : Bool := false
  gated : BitVec 32 := 0
  coresHalted : Bool := false
  sdramSelfRefresh : Bool := false
  /-- What the register hub keeps of the registers of the CHAN, LDP and TAGS domains while they are off, by subsystem × 65,536 + offset (R43). -/
  mirror : Sparse Nat := []
  port : Sparse Domain := []
  chan : Sparse Domain := []
  ldp : Domain := {}
  tags : Domain := {}
  store : Domain := {}
  others : Domain := {}
deriving DecidableEq, Repr

/-- One temperature-corrected source (R582): c0, c1 and c2 in units of 10⁻⁶ of the register's unit. -/
structure RefCoef where
  c0 : Int := 0
  c1 : Int := 0
  c2 : Int := 0
deriving DecidableEq, Repr

/-- A calibration record (R598): header fields and the contents of its sections. -/
structure CalRecord where
  recno : Nat := 0
  seq : Nat := 0
  oph : Nat := 0
  ops : Nat := 0
  pcc : Nat := 0
  serial : List Byte := []
  /-- HCRC, every SCRC and RCRC check. -/
  good : Bool := true
  /-- REFERENCES of a module record, by source 0 to 2. -/
  refs : List RefCoef := []
  /-- Gain and offset of items 4 and 5, CONVERTERS and CALREF_LAST of a module record, as stored bytes (R598). -/
  adc : List Byte := []
  converters : List Byte := []
  calrefLast : List Byte := []
  /-- SRV words of an HDA record (R255). -/
  srv : Sparse (BitVec 16) := []
  /-- CHANNEL_A, CHANNEL_B, WRITE_A and WRITE_B entries of an HDA record, by entry index. -/
  chanA : Sparse (List Byte) := []
  chanB : Sparse (List Byte) := []
  writeA : Sparse (List Byte) := []
  writeB : Sparse (List Byte) := []
deriving DecidableEq, Repr

/-- The calibration engine (R593 to R602). -/
structure Cal where
  busy : Bool := false
  uncompensated : Bool := false
  foreign : BitVec 16 := 0
  oscCorr : Int := 0
  /-- The correction of the core reference, which no register shows. -/
  coreCorr : Int := 0
  vrefCorr : Int := 0
  refs : List RefCoef := []
  stalled : BitVec 64 := 0
  /-- Spare periods completed by each converter since CALIBRATE CONVERTER began. -/
  periods : Sparse Nat := []
  /-- SEQ of the record in force by RECNO (CAL_REC). -/
  seqs : Sparse Nat := []
  /-- The command whose CALIBRATE CALREF or CONVERTER runs. -/
  calrefCmd : Option Nat := none
  converterCmds : List Nat := []
deriving DecidableEq, Repr

/-! ## The HDA ports (03_weold_port.md), clocks (04_media_layout.md) and servo (07_servo.md) -/

/-- THP_PORT_STAT.STATE (R136). -/
inductive PortState where
  | empty | reading | rejected | accepted | active | releasing | released
deriving DecidableEq, Repr

/-- The actuator block of a descriptor (R123). -/
structure ActDesc where
  vcmRes : Nat := 0
  vcmKt : Nat := 0
  vcmImax : Nat := 0
  vcmIcont : Nat := 0
  coilRth : Nat := 0
  coilTau : Nat := 0
  coilTmax : Nat := 0
  retI : Nat := 0
  retT : Nat := 0
  maVmax : Nat := 0
  maCap : Nat := 0
  maGain : Nat := 0
deriving DecidableEq, Repr

/-- An accepted HDA descriptor (R123). -/
structure Desc where
  serial : List Byte := []
  makerCode : Nat := 0
  paVer : Nat := 0
  headsA : Nat := 0
  headsB : Nat := 0
  assist : Nat := 0
  spdMin : Nat := 0
  spdMax : Nat := 0
  polePairs : Nat := 0
  spImax : Nat := 0
  iSpinup : Nat := 0
  iRun : Nat := 0
  tSpinup : Nat := 0
  actA : ActDesc := {}
  actB : ActDesc := {}
  wdDly : Nat := 0
  wgOn : Nat := 0
  wgOff : Nat := 0
  aeOn : Nat := 0
  aeOff : Nat := 0
  iwMax : Nat := 0
  htrMax : Nat := 0
  astSetMax : Nat := 0
  astLimMax : Nat := 0
  astMonScale : Nat := 0
  rbiasMax : Nat := 0
  tSpinMin : Int := 0
  tSpinMax : Int := 0
  tWrMin : Int := 0
  tWrMax : Int := 0
  makerKeyId : Nat := 0
  /-- HP12_MA and HP5_MA. -/
  hp12Ma : Nat := 0
  hp5Ma : Nat := 0
  /-- The 512 bytes as read, for the slate and the log page. -/
  raw : List Byte := []
deriving DecidableEq, Repr

/-- CLK_STAT.LOCK (R174). -/
inductive Lock where
  | stopped | acquiring | locked
deriving DecidableEq, Repr

/-- The rotation-locked clock of one HDA (R151 to R156, R174, R175). -/
structure Clk where
  lock : Lock := .stopped
  /-- Speed band in force; 15 when none has been decided since power-on. -/
  band : Nat := 15
  slewing : Bool := false
  /-- Measured speed in units of 0.25 rpm, and that of the revolution before (R261). -/
  meas : Nat := 0
  prev : Nat := 0
  markCnt : BitVec 32 := 0
  /-- Successive index intervals in range while STOPPED, and qualifying revolutions while ACQUIRING. -/
  goodIntervals : Nat := 0
  goodRevs : Nat := 0
  /-- The island clock comes from the clock track; otherwise from the fallback clock (R34). -/
  islandLocked : Bool := false
  symRunning : Bool := false
  /-- 20 µs have passed since the symbol clocks started (R151). -/
  gatesPermitted : Bool := false
  /-- Rate zone under each actuator's head, and the surface it lies on (R140, R154, R174). -/
  zoneA : Nat := 0
  zoneB : Nat := 0
  surfA : Nat := 0
  surfB : Nat := 0
  /-- Wedge 0 samples until SRV applies the band decided: that of the deciding edge, then that of the next revolution (R161, R260); 0 none. -/
  servoBandDue : Nat := 0
  /-- Successive index edges at which back-EMF and CLK speed differed by more than 50 rpm (R558). -/
  mismatches : Nat := 0
deriving DecidableEq, Repr

/-- The spindle governor of one HDA (R157 to R160). -/
structure Gov where
  /-- Target under FOLLOW, in rpm. -/
  target : Nat := 7200
  following : Bool := false
  quiet : Nat := 0
  /-- A write waited at step 4 in this window while the HDA's dirty data exceeded one sixteenth of the limit. -/
  pressure : Bool := false
deriving DecidableEq, Repr

/-- SRV_STAT.SPIN (R285). -/
inductive Spin where
  | stopped | aligning | starting | spunUp | stopping | coasting
deriving DecidableEq, Repr

/-- The spindle bridge: high impedance, driven, or its three phases shorted for braking (R268, R269, R274). -/
inductive Bridge where
  | open_ | driven | shorted
deriving DecidableEq, Repr

/-- A running injection and capture of one HDA (R279 to R282). -/
structure Tune where
  cmd : Option Nat := none
  act : Nat := 0
  point : Nat := 0
  mode : Nat := 0
  prbsHold : Nat := 1
  f : Nat := 0
  a : Nat := 0
  d : Nat := 1
  settle : Nat := 2048
  chans : List Nat := []
  injecting : Bool := false
  /-- Samples of injection so far. -/
  count : Nat := 0
  /-- The register of the PRBS, and the phase of the sine in 1/65,536 of a turn (R280). -/
  prbs : BitVec 15 := 1
  phase : Nat := 0
  capturing : Bool := false
  /-- Sets of four channel values captured, newest first, and their number. -/
  data : List (List Int) := []
  taken : Nat := 0
  skip : Nat := 0
  invalid : Nat := 0
  saturated : Nat := 0
  bandSwitch : Bool := false
  band : Nat := 0
  speed : Nat := 0
  markCnt : BitVec 32 := 0
deriving DecidableEq, Repr

/-- The servo engine of one HDA (R254 to R261, R267 to R276, R285). -/
structure Srv where
  spin : Spin := .stopped
  retracted : Bool := false
  retCause : Nat := 0
  fault : Nat := 0
  setsValid : Bool := false
  bemf : Nat := 0
  /-- The spindle bridge and the phase current in mA (R254, R267 to R269, R274). -/
  bridge : Bridge := .open_
  phaseI : Nat := 0
  /-- Coefficient memory, 16-bit words (R255). -/
  coef : Sparse (BitVec 16) := []
  /-- Replacements held until the next wedge 0 sample (R258): word address and words. -/
  replacements : List (Nat × List (BitVec 16)) := []
  /-- Speed reference in 1/65,536 rpm and the 40-bit integrator of R254; the bump of the spindle set (R260). -/
  speedRef : Nat := 0
  integ : Int := 0
  bumpSpin : Int := 0
  /-- The band whose sets are in use. -/
  bandInUse : Nat := 0
  spinAmp : Int := 0
  commOfs : Nat := 0
  /-- COMM_OFS has been measured in this spin-up (R254). -/
  commDone : Bool := false
  elecAngle : Nat := 0
  /-- The seek-jitter shift register, once seeded (R264). -/
  lfsr : Option (BitVec 16) := none
  /-- A block reset of the engine waits until every actuator is PARKED (R552). -/
  resetDue : Bool := false
  tune : Option Tune := none
deriving DecidableEq, Repr

/-- One HDA port and the parts of the module that serve one HDA. -/
structure Hda where
  st : PortState := .empty
  present : Bool := false
  sameSerial : Bool := false
  /-- 0 unsigned, 1 verified, 2 failed, 3 no enrolled key. -/
  descSig : Nat := 0
  hs : Nat := 3
  reject : Nat := 0
  desc : Option Desc := none
  /-- Current limits of HP5 and HP12 in mA; 0 while the supply is off (R121, R130). -/
  hp5Limit : Nat := 0
  hp12Limit : Nat := 0
  /-- THP_PORT_TEMP, 1/16 °C, and the last valid reading of the HDA present (R136, R265, R577). -/
  temp : Int := 0
  tempValid : Bool := false
  lastTemp : Option Int := none
  /-- HDA sensor level: 0 NORMAL or 1 WARNING (R575). -/
  tempLevel : Nat := 0
  clk : Clk := {}
  gov : Gov := {}
  srv : Srv := {}
  /-- The spin-up temperature withheld the spin-up the exit asked for (R577). -/
  spinWithheld : Bool := false
  /-- An engine fault or under-speed has stopped the spindle: only HDA_CTL starts it again (R275). -/
  onlyCtl : Bool := false
  /-- The release of R134 in progress: its command, and the tags it waits for. -/
  releaseCmd : Option Nat := none
  releaseOrder : Nat := 0
  /-- An HDA_CTL transition: its command, its target HS and the steps done. -/
  hsCmd : Option Nat := none
  hsTarget : Nat := 3
  hsTransit : Bool := false
  /-- The transition is an HDA_CTL RESTART, which ends the stop of R47. -/
  hsRestart : Bool := false
deriving DecidableEq, Repr

/-! ## One media unit: preamp, actuator, read channel, write path, sequencer -/

/-- The preamplifier of one actuator as R114 and R115 describe it. -/
structure Preamp where
  regs : Sparse (BitVec 16) := []
  /-- Writes to G registers that wait for the next falling edge of WG (R113). -/
  pendingG : List (Nat × BitVec 16) := []
  /-- PFLT asserted (R117, R136). -/
  pflt : Bool := false
deriving DecidableEq, Repr

/-- SRV_ACT.STATE (R285). -/
inductive ActState where
  | parked | loading | seeking | settling | following | unloading | retracting | tuning
deriving DecidableEq, Repr

/-- Where a load or an unload stands: the coil's resistance is measured against the ramp stop, the actuator moves off the ramp, it seeks, it settles,
it moves onto the ramp, or the last drive at RET_I holds (R271, R272). -/
inductive RampStep where
  | rest | measure | move | seek | settle | home | forced
deriving DecidableEq, Repr

/-- Direct form I histories of one section (R246). -/
structure BiqHist where
  x1 : Int := 0
  x2 : Int := 0
  y1 : Int := 0
  y2 : Int := 0
deriving DecidableEq, Repr

/-- A seek that has been asked for and waits for its throttle or jitter (R264, R266). -/
structure SeekReq where
  head : Nat
  track : Nat
  jitter : Nat
deriving DecidableEq, Repr

/-- The servo state of one actuator (R247 to R266, R271, R285). Positions are in 1/4,096 track. -/
structure Act where
  st : ActState := .parked
  head : Nat := 0
  rdSettled : Bool := false
  wrSettled : Bool := false
  throttled : Bool := false
  invalid : Bool := false
  pes : Int := 0
  track : Nat := 0
  pos : Int := 0
  target : Int := 0
  /-- Target offset of R253 and SRVOP OFFSET. -/
  offset : Int := 0
  vEst : Int := 0
  wedge : Nat := 0
  invalidRun : Nat := 0
  rdRun : Nat := 0
  wrRun : Nat := 0
  seek : Option SeekReq := none
  vcmHist : List BiqHist := []
  maHist : List BiqHist := []
  modelHist : BiqHist := {}
  cplHist : List BiqHist := []
  uV0 : Int := 0
  uV : Int := 0
  uM : Int := 0
  /-- What the drivers are given: VCM current in 1/32,768 mA and microactuator voltage in 1/327,680 V, clamped to the descriptor (R253). -/
  drvV : Int := 0
  drvM : Int := 0
  /-- The controlled point is the writer (R248). -/
  writer : Bool := false
  /-- The injection added to the target in this sample (R279). -/
  inj : Int := 0
  /-- Successive samples whose measured current differed from the command by more than a tenth of full scale (R276). -/
  diffRun : Nat := 0
  bumpV : Int := 0
  bumpM : Int := 0
  /-- Estimated coil temperature in 2⁻⁴⁰ °C. -/
  tCoil : Int := 0
  /-- The squares of the VCM commands of the present 1 ms, in 2⁻³⁰ mA², and their number; the mean squares of the last 1,000 ms in mA², newest
  first; and the RMS over 1 s in mA (R265). -/
  sqSum : Nat := 0
  sqN : Nat := 0
  ms : List Nat := []
  rms : Nat := 0
  /-- The step of a load or an unload, the milliseconds of its resistance measurement so far, and the resistance measured in mΩ, a free value (R271). -/
  ramp : RampStep := .rest
  rampMs : Nat := 0
  coilRes : Nat := 0
  /-- Valid samples in a row while loading, and the load and hour at which the heads came on. -/
  acquired : Nat := 0
  loadedOph : Nat := 0
  lateReported : Bool := false
  /-- V0 and V1 of SERVO_POLICY in force since the last seek start (R283). -/
  pol0 : Word := 0x00000A31
  pol1 : Word := 0x080D041A
deriving DecidableEq, Repr

/-- A take descriptor (R288) with the work it serves. -/
structure TakeDesc where
  type : Nat := 0
  step : Nat := 0
  head : Nat := 0
  track : Nat := 0
  first : Nat := 0
  count : Nat := 1
  rlvl : Nat := 0
  spt : Nat := 0
  rz : Nat := 0
  conv : Bool := false
  /-- Zone of a destage take, and the command of a read take. -/
  zone : Nat := 0
  cmd : Option Nat := none
  /-- The track whose failed sectors a recovery or neighbour take serves (R201). -/
  serves : Nat := 0
deriving DecidableEq, Repr

/-- How a sector was read (R192). -/
inductive SyncVia where
  | clapper | slip | positional
deriving DecidableEq, Repr

/-- One take's samples of a sector (R176 to R180, R191): the converters' samples and the sub-converters in the active slots, the taps in use, the
phases of both readers in each run of the slot, and the neighbours' codewords that are subtracted (R200, step 6). -/
structure Sampled where
  signal : Signal := {}
  convs0 : List Nat := []
  convs1 : List Nat := []
  taps0 : List Int := []
  taps1 : List Int := []
  phases : List (Int × Int) := []
  cancel : List (Nat × Nat × BitVec 37120) := []
deriving DecidableEq, Repr

/-- The work of the read channel on one sector of a take (R189 to R194). -/
structure SecWork where
  sector : Nat
  opened : Bool := false
  decided : Bool := false
  /-- The clapper offset when it was found. -/
  clap : Option Int := none
  tried : List Int := []
  attempt : Option (Int × Bool) := none
  granted : Bool := false
  finished : Bool := false
  /-- The take it belongs to, and whether its attempts run deep (R200); it may outlive a slipped take (R195). -/
  take : TakeDesc := {}
  deep : Bool := false
  /-- The sub-converters in the eight active slots of either reader while the payload is sampled (R177, R178). -/
  convs0 : List Nat := []
  convs1 : List Nat := []
  /-- The symbols whose equalised samples the slot holds: runs counted from start[s], each as its first symbol and its length (R191). -/
  samples : List (Nat × Nat) := []
  /-- The takes whose samples have been added into the slot, in order (R200, step 4). -/
  taken : List Sampled := []
  /-- BUF has accepted the sector. -/
  read : Bool := false
  /-- The sector's last span has passed the head (R189). -/
  passed : Bool := false
deriving DecidableEq, Repr

/-- What a front-end loop does at a position of a sector (R179). -/
inductive LoopMode where
  | gainOffset | finePhase | hold
deriving DecidableEq, Repr

/-- The analogue front end and interpolator of one reader (R176, R179, R186). -/
structure Front where
  /-- Boost and corner of the equaliser. -/
  boost : Nat := 0
  corner : Nat := 0
  /-- Gain code, offset in 1/8 converter LSB, asymmetry coefficient, and interpolator phase in 1/64 symbol. -/
  gain : Nat := 0
  ofs : Int := 0
  asym : Int := 0
  phase : Int := 0
deriving DecidableEq, Repr

/-- The read channel of one MU (R176 to R211). -/
structure Rch where
  head : Nat := 0
  rz : Nat := 0
  band : Nat := 15
  entryValid : Bool := false
  /-- The 256 bytes of the entry in use (R186, R188). -/
  entry : List Byte := []
  /-- The front ends of the two readers, the taps of the joint equaliser and its tap step code in use (R179, R180). -/
  front0 : Front := {}
  front1 : Front := {}
  taps0 : List Int := []
  taps1 : List Int := []
  eqStep : Nat := 0
  /-- The sub-converter in each active slot of either converter, and its spare (R177, R178). -/
  slots0 : List Nat := [0, 1, 2, 3, 4, 5, 6, 7]
  slots1 : List Nat := [0, 1, 2, 3, 4, 5, 6, 7]
  spare0 : Nat := 8
  spare1 : Nat := 8
  swapDue0 : Bool := false
  swapDue1 : Bool := false
  /-- Sectors of the take, and the slots that step 4 keeps from take to take for the running average (R194, R200). -/
  work : List SecWork := []
  kept : List SecWork := []
  /-- The codewords of neighbouring tracks that step 6 has read for a track, by track and sector (R200). -/
  cross : List (Nat × Nat × BitVec 37120) := []
  /-- The command and the track that they are read for. -/
  crossFor : Option (Option Nat × Nat) := none
  gateOpen : Bool := false
  /-- V0 of READ_CHANNEL in force since the start of the MU's last take (R208). -/
  settings : Word := 0x00042108
deriving DecidableEq, Repr

/-- The write path of one MU (R213 to R243). -/
structure Was where
  head : Nat := 0
  rz : Nat := 0
  band : Nat := 15
  entryValid : Bool := false
  wg : Bool := false
  ae : Bool := false
  writeTake : Bool := false
  inhibit : Bool := false
  failed : Nat := 0
  mon : Nat := 0
  trim : Sparse Int := []
  readings : List Nat := []
  astCut : Bool := false
  wgCut : Bool := false
  attemptFailed : Bool := false
  slipped : Bool := false
  /-- WG has risen in the attempt (R224); the encoder has refused a sector of it (R214); the monitor has been read in this data segment (R225). -/
  rose : Bool := false
  crcCut : Bool := false
  monRead : Bool := false
  wdd : Nat := 0
  wgOn : Nat := 0
  aeLead : Nat := 0
  bridge : Nat := 0
  /-- Sectors checked and encoded, the sector being written, sectors whose last pad is written and that wait for their
  first sample, and the sectors of the attempt that count as on the medium (R235). -/
  encoded : List Nat := []
  /-- The encoder buffers' codewords by sector (R213). -/
  codewords : List (Nat × BitVec 37120) := []
  writing : Option Nat := none
  /-- The sector before the one being written, when both lie in one span (R215, R220). -/
  joined : Option Nat := none
  awaiting : List Nat := []
  onMedium : List Nat := []
  /-- PA_STAT must be cleared by the next write attempt (R118). -/
  clearDue : Bool := false
  /-- An attempt that has ended with sectors still waiting for their first sample (R235). -/
  closing : Option TakeDesc := none
  /-- V0 of WRITE_PATH in force since the start of the MU's last take (R240). -/
  settings : Word := 0x1A2E1A03
deriving DecidableEq, Repr


/-- A preamp link frame that the module runs (R109): a read or a write, ADDR and, in a write, DATA. -/
structure LinkFrame where
  read : Bool := false
  addr : Nat := 0
  data : BitVec 16 := 0
deriving DecidableEq, Repr

/-- TSQ_STAT.STATE (R292). -/
inductive TsqState where
  | stopped | idle | running | held
deriving DecidableEq, Repr

/-- The take outcomes of SIGOP (R290). -/
inductive TakeOutcome where
  | done | failed | slip | abandoned
deriving DecidableEq, Repr

/-- One track sequencer (R287 to R301, R316). -/
structure Tsq where
  st : TsqState := .stopped
  desc : Option TakeDesc := none
  upc : Nat := 0
  /-- V0 to V9 and V13, by number; V10 to V12, V14 and V15 are read from the descriptor and the engines. -/
  v : Sparse Word := []
  stack : List Nat := []
  lc0 : BitVec 16 := 0
  lc1 : BitVec 16 := 0
  sc : BitVec 16 := 0
  t0 : BitVec 16 := 0
  t1 : BitVec 16 := 0
  f : BitVec 4 := 0
  cf : BitVec 4 := 0
  zf : Bool := false
  nf : Bool := false
  cyf : Bool := false
  vf : Bool := false
  locSector : Nat := 0
  locWrap : Bool := false
  readQ : List Nat := []
  writeQ : List Nat := []
  armed : Option Nat := none
  anyFail : Bool := false
  rdSlipped : Bool := false
  resume : Nat := 0
  rawOpen : Bool := false
  reported : Option TakeOutcome := none
  sinceSafe : Nat := 0
  violReported : Bool := false
  /-- The microaddress of the word executed last, and of the 65th word since a safe point (R300). -/
  addr : Nat := 0
  violAddr : Nat := 0
  abortPend : Bool := false
  stopPend : Bool := false
  tablesReady : Bool := false
  bandChanged : Bool := false
  linkParity : Bool := false
  attemptOpen : Bool := false
  /-- Ladder variant of TBLOP and decode profile of DECOP in force. -/
  variant : Nat := 0
  deep : Bool := false
  /-- HTR_RD has been raised in this take and not restored (R200, R296). -/
  htrRaised : Bool := false
  /-- A preamp link frame that LINKOP started has not ended, and the frames it has asked for, the one under way first (R109, R296). -/
  linkBusy : Bool := false
  frames : List LinkFrame := []
  /-- ATTEMPT_END has been given: nothing further is posted. -/
  attemptEnding : Bool := false
  /-- The event whose handler runs until EVOP ACK: true for STOP (R301). -/
  handling : Option Bool := none
  /-- The track an SRVOP SEEK named in a NEIGHBOUR_READ take (R297). -/
  seekTrack : Option Nat := none
  /-- The band in force at the start of the take, whose tables it uses (R161). -/
  band : Nat := 15
  /-- The sequencer-cycle count of the wedge (R143); none until the first cycle after a start or a change of clock. -/
  cyc : Option Nat := none
  /-- The wedge in which it counts. -/
  wedge : Nat := 0
deriving DecidableEq, Repr

/-! ## Host link, task ports, queues and commands (09 to 12) -/

/-- An accepted or refused task packet (R356); NSEC is the stored field. -/
structure Packet where
  opc : Nat := 0
  flg : BitVec 8 := 0
  tag : Nat := 0
  vol : Nat := 0
  cqid : Nat := 0
  slba : Nat := 0
  nsec : Nat := 0
  p0 : Word := 0
  dptr : Nat := 0
  mptr : Nat := 0
  p2 : Word := 0
  p3 : Word := 0
  p4 : Word := 0
  p5 : Word := 0
  /-- Bytes 0 to 59, for the token digest of R525. -/
  raw : List Byte := []
deriving DecidableEq, Repr

/-- What a completion or event entry carries besides PHASE and SEQ (R371, R383). -/
structure Entry where
  /-- TAG of a completion, or EVCODE of a notice. -/
  tag : Nat := 0
  defer : Bool := false
  status : Nat := 0
  /-- STATE of a completion, or the volume of a notice. -/
  state : Nat := 0
  port : Nat := 0
  r0 : Nat := 0
  r1 : Nat := 0
  r2 : Nat := 0
deriving DecidableEq, Repr

/-- A completion queue (R365 to R369, R385), by module queue number. -/
structure Cq where
  base : Nat := 0
  size : Nat := 0
  enable : Bool := false
  event : Bool := false
  errImm : Bool := true
  vector : Nat := 0
  coalCount : Nat := 0
  coalTime : Nat := 0
  head : Nat := 0
  tail : Nat := 0
  phase : Bool := true
  headErr : Bool := false
  cfgErr : Bool := false
  disableRefused : Bool := false
  seq : Nat := 0
  /-- Entries posted since the last MSI-X message (R369). -/
  unsent : Nat := 0
  /-- Entries between HEAD and TAIL, oldest first: the tag and module port of a completion, none for a notice. -/
  held : List (Option (Nat × Nat)) := []
  /-- Final completions waiting to be posted, in the order in which they became final (R38). -/
  waiting : List Entry := []
  /-- Notices waiting, and notices dropped since the last entry (R385). -/
  notices : List Entry := []
  lost : Nat := 0
deriving DecidableEq, Repr

/-- A task port (R351), by module port number. -/
structure Port where
  free : List Nat := []
  base : Nat := 0
  count : Nat := 64
  stagedBase : Nat := 0
  allotErr : Bool := false
  lastTag : Nat := 0
  lastReason : Nat := 0
  cq : Nat := 0
deriving DecidableEq, Repr

/-- The four states of a tag (R352). -/
inductive TagState where
  | free | claimed | accepted | posted
deriving DecidableEq, Repr

/-- A tag's state and the module port it is claimed at (R352). -/
structure TagRec where
  st : TagState := .free
  port : Nat := 0
deriving DecidableEq, Repr

/-- Where an accepted command stands (R427). -/
inductive Phase where
  /-- Accepted and not yet taken in (R427, R428). -/
  | intake
  /-- To be performed by its own step: READ lookup, ZCX, BCA or the tag table. -/
  | perform
  /-- A write waiting for dirty budget (R24 step 4). -/
  | budget
  /-- A write with its grant: its data is fetched from host memory (R24 step 5). -/
  | fetch
  /-- A write whose data is in buffer memory (R24 step 7). -/
  | buffered
  /-- Past its commit point, waiting for the medium (R26). -/
  | fua
  /-- A FLUSH or FLUSH_RANGE waiting for destage (R438, R489). -/
  | flush
  /-- In the MU's overflow list (R429). -/
  | overflow
  /-- In SCH (R434). -/
  | sch
  /-- Waiting for or in MGT's recovery queue (R445). -/
  | recovery
  /-- Every sector decided: data on its way to host memory. -/
  | egress
  /-- Queued in MGT (R444). -/
  | managed
  /-- A managed command that has begun execution. -/
  | executing
  /-- The completion latch is set (R379). -/
  | final
deriving DecidableEq, Repr

/-- The outcome of one sector of a read command. -/
structure SecOut where
  read : Bool := false
  failed : Bool := false
  via : SyncVia := .clapper
  corr : Int := 0
  globals : Nat := 0
  locals : Nat := 0
  step : Nat := 0
  /-- Zeros by R391, or the sector held in the READ space or served from buffer memory. -/
  zero : Bool := false
  data : Option Sector := none
  /-- The sector waits until the STRANDED line that holds it is on the medium (R481). -/
  waits : Bool := false
deriving DecidableEq, Repr

/-- Zone states (R400). -/
inductive ZState where
  | empty | implicitOpen | explicitOpen | closed | full | readOnly | offline
deriving DecidableEq, Repr

/-- An accepted command (R356, R373). -/
structure Cmd where
  ep : Nat := 0
  port : Nat := 0
  pkt : Packet := {}
  epoch : Nat := 0
  phase : Phase := .intake
  /-- Acceptance number, module-wide (R427). -/
  order : Nat := 0
  /-- The segment lists were fetched and check, or there are none (R364). -/
  listsOk : Bool := true
  /-- First LBA written, which ZCX sets for an append (R393). -/
  lba : Nat := 0
  /-- The command came from an endpoint that did not own its volume at its take-in (R345). -/
  stranger : Bool := false
  /-- The data entries of its segment lists, for DPTR and for MPTR, as addresses and lengths (R363). -/
  dataSegs : List (Nat × Nat) := []
  metaSegs : List (Nat × Nat) := []
  /-- Fetched and encrypted sectors of a write. -/
  data : List Sector := []
  /-- Sectors of budget, and of staging room, that the command holds (R437, R484). -/
  granted : Nat := 0
  stagingHeld : Nat := 0
  /-- Commit sequence a FLUSH covers, or of a write's own commit (R438). -/
  covers : Nat := 0
  lostLba : Option Nat := none
  lostCount : Nat := 0
  lostZones : List Nat := []
  /-- Sectors of a read by offset, takes spent by track, and the totals of R206. -/
  secs : Sparse SecOut := []
  takes : Sparse Nat := []
  step : Nat := 0
  takeSlips : Nat := 0
  /-- The next take of the present ladder step, and its count within the step (R200). -/
  ladderTake : Nat := 0
  /-- The sectors of the present track that take part in step 4, by offset (R200). -/
  averaging : List Nat := []
  /-- The tracks on which step 0 has run (R434). -/
  stepZero : List Nat := []
  /-- Lines or words a maintenance command has counted so far. -/
  counted : Nat := 0
  uncounted : Nat := 0
  /-- Sectors recovered, and the runs not read, newest first, of SCRUB MEDIA (R473). -/
  recovered : Nat := 0
  runs : List (Nat × Nat) := []
deriving DecidableEq, Repr

/-- The SPDM connection state of one requester (R338, R523). -/
structure Spdm where
  version : Bool := false
  caps : Bool := false
  algs : Bool := false
  /-- Bytes of a long response still to be fetched with CHUNK_GET. -/
  chunk : List Byte := []
  /-- Number of the next part, and handle of the long response. -/
  chunkSeq : Nat := 0
  handle : Nat := 0
  /-- A response answered with ResponseNotReady is waiting for RESPOND_IF_READY. -/
  deferred : Option (List Byte) := none
deriving DecidableEq, Repr

/-- One MSI-X table entry (R328). -/
structure Msix where
  addr : Nat := 0
  data : Word := 0
  mask : Bool := true
deriving DecidableEq, Repr

/-- One PCI Express endpoint (R318 to R338). -/
structure Endpoint where
  /-- PERST# is low (R57). -/
  perst : Bool := true
  linkUp : Bool := false
  speed : Nat := 0
  width : Nat := 0
  degraded : Bool := false
  /-- 0 L0, 1 L1, 2 L1.2. -/
  pm : Nat := 0
  trained : Bool := false
  bme : Bool := false
  mse : Bool := false
  /-- BAR0 as the host has programmed it, a multiple of 64 MiB (R323). -/
  bar0 : Nat := 0
  d3hot : Bool := false
  funcMask : Bool := false
  aspmL1 : Bool := false
  aspmL12 : Bool := false
  ltrEnable : Bool := false
  /-- Enable Relaxed Ordering (R320). -/
  relaxed : Bool := true
  /-- Max_Payload_Size and Max_Read_Request_Size by their codes: 128 bytes times a power of two (R320). -/
  maxPayload : Nat := 0
  maxRead : Nat := 2
  /-- 10-Bit Tag Requester Enable and the completion timeout's code (R320). -/
  tag10 : Bool := false
  timeout : Nat := 0
  ecrcGen : Bool := false
  ecrcCheck : Bool := false
  /-- AER severity as the host has programmed it: 1 is fatal (R332). -/
  aerSev : BitVec 32 := 0x00462030
  /-- Errors detected: correctable, non-fatal, fatal. -/
  devStatus : BitVec 3 := 0
  /-- AER status, sticky (R332, R333). -/
  aerUncorr : BitVec 32 := 0
  aerCorr : BitVec 32 := 0
  crstBusy : Bool := false
  flrBusy : Bool := false
  epoch : Nat := 0
  faultSum : BitVec 32 := 0
  nonce : Option (BitVec 128) := none
  spdm : Spdm := {}
  doeRequest : List Byte := []
  doeResponse : List Byte := []
  /-- The request in hand arrived while the other endpoint's was waiting (R338). -/
  doeSecond : Bool := false
  msix : Sparse Msix := []
  msixPend : Sparse Bool := []
  /-- Event bindings (R421): the scope (volume, or 0xFFFF) and the module queue. -/
  bindings : List (Nat × Nat) := []
  /-- INT_GLOBAL.COAL_OFF of the endpoint's BAR0 (R370). -/
  coalOff : Bool := false
deriving DecidableEq, Repr

/-- What leaves the module (the model's own record of it). -/
inductive Output where
  /-- A completion or event entry: the 32 bytes of one posted write to a host address (R367, R371). -/
  | entry (queue address : Nat) (bytes : List Byte)
  /-- An MSI-X message of an endpoint and vector (R369). -/
  | msix (ep vector : Nat)
  /-- Data written to host memory for a tag: the address, Relaxed Ordering and the bytes (R320, R362, R363). -/
  | hostData (tag address : Nat) (relaxed : Bool) (bytes : List Byte)
  /-- A Latency Tolerance Reporting message, in µs (R330). -/
  | ltr (ep us : Nat)
  /-- A DOE, SPDM or MCTP answer. -/
  | answer (conn : Nat) (bytes : List Byte)
  /-- Register words answered to a reader: endpoint 0 or 1, or 2 for an Ohmith management message (R348). -/
  | words (conn : Nat) (ws : List Word)
  /-- An Ohmith management message refused with its error code. -/
  | refused (code : Nat)
  /-- A request to BAR0 of an endpoint answered as Unsupported Request (R325). -/
  | unsupported (ep : Nat)
  /-- A boot progress line on UART_TX (R63, R604). -/
  | uart (step : Nat)
deriving DecidableEq, Repr

/-! ## Zones, schedulers, management (12_scheduling.md) -/

/-- A deferred-error record (R381, R382). -/
structure Deferred where
  lba : Nat
  count : Nat
  cause : Nat
deriving DecidableEq, Repr

/-- What the journal on the medium holds of a zone (R171). -/
structure Journal where
  st : ZState := .empty
  wp : Nat := 0
  gen : Nat := 0
  kdom : Option Nat := none
deriving DecidableEq, Repr

/-- A zone of a volume: its record in region 3, its context and its destage record (R430 to R433). -/
structure Zone where
  st : ZState := .empty
  wp : Nat := 0
  gen : Nat := 0
  kdom : Option Nat := none
  /-- The write between take-in and commit. -/
  pend : Option Nat := none
  /-- Offset up to which data has been handed to destage. -/
  handed : Nat := 0
  /-- A track of the zone is in SCH. -/
  inSch : Bool := false
  /-- Core time in ms of the zone's last commit; the context's LAST_COMMIT is its low 16 bits (R432). -/
  lastCommit : Nat := 0
  /-- Offset up to which the data is on the medium. -/
  onMedium : Nat := 0
  deferred : Option Deferred := none
  journal : Journal := {}
  /-- The record was kept across a warm fill or restored from the vault (R607). -/
  kept : Bool := false
  /-- The location tags of the last written track disagreed with the journalled write pointer when the zone was last recovered (R171). -/
  tagsBad : Bool := false
deriving DecidableEq, Repr

/-- A destage track in SCH (R433). -/
structure Destage where
  zone : Nat
  track : Nat
  first : Nat
  count : Nat
  /-- Failed attempts so far (R237). -/
  failed : Nat := 0
  /-- LBA of the first sector and, per sector, of the sectors handed over. -/
  lbas : List Nat := []
deriving DecidableEq, Repr

/-- A CALIBRATE CHANNEL under way on an MU (R596): its takes in order, the one that stands next, the codewords converged so far in its
rate zone, the band in which that zone's takes began, and the totals of the zones that are done, by head × 64 + rate zone. -/
structure CalWork where
  cmd : Option Nat
  plan : List TakeDesc
  pos : Nat := 0
  converged : Nat := 0
  band : Nat
  counts : Sparse Nat := []
deriving DecidableEq, Repr

/-- The scheduler of one MU (R434, R435, R455). -/
structure Sch where
  queue : List Nat := []
  overflow : List Nat := []
  destage : List Destage := []
  recovery : Option TakeDesc := none
  slipNext : Option TakeDesc := none
  /-- A system read of the area after the first load, and a system write of the journal, stand (R171, R288, R434). -/
  systemRead : Bool := false
  systemDue : Bool := false
  /-- The system take that stands, its place drawn (R434), and the takes that have failed: of the journal, and of the system read (R237, R451). -/
  sysTake : Option TakeDesc := none
  sysFails : Nat := 0
  sysReadFails : Nat := 0
  /-- The FORMATs that complete when the system take has written the medium (R420). -/
  format : List Nat := []
  /-- When each take that SCH knows became eligible, in ms of operating time, and the time of the last choice (R434). -/
  book : List ((Nat × Nat × Nat) × Nat) := []
  now : Nat := 0
  /-- MGT's recovery queue entries of the MU, and the commands waiting for one (R445). -/
  recQueue : List Nat := []
  recWaiting : List Nat := []
  calib : Option CalWork := none
deriving DecidableEq, Repr

/-- One media unit with the module's parts that serve it. -/
structure Mu where
  pa : Preamp := {}
  act : Act := {}
  rch : Rch := {}
  was : Was := {}
  tsq : Tsq := {}
  sch : Sch := {}
  /-- Stopped by an engine fault, under-speed or failed load (R47, R271). -/
  stopped : Bool := false
  /-- The format record checked and names this HDA and actuator (R171, R172). -/
  formatted : Bool := false
  /-- The journal has been applied since acceptance (R607). -/
  recovered : Bool := false
  fmt : MuFormat := {}
  /-- Metadata setting, default key domain, from the format record (R420). -/
  hasMeta : Bool := false
  defaultKdom : Nat := 0
  /-- The key domain that the conventional zones are bound to since FORMAT (R534). -/
  convKdom : Nat := 0
  /-- Channel and write tables in region 4, by entry index (R185, R216). -/
  chanTable : Sparse (List Byte) := []
  writeTable : Sparse (List Byte) := []
  /-- Poisoned words of the entries: at 2 × index those of the channel table, at 2 × index + 1 those of the write table (R463). -/
  entryMarks : Sparse Nat := []
  zones : Sparse Zone := []
  /-- FORMAT has written zeros to every conventional sector of the MU, and the LBAs of conventional sectors written since (R391, R420). -/
  zeroed : Bool := false
  rewritten : List Nat := []
deriving DecidableEq, Repr

/-- A firmware activation in IMMEDIATE mode (R442). -/
structure Activation where
  /-- FW_ACTIVATE's tag while its command lives, and its endpoint. -/
  cmd : Option Nat
  ep : Nat := 0
  slot : Nat
  step : Nat := 1
  oldSlot : Nat
deriving DecidableEq, Repr

/-- The management complex (R444 to R447, R455). -/
structure Mgt where
  load : Nat := 0
  /-- Published values above 90 % in a row, 100 ms each. -/
  highRun : Nat := 0
  saturated : Bool := false
  /-- Cores that miss their heartbeat, and the task each holds (R447, R552). -/
  hung : BitVec 4 := 0
  hungTasks : Sparse HungTask := []
  /-- Cores reported since the last module reset (R340, R455). -/
  hungSeen : BitVec 4 := 0
  activation : Option Activation := none
  /-- Managed commands begun whose endpoint has been reset: their change of state still completes, and no completion is posted (R440). -/
  orphans : List Cmd := []
  /-- The page of the last capture by HDA, and of the last scrub by volume, and of the buffer. -/
  capture : Sparse (List Byte) := []
  scrubMedia : Sparse (List Byte) := []
  /-- Acceptance number plus one of the last SCRUB MEDIA of a volume that began execution (R473). -/
  scrubLast : Sparse Nat := []
  scrubBuffer : List Byte := []
deriving DecidableEq, Repr

/-! ## Buffer memory, cache and vault (13, 14) -/

/-- The pass of the buffer scrubber in progress and what it has found (R470, R472). -/
structure ScrubPass where
  cmd : Option Nat := none
  corrected : Nat := 0
  uncorrectable : Nat := 0
  poisoned : Nat := 0
  addrErrors : Nat := 0
  /-- The operating second in which the pass began (R472). -/
  began : Nat := 0
  /-- The first twelve findings: address, kind and OPH. -/
  entries : List (Nat × Nat × Nat) := []
deriving DecidableEq, Repr

/-- The buffer memory controller (R456 to R475). -/
structure Buf where
  /-- 0 NONE, 1 COLD_FILL, 2 WARM_FILL, 3 DONE. -/
  fill : Nat := 0
  /-- POISON bits by burst number A[35:6] (R461). -/
  poison : Sparse (BitVec 8) := []
  /-- Data words that the module has written outside the cache, by A[35:3]; a fill leaves zeros (R459, R464, R468). -/
  words : Sparse (BitVec 64) := []
  /-- The sectors outside the cache's lines whose bursts are poisoned, as burst number and key (R463). -/
  holders : List (Nat × Nat) := []
  /-- Position of the scrub, as burst number, and the pass in progress. -/
  scrubBurst : Nat := 0
  scrub : Option ScrubPass := none
  scrubWaiting : List Nat := []
deriving DecidableEq, Repr

/-- The states of a cache line (R476). -/
inductive LineState where
  | invalid | filling | clean | dirty | doomed
deriving DecidableEq, Repr

/-- A line frame of the buffer cache (R476). -/
structure Line where
  st : LineState := .invalid
  vol : Nat := 0
  /-- LBA[39:4]. -/
  block : Nat := 0
  valid : BitVec 16 := 0
  dirty : BitVec 16 := 0
  /-- Sectors being read from the medium, and the reads attached to the fill. -/
  filling : BitVec 16 := 0
  attached : List Nat := []
  stranded : Bool := false
  cls : Nat := 0
  /-- WPOL DROP as it stood at the allocation (R479). -/
  drop : Bool := false
  /-- Writes whose data stands in the frame and is not committed yet (R482). -/
  writers : List Nat := []
  lru : Nat := 0
  data : Sparse Sector := []
deriving DecidableEq, Repr

/-- An entry of the cutting room (R486). -/
structure CutLine where
  vol : Nat
  block : Nat
  valid : BitVec 16
  data : Sparse Sector
deriving DecidableEq, Repr

/-- What the preserved dirty index holds of one dirty sector (R433, R437, R485). -/
structure DirtyMark where
  staged : Bool := false
  /-- Commit sequence of the oldest write of the sector that is not on the medium. -/
  seq : Nat := 0
  /-- Commit sequence of the oldest write since the hand-over, when there was one. -/
  seq2 : Nat := 0
  /-- Handed over to destage, and rewritten since. -/
  handed : Bool := false
  rewritten : Bool := false
  /-- The sector, when it lies in write staging. -/
  sector : Option Sector := none
deriving DecidableEq, Repr

/-- The buffer cache, write staging and the preserved dirty index (R476 to R495). -/
structure Bca where
  enabled : Bool := true
  rekeyBusy : Bool := false
  rekeyCmd : Option Nat := none
  staleResumed : Bool := false
  key0 : BitVec 64 := 0
  key1 : BitVec 64 := 0
  /-- Line frames by set × 16 + way. -/
  lines : Sparse Line := []
  cut : List CutLine := []
  lruClock : Nat := 0
  /-- Dirty sectors by volume × 2³³ + LBA. -/
  index : Sparse DirtyMark := []
  /-- Staging room held by grants (R484). -/
  stagedHeld : Nat := 0
  /-- Sectors of budget held by grants before their commit (R437). -/
  budgetHeld : Nat := 0
  bypass : Nat := 0
  conflicts : Sparse Nat := []
  hotRun : Sparse Nat := []
  hot : BitVec 64 := 0
  /-- The module's commit sequence (R438). -/
  commitSeq : Nat := 0
  /-- Writes waiting at step 4 of R24, first in first out. -/
  budget : List Nat := []
deriving DecidableEq, Repr

/-- A vault image (R500). -/
structure Image where
  seq : Nat := 0
  time : OpTime := {}
  dirty : Nat := 0
  goodMask : BitVec 8 := 0
  /-- SERIAL of the HDA accepted at each MU's port, by MU; empty when none. -/
  serials : Sparse (List Byte) := []
  /-- The manifest with the dumped sectors in its order: key and sector. -/
  sectors : List (Nat × Sector) := []
  /-- Keys of the sectors that lay in conventional zones, which return to write staging. -/
  conv : List Nat := []
  /-- Zone records whose state differs from the journal, and deferred-error records, by MU × 2¹⁷ + zone. -/
  zones : Sparse Zone := []
  headerGood : Bool := false
  metaGood : Bool := false
  sealGood : Bool := false
  replayed : Bool := false
deriving DecidableEq, Repr

/-- One area of the vault (R497, R498). -/
structure Area where
  /-- Blocks erased and good, blocks retired, of 8 × 1,024. -/
  erased : Nat := 0
  retired : Nat := 0
  image : Option Image := none
deriving DecidableEq, Repr

/-- The spore vault controller (R496 to R505). -/
structure Vlt where
  nextArea : Nat := 0
  /-- The area under an erase pass, and that the other area is to follow. -/
  erasing : Option Nat := none
  eraseOther : Bool := false
  /-- Blocks retired by each channel in the present erase pass. -/
  passRetired : Sparse Nat := []
  goodCh : BitVec 8 := 0
  capTerm : Nat := 0
  rateTerm : Nat := 0
  bound : Nat := 0
  seq : Nat := 0
  result : Nat := 0
  sealed : Bool := false
  lost : Nat := 0
  /-- A dump is in progress; it writes no image under R606, or a dump-skipped record under R617. -/
  dumping : Bool := false
  /-- The area selected for replay, and that the replay runs (R502, R605). -/
  selected : Option Nat := none
  replaying : Bool := false
  /-- VLT is released from reset (R441). -/
  released : Bool := false
deriving DecidableEq, Repr

/-! ## Security (15_security.md) -/

/-- A slate entry or late entry (R517). -/
structure SlateEntry where
  comp : Nat := 0
  flags : BitVec 16 := 0
  version : Nat := 0
  digest : BitVec 256 := 0
deriving DecidableEq, Repr

/-- A slate (R516). -/
structure Slate where
  number : Nat := 0
  cause : Nat := 0
  flags : BitVec 8 := 0
  pcc : Nat := 0
  oph : Nat := 0
  ops : Nat := 0
  entries : List SlateEntry := []
  svn : Nat := 0
  missed : Nat := 0
  /-- The random draw of the signature (R509). -/
  sig : Nat := 0
  exported : Bool := false
deriving DecidableEq, Repr

/-- State of a firmware slot (R528). -/
inductive SlotState where
  | empty | valid | rolledBack | writing
deriving DecidableEq, Repr

/-- A firmware slot's record (R528), with what the image says of itself. -/
structure FwSlot where
  st : SlotState := .empty
  version : Nat := 0
  svn : Nat := 0
  keyId : Nat := 1
  revoke : BitVec 4 := 0
  /-- SM3 of header and manifest, and the components as their slate entries (R517). -/
  manifest : BitVec 256 := 0
  comps : List SlateEntry := []
deriving DecidableEq, Repr

/-- State of a key domain (R533). -/
inductive KdState where
  | empty | active | locked | erased
deriving DecidableEq, Repr

/-- A key domain's record (R533, R539): its state, the write sequence, the number of its key and whether each copy checks. -/
structure Kd where
  st : KdState := .empty
  seq : Nat := 0
  key : Nat := 0
  good0 : Bool := true
  good1 : Bool := true
deriving DecidableEq, Repr

/-- The security engine outside NOR (R512 to R539). -/
structure Sec where
  /-- Slot running, and that this boot used the other slot. -/
  slot : Nat := 0
  fallback : Bool := false
  /-- Entries of this boot measured so far, stage by stage (R514). -/
  entries : List SlateEntry := []
  /-- The present boot's slate once signed. -/
  slate : Option Slate := none
  /-- Key RAM: the key domains whose key it holds. -/
  keyRam : List Nat := []
  /-- Key domains that a LOCK, or an ERASE where the flag is set, has marked in the check table and that wait for the SEC passes (R536). -/
  keyMarks : List (Nat × Bool) := []
  /-- Firmware staging area (R415): parts by offset. -/
  staging : List (Nat × List Byte) := []
  /-- Words of the staged image whose POISON bit is set, by number (R463). -/
  stagingMarks : List Nat := []
  /-- SPDM connection over MCTP (R347). -/
  spdmMctp : Spdm := {}
deriving DecidableEq, Repr

/-! ## Microcode stores (08_track_sequencer.md) -/

/-- A replacement of the customer region that waits for its installation (R314). -/
structure SwapImage where
  /-- The command; none for the vendor image of an activation. -/
  cmd : Option Nat := none
  region : Nat := 2
  version : Nat := 0
  hooks : BitVec 4 := 0
  mbase : Nat := 0
  micro : List Word := []
  nbase : Nat := 0
  nano : List (BitVec 192) := []
  /-- CLEAR: the region becomes the fill words. -/
  clear : Bool := false
deriving DecidableEq, Repr

/-- A message of the TSQ message queue (R310, R409). -/
structure TsqMsg where
  value : Word
  mu : Nat
  oph : Nat
  ops : Nat
deriving DecidableEq, Repr

/-- The store domain, whose sixteen copies are alike, and the module-wide sequencer state (R303 to R316). -/
structure Store where
  service : Bool := false
  /-- Microwords 0x800 to 0xFFF and nanowords 0x400 to 0x7FF; unlisted words are the fill words of R313. -/
  micro : Sparse Word := []
  nano : Sparse (BitVec 192) := []
  patch : Sparse Word := []
  matchRegs : Sparse Word := []
  vendorLoaded : Bool := false
  vendorVer : Nat := 0
  custLoaded : Bool := false
  custVer : Nat := 0
  custHooks : BitVec 4 := 0
  bind0 : BitVec 32 := 0
  bind1 : BitVec 32 := 0
  bind2 : BitVec 32 := 0
  bind3 : BitVec 32 := 0
  swap : Option SwapImage := none
  /-- A vendor image of an activation that waits behind the replacement under way. -/
  swapNext : Option SwapImage := none
  msgs : List TsqMsg := []
deriving DecidableEq, Repr

/-- The decoder pool (R196, R197, R212). -/
structure Ldp where
  held : Sparse Nat := []
  /-- Attempts waiting, oldest first: the MU and the sector. -/
  waiting : List (Nat × Nat) := []
  last : Nat := 31
deriving DecidableEq, Repr

/-! ## Start and what lasts without power -/

/-- The steps of a start (R603, R612). -/
inductive StartPhase where
  /-- Unpowered, or waiting for mains. -/
  | off
  /-- A module reset or a restart after a thermal shutdown or a dump holds the module. -/
  | inReset
  /-- Power-on reset released: stage 0 runs. -/
  | stage0
  /-- Neither slot passes: the module stays in stage 0 (R514). -/
  | stuck
  | fiddlehead
  | stage2
  /-- Step 9 is complete. -/
  | tables
  /-- Replay has ended or there was none: MGT is in service mode. -/
  | service
  | ready
deriving DecidableEq, Repr

/-- The start in progress (R603 to R619). -/
structure Start where
  phase : StartPhase := .off
  /-- Slate CAUSE: 0 power-on, 1 module reset, 2 restart after thermal shutdown. -/
  cause : Nat := 0
  /-- A module reset is in progress in the sense of R551. -/
  resetting : Bool := false
  /-- MRST_N is low. -/
  mrstLow : Bool := false
  /-- The fill to run is cold (R468, R619), and a MODULE_RESET reaction of a replay. -/
  cold : Bool := true
  /-- A dump has ended with a feed present: the restart of R615 is due. -/
  dumpRestart : Bool := false
deriving DecidableEq, Repr

/-- A record of a skipped dump (R617). -/
structure DumpSkipped where
  dirty : Nat
  time : OpTime
deriving DecidableEq, Repr

/-- Contents of NOR and of SEC's fuses, which last without power. DESIGN CHOICE, log entry 100. -/
structure Nor where
  ctr : Sparse Ctr := []
  time : OpTime := {}
  /-- Stored features by FID × 65,536 + index (R406). -/
  feat : Sparse (Word × Word × Word × Word) := []
  masks : Sparse (BitVec 5) := []
  hold : Bool := false
  trips : List Trip := []
  tripNo : Nat := 0
  /-- MAX_LIFE by sensor. -/
  maxLife : Sparse Int := []
  capMF : Nat := 3000
  esrMO : Nat := 0
  /-- SERIAL last accepted at each port (R133). -/
  serials : Sparse (List Byte) := []
  /-- Volume owners and the mode the record was written in (R343). -/
  owners : Sparse (Option Nat) := []
  ownersDual : Bool := false
  cal : List CalRecord := []
  bootCount : Nat := 0
  bootSat : Bool := false
  slates : List Slate := []
  late : List SlateEntry := []
  /-- Custodian keys by slot, and maker keys with their KEY_ID. -/
  custodians : Sparse (List Byte) := []
  makers : List (Nat × List Byte) := []
  slotA : FwSlot := { st := .valid, version := 1 }
  slotB : FwSlot := {}
  active : Nat := 0
  pendingSlot : Option Nat := none
  svnMin : Nat := 0
  revoked : BitVec 4 := 0
  kds : Sparse Kd := []
  ringH : Ring := { segs := [{ no := 0 }], erased := (List.range 223).map (· + 1) }
  ringL : Ring := { segs := [{ no := 224 }], erased := (List.range 31).map (· + 225) }
  windex : Nat := 0
  dumpSkipped : Option DumpSkipped := none
  areaA : Area := {}
  areaB : Area := {}
deriving DecidableEq, Repr

/-! ## The whole module -/

/-- The module (R1, R19). Parts are held by index in stores whose unlisted entries stand at their reset value. -/
structure State where
  /-- Commands that wait, first in, first out. -/
  pending : List Instr := []
  /-- The model's own: index of the next free value (log entry 3). -/
  free : Nat := 0
  /-- What has left the module, newest first. -/
  out : List Output := []
  nor : Nor := {}
  /-- The counter store, by BAR0 offset (endpoint 1's own counters at 0x0400_0000 above). -/
  ctr : Sparse Ctr := []
  time : OpTime := {}
  flt : Flt := {}
  log : LogFe := {}
  thp : Thp := {}
  pwr : Pwr := {}
  mns : Mns := {}
  cal : Cal := {}
  start : Start := {}
  hdas : Sparse Hda := []
  mus : Sparse Mu := []
  store : Store := {}
  ldp : Ldp := {}
  eps : Sparse Endpoint := []
  /-- Link mode in force is DUAL_X8 (R318, R319). -/
  dual : Bool := false
  /-- Features in force by FID × 65,536 + index; an unlisted feature has its factory value (R406, R407). -/
  feat : Sparse (Word × Word × Word × Word) := []
  /-- Owners that differ from the default of the link mode in force (R342, R343). -/
  owners : Sparse (Option Nat) := []
  mctpEid : Nat := 0
  /-- SMB_ALERT_N is driven low (R349). -/
  alert : Bool := false
  /-- Task ports by module port number (R351). -/
  ports : Sparse Port := []
  tags : Sparse TagRec := []
  /-- Completion queues by module queue number (R365). -/
  cqs : Sparse Cq := []
  /-- Accepted commands by tag (R356). -/
  cmds : Sparse Cmd := []
  /-- Acceptance number of the next command (R427). -/
  accept : Nat := 0
  mgt : Mgt := {}
  buf : Buf := {}
  bca : Bca := {}
  vlt : Vlt := {}
  sec : Sec := {}
deriving DecidableEq, Repr

/-- Why the machine could stop with a fault. No meaning of this model raises one (NOTES.md, Stops). -/
inductive Fault where
  /-- Raised by nothing: every command of the table has an effect or, out of its condition, none. Safe. -/
  | unreached
deriving DecidableEq, Repr

/-- Why a command could be refused. -/
inductive Refusal where
  /-- A command whose meaning is still to be written; raised by its arm of `exec` alone. Safe. -/
  | notModelled (mnemonic : String)
deriving DecidableEq, Repr

/-- The outcome of one command. -/
abbrev Out := Host.Outcome State Fault Refusal

/-- The module as it left manufacture, without mains and just before its first POWER_ON (R603):
key domain 0 holds the key made at manufacture (R533), slot A holds the module's firmware (R528),
and nothing is powered. Values the spec does not give are those of log entry 4. DESIGN CHOICE, log entry 21. -/
def State.reset : State := { nor := { kds := [(0, { st := .active, key := 1 })] } }

end Sys2Proof.Machine
end

