-- ==== Sys2Proof/Machine/Operands.lean ====
section
/-! DEFINITION. Bytes, fields, checks and the operand forms of packets: how the module reads what it is given. -/

namespace Sys2Proof.Machine

/-- Bits `hi` to `lo` of a number. -/
def bits (n hi lo : Nat) : Nat := (n / 2 ^ lo) % 2 ^ (hi + 1 - lo)

/-- Bit `i` of a number as a truth value. -/
def bit (n i : Nat) : Bool := (n / 2 ^ i) % 2 == 1

/-- 1 for true. -/
def flag (b : Bool) : Nat := if b then 1 else 0

/-- The two's complement image of an integer in `w` bits. -/
def toTwos (w : Nat) (x : Int) : Nat := (x % (2 ^ w : Nat)).toNat

/-- The integer that `w` bits mean as two's complement. -/
def ofTwos (w n : Nat) : Int :=
  let m := n % 2 ^ w
  if m < 2 ^ (w - 1) then (m : Int) else (m : Int) - (2 ^ w : Nat)

/-- The value limited to an interval. -/
def clampI (lo hi x : Int) : Int := if x < lo then lo else if hi < x then hi else x

/-- Division rounded half away from zero. -/
def roundHalfAway (n : Int) (d : Nat) : Int :=
  let m : Int := ((n.natAbs * 2 + d) / (2 * d) : Nat)
  if n < 0 then -m else m

/-- Addition that stops at `top`. -/
def addSat (top a b : Nat) : Nat := if top < a + b then top else a + b

/-- A little-endian number of the bytes (R3). -/
def leNat : List Byte → Nat
  | [] => 0
  | b :: r => b.toNat + 256 * leNat r

/-- `k` bytes of a number, little-endian (R3). -/
def leBytes (k n : Nat) : List Byte :=
  match k with
  | 0 => []
  | k + 1 => BitVec.ofNat 8 n :: leBytes k (n / 256)

/-- The number in `len` bytes at offset `ofs`. -/
def field (bs : List Byte) (ofs len : Nat) : Nat := leNat ((bs.drop ofs).take len)

/-- The list cut or padded with zero bytes to `n`. -/
def padTo (n : Nat) (bs : List Byte) : List Byte := bs.take n ++ List.replicate (n - bs.length) 0

/-- One bit of the reflected Castagnoli division. -/
def crcBit (c : BitVec 32) : BitVec 32 :=
  if c.getLsbD 0 then (c >>> 1) ^^^ 0x82F63B78#32 else c >>> 1

/-- One byte of the reflected Castagnoli division. -/
def crcByte (c : BitVec 32) (b : Byte) : BitVec 32 :=
  let x := c ^^^ b.setWidth 32
  crcBit (crcBit (crcBit (crcBit (crcBit (crcBit (crcBit (crcBit x)))))))

/-- CRC-32C of a byte string (R357). -/
def crc32c (bs : List Byte) : BitVec 32 := (bs.foldl crcByte 0xFFFFFFFF#32) ^^^ 0xFFFFFFFF#32

/-- The packet fields of the 64 bytes of a TASK write (R356). -/
def parsePacket (bs : List Byte) : Packet :=
  let meta8 := field bs 1 1
  { opc := field bs 0 1, flg := BitVec.ofNat 8 meta8, tag := bits (field bs 2 2) 13 0, vol := field bs 4 2
    cqid := bits (field bs 6 2) 7 0, slba := field bs 8 8, nsec := field bs 16 4
    p0 := BitVec.ofNat 32 (field bs 20 4), dptr := field bs 24 8, mptr := field bs 32 8
    p2 := BitVec.ofNat 32 (field bs 40 4), p3 := BitVec.ofNat 32 (field bs 44 4)
    p4 := BitVec.ofNat 32 (field bs 48 4), p5 := BitVec.ofNat 32 (field bs 52 4), raw := bs.take 60 }

/-- BARRIER, FUA, SGL and META of FLG, and RLVL (R356). -/
def Packet.barrier (p : Packet) : Bool := p.flg.getLsbD 0
/-- FUA of FLG. -/
def Packet.fua (p : Packet) : Bool := p.flg.getLsbD 1
/-- SGL of FLG. -/
def Packet.sgl (p : Packet) : Bool := p.flg.getLsbD 2
/-- META of FLG. -/
def Packet.hasMeta (p : Packet) : Bool := p.flg.getLsbD 3
/-- RLVL of FLG. -/
def Packet.rlvl (p : Packet) : Nat := p.flg.toNat / 16
/-- The number of sectors, 1 to 65,536: the stored field plus one (R356). -/
def Packet.count (p : Packet) : Nat := p.nsec + 1
/-- The sub-operation, PARAM0[7:0]. -/
def Packet.sub (p : Packet) : Nat := bits p.p0.toNat 7 0

end Sys2Proof.Machine
end

