-- ==== Sys2Proof/Machine/Ops.lean ====
section
/-! DEFINITION. The named operations over the state: access to the indexed parts, counters, events, log records,
features, notices and completions. Every meaning is written over these. -/

namespace Sys2Proof.Machine

/-! ### Access to the indexed parts -/

/-- The HDA `h`. -/
def State.hda (s : State) (h : Nat) : Hda := sget s.hdas h {}
/-- `s` with `f` applied to HDA `h`. -/
def State.updHda (s : State) (h : Nat) (f : Hda → Hda) : State := { s with hdas := supd s.hdas h {} f }
/-- The media unit `m`. -/
def State.mu (s : State) (m : Nat) : Mu := sget s.mus m {}
/-- `s` with `f` applied to MU `m`. -/
def State.updMu (s : State) (m : Nat) (f : Mu → Mu) : State := { s with mus := supd s.mus m {} f }
/-- The endpoint `e`. -/
def State.ep (s : State) (e : Nat) : Endpoint := sget s.eps e {}
/-- `s` with `f` applied to endpoint `e`. -/
def State.updEp (s : State) (e : Nat) (f : Endpoint → Endpoint) : State := { s with eps := supd s.eps e {} f }
/-- The command of tag `t`; its phase is meaningful only while the tag is ACCEPTED. -/
def State.cmd (s : State) (t : Nat) : Cmd := sget s.cmds t {}
/-- `s` with `f` applied to the command of tag `t`. -/
def State.updCmd (s : State) (t : Nat) (f : Cmd → Cmd) : State := { s with cmds := supd s.cmds t {} f }
/-- The record of tag `t` (R352). -/
def State.tag (s : State) (t : Nat) : TagRec := sget s.tags t {}
/-- `s` with tag `t` at `r`. -/
def State.setTag (s : State) (t : Nat) (r : TagRec) : State := { s with tags := sset s.tags t r {} }
/-- The module completion queue `q` (R365). -/
def State.cq (s : State) (q : Nat) : Cq := sget s.cqs q {}
/-- `s` with `f` applied to the module completion queue `q`. -/
def State.updCq (s : State) (q : Nat) (f : Cq → Cq) : State := { s with cqs := supd s.cqs q {} f }

/-- Task ports and completion queues of one endpoint in the link mode in force (R318). -/
def State.portsPerEp (s : State) : Nat := if s.dual then 128 else 256
/-- MSI-X table size (R328). -/
def State.vectors (s : State) : Nat := if s.dual then 256 else 512
/-- Whether endpoint `e` is presented in the link mode in force (R318). -/
def State.epUsed (s : State) (e : Nat) : Bool := e == 0 || (e == 1 && s.dual)
/-- Module number of an endpoint's local task port or completion queue (R318). -/
def moduleNo (e n : Nat) : Nat := e * 128 + n

/-- A module port at reset: 64 tags at 64 × its number, PORT_CQ the local number mod 128 (R351). -/
def portReset (m : Nat) : Port :=
  { free := (List.range 64).map (· + 64 * m), base := 64 * m, stagedBase := 64 * m, count := 64, cq := m % 128 }
/-- The module port `m`. -/
def State.port (s : State) (m : Nat) : Port := sget s.ports m (portReset m)
/-- `s` with `f` applied to module port `m`. -/
def State.updPort (s : State) (m : Nat) (f : Port → Port) : State := { s with ports := supd s.ports m (portReset m) f }

/-- The zone `z` of volume `v` (R430). -/
def State.zone (s : State) (v z : Nat) : Zone := sget (s.mu v).zones z {}
/-- `s` with `f` applied to zone `z` of volume `v`. -/
def State.updZone (s : State) (v z : Nat) (f : Zone → Zone) : State :=
  s.updMu v fun m => { m with zones := supd m.zones z {} f }

/-- The next free value, and the state that has used it (log entry 3). -/
def State.draw (s : State) : Nat × State := (Config.free s.free, { s with free := s.free + 1 })

/-- `s` with `o` recorded as having left the module. DESIGN CHOICE, log entry 85. -/
def State.emit (s : State) (o : Output) : State := { s with out := o :: s.out }

/-! ### Kinds of events (R545) -/

/-- Severity and SAFETY of kind `k` of subsystem `sub` with ADDR `a`; none where the table lists no such kind. -/
def kindOf (sub k a : Nat) : Option (Nat × Bool) :=
  if k == 0x3B then some (3, false)
  else if k == 0x3C then some (2, false)
  else if k == 0x3D then some (0, false)
  else if k == 0x3E then some (2, false)
  else if k == 0x3F then some (1, false)
  else match sub with
  | 1 => if k ≤ 26 then some (2, false) else if 0x20 ≤ k && k ≤ 0x2F then some (0, false)
         else if k == 0x30 || k == 0x31 then some (1, false) else if k == 0x32 || k == 0x33 then some (2, false) else none
  | 2 => if k == 1 then some (1, false) else none
  | 3 => if k == 1 then some (1, false) else if k == 2 then some (2, false) else none
  | 5 => if k == 1 then some (0, false) else if k == 3 then some (3, false)
         else if k == 2 || k == 4 || k == 5 then some (2, false) else none
  | 6 => if k == 1 then some (1, false) else none
  | 7 => if k == 1 then some (2, true) else if k == 2 then some (1, false) else if k == 4 then some (3, false)
         else if k == 3 || k == 5 then some (2, false) else none
  | 8 => if k == 4 then some (0, false) else if 1 ≤ k && k ≤ 3 then some (2, false) else none
  | 9 => if k == 1 || k == 2 then some (2, false) else none
  | 11 => if k == 4 then some (2, !bit a 16) else if k == 5 || k == 9 then some (2, false)
          else if k == 0x0A then some (1, false) else if k == 0x0B then some (3, false)
          else if 1 ≤ k && k ≤ 8 then some (2, true) else none
  | 12 => if k == 1 || k == 3 then some (3, false) else if k == 2 then some (3, true)
          else if k == 7 || k == 0x0A then some (1, false) else if 4 ≤ k && k ≤ 9 then some (2, false) else none
  | 13 => if k == 1 then some (2, true) else if k == 2 then some (2, false) else if k == 3 then some (0, false) else none
  | 14 => if k == 1 then some (1, false) else if k == 2 then some (3, false) else none
  | 15 => if k == 4 || k == 7 then some (3, false) else if k == 6 then some (1, false)
          else if 1 ≤ k && k ≤ 5 then some (2, false) else none
  | 16 => if k == 1 || k == 2 then some (2, false) else none
  | 17 => if k == 1 then some (2, false) else none
  | 18 => if k == 1 || k == 0x0C then some (0, false) else if k == 2 || k == 4 || k == 6 || k == 9 then some (1, false)
          else if k == 0x0B then some (3, true) else if 1 ≤ k && k ≤ 0x0A then some (2, false) else none
  | 19 => if k == 1 || k == 2 then some (2, false) else if k == 3 then some (0, false) else none
  | 20 => if k == 2 then some (1, false) else if k == 3 || k == 6 then some (3, false) else if k == 4 then some (0, false)
          else if k == 1 || k == 5 then some (2, false) else none
  | _ => none

/-- Instances of a subsystem (R19). -/
def instancesOf (sub : Nat) : Nat :=
  if sub == 4 || sub == 8 || sub == 9 || sub == 11 then 32
  else if sub == 12 || sub == 13 then 16 else if 1 ≤ sub && sub ≤ 20 then 1 else 0

/-- A fault message (R543). -/
def mkMsg (sub inst k a : Nat) : BitVec 64 :=
  let (sev, saf) := (kindOf sub k a).getD (0, false)
  BitVec.ofNat 64 (sub % 32 * 2 ^ 59 + inst % 64 * 2 ^ 53 + k % 64 * 2 ^ 47 + sev * 2 ^ 45 + flag saf * 2 ^ 44 + a % 2 ^ 40)

/-- SRC of a message (R543). -/
def msgSrc (m : BitVec 64) : Nat := m.toNat / 2 ^ 53
/-- SUBSYS of a message. -/
def msgSub (m : BitVec 64) : Nat := m.toNat / 2 ^ 59
/-- INST of a message. -/
def msgInst (m : BitVec 64) : Nat := bits m.toNat 58 53
/-- KIND of a message. -/
def msgKind (m : BitVec 64) : Nat := bits m.toNat 52 47
/-- SEV of a message. -/
def msgSev (m : BitVec 64) : Nat := bits m.toNat 46 45
/-- ADDR of a message. -/
def msgAddr (m : BitVec 64) : Nat := m.toNat % 2 ^ 40

/-! ### Counters (R12 to R18) and the event ports (R548) -/

/-- Counter at BAR0 offset `a`. -/
def State.counter (s : State) (a : Nat) : Ctr := sget s.ctr a {}

/-- The counter of `w` bits after an increment by `n`: it saturates at all ones and never wraps (R12, R13). -/
def Ctr.add (w n : Nat) (c : Ctr) : Ctr :=
  if n = 0 then c
  else if c.sat then c
  else if 2 ^ w ≤ c.count + n then { count := 2 ^ w - 1, sat := true }
  else { c with count := c.count + n }

/-- The message at the end of the source's event buffer. -/
def State.offerRaw (s : State) (e : Ev) : State := { s with flt := { s.flt with offered := s.flt.offered ++ [e] } }

/-- The increment without the event that a saturation raises. -/
def State.bumpRaw (s : State) (a w n : Nat) : State := { s with ctr := supd s.ctr a {} (Ctr.add w n) }

/-- Whether the increment saturates the counter. -/
def State.saturates (s : State) (a w n : Nat) : Bool := !(s.counter a).sat && (Ctr.add w n (s.counter a)).sat

/-- FLT_BACKPRESSURE_CNT. -/
def aBackpressure : Nat := 0x01110008

/-- An occurrence that finds the source's buffer of eight full counts once (R548). DESIGN CHOICE, log entry 15. -/
def State.pressure (s : State) : State :=
  let t := s.bumpRaw aBackpressure 31 1
  if s.saturates aBackpressure 31 1 then t.offerRaw { msg := mkMsg 17 0 0x3F aBackpressure } else t

/-- Messages of a source that FLT has not accepted. DESIGN CHOICE, log entry 15. -/
def State.waitingOf (s : State) (src : Nat) : Nat := (s.flt.offered.filter (fun e => msgSrc e.msg == src)).length

/-- A message offered at its source's port (R548). DESIGN CHOICE, log entry 15. -/
def State.offer (s : State) (e : Ev) : State :=
  (if 8 ≤ s.waitingOf (msgSrc e.msg) then s.pressure else s).offerRaw e

/-- The source whose full buffer of eight holds the step from `s` to `t`: `t` offers a further message of it (R548). -/
def State.heldBy (s t : State) : Option Nat :=
  (t.flt.offered.map fun e => msgSrc e.msg).find? fun src => decide (8 ≤ s.waitingOf src) && decide (s.waitingOf src < t.waitingOf src)

/-- Every source that has offered a message has room for another (R548). -/
def State.eventRoom (s : State) : Bool := s.flt.offered.all fun e => decide (s.waitingOf (msgSrc e.msg) < 8)

/-- The step from `s` to `t`, or the hold of R548: a source whose buffer is full holds the operation that detected the occurrence, which is
counted once however long the hold lasts (R51, R548). DESIGN CHOICE, log entry 15. -/
def State.hold (s t : State) : State :=
  match s.heldBy t with
  | none => t
  | some src =>
    if s.flt.holding.contains src then s
    else { s.pressure with flt := { s.pressure.flt with holding := src :: s.flt.holding } }

/-- The effect of a command whose condition may not hold: without it the step does not take place (log entry 1). A full event buffer holds it. -/
def guarded (c : Bool) (s t : State) : Out := .next (if c then s.hold t else s)

/-- The effect of a protective stop, of a pin or of the collector itself, which waits on no event buffer (R548). DESIGN CHOICE, log entry 15. -/
def unheld (c : Bool) (s t : State) : Out := .next (if c then t else s)

/-- The step from `s` to `t` offers the event of a protective stop, which has SAFETY set (R46, R543). DESIGN CHOICE, log entry 15. -/
def State.stopsIn (s t : State) : Bool := (t.flt.offered.drop s.flt.offered.length).any fun e => e.msg.getLsbD 44

/-- The effect of a detection: where it is a protective stop it acts at once, and otherwise a full event buffer holds it (R548). DESIGN CHOICE, log entry 15. -/
def detected (c stop : Bool) (s t : State) : Out := .next (if c then (if stop then t else s.hold t) else s)

/-- An increment of the counter at `a`, `w` bits wide, owned by instance `inst` of subsystem `sub` (R12, R13). -/
def State.bumpW (s : State) (sub inst a w n : Nat) : State :=
  let t := s.bumpRaw a w n
  if s.saturates a w n then t.offer { msg := mkMsg sub inst 0x3F (a % 0x4000000) } else t

/-- An increment of a counter with COUNT[30:0]. -/
def State.bump (s : State) (sub inst a : Nat) (n : Nat := 1) : State := s.bumpW sub inst a 31 n

/-- One event of kind `k` of instance `inst` of subsystem `sub` with ADDR `a` (R543, R545). -/
def State.raise (s : State) (sub inst k : Nat) (a : Nat := 0) : State := s.offer { msg := mkMsg sub inst k a }

/-- Latent test `t` fails: one LATENT_TEST_FAIL of the tested subsystem, and its bit in FLT_LATENT (R558). -/
def State.latentFail (s : State) (sub inst t part : Nat) : State :=
  { s with flt := { s.flt with latent := s.flt.latent ||| (1#9 <<< (t - 1)) } }.raise sub inst 0x3B (t + part * 256)

/-- Latent test `t` passes: its bit is clear (R558). -/
def State.latentPass (s : State) (t : Nat) : State :=
  { s with flt := { s.flt with latent := s.flt.latent &&& ~~~(1#9 <<< (t - 1)) } }

/-- Address of register `ofs` of a subsystem's diagnostic block (R8). -/
def diag (sub ofs : Nat) : Nat := 0x01000000 + sub * 0x10000 + ofs

/-- Offset of an endpoint's own counter in the counter store. DESIGN CHOICE, log entry 14. -/
def epCtr (e a : Nat) : Nat := e * 0x4000000 + a

/-- Locator of R544. -/
def locator (vol lba : Nat) : Nat := vol * 2 ^ 35 + lba % 2 ^ 33

/-! ### Features (R406, R407) -/

/-- The factory value of a feature. -/
def featDefault (fid : Nat) : Word × Word × Word × Word :=
  match fid with
  | 0x02 => (0x1C200000#32, 0x1C2012C0#32, 0x000F2855#32, 0x00020010#32)
  | 0x03 => (0x00000A31#32, 0x080D041A#32, 0#32, 0#32)
  | 0x04 => (0x00042108#32, 0#32, 0#32, 0#32)
  | 0x05 => (0x00000801#32, 0#32, 0#32, 0#32)
  | 0x06 => (0x1A2E1A03#32, 0#32, 0#32, 0#32)
  | 0x07 => (64#32, 0#32, 0#32, 0#32)
  | 0x08 => (1280#32, 0#32, 0#32, 0#32)
  | 0x09 => (4#32, 0#32, 0#32, 0#32)
  | 0x0B => (1#32, 0#32, 0#32, 0#32)
  | 0x0C => (2#32, 0#32, 0#32, 0#32)
  | 0x0D => (3#32, 3600#32, 0#32, 0#32)
  | 0x0E => (0xFFFF#32, 0#32, 0#32, 0#32)
  | 0x10 => (10000#32, 0#32, 0#32, 0#32)
  | 0x11 => (30#32, 0#32, 0#32, 0#32)
  | _ => (0#32, 0#32, 0#32, 0#32)

/-- Key of a feature in the stores. -/
def featKey (fid idx : Nat) : Nat := fid * 65536 + idx

/-- The value of a feature in force. -/
def State.feature (s : State) (fid : Nat) (idx : Nat := 0) : Word × Word × Word × Word :=
  sget s.feat (featKey fid idx) (featDefault fid)
/-- V0 of a feature in force. -/
def State.feat0 (s : State) (fid : Nat) (idx : Nat := 0) : Nat := (s.feature fid idx).1.toNat
/-- V1 of a feature in force. -/
def State.feat1 (s : State) (fid : Nat) (idx : Nat := 0) : Nat := (s.feature fid idx).2.1.toNat
/-- V2 of a feature in force. -/
def State.feat2 (s : State) (fid : Nat) (idx : Nat := 0) : Nat := (s.feature fid idx).2.2.1.toNat
/-- V3 of a feature in force. -/
def State.feat3 (s : State) (fid : Nat) (idx : Nat := 0) : Nat := (s.feature fid idx).2.2.2.toNat

/-! ### The continuity log's front end (R564) -/

/-- Records in the front-end queue that count (LOG_STAT.QUEUE): reserve slots and boundaries do not. -/
def logCount : List LogItem → Nat
  | [] => 0
  | .record _ :: r => logCount r + 1
  | _ :: r => logCount r

/-- A reserve slot holds a marker of event code `ev`. -/
def reserved (ev : Nat) : List LogItem → Bool
  | [] => false
  | .reserve x :: r => x.event == ev || reserved ev r
  | _ :: r => reserved ev r

/-- LOG_DROP_CNT. -/
def aLogDrop : Nat := 0x01100010

/-- A marker of the log's own (R561), stamped with the present time. -/
def State.marker (s : State) (event sev : Nat) (data : List Byte) : LogRec :=
  { oph := s.time.oph, ops := s.time.ops, pcc := s.time.pcc, sev := sev, event := event, source := 0x400, data := data }

/-- The DROPPED marker that goes ahead of the first record queued after drops (R561, R564). -/
def State.droppedMarker (s : State) : List LogItem :=
  if s.log.pendingDrops = 0 then []
  else [.record (s.marker 0x0431 2 (leBytes 4 s.log.pendingDrops ++ leBytes 1 s.log.dropSev))]

/-- A record for the front-end queue: queued behind a due DROPPED marker, or dropped and counted (R564). DEDUCED, log entry 19. -/
def State.logQueue (s : State) (r : LogRec) : State :=
  if logCount s.log.queue < 255 then
    { s with log := { s.log with queue := s.log.queue ++ s.droppedMarker ++ [.record r], pendingDrops := 0, dropSev := 0 } }
  else
    { s with log := { s.log with pendingDrops := s.log.pendingDrops + 1, dropSev := Nat.max s.log.dropSev r.sev } }.bump 16 0 aLogDrop

/-- A slot stands ready for a CLEARED or FLOOR marker, of which at most one of each stands in the reserve (R564). DEDUCED, log entry 19. -/
def State.canMark (s : State) (ev : Nat) : Bool := logCount s.log.queue < 255 || !reserved ev s.log.queue

/-- A CLEARED or FLOOR marker: in the queue, or in a reserve slot when the queue is full; a DROPPED marker that is due goes ahead of it
while the slot kept for it is free (R561, R564). DEDUCED, log entry 19. -/
def State.logMark (s : State) (r : LogRec) : State :=
  if logCount s.log.queue < 255 then s.logQueue r
  else
    let kept : Bool := logCount s.log.queue < 256
    { s with log := { s.log with queue := s.log.queue ++ (if kept then s.droppedMarker else []) ++ [.reserve r]
                                 pendingDrops := if kept then 0 else s.log.pendingDrops, dropSev := if kept then 0 else s.log.dropSev } }

/-! ### Notices (R383 to R385, R421) -/

/-- A notice for one queue: it waits, or is dropped and counted when 256 wait (R385). -/
def Cq.addNotice (c : Cq) (e : Entry) : Cq :=
  if c.notices.length < 256 then { c with notices := c.notices ++ [e] } else { c with lost := c.lost + 1 }

/-- A notice to every event queue of the list. -/
def State.noticeTo (s : State) (e : Entry) : List Nat → State
  | [] => s
  | q :: r => (s.updCq q (fun c => c.addNotice e)).noticeTo e r

/-- Queues bound to a scope on endpoint `e`. -/
def State.bound (s : State) (e scope : Nat) : List Nat :=
  ((s.ep e).bindings.filter (fun b => b.1 == scope)).map (·.2)

/-- A notice to every event queue bound to `scope` on both endpoints (R383). -/
def State.notice (s : State) (scope code : Nat) (r0 : Nat) (r1 : Nat := 0) (r2 : Nat := 0) (status : Nat := 0)
    (defer : Bool := false) : State :=
  s.noticeTo { tag := code, defer := defer, status := status, state := scope, r0 := r0, r1 := r1, r2 := r2 }
    (s.bound 0 scope ++ s.bound 1 scope)

/-! ### Completions (R352, R371, R379) -/

/-- What a command's completion says. -/
structure Res where
  status : Nat := 0
  state : Nat := 0
  r0 : Nat := 0
  r1 : Nat := 0
  r2 : Nat := 0
  defer : Bool := false
deriving DecidableEq, Repr

/-- A completion with STATE_CONFLICT (R376, R377). -/
def conflict (code : Nat) : Res := { status := 0x0200, state := code }
/-- A completion with INVALID_FIELD at packet byte `ofs` (R361). -/
def badField (ofs : Nat) : Res := { status := 0x0101, r0 := ofs }

/-- The tag is ACCEPTED and its command carries the endpoint's present reset epoch, so its latch can be set (R373, R379). -/
def State.live (s : State) (t : Nat) : Bool :=
  (s.tag t).st == .accepted && (s.cmd t).epoch == (s.ep (s.cmd t).ep).epoch

/-- The completion latch of a tag is set: the tag becomes POSTED, the entry is final and waits for its queue (R38, R352, R379). -/
def State.post (s : State) (t q port : Nat) (r : Res) : State :=
  ((s.setTag t { st := .posted, port := port }).updCq q fun c =>
    { c with waiting := c.waiting ++ [{ tag := t, defer := r.defer, status := r.status, state := r.state
                                        port := port, r0 := r.r0, r1 := r.r1, r2 := r.r2 }] })

/-- An accepted command completes: its latch is set once, and its record is released (R379). -/
def State.complete (s : State) (t : Nat) (r : Res) : State :=
  if s.live t then
    let c := s.cmd t
    { s.post t (moduleNo c.ep c.pkt.cqid) c.port r with cmds := sset s.cmds t {} {} }
  else s

/-- The command of tag `t` stands at phase `p` and can still complete. -/
def State.at_ (s : State) (t : Nat) (p : Phase) : Bool := s.live t && (s.cmd t).phase == p

/-- `s` with the command of tag `t` at phase `p`. -/
def State.setPhase (s : State) (t : Nat) (p : Phase) : State := s.updCmd t fun c => { c with phase := p }

/-! ### Wake sources (R64, R590) -/

/-- The link of a presented endpoint is in L0. -/
def State.linkL0 (s : State) : Bool := (List.range 2).any fun e => s.epUsed e && (s.ep e).linkUp && (s.ep e).pm == 0

/-- WAKE_N is released once the host link is in L0 (R64). DEDUCED, log entry 45. -/
def State.settleWakeN (s : State) : State := { s with mns := { s.mns with wakeN := s.mns.wakeN && !s.linkL0 } }

/-- The module rests in PS4, or is entering it (R590). -/
def Pwr.wakeable (p : Pwr) : Bool := if p.transit then p.target == 4 else p.pstate == 4

/-- Wake source `src` fires in PS4 or during an entry to it: 0 HOST, 1 SMBUS, 2 TIMER. A source not enabled fires nothing. -/
def State.fireWake (s : State) (src : Nat) : State :=
  if bit (s.feat0 0x0D) src && s.pwr.wakeable && !s.pwr.wakeLatched then
    { s with pwr := { s.pwr with wakeLatched := true, wakeSrc := src + 1 }, mns := { s.mns with wakeN := !s.linkL0 } }
  else s

end Sys2Proof.Machine
end

