-- ==== Sys2Proof/Machine/Ports.lean ====
section
/-! DEFINITION. Task ports, tags, completion queues, interrupts and event queues (R351 to R373, R383 to R385). -/

namespace Sys2Proof.Machine

/-- The Noesh protocol is available: GSTAT.READY (R340). -/
def State.ready (s : State) : Bool := s.start.phase == .ready

/-- The steps of an IMMEDIATE activation run (R442). -/
def State.activationRuns (s : State) : Bool := s.mgt.activation.isSome

/-- A firmware activation in IMMEDIATE mode has been accepted and has not finished: it counts from its acceptance (R353, R358, R442). -/
def State.activating (s : State) : Bool :=
  s.activationRuns || s.cmds.any fun c => (s.tag c.1).st == .accepted && c.2.pkt.opc == 0x28 && c.2.pkt.sub == 1

/-- BAR0 of endpoint `e` answers: the endpoint is presented, its link is up and Memory Space Enable is set (R325). -/
def State.barOk (s : State) (e : Nat) : Bool := s.epUsed e && (s.ep e).linkUp && (s.ep e).mse

/-- The effect of a request to BAR0 of endpoint `e`: Unsupported Request while Memory Space Enable is clear (R325). -/
def State.barServed (s : State) (e : Nat) (c : Bool) (t : State) : Out :=
  guarded (s.epUsed e && (s.ep e).linkUp && (c || !(s.ep e).mse)) s (if (s.ep e).mse then t else s.emit (.unsupported e))

/-- HLK may issue requests to host memory through endpoint `e` (R325). -/
def State.hostOk (s : State) (e : Nat) : Bool := s.epUsed e && (s.ep e).linkUp && (s.ep e).bme && !(s.ep e).d3hot

/-- The queue is an enabled DATA queue (R358, R360). -/
def Cq.isData (c : Cq) : Bool := c.enable && !c.event
/-- The queue is an enabled EVENT queue (R383, R421). -/
def Cq.isEvent (c : Cq) : Bool := c.enable && c.event

/-- The queue holds SIZE − 1 entries (R367). -/
def Cq.full (c : Cq) : Bool := (c.tail + 1) % c.size == c.head

/-! ### Claims and allotments -/

/-- The word of PORT_CLAIM when no tag is granted. -/
def claimCode (code : Nat) : Word := BitVec.ofNat 32 (code * 2 ^ 24)

/-- The result a read of PORT_CLAIM returns, and the tag it grants (R353). DEDUCED, log entry 12. -/
def State.claim (s : State) (e m : Nat) : Word × Option Nat :=
  if !s.ready || (s.ep e).crstBusy || s.mns.powerFail then (claimCode 2, none)
  else if s.activating then (claimCode 3, none)
  else match (s.port m).free with
  | [] => (claimCode 1, none)
  | t :: _ => (BitVec.ofNat 32 (2 ^ 31 + t), some t)

/-- The state after a claim: the granted tag leaves the free list and is CLAIMED by the port (R352, R353). -/
def State.grant (s : State) (m : Nat) : Option Nat → State
  | none => s
  | some t => (s.updPort m fun p => { p with free := p.free.drop 1 }).setTag t { st := .claimed, port := m }

/-- A read of PORT_CLAIM (R353). -/
def execPortClaim (ep : EpNo) (port : Nat) (s : State) : Out :=
  s.barServed ep (port < s.portsPerEp) <|
    let m := moduleNo ep port
    let (w, t) := s.claim ep m
    (s.grant m t).emit (.words ep [w])

/-- Tags of a port that are claimed, accepted or posted: PORT_STATUS.BUSY (R351). -/
def State.busy (s : State) (m : Nat) : Nat := (s.tags.filter (fun e => e.2.st != .free && e.2.port == m)).length

/-- Ranges [a, a + m) and [b, b + n) share a tag. -/
def overlap (a m b n : Nat) : Bool := m != 0 && n != 0 && a < b + n && b < a + m

/-- The allotment leaves the endpoint's tag range or overlaps that of another of its ports (R354). -/
def State.allotBad (s : State) (e m base count : Nat) : Bool :=
  (if s.dual then base < 8192 * e || 8192 * e + 8192 < base + count else 16384 < base + count)
  || (List.range s.portsPerEp).any fun p =>
      moduleNo e p != m && overlap base count (s.port (moduleNo e p)).base (s.port (moduleNo e p)).count

/-- A write of `count` to PORT_TAG_COUNT of module port `m` (R354). -/
def State.writeTagCount (s : State) (e m count : Nat) : State :=
  let base := (s.port m).stagedBase
  if s.busy m != 0 || s.allotBad e m base count then s.updPort m fun p => { p with allotErr := true }
  else s.updPort m fun p => { p with free := (List.range count).map (· + base), base := base, count := count }

/-- A write to PORT_TAG_COUNT (R354). -/
def execPortTagCountWrite (ep : EpNo) (port value : Nat) (s : State) : Out :=
  s.barServed ep (port < s.portsPerEp) (s.writeTagCount ep (moduleNo ep port) (bits value 14 0))

/-! ### Completion queue control -/

/-- The enable of a queue with the CTL value written: HEAD, TAIL, PHASE and SEQ start again (R366). DEDUCED, log entry 39. -/
def Cq.enableWith (c : Cq) (ctl : Nat) : Cq :=
  { c with enable := true, event := bit ctl 1, errImm := bit ctl 2, vector := bits ctl 24 16
           head := 0, tail := 0, phase := true, seq := 0, unsent := 0, held := [] }

/-- A write of CQ_CTL that sets ENABLE, with `vectors` the Table Size (R366). -/
def Cq.writeEnable (c : Cq) (vectors ctl : Nat) : Cq :=
  if c.enable then
    { c with errImm := bit ctl 2, cfgErr := c.cfgErr || bit ctl 1 != c.event || bits ctl 24 16 != c.vector }
  else if c.base % 4096 == 0 && 2 ≤ c.size && c.size ≤ 65536 && bits ctl 24 16 < vectors then c.enableWith ctl
  else { c with errImm := bit ctl 2, cfgErr := true }

/-- Some accepted command of the endpoint names the queue (R366). -/
def State.queueNamed (s : State) (e q : Nat) : Bool :=
  s.cmds.any fun c => c.2.ep == e && c.2.pkt.cqid == q && (s.tag c.1).st == .accepted

/-- A write of CQ_CTL that clears ENABLE (R366). A disabled queue loses its bindings (R421). -/
def State.writeDisable (s : State) (e q ctl : Nat) : State :=
  let m := moduleNo e q
  let c := s.cq m
  if !c.enable then
    s.updCq m fun c => { c with event := bit ctl 1, errImm := bit ctl 2, vector := bits ctl 24 16 }
  else if s.queueNamed e q || !c.waiting.isEmpty || !c.notices.isEmpty then
    s.updCq m fun c => { c with errImm := bit ctl 2, disableRefused := true }
  else
    (s.updCq m fun c => { c with enable := false, errImm := bit ctl 2 }).updEp e fun x =>
      { x with bindings := x.bindings.filter (fun b => b.2 != m) }

/-- A write of CQ_CTL (R366). DEDUCED, log entry 39. -/
def State.writeCqCtl (s : State) (e q ctl : Nat) : State :=
  if bit ctl 0 then s.updCq (moduleNo e q) fun c => c.writeEnable s.vectors ctl else s.writeDisable e q ctl

/-- A write that sets ENABLE (R366). -/
def execCqEnable (ep : EpNo) (queue : Nat) (ctl : Word) (s : State) : Out :=
  s.barServed ep (queue < s.portsPerEp && ctl.getLsbD 0) (s.writeCqCtl ep queue ctl.toNat)

/-- A write that clears ENABLE (R366). -/
def execCqDisable (ep : EpNo) (queue : Nat) (ctl : Word) (s : State) : Out :=
  s.barServed ep (queue < s.portsPerEp && !ctl.getLsbD 0) (s.writeCqCtl ep queue ctl.toNat)

/-- The tags of consumed entries return to the tails of their ports' free lists (R353, R368). -/
def State.freeTags (s : State) : List (Option (Nat × Nat)) → State
  | [] => s
  | none :: r => s.freeTags r
  | some (t, m) :: r => ((s.setTag t {}).updPort m fun p => { p with free := p.free ++ [t] }).freeTags r

/-- The distance from `a` to `b` counting modulo `n`. -/
def ringDist (n a b : Nat) : Nat := if n = 0 then 0 else (b + n - a % n) % n

/-- HEAD may move to `v`: it lies between HEAD and TAIL, both inclusive, modulo SIZE (R368). DEDUCED, log entry 92. -/
def Cq.headOk (c : Cq) (v : Nat) : Bool :=
  if c.size = 0 then v == c.head else v < c.size && ringDist c.size c.head v ≤ ringDist c.size c.head c.tail

/-- A write of `v` to HEAD of an endpoint's queue `q` (R368). DEDUCED, log entry 92. -/
def State.writeHead (s : State) (e q v : Nat) : State :=
  let m := moduleNo e q
  let c := s.cq m
  if c.headOk v then
    let n := ringDist c.size c.head v
    (s.updCq m fun c => { c with head := v, held := c.held.drop n }).freeTags (c.held.take n)
  else (s.updCq m fun c => { c with headErr := true }).raise 1 0 0x33 q

/-- A HEAD write (R368). -/
def execCqHeadWrite (ep : EpNo) (queue value : Nat) (s : State) : Out :=
  s.barServed ep (queue < s.portsPerEp) (s.writeHead ep queue (bits value 15 0))

/-! ### Interrupts (R328, R369, R370) -/

/-- Entry `v` of the MSI-X table of an endpoint. -/
def Endpoint.vec (x : Endpoint) (v : Nat) : Msix := sget x.msix v {}

/-- INT_MSG_CNT of vector `v`. -/
def aIntMsg (v : Nat) : Nat := 0x00010200 + v * 4

/-- An MSI-X message leaves and is counted (R370). -/
def State.msixOut (s : State) (e v : Nat) : State := (s.emit (.msix e v)).bump 1 0 (epCtr e (aIntMsg v))

/-- A message due on vector `v`: sent, or pending while masked (R328). DEDUCED, log entry 39. -/
def State.msixDue (s : State) (e v : Nat) : State :=
  if (s.ep e).funcMask || ((s.ep e).vec v).mask then s.updEp e fun x => { x with msixPend := sset x.msixPend v true false }
  else s.msixOut e v

/-- Pending messages whose mask is clear are sent once (R328). -/
def State.msixFlush (s : State) (e : Nat) : List Nat → State
  | [] => s
  | v :: r =>
    (if (s.ep e).funcMask || ((s.ep e).vec v).mask then s
     else (s.updEp e fun x => { x with msixPend := sset x.msixPend v false false }).msixOut e v).msixFlush e r

/-- Pending vectors of an endpoint, sent where the masks and Bus Master Enable allow (R325, R328). -/
def State.msixRelease (s : State) (e : Nat) : State :=
  if s.hostOk e then s.msixFlush e ((s.ep e).msixPend.map (·.1)) else s

/-- Coalescing is in force for a queue of endpoint `e` (R369, R370). DEDUCED, log entry 84. -/
def State.coalesces (s : State) (e : Nat) (c : Cq) : Bool := 2 ≤ c.coalCount && 1 ≤ c.coalTime && !(s.ep e).coalOff

/-- The interrupt rule after an entry has been posted (R369). -/
def State.afterPost (s : State) (e m : Nat) (imm : Bool) : State :=
  let c := s.cq m
  if !s.coalesces e c || (imm && c.errImm) || c.coalCount ≤ c.unsent + 1 then
    (s.updCq m fun c => { c with unsent := 0 }).msixDue e c.vector
  else s.updCq m fun c => { c with unsent := c.unsent + 1 }

/-- The entry at TAIL: TAIL advances modulo SIZE and PHASE inverts at each return to 0 (R367). -/
def Cq.advance (c : Cq) (h : Option (Nat × Nat)) : Cq :=
  let t := (c.tail + 1) % c.size
  { c with tail := t, phase := if t = 0 then !c.phase else c.phase, seq := (c.seq + 1) % 65536, held := c.held ++ [h] }

/-- The 32 bytes of an entry with its PHASE and SEQ (R3, R371). -/
def Entry.bytes (x : Entry) (phase : Bool) (seq : Nat) : List Byte :=
  leBytes 2 (x.tag % 16384 + flag x.defer * 16384 + flag phase * 32768) ++ leBytes 2 x.status ++ leBytes 2 x.state ++ leBytes 1 x.port ++ leBytes 1 0
    ++ leBytes 8 x.r0 ++ leBytes 8 x.r1 ++ leBytes 4 x.r2 ++ leBytes 2 seq ++ leBytes 2 0

/-- The entry at TAIL leaves as bytes for BASE + TAIL × 32 (R367). -/
def Cq.entryOut (c : Cq) (m : Nat) (x : Entry) : Output := .entry m (c.base + c.tail * 32) (x.bytes c.phase c.seq)

/-- One entry written to host memory by a posted write (R367), with the interrupt that follows (R369). -/
def State.writeEntry (s : State) (e m : Nat) (x : Entry) (h : Option (Nat × Nat)) : State :=
  let c := s.cq m
  ((s.emit (c.entryOut m x)).updCq m fun c => c.advance h).afterPost e m (0x0200 ≤ x.status || x.defer)

/-- The entry of a completion as the host sees it: PORT is endpoint-local (R371). DESIGN CHOICE, log entry 85. -/
def Entry.outward (x : Entry) (e : Nat) : Entry := { x with port := x.port - e * 128 }

/-- A final completion is written to its queue once there is room (R367). -/
def execCqPost (ep : EpNo) (queue : Nat) (s : State) : Out :=
  let m := moduleNo ep queue
  let c := s.cq m
  match c.waiting with
  | [] => .next s
  | x :: r =>
    guarded (s.hostOk ep && queue < s.portsPerEp && c.isData && !c.full) s <|
      (s.updCq m fun c => { c with waiting := r }).writeEntry ep m (x.outward ep) (some (x.tag, x.port))

/-- The coalescing time of a queue expires (R369). -/
def execCoalesceTimer (ep : EpNo) (queue : Nat) (s : State) : Out :=
  let m := moduleNo ep queue
  let c := s.cq m
  guarded (s.hostOk ep && queue < s.portsPerEp && c.enable && c.unsent != 0 && s.coalesces ep c) s
    ((s.updCq m fun c => { c with unsent := 0 }).msixDue ep c.vector)

/-- The oldest notice of an event queue is posted, a NOTICES_LOST entry ahead of it when notices were dropped (R383, R385). -/
def execEventNoticePost (ep : EpNo) (queue : Nat) (s : State) : Out :=
  let m := moduleNo ep queue
  let c := s.cq m
  let ok := s.hostOk ep && queue < s.portsPerEp && c.isEvent && !c.full
  if c.lost != 0 then
    guarded ok s ((s.updCq m fun c => { c with lost := 0 }).writeEntry ep m { tag := 3, state := 0xFFFF, r0 := c.lost } none)
  else match c.notices with
  | [] => .next s
  | x :: r => guarded ok s ((s.updCq m fun c => { c with notices := r }).writeEntry ep m x none)

end Sys2Proof.Machine
end

