-- ==== Sys2Proof/Machine/Flags.lean ====
section
/-! DEFINITION. The conditions that the checks of commands read off the state: zones and their places, contexts,
the state of media units and HDAs, power states, dirty limits, and the state codes of R378. -/

namespace Sys2Proof.Machine

/-! ### Zones (R165, R168, R170, R430) -/

/-- The zone map entry of zone `z` of volume `v`. -/
def State.zmap (s : State) (v z : Nat) : Option ZoneMap := (s.mu v).fmt.zones[z]?
/-- Number of zones of a volume; 0 while the module has read no zone map. -/
def State.zoneCount (s : State) (v : Nat) : Nat := (s.mu v).fmt.zones.length
/-- The zone is conventional (R170). -/
def State.isConv (s : State) (v z : Nat) : Bool := match s.zmap v z with | some m => m.conv | none => false
/-- CAP of a zone (R168). -/
def State.cap (s : State) (v z : Nat) : Nat := match s.zmap v z with | some m => m.cap | none => 0
/-- Zone and offset of an LBA (R165). -/
def zoneOf (lba : Nat) : Nat := lba / 65536
/-- Offset of an LBA in its zone (R165). -/
def ofsOf (lba : Nat) : Nat := lba % 65536
/-- The zone holds a context (R430). -/
def Zone.isOpen (z : Zone) : Bool := z.st == .implicitOpen || z.st == .explicitOpen
/-- Contexts held by an MU (R430). -/
def State.contextsHeld (s : State) (v : Nat) : Nat := ((s.mu v).zones.filter (fun e => e.2.isOpen)).length
/-- CONTEXT_LIMIT of an MU. -/
def State.contextLimit (s : State) (v : Nat) : Nat := bits (s.feat0 0x08 v) 15 0
/-- The MU has no context for another open zone (R431). -/
def State.noContext (s : State) (v : Nat) : Bool := s.contextLimit v ≤ s.contextsHeld v
/-- The key domain that a zone is bound to: a conventional zone's is the one of its volume's format (R396, R534). -/
def State.boundKdom (s : State) (v z : Nat) : Option Nat :=
  if s.isConv v z then some (s.mu v).convKdom else (s.zone v z).kdom
/-- A key domain's record. -/
def State.kd (s : State) (k : Nat) : Kd := sget s.nor.kds k {}
/-- The state of a key domain that the checks see: a LOCK or ERASE marks it before its record changes (R536). DEDUCED, log entry 54. -/
def State.kdState (s : State) (k : Nat) : KdState :=
  match s.sec.keyMarks.find? (·.1 == k) with
  | some (_, erase) => if erase then .erased else .locked
  | none => (s.kd k).st

/-! ### Where a sector lies on the medium (R146, R166, R167) -/

/-- The physical sector of offset `o`: `o` moved past every slipped sector at or below it, the slip list in rising order (R166). -/
def physOf : List Nat → Nat → Nat
  | [], o => o
  | p :: r, o => if p ≤ o then physOf r (o + 1) else o
/-- Sectors per track of a zone. DEDUCED, log entry 67. -/
def State.spt (s : State) (v z : Nat) : Nat :=
  match s.zmap v z with
  | some m => (sget (s.mu v).fmt.rateZones (m.head * 64 + m.rz) {}).spt
  | none => 0
/-- Track and sector of an LBA (R166). -/
def State.place (s : State) (v lba : Nat) : Nat × Nat :=
  match s.zmap v (zoneOf lba) with
  | some m => let p := physOf m.slips (ofsOf lba); let n := s.spt v (zoneOf lba); (m.firstTrack + p / n, p % n)
  | none => (0, 0)

/-! ### Media units, HDAs and power states -/

/-- The port holds an HDA that data commands may address (R378, HDA_ABSENT). -/
def Hda.hereForData (h : Hda) : Bool := h.st == .accepted || h.st == .active || h.st == .releasing
/-- The port is in ACCEPTED or ACTIVE (R418). -/
def Hda.usable (h : Hda) : Bool := h.st == .accepted || h.st == .active
/-- The HDA counts as not spun up: in HS2 or HS3, or on its way there (R586, R588). -/
def Hda.notSpunUp (h : Hda) : Bool := 2 ≤ h.hs || (h.hsTransit && 2 ≤ h.hsTarget)
/-- The condition of MU_STOPPED for a command with an acceptance number: a release spares those accepted before it (R134, R377). -/
def State.muStoppedAt (s : State) (v order : Nat) : Bool :=
  (s.mu v).stopped || (s.mu v).act.st == .tuning || ((s.hda (v / 2)).st == .releasing && (s.hda (v / 2)).releaseOrder ≤ order)
  || !(s.mu v).formatted || (s.hda (v / 2)).notSpunUp
/-- The condition of MU_STOPPED for a command accepted now. -/
def State.muStopped (s : State) (v : Nat) : Bool := s.muStoppedAt v s.accept
/-- HOST wake is enabled (R590). -/
def State.wakeHost (s : State) : Bool := bit (s.feat0 0x0D) 0
/-- A command that needs what PS4 turns off is refused (R587). -/
def State.psRefuses (s : State) : Bool := s.pwr.pstate == 4 && !s.wakeHost
/-- The endpoint that owns a volume; in x16 mode endpoint 0 owns every volume (R342, R343). -/
def State.owner (s : State) (v : Nat) : Option Nat :=
  if s.dual then sget s.owners v (some (v / 16)) else some 0
/-- The endpoint does not own the volume, where that is checked (R342). -/
def State.notOwner (s : State) (e v : Nat) : Bool := s.dual && s.owner v != some e

/-! ### Dirty data (R89, R437, R484) -/

/-- Key of a sector in the preserved dirty index. DESIGN CHOICE, log entry 32. -/
def dkey (v lba : Nat) : Nat := v * 2 ^ 33 + lba
/-- Volume and LBA of a key. -/
def dvol (k : Nat) : Nat := k / 2 ^ 33
/-- LBA of a key. -/
def dlba (k : Nat) : Nat := k % 2 ^ 33
/-- Configured dirty limit (R407). -/
def State.cfgLimit (s : State) : Nat := bits (s.feat0 0x07) 6 0
/-- The effective dirty limit in units of 256 MiB (R89). DEDUCED, log entry 87. -/
def State.effLimit (s : State) : Nat := Nat.min (s.cfgLimit) (Nat.min s.mns.bank.eBound s.vlt.bound)
/-- Dirty sectors held, with the budget of granted writes (R437). -/
def State.dirtyTotal (s : State) : Nat := s.bca.index.length + s.bca.budgetHeld
/-- Sectors in write staging, with the room held by grants (R484). DEDUCED, log entry 87. -/
def State.stagedTotal (s : State) : Nat := (s.bca.index.filter (fun e => e.2.staged)).length + s.bca.stagedHeld
/-- Dirty sectors of one MU. -/
def State.dirtyOf (s : State) (v : Nat) : Nat := (s.bca.index.filter (fun e => dvol e.1 == v)).length
/-- Lowest key of an MU's zone, and the key past its last. -/
def zoneKeys (v z : Nat) : Nat × Nat := (dkey v (z * 65536), dkey v (z * 65536 + 65536))
/-- Dirty sectors of a zone, as keys in rising order. -/
def State.dirtyIn (s : State) (v z : Nat) : List Nat :=
  ((s.bca.index.filter (fun e => (zoneKeys v z).1 ≤ e.1 && e.1 < (zoneKeys v z).2))).map (·.1)
/-- Whether a sector is dirty. -/
def State.isDirty (s : State) (k : Nat) : Bool := (s.bca.index.map (·.1)).contains k
/-- The scope of a flush holds the sector `k`. -/
def Cmd.inScope (c : Cmd) (k : Nat) : Bool :=
  if c.pkt.opc == 5 then c.pkt.vol == 0xFFFF || c.pkt.vol == dvol k
  else c.pkt.vol == dvol k && c.pkt.slba ≤ dlba k && dlba k < c.pkt.slba + c.pkt.count
/-- A FLUSH, FLUSH_RANGE or force-unit-access write covers the sector `k`, dirty since commit sequence `seq` (R26, R438). -/
def Cmd.coversSector (c : Cmd) (k seq : Nat) : Bool :=
  decide (seq ≤ c.covers) && ((c.phase == .flush && c.inScope k)
    || (c.phase == .fua && c.pkt.vol == dvol k && decide (c.lba ≤ dlba k) && decide (dlba k < c.lba + c.pkt.count)))
/-- A FLUSH or force-unit-access write covers dirty data that `p` names. -/
def State.flushCovers (s : State) (p : Nat → Bool) : Bool :=
  s.cmds.any fun c => (s.tag c.1).st == .accepted && s.bca.index.any fun e => p e.1 && c.2.coversSector e.1 e.2.seq
/-- The write at the head of the list can be granted: budget under the effective limit, room in staging, no power failure (R437, R484, R501). DEDUCED,
log entry 87. -/
def State.canGrant (s : State) (n : Nat) : Bool :=
  !s.mns.powerFail && s.dirtyTotal + n ≤ s.effLimit * 65536 && s.stagedTotal + n ≤ 2097152
/-- Some write of the list waits at step 4: they cannot all be granted as things stand (R24, R437). -/
def State.writeWaits (s : State) : Bool :=
  !s.bca.budget.isEmpty && !s.canGrant ((s.bca.budget.map fun t => (s.cmd t).pkt.count).foldl (· + ·) 0)
/-- A sector of the read still waits for its STRANDED line to reach the medium (R481). -/
def State.sectorWaits (s : State) (c : Cmd) (i : Nat) : Bool := (sget c.secs i {}).waits && s.isDirty (dkey c.pkt.vol (c.pkt.slba + i))
/-- The MU is urgent (R435). -/
def State.urgent (s : State) (v : Nat) : Bool :=
  s.writeWaits || s.flushCovers (fun k => dvol k == v)
  || (s.cmds.any fun c => (s.tag c.1).st == .accepted && c.2.pkt.vol == v && (c.2.phase == .sch || c.2.phase == .overflow)
       && c.2.secs.any fun e => s.sectorWaits c.2 e.1)
  || s.effLimit * 65536 < s.dirtyOf v * 16

/-! ### BARRIER (R438, R439) -/

/-- A FLUSH with BARRIER is in progress that satisfies `p`: its coverage has been recorded, or it was accepted ahead of the command whose acceptance
number is `order` (R395, R438). -/
def State.barrierAny (s : State) (order : Nat) (p : Cmd → Bool) : Bool :=
  s.cmds.any fun c => (s.tag c.1).st == .accepted && c.2.pkt.opc == 5 && c.2.pkt.barrier && (c.2.phase == .flush || c.2.order < order) && p c.2
/-- A BARRIER flush is in progress for a command of acceptance number `order` (FLUSH_BARRIER_ACTIVE). -/
def State.barrierActive (s : State) (order : Nat) : Bool := s.barrierAny order fun _ => true
/-- A BARRIER flush in progress covers volume `v`. -/
def State.barrierCovers (s : State) (order v : Nat) : Bool := s.barrierAny order fun c => c.pkt.vol == v || c.pkt.vol == 0xFFFF

/-! ### The checks of data and zone commands (R378) -/

/-- What blocks a data or zone command: a state code, or the delivery of a deferred error. -/
inductive Block where
  | code (c : Nat)
  | deferred
deriving DecidableEq, Repr

/-- The checks of R378 that READ and VERIFY make, and WRITE makes first (R390, R392): up to ZONE_OFFLINE. DEDUCED, log entry 36. -/
def State.blockRead (s : State) (e v z order : Nat) : Option Block :=
  let d := s.boundKdom v z
  let k := d.map s.kdState
  if s.notOwner e v then some (.code 0x000A)
  else if (s.zone v z).deferred.isSome then some .deferred
  else if !(s.hda (v / 2)).hereForData then some (.code 0x000D)
  else if s.muStoppedAt v order then some (.code 0x0008)
  else if s.thp.hold then some (.code 0x0009)
  else if s.psRefuses then some (.code 0x0010)
  else if k == some .erased || k == some .empty then some (.code 0x0012)
  else if k == some .locked then some (.code 0x0011)
  else if !s.isConv v z && (s.zone v z).st == .offline then some (.code 0x0003)
  else none

/-- The further checks of WRITE and ZONE_APPEND (R392, R393), for `n` sectors from offset `o`. DEDUCED, log entry 36. -/
def State.blockWrite (s : State) (e v z o n order : Nat) (append : Bool) : Option Block :=
  match s.blockRead e v z order with
  | some b => some b
  | none =>
    let x := s.zone v z
    let start := if append then x.wp else o
    if s.isConv v z then (if s.cap v z < o + n then some (.code 0x0001) else none)
    else
      let k := s.kdState (s.mu v).defaultKdom
      if x.st == .empty && (k == .erased || k == .empty) then some (.code 0x0012)
      else if x.st == .empty && k == .locked then some (.code 0x0011)
      else if x.st == .readOnly then some (.code 0x0002)
      else if x.st == .full || s.cap v z < start + n then some (.code 0x0001)
      else if !append && o != x.wp then some (.code 0x0004)
      else if !x.isOpen && s.noContext v then some (.code 0x0005)
      else none

end Sys2Proof.Machine
end

