-- ==== Sys2Proof/Machine/Cache.lean ====
section
/-! DEFINITION. The buffer cache, write staging, the cutting room and the preserved dirty index (R476 to R495). -/

namespace Sys2Proof.Machine

/-! ### Sets and lines (R476, R477) -/

/-- The set of a line under a key (R477). -/
def setOf (key0 key1 : BitVec 64) (vol block : Nat) : Nat :=
  let x := BitVec.ofNat 64 (vol * 2 ^ 36 + block) ^^^ key0
  let x := x * 0x9E3779B97F4A7C15#64
  let x := x ^^^ (x >>> 29) ^^^ key1
  let x := x * 0xBF58476D1CE4E5B9#64
  (x >>> 32).toNat % 49152

/-- The set of block `b` of volume `v` under the key in force. -/
def State.setFor (s : State) (v b : Nat) : Nat := setOf s.bca.key0 s.bca.key1 v b

/-- The line frame `k`, set × 16 + way. -/
def State.line (s : State) (k : Nat) : Line := sget s.bca.lines k {}
/-- `s` with `f` applied to line frame `k`. -/
def State.updLine (s : State) (k : Nat) (f : Line → Line) : State :=
  { s with bca := { s.bca with lines := supd s.bca.lines k {} f } }

/-- The line stands in lookup (R476). -/
def Line.inLookup (l : Line) : Bool := (l.st == .filling && !l.stranded) || l.st == .clean || (l.st == .dirty && !l.stranded)

/-- The frame of the set that holds block `b` of volume `v` in lookup: a lookup sees every way of the set, and no other (R480). -/
def State.findLine (s : State) (v b : Nat) : Option Nat :=
  if s.bca.enabled && !s.bca.rekeyBusy then
    (s.bca.lines.find? fun e => e.1 / 16 == s.setFor v b && e.2.vol == v && e.2.block == b && e.2.inLookup).map (·.1)
  else none

/-- The STRANDED or unreachable line that holds block `b` of volume `v`, if any. DEDUCED, log entry 40. -/
def State.strandedLine (s : State) (v b : Nat) : Option Nat :=
  (s.bca.lines.find? fun e => e.2.vol == v && e.2.block == b && e.2.dirty != 0 && e.2.stranded).map (·.1)

/-- Bit `i` of a 16-bit map set or cleared. -/
def setBit16 (m : BitVec 16) (i : Nat) : BitVec 16 := m ||| (1#16 <<< i)
/-- Bit `i` of a 16-bit map cleared. -/
def clrBit16 (m : BitVec 16) (i : Nat) : BitVec 16 := m &&& ~~~(1#16 <<< i)

/-! ### Region descriptors and classes (R478, R479) -/

/-- The enabled descriptor of lowest index that covers a sector. -/
def State.region (s : State) (v lba : Nat) : Option Nat :=
  (List.range 64).find? fun i =>
    bit (s.feat0 0x0F i) 7 && bits (s.feat0 0x0F i) 4 0 == v &&
    bits (s.feat1 0x0F i) 16 0 ≤ zoneOf lba && zoneOf lba ≤ bits (s.feat2 0x0F i) 16 0

/-- The requester class of a read or write of a sector (R478). -/
def State.classOf (s : State) (v lba : Nat) (write : Bool) : Nat :=
  match s.region v lba with
  | some i => bits (s.feat0 0x0F i) 10 8
  | none => flag write
/-- WPOL DROP (R479). -/
def State.wpolDrop (s : State) (v lba : Nat) : Bool :=
  match s.region v lba with | some i => bit (s.feat0 0x0F i) 12 | none => false
/-- RPOL NO_ALLOCATE (R479). -/
def State.noAllocate (s : State) (v lba : Nat) : Bool :=
  match s.region v lba with | some i => bit (s.feat0 0x0F i) 14 | none => false

/-! ### Allocation (R480) and the cutting room (R486) -/

/-- The least recently used CLEAN way among the ways given; a frame that holds data of a write still to commit is no victim (R482). -/
def State.lruClean (s : State) (set : Nat) : List Nat → Option Nat
  | [] => none
  | w :: r =>
    let b := s.lruClean set r
    let l := s.line (set * 16 + w)
    if l.st == .clean && l.writers.isEmpty then
      match b with
      | none => some w
      | some x => if (s.line (set * 16 + x)).lru < l.lru then some x else some w
    else b

/-- The victim way and whether its choice is a conflict (R480, R495). -/
def State.victim (s : State) (set cls : Nat) (write : Bool) : Option (Nat × Bool) :=
  let mask := s.feat0 0x0E cls
  let inMask := (List.range 16).filter fun w => bit mask w
  let free (ws : List Nat) := ws.find? fun w => (s.line (set * 16 + w)).st == .invalid
  match free inMask with
  | some w => some (w, false)
  | none => match s.lruClean set inMask with
    | some w => some (w, true)
    | none =>
      if write then
        match free (List.range 16) with
        | some w => some (w, true)
        | none => (s.lruClean set (List.range 16)).map fun w => (w, true)
      else none

/-- BCA counters. -/
def aBca (ofs : Nat) : Nat := 0x01060000 + ofs

/-- The CLEAN line leaves its frame for the cutting room, whose oldest entry goes when it is full (R486). -/
def State.evict (s : State) (k : Nat) : State :=
  let l := s.line k
  if l.st == .clean then
    let c := s.bca.cut ++ [{ vol := l.vol, block := l.block, valid := l.valid, data := l.data }]
    { s with bca := { s.bca with cut := if 4096 < c.length then c.drop 1 else c, lines := sset s.bca.lines k {} {} } }
  else s

/-- A frame for block `b` of volume `v`, taken under R480: the frame and the state with the victim evicted. The line keeps the WPOL in force (R479). -/
def State.allocate (s : State) (v b cls : Nat) (write : Bool) : Option Nat × State :=
  let set := s.setFor v b
  match s.victim set cls write with
  | none => (none, s)
  | some (w, conflictHit) =>
    let k := set * 16 + w
    let t := s.evict k
    let t := if conflictHit then
        { t with bca := { t.bca with conflicts := supd t.bca.conflicts (set / 768) 0 (· + 1) } }.bump 6 0 (aBca 0x40)
      else t
    (some k, { t with bca := { t.bca with lruClock := t.bca.lruClock + 1
                                          lines := sset t.bca.lines k { vol := v, block := b, cls := cls, drop := s.wpolDrop v (b * 16), lru := t.bca.lruClock + 1 } {} } })

/-- The line is touched: it becomes the most recently used. -/
def State.touch (s : State) (k : Nat) : State :=
  { s with bca := { s.bca with lruClock := s.bca.lruClock + 1
                               lines := supd s.bca.lines k {} fun l => { l with lru := s.bca.lruClock + 1 } } }

/-- The entry of the cutting room that holds sector `i` of a block. -/
def State.cutEntry (s : State) (v b i : Nat) : Option CutLine := s.bca.cut.find? fun c => c.vol == v && c.block == b && c.valid.getLsbD i
/-- The cutting room without a block's entry. -/
def State.cutDrop (s : State) (v b : Nat) : State :=
  { s with bca := { s.bca with cut := s.bca.cut.filter fun c => !(c.vol == v && c.block == b) } }

/-! ### Reading a sector from buffer memory (R481) -/

/-- The sector that a line holds VALID: a DIRTY sector's data stands in the preserved dirty index. -/
def State.lineSector (s : State) (k i : Nat) : Option Sector :=
  let l := s.line k
  if l.valid.getLsbD i then
    if l.dirty.getLsbD i then (sget s.bca.index (dkey l.vol (l.block * 16 + i)) {}).sector
    else some (sget l.data i {})
  else none

/-- What R481 finds for one sector of a read. -/
inductive Found where
  | zeros
  | hit (line : Nat) (d : Sector)
  | cut (d : Sector)
  | staged (d : Sector)
  | stranded
  | medium
deriving DecidableEq, Repr

/-- Outcomes 4 to 6 of R481. -/
def State.lookupRest (s : State) (v lba : Nat) : Found :=
  let m := sget s.bca.index (dkey v lba) {}
  let held := match m.sector with | some d => Found.staged d | none => .medium
  if s.isDirty (dkey v lba) then
    match s.strandedLine v (lba / 16) with
    | some k => if (s.line k).dirty.getLsbD (lba % 16) then .stranded else held
    | none => held
  else .medium

/-- The first outcome of R481 that applies to a sector. DEDUCED, log entry 40. -/
def State.lookup (s : State) (v lba : Nat) : Found :=
  let z := zoneOf lba
  let b := lba / 16
  let i := lba % 16
  if s.cap v z ≤ ofsOf lba || (!s.isConv v z && (s.zone v z).wp ≤ ofsOf lba) then .zeros
  else match (s.findLine v b).bind fun k => (s.lineSector k i).map fun d => (k, d) with
  | some (k, d) => .hit k d
  | none =>
    match (if s.bca.enabled && !s.bca.rekeyBusy then s.cutEntry v b i else none) with
    | some c => .cut (sget c.data i {})
    | none => s.lookupRest v lba

/-- The POISON byte of burst `b` of a sector with the words `marks` poisoned. -/
def poisonByte (marks : List Nat) (b : Nat) : BitVec 8 :=
  (marks.filter fun w => w / 8 == b).foldl (fun p w => p ||| (1#8 <<< (w % 8))) 0

/-- Sector `i` of line frame `k` is written whole, with the words `marks` poisoned as replay restores them: new data clears the POISON bits of its
bursts (R464, R502). -/
def State.wroteSector (s : State) (k i : Nat) (marks : List Nat) : State :=
  let clear := sdrop s.buf.poison fun b => b / 64 == k * 16 + i
  { s with buf := { s.buf with poison := (marks.map (· / 8)).eraseDups.foldl (fun m b =>
      if b < 64 then sset m ((k * 16 + i) * 64 + b) (poisonByte marks b) 0 else m) clear } }

/-- Every sector of a line frame is written whole, each with its marks. -/
def State.wroteLine (s : State) (k : Nat) (data : Sparse Sector) : State :=
  (List.range 16).foldl (fun s i => s.wroteSector k i (sget data i {}).marks) s

/-- A hit in the cutting room recalls the entry into the main cache where R480 finds a victim within the mask (R486); BCA allocates no line once
power fails (R501). -/
def State.recall (s : State) (v b i cls : Nat) : State :=
  match s.cutEntry v b i with
  | none => s
  | some c =>
    if s.mns.powerFail then s
    else match (s.cutDrop v b).allocate v b cls false with
    | (none, _) => s
    | (some k, t) => ((t.wroteLine k c.data).updLine k fun l => { l with st := .clean, valid := c.valid, data := c.data }).bump 6 0 (aBca 0x3C)

/-! ### The DIRTY bits and the index (R433, R485) -/

/-- A line that holds no sector any more: INVALID, unless data of a write still to commit stands in its frame (R482). -/
def Line.emptied (l : Line) : Line :=
  if l.writers.isEmpty then {} else { l with st := .clean, valid := 0, dirty := 0, stranded := false, filling := 0, attached := [], data := [] }

/-- A line with its state settled after a change of its maps. DEDUCED, log entry 56. -/
def Line.settle (l : Line) (drop : Bool) : Line :=
  if l.dirty != 0 then { l with st := if l.st == .filling then .filling else .dirty }
  else if l.stranded then (if l.st == .filling then { l with st := .doomed, stranded := false } else l.emptied)
  else if l.st == .filling then l
  else if l.valid == 0 || drop then l.emptied
  else { l with st := .clean }

/-- A sector leaves the dirty index: its budget returns. `keep` leaves it VALID in its line (R485); otherwise it is dropped. -/
def State.undirty (s : State) (k : Nat) (keep : Bool) : State :=
  let m := sget s.bca.index k {}
  let v := dvol k
  let lba := dlba k
  let t := { s with bca := { s.bca with index := sset s.bca.index k {} {} } }
  match t.bca.lines.find? fun e => e.2.vol == v && e.2.block == lba / 16 && e.2.dirty.getLsbD (lba % 16) with
  | none => t
  | some (n, _) =>
    t.updLine n fun l =>
      let i := lba % 16
      let l := { l with dirty := clrBit16 l.dirty i, valid := if keep then l.valid else clrBit16 l.valid i
                        data := if keep then sset l.data i (m.sector.getD {}) {} else sset l.data i {} {} }
      l.settle l.drop

/-- A list of sectors leaves the dirty index. -/
def State.undirtyAll (s : State) (keep : Bool) : List Nat → State
  | [] => s
  | k :: r => (s.undirty k keep).undirtyAll keep r

/-- A sector reported on the medium: clean, unless a later write has rewritten it since the hand-over (R485). -/
def State.onMediumReport (s : State) (k : Nat) : State :=
  let m := sget s.bca.index k {}
  if m.rewritten then
    let n : DirtyMark := { m with handed := false, rewritten := false, seq := m.seq2, seq2 := 0 }
    { s with bca := { s.bca with index := sset s.bca.index k n {} } }
  else s.undirty k true

/-- The entry that a commit makes for a sector in the index. DEDUCED, log entry 87. -/
def State.markDirty (s : State) (k : Nat) (staged : Bool) (d : Sector) (seq : Nat) : State :=
  let m := sget s.bca.index k {}
  let m' : DirtyMark :=
    if !s.isDirty k then { staged := staged, seq := seq, sector := some d }
    else if m.handed then
      { m with staged := staged, seq2 := if m.rewritten then m.seq2 else seq, rewritten := true, sector := some d }
    else { m with staged := staged, sector := some d }
  { s with bca := { s.bca with index := sset s.bca.index k m' {} } }

/-! ### Placing written data (R480, R482, R483) -/

/-- A sector written around the cache, in a line that holds it: VALID and DIRTY are cleared, a line that is filling it is DOOMED (R483). -/
def Line.bypassed (l : Line) (i : Nat) : Line :=
  if l.filling.getLsbD i then { l with st := .doomed }
  else Line.settle { l with valid := clrBit16 l.valid i, dirty := clrBit16 l.dirty i, data := sset l.data i {} {} } false

/-- Every line in lookup, and every STRANDED one, that holds a sector written around the cache (R483). -/
def State.bypassLine (s : State) (v lba : Nat) : State :=
  let hit := fun (l : Line) => l.vol == v && l.block == lba / 16 && (l.inLookup || l.stranded)
  let n := (s.bca.lines.filter fun e => hit e.2 && e.2.filling.getLsbD (lba % 16)).length
  { s with bca := { s.bca with lines := smap s.bca.lines {} fun l => if hit l then l.bypassed (lba % 16) else l } }.bump 6 0 (aBca 0x28) n

/-- The sector of key `k` is written whole outside the lines, which clears the POISON bits of its words there (R464). -/
def State.wroteOutside (s : State) (k : Nat) : State :=
  { s with buf := { s.buf with poison := sdrop s.buf.poison fun b => s.buf.holders.contains (b, k)
                               holders := s.buf.holders.filter fun e => e.2 != k } }

/-- The cutting room without a block's entry, while the cache is enabled: its tags stand still while it is disabled (R486, R492). -/
def State.cutDropOn (s : State) (v b : Nat) : State := if s.bca.enabled then s.cutDrop v b else s

/-- A sector placed in write staging at the commit point (R464, R483). -/
def State.placeStaged (s : State) (v lba : Nat) (d : Sector) (seq : Nat) : State :=
  (((s.bypassLine v lba).cutDropOn v (lba / 16)).wroteOutside (dkey v lba)).markDirty (dkey v lba) true d seq

/-- A sector of a sequential zone placed in a line of a class, or in staging as a fallback (R480, R482). -/
def State.placeLineAs (s : State) (cls v lba : Nat) (d : Sector) (seq : Nat) : State :=
  let b := lba / 16
  let i := lba % 16
  let s := s.cutDrop v b
  let dirtyIn (s : State) (k : Nat) : State :=
    let line (l : Line) : Line :=
      { l with valid := setBit16 l.valid i, dirty := setBit16 l.dirty i, data := sset l.data i {} {}
               st := if l.st == .filling then .filling else .dirty }
    (((s.wroteSector k i d.marks).updLine k line).touch k).markDirty (dkey v lba) false d seq
  match s.findLine v b with
  | some k => dirtyIn s k
  | none =>
    match s.allocate v b cls true with
    | (some k, t) => dirtyIn t k
    | (none, t) => (t.bump 6 0 (aBca 0x30)).markDirty (dkey v lba) true d seq

/-- The writes of a zone go into cache lines: it is sequential, the cache is enabled, and no re-key pass runs (R482, R483, R491). -/
def State.cachesWrites (s : State) (v lba : Nat) : Bool := !s.isConv v (zoneOf lba) && s.bca.enabled && !s.bca.rekeyBusy

/-- Step 7 of R24 for one sector of write `t`: the line in lookup, or one allocated under R480 and the sector's class, takes its data; where there is none
the sector goes to write staging, a fallback (R478, R480, R482). BCA allocates no line once power fails (R501). -/
def State.reserveLine (s : State) (t v lba : Nat) : State :=
  let b := lba / 16
  let hold (s : State) (k : Nat) : State := (s.wroteSector k (lba % 16) []).updLine k fun l =>
    { l with st := if l.st == .invalid then .clean else l.st, writers := if l.writers.contains t then l.writers else l.writers ++ [t] }
  if !s.cachesWrites v lba then s
  else match s.findLine v b with
  | some k => hold s k
  | none =>
    if s.mns.powerFail then s.bump 6 0 (aBca 0x30)
    else match s.allocate v b (s.classOf v lba true) true with
    | (some k, u) => hold u k
    | (none, u) => u.bump 6 0 (aBca 0x30)

/-- Step 7 of R24 for `n` sectors from `lba` on. -/
def State.reserveLines (s : State) (t v : Nat) : Nat → Nat → State
  | 0, _ => s
  | n + 1, lba => (s.reserveLine t v lba).reserveLines t v n (lba + 1)

/-- A sector becomes VALID and DIRTY in the frame that took its data, at the commit point (R482). -/
def State.commitLine (s : State) (k v lba : Nat) (d : Sector) (seq : Nat) : State :=
  let i := lba % 16
  let line (l : Line) : Line :=
    { l with valid := setBit16 l.valid i, dirty := setBit16 l.dirty i, data := sset l.data i {} {}, st := if l.st == .filling then .filling else .dirty }
  (((s.cutDrop v (lba / 16)).updLine k line).touch k).markDirty (dkey v lba) false d seq

/-- A written sector at the commit point: in the frame that took it, else in write staging (R482, R483). -/
def State.placeSector (s : State) (t v lba : Nat) (d : Sector) (seq : Nat) : State :=
  match (if s.cachesWrites v lba then s.findLine v (lba / 16) else none) with
  | some k => if (s.line k).writers.contains t then s.commitLine k v lba d seq else s.placeStaged v lba d seq
  | none => s.placeStaged v lba d seq

/-- The sectors of write `t` placed from `lba` on (R482, R483). -/
def State.placeAll (s : State) (t v lba seq : Nat) : List Sector → State
  | [] => s
  | d :: r => (s.placeSector t v lba d seq).placeAll t v (lba + 1) seq r

/-- No frame holds data of write `t` any more: it has committed or ended (R482). DEDUCED, log entry 87. -/
def State.dropWriter (s : State) (t : Nat) : State :=
  let leave (l : Line) : Line :=
    if l.writers.contains t then
      let l := { l with writers := l.writers.filter (· != t) }
      if l.st == .clean && l.valid == 0 then l.emptied else l
    else l
  { s with bca := { s.bca with lines := smap s.bca.lines {} leave } }

/-! ### Maintenance over lines (R489 to R494) -/

/-- The lines `p` names, invalidated as INVALIDATE_RANGE does: CLEAN and cutting-room entries go, FILLING become DOOMED. -/
def State.invalidateLines (s : State) (p : Nat → Nat → Bool) : State :=
  let n := (s.bca.lines.filter fun e => e.2.st == .filling && p e.2.vol e.2.block).length
  let lines := smap s.bca.lines {} fun l =>
    if p l.vol l.block then
      if l.st == .clean then l.emptied else if l.st == .filling then { l with st := .doomed } else l
    else l
  { s with bca := { s.bca with lines := lines, cut := s.bca.cut.filter fun c => !p c.vol c.block } }.bump 6 0 (aBca 0x28) n

/-- A block of volume `v` touches LBAs `a` to `b`. -/
def blockIn (v a b : Nat) (vol block : Nat) : Bool := vol == v && a / 16 ≤ block && block ≤ b / 16

/-- The operation counted as a bypass while the cache is disabled (R493). -/
def State.bypassed (s : State) : State :=
  if s.bca.enabled then s
  else { s with bca := { s.bca with bypass := addSat (2 ^ 32 - 1) s.bca.bypass 1 } }.bump 6 0 (aBca 0x34)

/-- A new key drawn by SEC (R477). -/
def State.newKey (s : State) : State :=
  let (a, s) := s.draw
  let (b, s) := s.draw
  { s with bca := { s.bca with key0 := BitVec.ofNat 64 a, key1 := BitVec.ofNat 64 b } }

/-- Lines with a DIRTY sector. -/
def State.dirtyLines (s : State) : Nat := (s.bca.lines.filter fun e => e.2.dirty != 0).length

/-- The fill of line `k` ends: installed with the sectors that were read, or dropped if DOOMED (R487). -/
def State.fillEnd (s : State) (k : Nat) : State :=
  s.updLine k fun l =>
    if l.st == .doomed then
      if l.dirty != 0 then { l with st := .dirty, filling := 0, attached := [] } else l.emptied
    else if l.st == .filling then
      let got := (List.range 16).foldl (fun (m : BitVec 16) i => if l.filling.getLsbD i && (l.data.map (·.1)).contains i then setBit16 m i else m) 0
      Line.settle { l with st := .clean, valid := l.valid ||| got, filling := 0, attached := [] } false
    else l

/-- The reads attached to the fill have decided every sector they wait for. -/
def State.fillDone (s : State) (k : Nat) : Bool :=
  let l := s.line k
  (l.st == .filling || l.st == .doomed) && l.attached.all fun t =>
    !((s.tag t).st == .accepted && ((s.cmd t).phase == .sch || (s.cmd t).phase == .overflow || (s.cmd t).phase == .recovery))

/-- A fill from the medium completes (R487). DEDUCED, log entry 40. -/
def execCacheFillComplete (frame : Nat) (s : State) : Out := guarded (s.fillDone frame) s (s.fillEnd frame)

/-- Each 1 s window BCA judges its 64 groups against the threshold (R495). -/
def State.judgeGroup (s : State) (g : Nat) : State :=
  let n := sget s.bca.conflicts g 0
  if s.feat0 0x10 < n then
    let run := sget s.bca.hotRun g 0 + 1
    let t := { s with bca := { s.bca with hotRun := sset s.bca.hotRun g run 0 } }
    if 60 ≤ run && !s.bca.hot.getLsbD g then
      { t with bca := { t.bca with hot := t.bca.hot ||| (1#64 <<< g) } }.raise 6 0 1 g
    else t
  else { s with bca := { s.bca with hotRun := sset s.bca.hotRun g 0 0, hot := s.bca.hot &&& ~~~(1#64 <<< g) } }

/-- Groups judged in turn. -/
def State.judgeGroups (s : State) : List Nat → State
  | [] => s
  | g :: r => (s.judgeGroup g).judgeGroups r

/-- The end of a 1 s window of set conflicts (R495). -/
def execCacheConflictWindow (s : State) : Out :=
  let t := s.judgeGroups (List.range 64)
  guarded true s { t with bca := { t.bca with conflicts := [] } }

/-- The re-key pass ends: a new key is in force and the command completes (R491). -/
def execRekeyPassDone (s : State) : Out :=
  guarded s.bca.rekeyBusy s <|
    let t := ({ s with bca := { s.bca with rekeyBusy := false, rekeyCmd := none } }.newKey).bump 6 0 (aBca 0x44)
    match s.bca.rekeyCmd with
    | some c => t.complete c {}
    | none => t

end Sys2Proof.Machine
end

