-- ==== Sys2Proof/Machine/Burst.lean ====
section
/-! DEFINITION. Buffer memory by address: its map and regions, the bursts with their metadata and word code, what a read of a burst
finds and repairs, poison, and writes narrower than a word (R456, R457, R459, R461 to R465). -/

namespace Sys2Proof.Machine

/-! ### The address map and the regions (R457, R459) -/

/-- Where a burst lies. -/
structure BufPlace where
  sc : Nat
  bg : Nat
  ba : Nat
  col : Nat
  row : Nat
deriving DecidableEq, Repr

/-- The place of buffer address `a` (R457). DESIGN CHOICE, log entry 99. -/
def bufPlace (a : Nat) : BufPlace :=
  { sc := bits a 8 6 ^^^ bits a 17 15 ^^^ bits a 26 24 ^^^ bits a 35 33, bg := bits a 11 9 ^^^ bits a 20 18 ^^^ bits a 29 27
    ba := bits a 13 12 ^^^ bits a 22 21 ^^^ bits a 31 30, col := bits a 19 14, row := bits a 35 20 }

/-- ATAG of the burst at address `a` (R461). -/
def atagOf (a : Nat) : Nat := bits a 29 6 ^^^ (bits a 35 30 * 2 ^ 18)

/-- Region code of a buffer address (R459). -/
def bufRegion (a : Nat) : Nat :=
  if a < 0xC00000000 then 0 else if a < 0xC10000000 then 1 else if a < 0xC20000000 then 2 else if a < 0xC40000000 then 3
  else if a < 0xC48000000 then 4 else if a < 0xC68000000 then 5 else if a < 0xCA8000000 then 6 else if a < 0xEA8000000 then 7 else 8

/-- Number of bursts. -/
def burstCount : Nat := 2 ^ 30

/-- BUF counters. -/
def aBuf (ofs : Nat) : Nat := 0x01050000 + ofs

/-! ### The content of a burst (R456, R461) -/

/-- POISON bits of the burst that holds address `a`. -/
def State.poisonOf (s : State) (a : Nat) : BitVec 8 := sget s.buf.poison (a / 64) 0
/-- `s` with the POISON bits of the burst that holds `a` at `p`. DESIGN CHOICE, log entry 99. -/
def State.setPoison (s : State) (a : Nat) (p : BitVec 8) : State :=
  { s with buf := { s.buf with poison := sset s.buf.poison (a / 64) p 0 } }
/-- The POISON bit of the word at `a`. -/
def poisonBit (a : Nat) : BitVec 8 := 1#8 <<< bits a 5 3

/-- The data word at `a`: of the sector that a line frame holds there, or as the module's own writes left it. A fill leaves zeros (R456, R459, R468).
DESIGN CHOICE, log entry 99. -/
def State.bufWord (s : State) (a : Nat) : BitVec 64 :=
  if bufRegion a == 0 then
    match s.lineSector (a / 65536) (a / 4096 % 16) with
    | some d => BitVec.ofNat 64 (leNat ((d.data.drop (a % 4096 / 8 * 8)).take 8))
    | none => 0
  else sget s.buf.words (a / 8) 0

/-- The data word with its check bits as memory stores it (R461). DESIGN CHOICE, log entry 99. -/
def State.storedWord (s : State) (a : Nat) : BitVec 72 := Config.checkBits (s.bufWord a) ++ s.bufWord a

/-- The metadata half of a burst's ECC lane: POISON, ATAG and MCHK; RSVD is 0 (R461). -/
structure BurstLane where
  poison : BitVec 8
  atag : Nat
  mchk : BitVec 8
deriving DecidableEq, Repr

/-- The metadata of the burst at `a` as memory stores it: the tag is the one written with the burst (R461). DESIGN CHOICE, log entry 99. -/
def State.burstLane (s : State) (a : Nat) : BurstLane :=
  { poison := s.poisonOf a, atag := atagOf a, mchk := Config.checkBits (BitVec.ofNat 64 ((s.poisonOf a).toNat + atagOf a * 2 ^ 8)) }

/-! ### What the code finds (R461, R462) -/

/-- Number of ones below bit `n`. -/
def onesIn (n : Nat) (p : Nat → Bool) : Nat := ((List.range n).filter p).length

/-- Words of `set` counted. -/
def popCount8 (m : BitVec 8) : Nat := onesIn 8 m.getLsbD

/-- The finding of the SECDED code over the bits in error of a word: 0 none, 1 correctable, 2 uncorrectable (R461). Of three bits and more in error the
code promises nothing: a free finding. DESIGN CHOICE, log entry 99. -/
def codeFinding (n : Nat) : Nat := if n ≤ 2 then n else 1 + Config.beyondCode n % 2

/-- The finding in a data word. -/
def wordFinding (flips : BitVec 72) : Nat := codeFinding (onesIn 72 flips.getLsbD)
/-- The finding in a burst's metadata. -/
def metaFinding (flips : BitVec 56) : Nat := codeFinding (onesIn 56 flips.getLsbD)

/-- A correctable error: one event, BUF_CORR_CNT and, for a word, the subchannel's count (R462). -/
def State.bufCorrected (s : State) (a : Nat) (word : Bool) : State :=
  let s := (s.raise 5 0 1 a).bump 5 0 (aBuf 0x08)
  if word then s.bump 5 0 (aBuf (0x40 + 4 * (bufPlace a).sc)) else s
/-- An uncorrectable error (R462). -/
def State.bufUncorrectable (s : State) (a : Nat) : State := (s.raise 5 0 2 a).bump 5 0 (aBuf 0x0C)

/-- A finding of a pass: its entry, while there is room (R472). -/
def ScrubPass.find (p : ScrubPass) (a kind oph : Nat) : ScrubPass :=
  { p with entries := if p.entries.length < 12 then p.entries ++ [(a, kind, oph)] else p.entries }

/-- The whole burst at address `a` becomes poisoned: `kind` 1 for its metadata, 2 for its address tag. DEDUCED, log entry 71. -/
def State.poisonBurst (s : State) (a kind : Nat) (p : ScrubPass) : State × ScrubPass :=
  let fresh := popCount8 (~~~(s.poisonOf a))
  let q := { p.find a kind s.time.oph with uncorrectable := p.uncorrectable + fresh, addrErrors := p.addrErrors + flag (kind == 2) }
  let s := s.setPoison a 0xFF#8
  (if kind == 2 then (s.raise 5 0 3 a).bump 5 0 (aBuf 0x10) else s.bufUncorrectable a, q)

/-- One word of a burst, decoded under R462. -/
def State.decodeWord (s : State) (a : Nat) (flips : BitVec 72) (p : ScrubPass) : State × ScrubPass :=
  let f := wordFinding flips
  if s.poisonOf a &&& poisonBit a != 0 then (s, { p.find a 3 s.time.oph with poisoned := p.poisoned + 1 })
  else if f == 1 then (s.bufCorrected a true, { p with corrected := p.corrected + 1 })
  else if f == 2 then
    ((s.setPoison a (s.poisonOf a ||| poisonBit a)).bufUncorrectable a, { p.find a 1 s.time.oph with uncorrectable := p.uncorrectable + 1 })
  else (s, p)

/-- The words of a burst in order. -/
def State.decodeWords (s : State) (a : Nat) (p : ScrubPass) : List (BitVec 72) → State × ScrubPass
  | [] => (s, p)
  | f :: r => let (t, q) := s.decodeWord a f p; t.decodeWords (a + 8) q r

/-- One burst read and repaired: metadata first, with the ATAG that the burst brings, then each word (R461, R462). -/
def State.decodeBurst (s : State) (a : Nat) (hmeta : BurstMeta) (words : List (BitVec 72)) (p : ScrubPass) : State × ScrubPass :=
  let f := metaFinding hmeta.flips
  if f == 2 then s.poisonBurst a 1 p
  else
    let (s, p) := if f == 1 then (s.bufCorrected a false, { p with corrected := p.corrected + 1 }) else (s, p)
    if (s.burstLane (hmeta.source * 64)).atag != atagOf a then s.poisonBurst a 2 p else s.decodeWords a p words

/-! ### What stands in a burst (R459, R463) -/

/-- A sector with the words of the list poisoned. -/
def markWords (ws : List Nat) (d : Sector) : Sector := { d with marks := d.marks ++ ws.filter fun w => !d.marks.contains w }

/-- The sector whose bytes stand in a burst has the words `ws` poisoned wherever the module holds it: in the index, in lines, in the cutting room and
with the commands that read or write it (R463). DESIGN CHOICE, log entry 99. -/
def State.poisonSector (s : State) (k : Nat) (ws : List Nat) : State :=
  let own (d : Sector) : Sector := if dkey d.vol d.lba == k then markWords ws d else d
  let into (vol block : Nat) (m : Sparse Sector) : Sparse Sector :=
    if vol == dvol k && block == dlba k / 16 && (m.map (·.1)).contains (dlba k % 16) then supd m (dlba k % 16) {} (markWords ws) else m
  { s with
    bca := { s.bca with
      index := smap s.bca.index {} fun m => { m with sector := m.sector.map own }
      lines := smap s.bca.lines {} fun l => { l with data := into l.vol l.block l.data }
      cut := s.bca.cut.map fun c => { c with data := into c.vol c.block c.data } }
    cmds := smap s.cmds {} fun c =>
      { c with data := c.data.map own, secs := smap c.secs {} fun o => { o with data := o.data.map own } } }

/-- What stands in burst `n`: in region 0 the sector that the line frame holds VALID there, elsewhere what the reader names (R459). DESIGN CHOICE, log
entry 99. -/
def State.holderOf (s : State) (n : Nat) (named : Held) : Held :=
  if n < 0x30000000 then
    let l := s.line (n / 1024)
    if l.valid.getLsbD (n / 64 % 16) then .sector (dkey l.vol (l.block * 16 + n / 64 % 16)) else .none
  else named

/-- The words of a burst whose POISON bit is new. -/
def freshWords (before after : BitVec 8) : List Nat := (List.range 8).filter fun w => after.getLsbD w && !before.getLsbD w

/-- The marks of burst `n` reach what stands in it (R463). -/
def State.markHolder (s : State) (n : Nat) (ws : List Nat) : Held → State
  | .none => s
  | .sector k =>
    if ws.isEmpty then s
    else if n < 0x30000000 then s.poisonSector k (ws.map fun w => n % 64 * 8 + w)
    else
      let s := s.poisonSector k (ws.map fun w => (n % 64 * 8 + w) % 516)
      { s with buf := { s.buf with holders := s.buf.holders ++ [(n, k)] } }
  | .staged o => { s with sec := { s.sec with stagingMarks := s.sec.stagingMarks ++ ws.map fun w => o / 64 * 8 + w } }
  | .entry m i write => s.updMu m fun x => { x with entryMarks := supd x.entryMarks (2 * i + flag write) 0 (· + ws.length) }

/-- A read of one burst, its totals in `p` (R462, R463). -/
def State.readBurst (s : State) (b : BurstRead) (p : ScrubPass) : State × ScrubPass :=
  let a := b.burst * 64
  let (t, q) := s.decodeBurst a b.hmeta b.words p
  (t.markHolder b.burst (freshWords (s.poisonOf a) (t.poisonOf a)) (s.holderOf b.burst b.holds), q)

/-- The bursts that a client reads, each decoded under R462. -/
def State.readBursts (s : State) (l : List BurstRead) : State := l.foldl (fun s b => (s.readBurst b {}).1) s

/-- A read as memory can return it. -/
def burstOk (b : BurstRead) : Bool := decide (b.burst < burstCount) && decide (b.hmeta.source < burstCount) && b.words.length == 8

/-! ### Writes (R464, R465) -/

/-- The bytes of a word with `bs` from byte `o` on. -/
def mergeBytes (w : BitVec 64) (o : Nat) (bs : List Byte) : BitVec 64 :=
  BitVec.ofNat 64 (leNat ((leBytes 8 w.toNat).take o ++ bs ++ (leBytes 8 w.toNat).drop (o + bs.length)))

/-- A write of `bs` at `a`, within one word of a region outside the cache, in which memory shows the bits `flips` in error: a write narrower than the word
is a locked read-modify-write (R464, R465). DEDUCED, log entry 71. -/
def State.bufWrite (s : State) (a : Nat) (bs : List Byte) (flips : BitVec 72) : State :=
  let w := a / 8 * 8
  let old := if wordFinding flips == 2 then s.bufWord w ^^^ flips.setWidth 64 else s.bufWord w
  let t := { s with buf := { s.buf with words := sset s.buf.words (w / 8) (mergeBytes old (a % 8) bs) 0 } }
  if bs.length == 8 then t.setPoison w (s.poisonOf w &&& ~~~(poisonBit w))
  else if s.poisonOf w &&& poisonBit w != 0 then t.bump 5 0 (aBuf 0x18)
  else if wordFinding flips == 1 then t.bufCorrected w true
  else if wordFinding flips == 2 then (t.setPoison w (s.poisonOf w ||| poisonBit w)).bufUncorrectable w
  else t

/-! ### The fill (R468) -/

/-- A burst lies in a region that a warm fill writes (R468). -/
def warmFilled (a : Nat) : Bool := [1, 4, 5, 6, 8].contains (bufRegion a)

/-- The fill writes zeros, correct check bits and tags and POISON 0: every region when cold, the regions of R468 when warm. -/
def State.filled (s : State) (cold : Bool) : State :=
  { s with buf := { s.buf with poison := sdrop s.buf.poison fun b => cold || warmFilled (b * 64)
                               words := sdrop s.buf.words fun w => cold || warmFilled (w * 8)
                               holders := s.buf.holders.filter fun e => !(cold || warmFilled (e.1 * 64)) } }

end Sys2Proof.Machine
end

