-- ==== Sys2Proof/Machine/Work.lean ====
section
/-! DEFINITION. The work of commands and of destage as it ends: releases at an abort or a reset (R372, R380, R440),
deferred errors (R381), data dropped from buffer memory, and the writes and flushes that wait on the medium. -/

namespace Sys2Proof.Machine

/-! ### Writes and flushes that wait on the medium -/

/-- Some sector of the write is still to reach the medium (R26). -/
def State.fuaPending (s : State) (c : Cmd) : Bool :=
  s.bca.index.any fun e => dvol e.1 == c.pkt.vol && c.lba ≤ dlba e.1 && dlba e.1 < c.lba + c.pkt.count && e.2.seq ≤ c.covers

/-- What a write with FUA completes with (R26, R238, R393). -/
def Cmd.fuaRes (c : Cmd) : Res :=
  match c.lostLba with
  | some l => { status := 0x0301, r0 := l, r1 := c.lostCount }
  | none => { r0 := if c.pkt.opc == 3 then c.lba else 0 }

/-- The writes with FUA of the list complete when nothing of them is left to reach the medium. -/
def State.settleFuaOf (s : State) : List Nat → State
  | [] => s
  | t :: r =>
    (if s.at_ t .fua && !s.fuaPending (s.cmd t) then s.complete t (s.cmd t).fuaRes else s).settleFuaOf r

/-- Every write with FUA that is done completes. DEDUCED, log entry 38. -/
def State.settleFua (s : State) : State := s.settleFuaOf (s.cmds.map (·.1))

/-- The command is a FLUSH or FLUSH_RANGE that waits for destage (R438, R489). -/
def Cmd.flushing (c : Cmd) : Bool := c.phase == .flush

/-- Every sector the flush covers is on the medium or dropped (R438, R489). DEDUCED, log entry 49. -/
def State.flushDone (s : State) (c : Cmd) : Bool :=
  !s.bca.index.any fun e => c.inScope e.1 && e.2.seq ≤ c.covers

/-- A loss as the flushes and writes that cover it record it. DEDUCED, log entry 93. -/
def Cmd.noteLoss (c : Cmd) (z : Nat) (ks : List (Nat × Nat)) : Cmd :=
  if c.phase == .fua then
    let own := ks.filter fun k => dvol k.1 == c.pkt.vol && c.lba ≤ dlba k.1 && dlba k.1 < c.lba + c.pkt.count && k.2 ≤ c.covers
    match own with
    | [] => c
    | k :: _ => { c with lostLba := some (match c.lostLba with | some l => Nat.min l (dlba k.1) | none => dlba k.1)
                         lostCount := c.lostCount + own.length }
  else if (c.flushing || c.pkt.opc == 5) && (ks.any fun k => c.inScope k.1 && k.2 ≤ c.covers) && !c.lostZones.contains z then
    { c with lostZones := c.lostZones ++ [z] }
  else c

/-- A loss noted by every command of the list. -/
def State.noteLossOf (s : State) (z : Nat) (ks : List (Nat × Nat)) : List Nat → State
  | [] => s
  | t :: r => (s.updCmd t fun c => c.noteLoss z ks).noteLossOf z ks r

/-! ### Fills (R478 to R481) -/

/-- A missing sector of a read attaches to a fill, or starts one; BCA allocates no line once power fails (R478 to R481, R501). -/
def State.startFill (s : State) (t v lba : Nat) : State :=
  let b := lba / 16
  let i := lba % 16
  let attach (s : State) (k : Nat) : State := s.updLine k fun l =>
    { l with st := .filling, filling := setBit16 l.filling i, attached := if l.attached.contains t then l.attached else l.attached ++ [t] }
  if !s.bca.enabled || s.bca.rekeyBusy || s.mns.powerFail then s
  else match s.findLine v b with
  | some k => attach s k
  | none =>
    if s.noAllocate v lba then s
    else match s.allocate v b (s.classOf v lba false) false with
    | (some k, u) => attach u k
    | (none, u) => u

/-- A sector that STRANDED reads wait for is no longer dirty: they go on at step 6 of R481. -/
def State.resumeWaits (s : State) (v lba : Nat) : List Nat → State
  | [] => s
  | t :: r =>
    let c := s.cmd t
    let i := lba - c.pkt.slba
    (if c.pkt.vol == v && c.pkt.slba ≤ lba && lba < c.pkt.slba + c.pkt.count && (sget c.secs i {}).waits && !s.isDirty (dkey v lba) then
      let s := s.updCmd t fun c => { c with secs := supd c.secs i {} fun o => { o with waits := false } }
      if c.pkt.opc == 1 then s.startFill t v lba else s
     else s).resumeWaits v lba r

/-- The reads that wait for one of the sectors listed go on where it has left the dirty index (R481). -/
def State.resumeReads (s : State) (ks : List Nat) : State :=
  ks.foldl (fun s k => s.resumeWaits (dvol k) (dlba k) (s.cmds.map (·.1))) s

/-! ### Deferred errors (R381, R382) -/

/-- The smallest record that covers two, with the cause of the first (R381). -/
def Deferred.widen (d : Deferred) (lba count : Nat) : Deferred :=
  let lo := Nat.min d.lba lba
  { d with lba := lo, count := Nat.max (d.lba + d.count) (lba + count) - lo }

/-- A deferred error of zone `z` from `lba` for `count` sectors: the record, the zone's state, the event and the notice (R381); `conv` says that
the zone is conventional. -/
def State.deferErrorAs (s : State) (conv : Bool) (v z lba count cause : Nat) : State :=
  let d := match (s.zone v z).deferred with
    | some d => d.widen lba count
    | none => { lba := lba, count := count, cause := cause }
  ((s.updZone v z fun x =>
      { x with deferred := some d, st := if conv || x.st == .offline then x.st else .readOnly }).raise 3 0 2 (locator v d.lba)).notice
    v 1 d.lba d.count d.cause 0x0202 true

/-- A deferred error of a zone whose kind the format tells. -/
def State.deferError (s : State) (v z lba count cause : Nat) : State := s.deferErrorAs (s.isConv v z) v z lba count cause

/-- Sectors with their commit sequences. -/
def State.withSeq (s : State) (ks : List Nat) : List (Nat × Nat) := ks.map fun k => (k, (sget s.bca.index k {}).seq)

/-- Acknowledged data of a zone is lost: dropped from buffer memory, its budget freed, a deferred error attached
over the range that R381 gives for the kind of zone, and the commands that cover it told. DEDUCED, log entry 38. -/
def State.lose (s : State) (v z cause : Nat) (ks : List Nat) : State :=
  match ks with
  | [] => s
  | k :: _ =>
    let lo := dlba k
    let hi := dlba (ks.getLastD k)
    let count := if s.isConv v z then hi + 1 - lo else z * 65536 + (s.zone v z).wp - lo
    (((s.noteLossOf (v * 2 ^ 17 + z) (s.withSeq ks) (s.cmds.map (·.1))).undirtyAll false ks).deferError v z lo count cause).settleFua.resumeReads ks

/-- Zones of a volume that hold dirty data. -/
def State.dirtyZones (s : State) (v : Nat) : List Nat :=
  ((s.bca.index.filter fun e => dvol e.1 == v).map fun e => zoneOf (dlba e.1)).eraseDups

/-- The dirty data of the zones listed is lost. -/
def State.loseZones (s : State) (v cause : Nat) : List Nat → State
  | [] => s
  | z :: r => (s.lose v z cause (s.dirtyIn v z)).loseZones v cause r

/-! ### The end of a command's work (R380, R440) -/

/-- A CLEARED marker whose command has ended completes none. -/
def LogItem.forget (t : Nat) : LogItem → LogItem
  | .record r => .record { r with cmd := if r.cmd == some t then none else r.cmd }
  | .reserve r => .reserve { r with cmd := if r.cmd == some t then none else r.cmd }
  | .boundary => .boundary

/-- The scrubber without a command: when its pass was in progress, the first that waits starts its own (R470). -/
def Buf.forget (b : Buf) (t : Nat) : Buf :=
  let left := b.scrubWaiting.filter (· != t)
  if (b.scrub.bind (·.cmd)) == some t then
    { b with scrub := left.head?.map fun n => { cmd := some n }, scrubBurst := 0, scrubWaiting := left.drop 1 }
  else { b with scrubWaiting := left }

/-- The first command waiting for a recovery entry takes one that is free (R445). -/
def Sch.promote (c : Sch) : Sch :=
  if c.recQueue.length < 32 then { c with recQueue := c.recQueue ++ c.recWaiting.take 1, recWaiting := c.recWaiting.drop 1 } else c

/-- The command of the recovery take in a hung core's hands (R447). -/
def State.recoveryOf (s : State) : HungTask → Option Nat
  | .recovery m => (s.mu m).sch.recQueue.head?
  | _ => none

/-- The tag is taken out of every place that names its command; a recovery entry that frees goes to the first that waits (R445). -/
def State.forget (s : State) (t : Nat) : State :=
  let drop := fun (l : List Nat) => l.filter (· != t)
  let one := fun (o : Option Nat) => if o == some t then none else o
  { s with
    bca := { s.bca with budget := drop s.bca.budget, rekeyCmd := one s.bca.rekeyCmd
                        lines := smap s.bca.lines {} fun l => { l with attached := drop l.attached } }
    pwr := { s.pwr with requester := one s.pwr.requester }
    log := { s.log with queue := s.log.queue.map fun i => i.forget t }
    mgt := { s.mgt with activation := s.mgt.activation.map fun a => { a with cmd := one a.cmd }
                        hungTasks := smap s.mgt.hungTasks .none fun k => if k == .command t || s.recoveryOf k == some t then .none else k }
    cal := { s.cal with calrefCmd := one s.cal.calrefCmd, converterCmds := drop s.cal.converterCmds }
    mns := { s.mns with bank := { s.mns.bank with hostRequests := drop s.mns.bank.hostRequests } }
    buf := s.buf.forget t
    store := { s.store with swap := s.store.swap.map fun p => { p with cmd := one p.cmd } }
    hdas := smap s.hdas {} fun h => { h with
      hsCmd := one h.hsCmd, releaseCmd := one h.releaseCmd
      srv := { h.srv with tune := h.srv.tune.map fun x => { x with cmd := one x.cmd } } }
    mus := smap s.mus {} fun m => { m with
      sch := Sch.promote { m.sch with
        queue := drop m.sch.queue, overflow := drop m.sch.overflow, recQueue := drop m.sch.recQueue
        recWaiting := drop m.sch.recWaiting, format := drop m.sch.format
        recovery := m.sch.recovery.bind fun d => if d.cmd == some t then none else some d
        slipNext := m.sch.slipNext.bind fun d => if d.cmd == some t then none else some d
        calib := m.sch.calib.bind fun k => if k.cmd == some t then none else some k }
      tsq := { m.tsq with
        abortPend := m.tsq.abortPend || (m.tsq.st != .idle && (m.tsq.desc.bind (·.cmd)) == some t)
        desc := m.tsq.desc.map fun d => { d with cmd := one d.cmd } } } }

/-- The command ends before its commit point: its budget, its staging room and the zone's hold return (R25, R437). An implicit open that its take-in
made stands, with its context: no release of R430 covers it. DEDUCED, log entry 37. -/
def State.unwrite (s : State) (t : Nat) : State :=
  let c := s.cmd t
  if (c.pkt.opc == 2 || c.pkt.opc == 3) && c.phase != .intake && c.phase != .fua then
    let s := { s with bca := { s.bca with budgetHeld := s.bca.budgetHeld - c.granted, stagedHeld := s.bca.stagedHeld - c.stagingHeld } }
    let z := zoneOf c.pkt.slba
    if (s.zone c.pkt.vol z).pend == some t then
      s.updZone c.pkt.vol z fun x => { x with pend := none }
    else s
  else s

/-- Nothing holds or awaits the command any longer: its hold on a zone, its part in lines, and every place that names it (R372, R380, R440).
DEDUCED, log entry 37. -/
def State.letGo (s : State) (t : Nat) : State := ((s.unwrite t).dropWriter t).forget t

/-- A command ends without having completed its work, with `r` (R380, R389). DEDUCED, log entry 37. -/
def State.endWith (s : State) (t : Nat) (r : Res) : State := (s.letGo t).complete t r

/-- The task in a hung core's hands (R447). -/
def State.hungCommand (s : State) (t : Nat) : Bool := s.mgt.hungTasks.any fun e => e.2 == .command t

/-- A managed command that has begun and whose change of state goes on without it: its calibration, and its record for the row that ends it (R440). A task
in a hung core's hands stays incomplete (R447). DEDUCED, log entry 38. -/
def State.orphaned (s : State) (t : Nat) : State :=
  let c := s.cmd t
  if c.phase == .executing && 0x20 ≤ c.pkt.opc && !s.hungCommand t then
    let s := { s with mgt := { s.mgt with orphans := s.mgt.orphans ++ [c] } }
    s.updMu c.pkt.vol fun m =>
      { m with sch := { m.sch with calib := m.sch.calib.map fun k => { k with cmd := if k.cmd == some t then none else k.cmd } } }
  else s

/-- The first such command of an opcode and sub-operation, for a row that names a tag without a command. -/
def State.orphan (s : State) (t opc sub : Nat) : Option Cmd :=
  if (s.tag t).st == .accepted then none else s.mgt.orphans.find? fun c => c.pkt.opc == opc && c.pkt.sub == sub

/-- Its change of state is complete. -/
def State.adopt (s : State) (c : Cmd) : State := { s with mgt := { s.mgt with orphans := s.mgt.orphans.erase c } }

/-- A command is discarded without completion (R372, R440). DEDUCED, log entry 38. -/
def State.discard (s : State) (t : Nat) : State :=
  let s := (s.orphaned t).letGo t
  { s with cmds := sset s.cmds t {} {} }

/-- Commands discarded in turn. -/
def State.discardAll (s : State) : List Nat → State
  | [] => s
  | t :: r => (s.discard t).discardAll r

/-- Commands that end with one outcome, in turn. -/
def State.endAll (s : State) (r : Res) : List Nat → State
  | [] => s
  | t :: l => (s.endWith t r).endAll r l

/-- What a command completes with whose data is lost in the module from sector `first` of its range on, `n` sectors of it; of a data command the lowest
LBA affected and the number of sectors (R389). -/
def Cmd.lossRes (c : Cmd) (first n : Nat) : Res :=
  if 1 ≤ c.pkt.opc && c.pkt.opc ≤ 4 then
    let o := Nat.min first c.pkt.nsec
    { status := 0x0401, r0 := c.lba + o, r1 := Nat.max 1 (Nat.min n (c.pkt.count - o)) }
  else { status := 0x0401 }

/-- The commands whose data passed through a failed entry end with DATA_INTEGRITY (R332, R389, R466). -/
def State.endLost (s : State) : List Loss → State
  | [] => s
  | x :: r => (if s.live x.tag then s.endWith x.tag ((s.cmd x.tag).lossRes x.first x.count) else s).endLost r

/-- Accepted commands that satisfy `p`, by tag. -/
def State.cmdsWhere (s : State) (p : Cmd → Bool) : List Nat :=
  (s.cmds.filter fun e => (s.tag e.1).st == .accepted && p e.2).map (·.1)

/-- Lines invalidated for a whole volume (R135). -/
def State.invalidateVolume (s : State) (v : Nat) : State := s.invalidateLines fun vol _ => vol == v

/-- Lines invalidated for one zone (R491, R537). -/
def State.invalidateZone (s : State) (v z : Nat) : State :=
  s.invalidateLines (blockIn v (z * 65536) (z * 65536 + 65535))

/-! ### The page of SCRUB MEDIA (R473) -/

/-- The SCRUB_SUMMARY page of a volume as a SCRUB MEDIA command leaves it; `aborted` says that ABORT ended it. -/
def State.scrubPage (s : State) (c : Cmd) (aborted : Bool) : List Byte :=
  let runs := c.runs.reverse.take 248
  padTo 64 (leBytes 8 c.lba ++ leBytes 4 c.pkt.p2.toNat ++ leBytes 1 c.pkt.rlvl ++ leBytes 1 (flag aborted + 2 * flag (248 < c.runs.length)) ++ leBytes 2 0
    ++ leBytes 8 c.counted ++ leBytes 8 c.uncounted ++ leBytes 8 c.recovered ++ leBytes 4 s.time.oph ++ leBytes 2 s.time.ops ++ leBytes 2 runs.length)
  ++ runs.flatMap fun r => leBytes 8 r.1 ++ leBytes 4 r.2 ++ leBytes 4 0

/-- Runs of sectors not read, extended by one sector. -/
def addRun (l : Nat) : List (Nat × Nat) → List (Nat × Nat)
  | [] => [(l, 1)]
  | (a, n) :: r => if a + n == l then (a, n + 1) :: r else (l, 1) :: (a, n) :: r

/-- The totals after the window in hand; `cut` says that an ABORT ends it, so that its undecided sectors count in neither total (R403, R473).
DEDUCED, log entry 72. -/
def Cmd.tally (c : Cmd) (cut : Bool) : Cmd :=
  (List.range c.pkt.count).foldl (fun (c : Cmd) i =>
    let o := sget c.secs i {}
    if o.read then { c with counted := c.counted + 1, recovered := c.recovered + flag (o.via != .clapper || o.step != 0) }
    else if cut && !o.failed then c
    else { c with uncounted := c.uncounted + 1, runs := addRun (c.pkt.slba + i) c.runs }) c

/-- A SCRUB MEDIA begins execution: the page of its volume is its own from now on (R473). -/
def State.scrubBegins (s : State) (t : Nat) : State :=
  { s with mgt := { s.mgt with scrubLast := sset s.mgt.scrubLast (s.cmd t).pkt.vol ((s.cmd t).order + 1) 0 } }

/-- The page is kept for the command's volume, unless a later SCRUB MEDIA of it has begun (R473). -/
def State.keepScrubPage (s : State) (c : Cmd) (aborted : Bool) : State :=
  if sget s.mgt.scrubLast c.pkt.vol 0 == c.order + 1 then
    { s with mgt := { s.mgt with scrubMedia := sset s.mgt.scrubMedia c.pkt.vol (s.scrubPage c aborted) [] } }
  else s

/-- An ABORT of a SCRUB MEDIA that has begun execution marks its page, the sectors of the window in hand counted. -/
def State.scrubAborted (s : State) (t : Nat) : State :=
  let c := s.cmd t
  if c.pkt.opc == 0x0A && c.pkt.sub == 1 && c.phase != .intake && c.phase != .perform then s.keepScrubPage (c.tally true) true else s

end Sys2Proof.Machine
end

