-- ==== Sys2Proof/Machine/Static.lean ====
section
/-! DEFINITION. The static checks of task packets: the counters' addresses, the legal values of features, and which
fields each opcode uses (R358, R361, R362, R386 to R426). -/

namespace Sys2Proof.Machine

/-! ### Where counters stand -/

/-- `a` is `base` + `stride` × i + `ofs` for some i below `n` and some listed `ofs`. -/
def strided (a base stride n : Nat) (ofs : List Nat) : Bool :=
  base ≤ a && a < base + stride * n && ofs.contains ((a - base) % stride)

/-- The BAR0 offset holds a counter register (the register tables of all chapters; R12). -/
def isCounter (a : Nat) : Bool :=
  [0x00010004, 0x00010008, 0x0001000C, 0x00010010, 0x01080820, 0x010E0008].contains a
  || strided a 0x00010200 4 512 [0] || strided a 0x00100000 0x1000 256 [0x84]
  || strided a 0x01040000 0x20 32 [0x0C] || strided a 0x01080000 0x40 32 [0x08, 0x0C, 0x10, 0x14, 0x18]
  || strided a 0x01080900 4 16 [0] || strided a 0x01090000 0x40 32 [0x04, 0x08, 0x0C, 0x10, 0x14, 0x18, 0x1C, 0x20]
  || strided a 0x010B0000 0x40 32 [0x08, 0x0C, 0x10, 0x14, 0x18, 0x1C, 0x20]
  || strided a 0x010C0000 0x40 16 [0x1C, 0x20, 0x24, 0x28, 0x2C, 0x30, 0x34] || strided a 0x010D0000 0x20 16 [0x0C, 0x10]
  || strided a 0x01050008 0x20 1 [0, 4, 8, 0xC, 0x10, 0x14, 0x18] || strided a 0x01050040 4 8 [0]
  || strided a 0x01060000 0x48 1 [0x20, 0x24, 0x28, 0x30, 0x34, 0x38, 0x3C, 0x40, 0x44]
  || strided a 0x01070000 0x20 1 [0x14, 0x18, 0x1C] || strided a 0x010F0000 0x30 1 [0x20, 0x24, 0x28, 0x2C]
  || strided a 0x01100000 0x20 1 [0x10, 0x14, 0x18, 0x1C] || strided a 0x01110000 0x10 1 [0x04, 0x08]
  || strided a 0x01110104 4 20 [0] || strided a 0x01120100 0x14 1 [0, 4, 8, 0xC, 0x10]
  || strided a 0x01131100 8 1 [0, 4] || strided a 0x01140028 0x0C 1 [0, 4, 8]

/-- Counters among `n` consecutive DW from `a`, those of ports and vectors that the link mode does not present left out (R318, R327). -/
def State.countersIn (s : State) (a : Nat) : Nat → List Nat
  | 0 => []
  | n + 1 =>
    let absent := (0x00010200 + 4 * s.vectors ≤ a && a < 0x00010A00) || (0x00100000 + 0x1000 * s.portsPerEp ≤ a && a < 0x00200000)
    if isCounter a && !absent then a :: s.countersIn (a + 4) n else s.countersIn (a + 4) n

/-! ### Scopes (R387) -/

/-- What VOL must be. -/
inductive Scope where
  | volume | module | either
deriving DecidableEq, Repr

/-- The opcode is defined (R387). -/
def opDefined (opc : Nat) : Bool := (1 ≤ opc && opc ≤ 0x0A) || (0x20 ≤ opc && opc ≤ 0x34)

/-- Scope of a feature (R407): MU-scoped features name the volume in VOL. -/
def featVolume (fid : Nat) : Bool := [0x04, 0x05, 0x06, 0x08].contains fid

/-- Scope of a packet's sub-operation (R387, R402, R403, R406, R408, R422). -/
def scopeOf (p : Packet) : Scope :=
  let sub := p.sub
  let sel := bits p.p0.toNat 15 8
  if [1, 2, 3, 4, 6, 7, 0x2F, 0x33].contains p.opc then .volume
  else if p.opc == 5 || p.opc == 0x34 then .either
  else if p.opc == 9 then (if sub == 3 || sub == 4 then .volume else .module)
  else if p.opc == 0x0A then (if sub == 1 then .volume else .module)
  else if p.opc == 0x20 then (if sub == 1 then .volume else .module)
  else if p.opc == 0x21 || p.opc == 0x22 then (if featVolume sel then .volume else .module)
  else if p.opc == 0x23 || p.opc == 0x24 then (if sel == 4 then .either else if sel == 7 then .volume else .module)
  else if p.opc == 0x2B then (if sub == 3 || sub == 4 then .volume else .module)
  else .module

/-- VOL suits the scope (check 8 of R358). -/
def volOk (p : Packet) : Bool :=
  match scopeOf p with
  | .volume => p.vol < 32
  | .module => p.vol == 0xFFFF
  | .either => p.vol < 32 || p.vol == 0xFFFF

/-! ### Legal values of features (R157, R208, R240, R283, R407, R479) -/

/-- Index range of a feature (R406, R407). -/
def featIdxOk (fid idx : Nat) : Bool :=
  if fid == 0x02 || fid == 0x03 then idx < 16
  else if fid == 0x0E then idx < 8
  else if fid == 0x0F then idx < 64
  else idx == 0

/-- The offset of the first of four value words in error, 40 to 52; none when all are legal. -/
def featBad (fid v0 v1 v2 v3 : Nat) : Option Nat :=
  let rest1 := if v1 != 0 then some 44 else if v2 != 0 then some 48 else if v3 != 0 then some 52 else none
  let only0 (ok : Bool) : Option Nat := if ok then rest1 else some 40
  match fid with
  | 0x01 | 0x0A | 0x0B => only0 (v0 ≤ 1)
  | 0x02 =>
    let fx := v0 / 65536
    let mn := v1 % 65536
    let mx := v1 / 65536
    let up := bits v2 7 0
    let hi := bits v3 10 0
    if !(bits v0 15 1 == 0 && 4800 ≤ fx && fx ≤ 7200 && fx % 10 == 0) then some 40
    else if !(4800 ≤ mn && mn ≤ mx && mx ≤ 7200 && mn % 100 == 0 && mx % 100 == 0) then some 44
    else if !(50 ≤ up && up ≤ 100 && bits v2 15 8 + 10 ≤ up && 1 ≤ bits v2 23 16 && v2 / 2 ^ 24 == 0) then some 48
    else if !(1 ≤ hi && hi ≤ 1024 && bits v3 26 16 < hi && bits v3 15 11 == 0 && v3 / 2 ^ 27 == 0) then some 52
    else none
  | 0x03 =>
    let cm := bits v0 15 8
    let rw := bits v1 7 0
    let rn := bits v1 15 8
    let ww := bits v1 23 16
    let wn := bits v1 31 24
    if !(bits v0 3 1 == 0 && 5 ≤ cm && cm ≤ 30 && v0 / 65536 == 0) then some 40
    else if !(8 ≤ rw && rw ≤ 64 && 1 ≤ rn && rn ≤ 16 && 4 ≤ ww && ww ≤ 32 && 1 ≤ wn && wn ≤ 32) then some 44
    else if v2 != 0 then some 48 else if v3 != 0 then some 52 else none
  | 0x04 => only0 (1 ≤ bits v0 4 0 && bits v0 4 0 ≤ 20 && bits v0 7 5 == 0 && 1 ≤ bits v0 9 8 && bits v0 11 10 == 0
      && 1 ≤ bits v0 14 12 && bits v0 14 12 ≤ 4 && bits v0 15 15 == 0 && bits v0 18 16 ≤ 4 && v0 / 2 ^ 19 == 0)
  | 0x05 => only0 (1 ≤ bits v0 1 0 && bits v0 1 0 ≤ 2 && bits v0 7 2 == 0 && 2 ≤ bits v0 12 8 && bits v0 12 8 ≤ 16 && v0 / 2 ^ 13 == 0)
  | 0x06 =>
    let ok (x : Nat) : Bool := 8 ≤ x && x ≤ 64
    only0 (bits v0 7 4 == 0 && ok (bits v0 15 8) && ok (bits v0 23 16) && ok (bits v0 31 24))
  | 0x07 => only0 (1 ≤ v0 && v0 ≤ 96)
  | 0x08 => only0 (v0 ≤ 40960)
  | 0x09 => only0 (1 ≤ v0 && v0 ≤ 8)
  | 0x0C => only0 (v0 ≤ 3)
  | 0x0D => if 7 < v0 then some 40 else if v1 == 0 then some 44 else if v2 != 0 then some 48 else if v3 != 0 then some 52 else none
  | 0x0E => only0 (1 ≤ v0 && v0 ≤ 65535)
  | 0x0F =>
    if bits v0 6 5 != 0 || bits v0 11 11 != 0 || bits v0 13 13 != 0 || v0 / 2 ^ 15 != 0 then some 40
    else if v1 / 2 ^ 17 != 0 then some 44
    else if v2 / 2 ^ 17 != 0 || v2 < v1 then some 48
    else if v3 != 0 then some 52 else none
  | 0x10 => only0 (1 ≤ v0)
  | 0x11 => only0 (bits v0 6 0 ≤ 100 && bits v0 7 7 == 0 && bits v0 15 9 == 0 && bits v0 22 16 ≤ 100 && v0 / 2 ^ 23 == 0)
  | _ => some 20

/-- Sum of CONTEXT_LIMIT over the MUs, with `limit` for MU `v` (R431). -/
def State.limitSum (s : State) (v limit : Nat) : Nat :=
  ((List.range 32).map fun m => if m == v then limit else s.contextLimit m).foldl (· + ·) 0

/-! ### The fields of each opcode (R361, R386) -/

/-- What a packet of an opcode and sub-operation may hold. -/
structure Legal where
  /-- Legal bits of FLG[3:0], and whether RLVL may be nonzero. -/
  flg : Nat := 0
  rlvl : Bool := false
  /-- SLBA as it stands is legal; the stored NSEC may be nonzero. -/
  slba : Bool := true
  range : Bool := false
  lba : Bool := false
  p0 : Bool := true
  /-- DPTR names data. -/
  data : Bool := false
  /-- PARAM1 may name a token or a nonce. -/
  token : Bool := false
  p2 : Bool := true
  p3 : Bool := true
  p4 : Bool := true
  p5 : Bool := true
deriving DecidableEq, Repr

/-- PARAM0 holds sub-operation `lo` to `hi` and nothing else. -/
def subIn (p : Packet) (lo hi : Nat) : Bool := lo ≤ p.p0.toNat && p.p0.toNat ≤ hi

/-- A LEN of R386 that is `ok`. -/
def lenOk (p : Packet) : Bool := p.p5.toNat != 0 && p.p5.toNat % 4 == 0 && p.p5.toNat ≤ 0x1000000

/-- Number of conventional zones that TPI knows of a volume (R386). -/
def State.convCount (s : State) (v : Nat) : Nat := ((s.mu v).fmt.zones.filter (·.conv)).length

/-- LEN of SERVO_TUNE REPLACE by KIND (R424). -/
def tuneLen (kind : Nat) : Nat :=
  match kind with | 0 => 1024 | 1 => 64 | 2 => 2048 | 3 => 512 | 4 => 2560 | 5 => 1024 | _ => 0

/-- The subsystem and instance that FAULT_CTL names exist (R426). -/
def srcOk (p2 : Nat) (all : Bool) : Bool :=
  let sub := bits p2 4 0
  let inst := bits p2 13 8
  bits p2 7 5 == 0 && p2 / 2 ^ 14 == 0 && 1 ≤ sub && sub ≤ 20 && (inst < instancesOf sub || (all && inst == 0x3F))

/-- BLOCK_RESET exists for the subsystem (R552). -/
def hasBlockReset (sub : Nat) : Bool := [1, 2, 8, 9, 11, 12, 13, 10, 14].contains sub

/-- PATH injection is legal for the kind and ADDR (R556). -/
def pathOk (sub kind addr : Nat) : Bool :=
  (sub == 11 && [1, 2, 3, 8].contains kind) || (sub == 12 && kind == 1 && addr % 16 == 1) || (sub == 12 && kind == 3)
  || (sub == 13 && kind == 1)

/-- What the opcode's entry lets a packet hold. -/
def State.legal (s : State) (e : Nat) (p : Packet) : Legal :=
  let p0 := p.p0.toNat
  let p2 := p.p2.toNat
  let p3 := p.p3.toNat
  let p4 := p.p4.toNat
  let p5 := p.p5.toNat
  let sub := p.sub
  let sel := bits p0 15 8
  let idx := bits p0 23 16
  let z2 := p2 == 0
  let z3 := p3 == 0
  let z4 := p4 == 0
  let z5 := p5 == 0
  let mflag := if (s.mu p.vol).hasMeta then 8 else 0
  let vol := p.vol
  let conv := zoneOf p.slba < s.convCount vol
  let none4 : Legal := { p2 := z2, p3 := z3, p4 := z4, p5 := z5 }
  match p.opc with
  | 0x01 => { none4 with flg := 4 + mflag, rlvl := true, lba := true, range := true, p0 := p0 == 0, data := true }
  | 0x02 => { none4 with flg := 6 + mflag, lba := true, range := true, p0 := p0 == 0, data := true }
  | 0x03 => { none4 with flg := 6 + mflag, lba := true, range := true, slba := p.slba % 65536 == 0 && !conv, p0 := p0 == 0, data := true }
  | 0x04 => { none4 with rlvl := true, lba := true, range := true, p0 := p0 == 0 }
  | 0x05 => { none4 with flg := 1, p0 := p0 == 0 }
  | 0x06 =>
    let all := bit p0 8
    { none4 with lba := true, slba := if all then p.slba == 0 else p.slba % 65536 == 0 && !conv
                 p0 := 1 ≤ sub && sub ≤ 4 && p0 / 512 == 0 && !(all && sub == 1)
                 p2 := if sub == 1 then p2 ≤ 1023 || p2 == 0x7FF else z2 }
  | 0x07 => { none4 with flg := 4, lba := true, p0 := sub == 0 && sel ≤ 10 && p0 / 65536 == 0, data := true
                         p5 := p5 % 64 == 0 && 64 ≤ p5 && p5 ≤ 0x1000000 }
  | 0x08 => { none4 with p0 := p0 == 0, p2 := p2 < 16384 }
  | 0x09 =>
    { none4 with lba := sub == 3 || sub == 4, range := sub == 3 || sub == 4, p0 := subIn p 1 5
                 token := sub == 4 && bit p2 2
                 p2 := if sub == 1 then p2 ≤ 1 else if sub == 2 then p2 ≤ 3 else if sub == 4 then p2 == 0 || p2 == 4 else z2 }
  | 0x0A =>
    { none4 with rlvl := sub == 1, lba := sub == 1, slba := sub != 1 || p.slba % 65536 == 0, p0 := subIn p 1 2
                 p2 := if sub == 1 then 1 ≤ p2 && p2 ≤ 65536 else z2 }
  | 0x20 => { none4 with flg := 4, p0 := subIn p 0 1, data := true, p5 := p5 == 4096 }
  | 0x21 => { none4 with p0 := sub ≤ 2 && 1 ≤ sel && sel ≤ 0x11 && featIdxOk sel idx && p0 / 2 ^ 24 == 0 }
  | 0x22 =>
    let b := featBad sel p2 p3 p4 p5
    { p0 := sub == 0 && 1 ≤ sel && sel ≤ 0x11 && featIdxOk sel idx && p0 / 2 ^ 24 == 0
      token := sel == 0x0A || sel == 0x0C
      p2 := b != some 40 && !(sel == 0x08 && 40960 < s.limitSum vol (bits p2 15 0))
      p3 := b != some 44, p4 := b != some 48, p5 := b != some 52 }
  | 0x23 => { none4 with flg := 4, data := true, p2 := if sel == 3 then z2 else p2 % 4 == 0, p5 := lenOk p
                         p0 := sub == 0 && 1 ≤ sel && sel ≤ 9 && p0 / 2 ^ 24 == 0
                           && (if sel == 8 then idx ≤ 16 else if sel == 9 then idx < 16 else idx == 0) }
  | 0x24 => { none4 with p0 := sub == 0 && 1 ≤ sel && sel ≤ 4 && p0 / 65536 == 0, token := sel == 2 }
  | 0x25 => { none4 with flg := if sub < 3 then 4 else 0, p0 := subIn p 0 3, data := sub < 3
                         p2 := z2 || sub == 0 || sub == 3, p5 := if sub < 3 then p5 == 4096 else z5 }
  | 0x26 => { none4 with flg := 4, p0 := p0 == 0, data := true, token := true, p5 := lenOk p && 4096 ≤ p5 && p5 ≤ 8192 }
  | 0x27 =>
    { none4 with flg := if sub == 0 then 4 else 0, p0 := subIn p 0 2, data := sub == 0
                 p2 := if sub == 0 then p2 % 4096 == 0 && p2 + p5 ≤ 0x4000000 else if sub == 1 then 1 ≤ p2 && p2 ≤ 0x4000000 else z2
                 p5 := if sub == 0 then p5 % 4096 == 0 && 4096 ≤ p5 && p5 ≤ 0x100000 else z5 }
  | 0x28 => { none4 with p0 := subIn p 0 1
                         p2 := p2 ≤ 1 && (if p2 == 0 then s.nor.slotA else s.nor.slotB).st == .valid }
  | 0x29 => { none4 with p0 := subIn p 0 1, p2 := if sub == 0 then p2 ≤ 4 else z2 }
  | 0x2A => { none4 with p0 := subIn p 1 4, p2 := p2 ≤ 15, p3 := if sub == 1 then p3 ≤ 3 else z3 }
  | 0x2B => { none4 with p0 := subIn p 1 5, token := 2 ≤ sub && sub ≤ 4 }
  | 0x2C =>
    { none4 with flg := if sub == 1 then 4 else 0, p0 := subIn p 1 5, data := sub == 1
                 p2 := if sub == 3 || sub == 4 then p2 ≤ 15 else z2, p3 := sub == 3 || sub == 4 || z3
                 p5 := if sub == 1 then lenOk p else z5 }
  | 0x2D =>
    let dom := sub ≤ 4 || sub == 9
    { none4 with flg := if sub == 5 || sub == 7 then 4 else 0, p0 := subIn p 1 9, data := sub == 5 || sub == 7
                 token := sub != 2 && sub != 9
                 p2 := if dom then p2 ≤ 1023 else z2, p3 := if sub == 5 || sub == 6 then p3 ≤ 7 else z3
                 p4 := sub == 8 || z4, p5 := if sub == 5 then p5 == 64 else if sub == 7 then p5 == 68 else z5 }
  | 0x2E => { none4 with p0 := p0 == 0 }
  | 0x2F =>
    let ch (i : Nat) : Bool := bits p4 (8 * i + 7) (8 * i) ≤ 0x0D
    { flg := if sub == 3 then 4 else 0, p0 := subIn p 1 3, data := sub == 3, token := sub == 3
      p2 := if sub == 1 then 1 ≤ bits p2 2 0 && bits p2 2 0 ≤ 6 && bits p2 3 3 == 0 && bits p2 7 5 == 0 && p2 / 4096 == 0
            else if sub == 3 then bits p2 3 0 ≤ 5 && bits p2 7 4 == 0 && bits p2 11 8 ≤ 11 && bits p2 15 12 == 0
              && bits p2 19 16 ≤ 9 && p2 / 2 ^ 20 == 0
            else z2
      p3 := if sub == 1 then 1 ≤ bits p3 15 0 && bits p3 15 0 ≤ 32767 && p3 / 65536 ≤ 8192 else z3
      p4 := if sub == 1 then ch 0 && ch 1 && ch 2 && ch 3 else z4
      p5 := if sub == 1 then bits p5 15 8 == 0 else if sub == 3 then p5 == tuneLen (bits p2 3 0) else z5 }
  | 0x30 => { none4 with p0 := p0 == 0 }
  | 0x31 =>
    { none4 with p0 := subIn p 1 3
                 p2 := if sub == 1 then p2 % 4 == 0 && !(1 ≤ p3 && p3 ≤ 4096 && (s.countersIn p2 p3).isEmpty) else z2
                 p3 := if sub == 1 then 1 ≤ p3 && p3 ≤ 4096 else z3 }
  | 0x32 =>
    let addr := bits p5 7 0 * 2 ^ 32 + p4
    { none4 with p0 := subIn p 1 4
                 p2 := if sub == 3 then z2 else srcOk p2 (sub == 1)
                 p3 := if sub == 1 then p3 ≤ 31 && (!bit p3 2 || hasBlockReset (bits p2 4 0))
                       else if sub == 4 then bits p3 7 6 == 0 && p3 / 512 == 0 && (kindOf (bits p2 4 0) (bits p3 5 0) addr).isSome
                         && (!bit p3 8 || pathOk (bits p2 4 0) (bits p3 5 0) addr)
                       else z3
                 p4 := sub == 4 || z4, p5 := if sub == 4 then p5 ≤ 255 else z5 }
  | 0x33 =>
    { none4 with p0 := subIn p 1 4 && !((sub == 2 || sub == 3) && !s.dual), token := sub == 1
                 p2 := if sub == 1 then bits p2 15 1 == 0 && p2 / 65536 ≤ 1023 else if sub == 3 then p2 == 0 || p2 == 2
                       else if sub == 4 then p2 % 65536 == 0 && p2 / 65536 ≤ 1023 else z2 }
  | 0x34 => { none4 with p0 := subIn p 0 1, p2 := p2 < s.portsPerEp && (s.cq (moduleNo e p2)).isEvent }
  | _ => { p0 := false }

/-- The packet byte offset of the first field found in error, in ascending order (check 7 of R358, R361, R362). -/
def State.fieldBad (s : State) (e : Nat) (p : Packet) : Option Nat :=
  let l := s.legal e p
  let low := p.flg.toNat % 16
  if (low &&& (15 - l.flg)) != 0 || (!l.rlvl && p.rlvl != 0) || 6 < p.rlvl then some 1
  else if bits (field p.raw 2 2) 15 14 != 0 then some 2
  else if bits (field p.raw 6 2) 15 8 != 0 then some 6
  else if !l.slba || (!l.lba && p.slba != 0) then some 8
  else if (!l.range && p.nsec != 0) || 65535 < p.nsec then some 16
  else if !l.p0 then some 20
  else if (!l.data && p.dptr != 0) || p.dptr % (if p.sgl then 16 else 4) != 0 then some 24
  else if (if p.hasMeta then p.mptr % (if p.sgl then 16 else 4) != 0
           else if l.token then p.mptr % 16 != 0 else p.mptr != 0) then some 32
  else if !l.p2 then some 40
  else if !l.p3 then some 44
  else if !l.p4 then some 48
  else if !l.p5 then some 52
  else if field p.raw 56 4 != 0 then some 56
  else none

/-- The opcode carries an LBA range, and how many LBAs from SLBA it names (checks 9 and 10 of R358). -/
def rangeOf (p : Packet) : Option Nat :=
  if (1 ≤ p.opc && p.opc ≤ 4) || (p.opc == 9 && (p.sub == 3 || p.sub == 4)) then some p.count
  else if p.opc == 6 || p.opc == 7 || (p.opc == 0x0A && p.sub == 1) then some 1
  else none

/-- Checks 6 to 10 of R358 in order; none when the packet passes. Check 9 is made where the module knows
the volume's zone count. -/
def State.staticBad (s : State) (e : Nat) (p : Packet) : Option Res :=
  if !opDefined p.opc then some { status := 0x0100 }
  else match s.fieldBad e p with
  | some o => some (badField o)
  | none =>
    if !volOk p then some { status := 0x0103 }
    else match rangeOf p with
    | none => none
    | some n =>
      let zones := s.zoneCount p.vol
      if zones != 0 && zones * 65536 < p.slba + n then some { status := 0x0104 }
      else if p.opc ≤ 4 && zoneOf p.slba != zoneOf (p.slba + n - 1) then some { status := 0x0105 }
      else none

end Sys2Proof.Machine
end

