-- ==== Sys2Proof/Machine/Intake.lean ====
section
/-! DEFINITION. From the task packet to the disposal of a command: R356 to R364, R378 to R380, R427 to R431, R438, R439. -/

namespace Sys2Proof.Machine

/-! ### Acceptance (R358 to R360) -/

/-- A packet refused without completion (R359). -/
def State.refusePacket (s : State) (e port tag reason : Nat) : State :=
  let m := moduleNo e port
  ((s.updPort m fun p => { p with lastTag := tag, lastReason := reason }).bumpW 2 0 (epCtr e (0x00100084 + port * 0x1000)) 7 1).raise
    2 0 1 (tag + port * 2 ^ 14 + reason * 2 ^ 22)

/-- A refusal whose entry goes to the port's PORT_CQ (R360). -/
def State.refuseToPort (s : State) (e port tag status : Nat) : State :=
  let m := moduleNo e port
  let q := moduleNo e (s.port m).cq
  if (s.cq q).isData && (s.port m).cq < s.portsPerEp then s.post tag q m { status := status }
  else s.refusePacket e port tag 2

/-- The command record of an accepted packet. A FLUSH takes the commit sequence at acceptance (R438). -/
def State.newCmd (s : State) (e m : Nat) (p : Packet) : Cmd :=
  { ep := e, port := m, pkt := p, epoch := (s.ep e).epoch, order := s.accept, listsOk := !p.sgl, lba := p.slba
    covers := s.bca.commitSeq }

/-- The packet is accepted: its tag becomes ACCEPTED and it passes to ZCX (R358); a packet accepted in PS4 fires the HOST wake (R590). -/
def State.acceptPacket (s : State) (e m : Nat) (p : Packet) : State :=
  let s := s.setTag p.tag { st := .accepted, port := m }
  ({ s with cmds := sset s.cmds p.tag (s.newCmd e m p) {}, accept := s.accept + 1 }).fireWake 0

/-- The checks of R358 on a 64-byte TASK write, in order. DEDUCED, log entry 12. -/
def State.taskWrite (s : State) (e port : Nat) (bs : List Byte) : State :=
  let p := parsePacket bs
  let m := moduleNo e port
  if !s.ready || (s.ep e).crstBusy || s.mns.powerFail then s.refusePacket e port p.tag 3
  else if !((s.tag p.tag).st == .claimed && (s.tag p.tag).port == m) then s.refusePacket e port p.tag 1
  else if crc32c (bs.take 60) != BitVec.ofNat 32 (field bs 60 4) then s.refuseToPort e port p.tag 0x0102
  else if !((s.cq (moduleNo e p.cqid)).isData && p.cqid < s.portsPerEp) then s.refuseToPort e port p.tag 0x0106
  else if s.activating then s.post p.tag (moduleNo e p.cqid) m { status := 0x0203 }
  else match s.staticBad e p with
  | some r => s.post p.tag (moduleNo e p.cqid) m r
  | none => s.acceptPacket e m p

/-- A BAR0 write of an illegal form: discarded, counted, one event (R326). -/
def State.badAccess (s : State) (e a : Nat) : State := (s.bump 1 0 (epCtr e 0x00010010)).raise 1 0 0x32 a

/-- A write to the TASK window of a port (R356, R358). DEDUCED, log entry 34. -/
def execTaskPacket (ep : EpNo) (port : Nat) (bytes : List Byte) (s : State) : Out :=
  s.barServed ep (port < s.portsPerEp) <|
    if bytes.length == 64 then s.taskWrite ep port bytes else s.badAccess ep (0x00100040 + port * 0x1000)

/-! ### Segment lists (R362 to R364) -/

/-- One entry of a segment list (R363). -/
structure Seg where
  addr : Nat
  len : Nat
  flags : Nat
deriving DecidableEq, Repr

/-- The 16 bytes of a segment list entry (R3, R363). -/
def parseSeg (b : List Byte) : Seg := { addr := field b 0 8, len := field b 8 4, flags := field b 12 4 }

/-- The entries of a segment's bytes, in order; bytes beyond the last whole entry are none. -/
def parseSegs (b : List Byte) : List Seg := (List.range (b.length / 16)).map fun i => parseSeg ((b.drop (i * 16)).take 16)

/-- LAST of a segment entry. -/
def segLast (x : Seg) : Bool := bit x.flags 0
/-- CHAIN of a segment entry. -/
def segChain (x : Seg) : Bool := bit x.flags 1

/-- The entry breaks no rule of its own (R362, R363). DEDUCED, log entry 91. -/
def segOk (x : Seg) : Bool :=
  x.flags < 4 && !(segLast x && segChain x) &&
  (if segChain x then x.addr % 16 == 0 && x.len % 16 == 0 && 16 ≤ x.len && x.len ≤ 4096
   else x.addr % 4 == 0 && x.len % 4 == 0 && x.len != 0)

/-- Where the check of a list stands: entries, data entries and chains seen, and the sum so far. -/
structure SegAt where
  idx : Nat := 0
  data : Nat := 0
  chains : Nat := 0
  sum : Nat := 0
deriving DecidableEq, Repr

/-- How a segment ended: an offending entry, the end of the list, or the length of the next segment. -/
inductive SegEnd where
  | bad (idx : Nat)
  | done
  | next (entries : Nat) (at_ : SegAt)
deriving DecidableEq, Repr

/-- The entries of one segment checked in order; `left` entries may still come, exactly so many in a chained one (R363). DEDUCED, log entry 91. -/
def checkSeg (total : Nat) (exact : Bool) : Nat → SegAt → List Seg → SegEnd
  | _, a, [] => .bad a.idx
  | left, a, x :: r =>
    let b : SegAt := { idx := a.idx + 1, data := a.data + flag (!segChain x), chains := a.chains + flag (segChain x)
                       sum := a.sum + if segChain x then 0 else x.len }
    if !segOk x || 16384 < b.data || 1024 < b.chains || total < b.sum then .bad a.idx
    else if segLast x || segChain x then
      if exact && 1 < left then .bad a.idx
      else if segChain x then .next (x.len / 16) b
      else if b.sum < total then .bad a.idx else .done
    else if left ≤ 1 then .bad a.idx
    else checkSeg total exact (left - 1) b r

/-- The whole list, segment by segment; the offending entry, if there is one. DEDUCED, log entry 91. -/
def checkSegs (total : Nat) : Nat → Bool → SegAt → List (List Seg) → Option Nat
  | _, _, a, [] => some a.idx
  | left, exact, a, x :: r =>
    match checkSeg total exact left a x with
    | .bad i => some i
    | .done => none
    | .next n b => checkSegs total n true b r

/-- Bytes the command moves by DPTR (R362, R386). -/
def transferLen (p : Packet) : Nat := if p.opc ≤ 3 then p.count * 4096 else p.p5.toNat

/-- The first offending entry of the command's lists: DPTR's, then MPTR's where META is set. -/
def listBad (p : Packet) (dl ml : List (List Seg)) : Option Nat :=
  match checkSegs (transferLen p) 256 false {} dl with
  | some i => some i
  | none => if p.hasMeta then checkSegs (p.count * 16) 256 false {} ml else none

/-- A list in error (R361). -/
def badList (i : Nat) : Res := { status := 0x0101, r0 := 0xFFFF + 2 ^ 16 + i % 65536 * 2 ^ 32 }

/-- The data entries of a list, as addresses and lengths. -/
def dataSegs (l : List (List Byte)) : List (Nat × Nat) := ((l.flatMap parseSegs).filter fun x => !segChain x).map fun x => (x.addr, x.len)

/-- HLK has fetched and checked the whole segment list of a command: the bytes of each segment in turn (R363, R364). -/
def execSegmentListFetched (tag : TagNo) (dataList metaList : List (List Byte)) (s : State) : Out :=
  let c := s.cmd tag
  guarded (s.live tag && c.pkt.sgl && !c.listsOk && s.hostOk c.ep) s <|
    match listBad c.pkt (dataList.map parseSegs) (metaList.map parseSegs) with
    | some i => s.endWith tag (badList i)
    | none => s.updCmd tag fun c => { c with listsOk := true, dataSegs := dataSegs dataList, metaSegs := dataSegs metaList }

/-! ### Holds at intake (R428, R439) -/

/-- The opcode is a data opcode that addresses one zone. -/
def dataOp (opc : Nat) : Bool := 1 ≤ opc && opc ≤ 4

/-- A command that R439 does not hold. -/
def barrierExempt (p : Packet) : Bool :=
  [7, 8, 0x20, 0x21, 0x23, 0x33].contains p.opc || (p.opc == 9 && (p.sub == 1 || p.sub == 5))
  || (p.opc == 0x2D && (p.sub == 2 || p.sub == 4)) || (p.vol == 0xFFFF && p.opc != 5)

/-- A BARRIER flush accepted earlier holds the command (R439). -/
def State.heldByBarrier (s : State) (c : Cmd) : Bool :=
  !barrierExempt c.pkt &&
  s.cmds.any fun f => (s.tag f.1).st == .accepted && f.2.pkt.opc == 5 && f.2.pkt.barrier && f.2.order < c.order
    && (f.2.pkt.vol == 0xFFFF || f.2.pkt.vol == c.pkt.vol || (c.pkt.opc == 5 && c.pkt.vol == 0xFFFF))

/-- The write between take-in and commit of a zone was accepted before acceptance number `order`. -/
def State.pendBefore (s : State) (x : Zone) (order : Nat) : Bool :=
  match x.pend with
  | none => false
  | some t => decide ((s.cmd t).order < order)

/-- The command is a ZONE_MGMT with ALL: it addresses every sequential zone of its volume (R397). -/
def Packet.allZones (p : Packet) : Bool := p.opc == 6 && bit p.p0.toNat 8

/-- A ZONE_MGMT with ALL waits for an earlier-accepted write of some zone of its volume (R428). -/
def State.allHeld (s : State) (c : Cmd) : Bool := c.pkt.allZones && (s.mu c.pkt.vol).zones.any fun z => s.pendBefore z.2 c.order

/-- An earlier-accepted write of a zone the command addresses stands between take-in and commit, or an earlier-accepted command that addresses the zone
too is held itself (R394, R428). DEDUCED, log entry 94. -/
def State.heldByZone (s : State) (c : Cmd) : Bool :=
  if dataOp c.pkt.opc || (c.pkt.opc == 6 && !c.pkt.allZones) then
    !s.isConv c.pkt.vol (zoneOf c.pkt.slba) && (s.pendBefore (s.zone c.pkt.vol (zoneOf c.pkt.slba)) c.order
      || s.cmds.any fun e => (s.tag e.1).st == .accepted && e.2.phase == .intake && e.2.pkt.vol == c.pkt.vol && e.2.order < c.order && s.allHeld e.2)
  else s.allHeld c

/-- A hold of R428 applies. -/
def State.held (s : State) (c : Cmd) : Bool := s.heldByBarrier c || s.heldByZone c

/-- ZCX has still to carry out a command that it is taking in: the lookup of a read, the grant's queue of a write, a FLUSH, a ZONE_MGMT or an ABORT
(R394, R427). -/
def Cmd.atZcx (c : Cmd) : Bool := c.phase == .perform && ((1 ≤ c.pkt.opc && c.pkt.opc ≤ 6) || c.pkt.opc == 8)

/-- Every command accepted earlier has been taken in, and what ZCX itself does for it is done, or it is held (R394, R427). -/
def State.turn (s : State) (c : Cmd) : Bool :=
  s.cmds.all fun e => !((s.tag e.1).st == .accepted && e.2.order < c.order && ((e.2.phase == .intake && !s.held e.2) || e.2.atZcx))

/-! ### Taking in (R378, R381, R427, R430) -/

/-- The deferred error of a zone is delivered and its record removed (R381, R382). -/
def State.deliverDeferred (s : State) (t v z : Nat) : State :=
  match (s.zone v z).deferred with
  | none => s
  | some d =>
    (s.updZone v z fun x => { x with deferred := none }).endWith t
      { status := 0x0202, r0 := d.lba, r1 := d.count, r2 := d.cause, defer := true }

/-- A blocked command ends (R376, R381). DEDUCED, log entry 37. -/
def State.block (s : State) (t v z : Nat) : Block → State
  | .code c => s.endWith t (conflict c)
  | .deferred => s.deliverDeferred t v z

/-- A write is taken in: it becomes its zone's write between take-in and commit, and opens the zone if it must (R392, R393, R430). -/
def State.takeInWrite (s : State) (t v z : Nat) (append : Bool) : State :=
  if s.isConv v z then s.setPhase t .perform
  else
    let x := s.zone v z
    let s := s.updZone v z fun x =>
      { x with pend := some t, st := if x.isOpen then x.st else .implicitOpen
               kdom := if x.st == .empty then some (s.mu v).defaultKdom else x.kdom }
    s.updCmd t fun c => { c with phase := .perform, lba := if append then z * 65536 + x.wp else c.lba }

/-- VOLUME_CTL RELEASE and TAKEOVER take effect in the cycle in which ZCX takes them in, so that their own rows take them in (R344). -/
def Packet.changesOwner (p : Packet) : Bool := p.opc == 0x33 && (p.sub == 2 || p.sub == 3)

/-- A command other than READ, VERIFY, WRITE and ZONE_APPEND is taken in: whether its endpoint owns the volume it names is decided now (R345). -/
def State.takeInOther (s : State) (t : Nat) (p : Phase) : State :=
  s.updCmd t fun c => { c with phase := p, stranger := decide (c.pkt.vol < 32) && s.notOwner c.ep c.pkt.vol }

/-- The take-in of an accepted command: the checks of R378 on data commands, then its disposal (R427). DEDUCED, log entries 34 and 36. -/
def State.takeIn (s : State) (t : Nat) : State :=
  let c := s.cmd t
  let p := c.pkt
  let z := zoneOf p.slba
  let outside := s.zoneCount p.vol != 0 && s.zoneCount p.vol ≤ z
  if p.opc == 1 || p.opc == 4 then
    match s.blockRead c.ep p.vol z c.order with
    | some b => s.block t p.vol z b
    | none => if outside then s.endWith t { status := 0x0104 } else s.setPhase t .perform
  else if p.opc == 2 || p.opc == 3 then
    match s.blockWrite c.ep p.vol z (ofsOf p.slba) p.count c.order (p.opc == 3) with
    | some b => s.block t p.vol z b
    | none => if outside then s.endWith t { status := 0x0104 } else s.takeInWrite t p.vol z (p.opc == 3)
  else s.takeInOther t (if p.opc < 0x20 then .perform else .managed)

/-- It is the command's turn to be taken in (R427, R428). -/
def State.mayTakeIn (s : State) (t : Nat) : Bool := s.at_ t .intake && !s.held (s.cmd t) && s.turn (s.cmd t)

/-- ZCX takes in an accepted command (R427). DEDUCED, log entry 34. -/
def execIntake (tag : TagNo) (s : State) : Out :=
  guarded (s.mayTakeIn tag && !(s.cmd tag).pkt.changesOwner) s (s.takeIn tag)

/-! ### SCH's queue (R429) -/

/-- Commands in an MU's SCH entries. -/
def Sch.depth (c : Sch) : Nat := c.queue.length

/-- A command that needs the medium enters SCH, or the overflow list when SCH is full (R429). -/
def State.toSch (s : State) (t v : Nat) : State :=
  if (s.mu v).sch.depth < 1024 && (s.mu v).sch.overflow.isEmpty then
    (s.updMu v fun m => { m with sch := { m.sch with queue := m.sch.queue ++ [t] } }).setPhase t .sch
  else (s.updMu v fun m => { m with sch := { m.sch with overflow := m.sch.overflow ++ [t] } }).setPhase t .overflow

/-- The oldest command of an MU's overflow list enters SCH (R429). -/
def execOverflowToSch (mu : MuNo) (s : State) : Out :=
  match (s.mu mu).sch.overflow with
  | [] => .next s
  | t :: r =>
    guarded ((s.mu mu).sch.depth < 1024) s
      ((s.updMu mu fun m => { m with sch := { m.sch with overflow := r, queue := m.sch.queue ++ [t] } }).setPhase t .sch)

/-! ### ABORT (R379, R380, R401) -/

/-- The target's own completion stands or follows: its latch is set, its write has passed the commit point, or MGT has begun it. DEDUCED, log entry 93. -/
def State.pastAbort (s : State) (t : Nat) : Bool :=
  (s.tag t).st == .posted || (s.cmd t).phase == .fua || ((s.cmd t).phase == .executing && 0x20 ≤ (s.cmd t).pkt.opc)

/-- The target is a tag of the same endpoint (R401). -/
def State.tagOf (s : State) (e t : Nat) : Bool := !s.dual || t / 8192 == e

/-- The decision of an ABORT at the tag table (R379). DEDUCED, log entry 93. -/
def State.abort (s : State) (a t : Nat) : State :=
  let e := (s.cmd a).ep
  if !s.tagOf e t || (s.tag t).st == .free || (s.tag t).st == .claimed || ((s.tag t).st == .accepted && (s.cmd t).pkt.opc == 8) then
    s.complete a (badField 40)
  else if s.pastAbort t then s.complete a { status := 0x0002 }
  else ((s.scrubAborted t).endWith t { status := 0x0201 }).complete a {}

/-- ABORT (R379). -/
def execAbort (tag : TagNo) (s : State) : Out :=
  guarded (s.at_ tag .perform && (s.cmd tag).pkt.opc == 8) s (s.abort tag (bits (s.cmd tag).pkt.p2.toNat 13 0))

/-! ### FLUSH (R395, R438) -/

/-- The checks of a volume-scoped FLUSH (R395). -/
def State.flushBlock (s : State) (e v order : Nat) : Option Nat :=
  if v == 0xFFFF then none
  else if s.notOwner e v then some 0x000A
  else if !(s.hda (v / 2)).hereForData then some 0x000D
  else if s.muStoppedAt v order then some 0x0008
  else none

/-- FLUSH: it waits for the covered data to reach the medium (R438). -/
def execFlush (tag : TagNo) (s : State) : Out :=
  let c := s.cmd tag
  guarded (s.at_ tag .perform && c.pkt.opc == 5) s <|
    match s.flushBlock c.ep c.pkt.vol c.order with
    | some k => s.complete tag (conflict k)
    | none => s.setPhase tag .flush

/-- Every covered sector is on the medium or dropped, and the FLUSH or FLUSH_RANGE completes (R395, R438, R489). DEDUCED, log entry 49. -/
def execFlushComplete (tag : TagNo) (s : State) : Out :=
  let c := s.cmd tag
  guarded (s.at_ tag .flush && s.flushDone c) s <|
    s.complete tag (if c.pkt.opc == 5 then { r0 := c.lostZones.length } else { r0 := c.counted, r1 := c.lostZones.length })

end Sys2Proof.Machine
end

