-- ==== Sys2Proof/Machine/Data.lean ====
section
/-! DEFINITION. Reads and writes of host data: the write flow of R24, lookup and egress of reads, and the hand-over of
tracks to destage (R25, R26, R205, R206, R389 to R393, R433, R437, R469, R481, R534, R535). -/

namespace Sys2Proof.Machine

/-! ### The write flow (R24, R25) -/

/-- The dirty data of an HDA's two MUs exceeds one sixteenth of the effective limit (R158). -/
def State.overSixteenth (s : State) (h : Nat) : Bool := s.effLimit * 65536 < (s.dirtyOf (2 * h) + s.dirtyOf (2 * h + 1)) * 16

/-- A write waits at step 4: PRESSURE of the HDAs whose dirty data is large (R158). -/
def State.notePressure (s : State) : State :=
  (List.range 16).foldl (fun s h =>
    if s.overSixteenth h then s.updHda h fun d => { d with gov := { d.gov with pressure := true } } else s) s

/-- PRESSURE is noted where a write waits as things stand: at every change of what waits or of what is dirty (R158). -/
def State.seePressure (s : State) : State := if s.writeWaits then s.notePressure else s

/-- The write enters the list that waits for dirty budget (step 4 of R24). -/
def State.toBudget (s : State) (t : Nat) : State :=
  ({ s with bca := { s.bca with budget := s.bca.budget ++ [t] } }.seePressure).setPhase t .budget

/-- WRITE, taken in, reaches step 4 of R24. DESIGN CHOICE, log entry 31. -/
def execWrite (tag : TagNo) (s : State) : Out :=
  guarded (s.at_ tag .perform && (s.cmd tag).pkt.opc == 2) s (s.toBudget tag)

/-- ZONE_APPEND, placed at the write pointer at take-in, reaches step 4 of R24 (R393). -/
def execZoneAppend (tag : TagNo) (s : State) : Out :=
  guarded (s.at_ tag .perform && (s.cmd tag).pkt.opc == 3) s (s.toBudget tag)

/-- The write at the head of the budget list is granted its NSEC sectors (R437). DEDUCED, log entry 34. -/
def execDirtyBudgetGrant (s : State) : Out :=
  match s.bca.budget with
  | [] => .next s
  | t :: r =>
    let n := (s.cmd t).pkt.count
    guarded (s.at_ t .budget && s.canGrant n) s <|
      let s := s.seePressure
      ({ s with bca := { s.bca with budget := r, budgetHeld := s.bca.budgetHeld + n, stagedHeld := s.bca.stagedHeld + n } }).updCmd t
        fun c => { c with phase := .fetch, granted := n, stagingHeld := n }

/-- The bytes of a location tag (R149). -/
def ltag (vol lba gen : Nat) : List Byte := leBytes 8 (lba % 2 ^ 40 + vol % 32 * 2 ^ 40 + gen % 65536 * 2 ^ 48)

/-- Number of the key that a domain holds. DESIGN CHOICE, log entry 86. -/
def State.keyOf (s : State) (k : Nat) : Nat := (s.kd k).key

/-- The stored form of a host sector: ciphertext, location tag, CRC and seal (R148, R149, R469, R534). DESIGN CHOICE, log entry 86. -/
def State.storeSector (s : State) (v lba : Nat) (plain hmeta : List Byte) : Sector :=
  let k := (s.boundKdom v (zoneOf lba)).getD 0
  let key := s.keyOf k
  let gen := (s.zone v (zoneOf lba)).gen
  let d := Config.sm4Encrypt key v lba false plain
  let m := if (s.mu v).hasMeta then Config.sm4Encrypt key v lba true hmeta else List.replicate 16 0
  { data := d, hmeta := m, vol := v, lba := lba, zgen := gen, kdom := k, scrc := crc32c (d ++ m)
    smac := Config.sealOf key (ltag v lba gen ++ leBytes 2 k ++ List.replicate 6 0) }

/-- Sectors stored from `lba` on; with META clear the metadata is zero (R392). -/
def State.storeAll (s : State) (v lba : Nat) : List (List Byte) → List (List Byte) → List Sector
  | [], _ => []
  | d :: r, ms => s.storeSector v lba d (ms.headD (List.replicate 16 0)) :: s.storeAll v (lba + 1) r ms.tail

/-- HLK has fetched a write's data from host memory; SEC encrypts it and BUF stores it, in cache lines where R482 says so (steps 5 to 7 of R24). DESIGN
CHOICE, log entry 31. -/
def execHostDataFetchDone (tag : TagNo) (sectors metas : List (List Byte)) (s : State) : Out :=
  let c := s.cmd tag
  guarded (s.at_ tag .fetch && c.listsOk && s.hostOk c.ep && sectors.length == c.pkt.count
      && metas.length == (if c.pkt.hasMeta then c.pkt.count else 0)) s <|
    (s.reserveLines tag c.pkt.vol c.pkt.count c.lba).updCmd tag fun c => { c with phase := .buffered, data := s.storeAll c.pkt.vol c.lba sectors metas }

/-- The zone after the commit of `n` sectors at its write pointer (R25, R392, R430). -/
def Zone.committed (x : Zone) (n cap : Nat) : Zone :=
  { x with wp := x.wp + n, pend := none, st := if cap ≤ x.wp + n && x.isOpen then .full else x.st }

/-- The buffer commit point at operating time `now` in ms (R25, R432, R482 to R484, R493). -/
def State.commit (s : State) (t now : Nat) : State :=
  let c := s.cmd t
  let v := c.pkt.vol
  let z := zoneOf c.lba
  let seq := s.bca.commitSeq + 1
  let s := { s with bca := { s.bca with commitSeq := seq, budgetHeld := s.bca.budgetHeld - c.granted
                                        stagedHeld := s.bca.stagedHeld - c.stagingHeld } }
  let s := s.updZone v z fun x => { (if s.isConv v z then x else x.committed c.pkt.count (s.cap v z)) with lastCommit := now }
  let s := (((s.placeAll t v c.lba seq c.data).dropWriter t).bypassed).seePressure
  if c.pkt.fua then
    s.updCmd t fun c => { c with phase := .fua, covers := seq, granted := 0, stagingHeld := 0, data := [] }
  else s.complete t { r0 := if c.pkt.opc == 3 then c.lba else 0 }

/-- The operating second, counted with OPS (R9). -/
def State.second (s : State) : Nat := s.time.up

/-- The last sector is in buffer memory: the write pointer advances and the data is acknowledged, at a free millisecond of the operating second (R25).
DESIGN CHOICE, log entry 31. DEDUCED, log entry 97. -/
def execWriteCommit (tag : TagNo) (s : State) : Out :=
  guarded (s.at_ tag .buffered && !s.mns.powerFail) s <|
    let (n, s) := s.draw
    s.commit tag (s.second * 1000 + n % 1000)

/-! ### Lookup of reads (R390, R391, R481) -/

/-- A sector of the command decided. -/
def State.setSec (s : State) (t i : Nat) (o : SecOut) : State := s.updCmd t fun c => { c with secs := sset c.secs i o {} }

/-- One sector of a READ or VERIFY looked up; a VERIFY allocates nothing, so it recalls nothing (R478, R481, R506). -/
def State.readSector (s : State) (t v lba i : Nat) (fills : Bool) : State :=
  match s.lookup v lba with
  | .zeros => s.setSec t i { read := true, zero := true }
  | .hit k d => ((s.touch k).bump 6 0 (aBca 0x20)).setSec t i { read := true, data := some d }
  | .cut d =>
    (((if fills then s.recall v (lba / 16) (lba % 16) (s.classOf v lba false) else s).bump 6 0 (aBca 0x20)).bump 6 0 (aBca 0x38)).setSec t i
      { read := true, data := some d }
  | .staged d => (s.bump 6 0 (aBca 0x20)).setSec t i { read := true, data := some d }
  | .stranded => (s.bump 6 0 (aBca 0x24)).setSec t i { waits := true }
  | .medium => if fills then (s.bump 6 0 (aBca 0x24)).startFill t v lba else s.bump 6 0 (aBca 0x24)

/-- The sectors of a command looked up in order. -/
def State.readSectors (s : State) (t v lba : Nat) (fills : Bool) : List Nat → State
  | [] => s
  | i :: r => (s.readSector t v (lba + i) i fills).readSectors t v lba fills r

/-- A sector of a command has its outcome. -/
def SecOut.decided (o : SecOut) : Bool := o.read || o.failed

/-- Offsets of the command's sectors without an outcome. -/
def Cmd.missing (c : Cmd) : List Nat := (List.range c.pkt.count).filter fun i => !(sget c.secs i {}).decided

/-- The command's lookup: hits are served from buffer memory, misses pass to SCH (R427). -/
def State.lookupAll (s : State) (t : Nat) (fills : Bool) : State :=
  let p := (s.cmd t).pkt
  let s := s.readSectors t p.vol p.slba fills (List.range p.count)
  if (s.cmd t).missing.isEmpty then s.setPhase t .egress else s.toSch t p.vol

/-- READ looked up in buffer memory (R390, R481). -/
def execRead (tag : TagNo) (s : State) : Out :=
  guarded (s.at_ tag .perform && (s.cmd tag).pkt.opc == 1) s (s.lookupAll tag true)

/-- VERIFY looked up in buffer memory; it allocates nothing (R390, R478). -/
def execVerify (tag : TagNo) (s : State) : Out :=
  guarded (s.at_ tag .perform && (s.cmd tag).pkt.opc == 4) s (s.lookupAll tag false)

/-! ### Egress (R205, R206, R389, R463, R469, R535) -/

/-- Why a sector is withheld at egress. -/
inductive Withheld where
  | no | poison (words : Nat) | check | seal_
deriving DecidableEq, Repr

/-- The sector is withheld for poison. -/
def Withheld.isPoison : Withheld → Bool
  | .poison _ => true
  | .no => false
  | .check => false
  | .seal_ => false

/-- The checks of a sector at egress: poison first, then SCRC, LTAG against the LBA and the zone's generation, then the seal. -/
def State.withhold (s : State) (v lba : Nat) (verify : Bool) (d : Sector) : Withheld :=
  let gen := (s.zone v (zoneOf lba)).gen
  let k := (s.boundKdom v (zoneOf lba)).getD 0
  if d.poison then .poison d.poisoned
  else if crc32c (d.data ++ d.hmeta) != d.scrc || d.vol != v || d.lba != lba || d.zgen != gen then .check
  else if !verify && Config.sealOf (s.keyOf k) (ltag v lba gen ++ leBytes 2 k ++ List.replicate 6 0) != d.smac then .seal_
  else .no

/-- The correction of greater magnitude, the positive one of a pair (R206). -/
def greaterCorr (a b : Int) : Int :=
  if a.natAbs < b.natAbs then b else if a.natAbs == b.natAbs then (if a < b then b else a) else a

/-- The recovery detail word of R206, from the outcomes of the sectors, the takes by track, the highest step and the take slips. DEDUCED, log entry 46. -/
def detailWord (secs : List SecOut) (takes : List Nat) (step slips : Nat) : Nat :=
  let rd := secs.filter (·.read)
  let corr := rd.foldl (fun a o => if o.via == .clapper then a else greaterCorr a o.corr) 0
  let mx (f : SecOut → Nat) := rd.foldl (fun a o => Nat.max a (f o)) 0
  Nat.min 15 (takes.foldl Nat.max 0) + step % 16 * 2 ^ 4 + toTwos 6 corr * 2 ^ 8 + flag (rd.any (·.via == .positional)) * 2 ^ 14
    + flag (rd.any (·.via == .slip)) * 2 ^ 15 + mx (·.globals) % 4 * 2 ^ 16 + mx (·.locals) % 32 * 2 ^ 18 + Nat.min 15 slips * 2 ^ 23

/-- The outcomes of the command's sectors in order. -/
def Cmd.outcomes (c : Cmd) : List SecOut := (List.range c.pkt.count).map fun i => sget c.secs i {}

/-- The sectors withheld at egress, with their LBAs and reasons. -/
def State.withheldOf (s : State) (c : Cmd) : List (Nat × Withheld) :=
  (List.range c.pkt.count).filterMap fun i =>
    let o := sget c.secs i {}
    match o.data with
    | none => none
    | some d =>
      let w := s.withhold c.pkt.vol (c.pkt.slba + i) (c.pkt.opc == 4) d
      if o.read && w != .no then some (c.pkt.slba + i, w) else none

/-- The pieces of a run of bytes that starts at offset `o` of a transfer, over the segments that its list names (R363). -/
def scatter : List (Nat × Nat) → Nat → List Byte → List (Nat × List Byte)
  | [], _, _ => []
  | (a, n) :: r, o, bs =>
    if bs.isEmpty then [] else if n ≤ o then scatter r (o - n) bs else (a + o, bs.take (n - o)) :: scatter r 0 (bs.drop (n - o))

/-- Where bytes at offset `o` of the transfer of DPTR, or of MPTR, go: to the segments of a list, or on from the pointer (R362). -/
def Cmd.pieces (c : Cmd) (ofMeta : Bool) (o : Nat) (bs : List Byte) : List (Nat × List Byte) :=
  if c.pkt.sgl then scatter (if ofMeta then c.metaSegs else c.dataSegs) o bs else [((if ofMeta then c.pkt.mptr else c.pkt.dptr) + o, bs)]

/-- Bytes written to host memory for a command (R320, R362). -/
def State.toHost (s : State) (t : Nat) (c : Cmd) (ofMeta : Bool) (o : Nat) (bs : List Byte) : State :=
  (c.pieces ofMeta o bs).foldl (fun s p => s.emit (.hostData t p.1 (s.ep c.ep).relaxed p.2)) s

/-- The sector's bytes as they leave for host memory: data by DPTR, metadata by MPTR (R362, R390). -/
def State.sendSector (s : State) (t i : Nat) (c : Cmd) (o : SecOut) : State :=
  let v := c.pkt.vol
  let lba := c.pkt.slba + i
  let key := s.keyOf ((s.boundKdom v (zoneOf lba)).getD 0)
  let d := match o.data with | some d => Config.sm4Decrypt key v lba false d.data | none => List.replicate 4096 0
  let m := match o.data with
    | some d => if (s.mu v).hasMeta then Config.sm4Decrypt key v lba true d.hmeta else List.replicate 16 0
    | none => List.replicate 16 0
  let s := s.toHost t c false (i * 4096) d
  if c.pkt.hasMeta then s.toHost t c true (i * 16) m else s

/-- Sectors that were read and pass their checks go to host memory. -/
def State.sendAll (s : State) (t : Nat) (c : Cmd) (held : List Nat) : List Nat → State
  | [] => s
  | i :: r =>
    let o := sget c.secs i {}
    (if o.read && !held.contains (c.pkt.slba + i) then s.sendSector t i c o else s).sendAll t c held r

/-- RCH counters of MU `m`. -/
def aRch (m ofs : Nat) : Nat := 0x01090000 + m * 0x40 + ofs

/-- Events and counters of the sectors withheld, one each, and one count for each poisoned word; a poison ends in one event for the command
(R463, R469, R535). -/
def State.reportWithheld (s : State) (v : Nat) : List (Nat × Withheld) → State
  | [] => s
  | (lba, w) :: r =>
    (match w with
     | .check => (s.raise 5 0 5 (locator v lba)).bump 5 0 (aBuf 0x1C)
     | .seal_ => (s.raise 15 0 5 (locator v lba)).bump 15 0 0x010F0028
     | .poison n => s.bump 5 0 (aBuf 0x14) n
     | .no => s).reportWithheld v r

/-- One BUF_POISON_CONSUMED event; the buffer address of the word is not part of this model and stands as a free value. DESIGN CHOICE, log entry 96. -/
def State.raisePoison (s : State) : State := let (a, s) := s.draw; s.raise 5 0 4 (a % 2 ^ 36)

/-- What the READ or VERIFY completes with (R205, R389). -/
def Cmd.readRes (c : Cmd) (held : List (Nat × Withheld)) : Res :=
  let outs := c.outcomes
  let unread := (List.range c.pkt.count).filter fun i => !(sget c.secs i {}).read
  let detail := detailWord outs (c.takes.map (·.2)) c.step c.takeSlips
  match held with
  | (l, _) :: _ => { status := 0x0401, r0 := l, r1 := held.length }
  | [] =>
    match unread with
    | i :: _ => { status := 0x0300, r0 := c.pkt.slba + i, r1 := unread.length, r2 := detail }
    | [] => { status := if outs.any fun o => o.via != .clapper || o.step != 0 then 1 else 0, r2 := detail }

/-- A read's data has been written to host memory, or its verification is complete (R205, R389). DESIGN CHOICE, log entry 86. -/
def State.egress (s : State) (t : Nat) : State :=
  let c := s.cmd t
  let held := s.withheldOf c
  let unread := (List.range c.pkt.count).filter fun i => !(sget c.secs i {}).read
  let s := if c.pkt.opc == 1 then s.sendAll t c (held.map (·.1)) (List.range c.pkt.count) else s
  let s := s.reportWithheld c.pkt.vol held
  let s := if held.any (·.2.isPoison) then s.raisePoison else s
  let s := match unread with
    | [] => s
    | i :: _ => (s.raise 9 c.pkt.vol 2 (c.pkt.slba + i)).bump 9 c.pkt.vol (aRch c.pkt.vol 0x18) unread.length
  s.complete t (c.readRes held)

/-- A burst that holds bytes of a sector of the command. -/
def State.ofCmd (s : State) (c : Cmd) (b : BurstRead) : Bool :=
  match s.holderOf b.burst b.holds with
  | .sector k => dvol k == c.pkt.vol && c.pkt.slba ≤ dlba k && dlba k ≤ c.pkt.slba + c.pkt.nsec
  | .none => false
  | .staged _ => false
  | .entry _ _ _ => false

/-- Egress of a READ, or the end of a VERIFY: its bursts are read first (R205, R462, R463). DEDUCED, log entry 34. -/
def execReadEgressDone (egress : EgressIn) (s : State) : Out :=
  let t := egress.tag
  let c := s.cmd t
  guarded (s.at_ t .egress && (c.pkt.opc == 1 || c.pkt.opc == 4) && (c.pkt.opc == 4 || (c.listsOk && s.hostOk c.ep))
      && egress.reads.all fun b => burstOk b && s.ofCmd c b) s ((s.readBursts egress.reads).egress t)

/-- An uncorrectable error logged in AER with the severity the host has programmed, counted and raised (R332). DESIGN CHOICE, log entry 96. -/
def State.aerUncorr (s : State) (e b addr : Nat) : State :=
  ((s.updEp e fun x => { x with aerUncorr := x.aerUncorr ||| (1#32 <<< b), devStatus := x.devStatus ||| if x.aerSev.getLsbD b then 4 else 2 }).bump 1 0 (epCtr e 0x00010008)).raise 1 0 b addr

/-- An ECRC error is found only while ECRC checking is on (R320). PRESUMED, log entry 98. -/
def State.ecrcSeen (s : State) (e b : Nat) : Bool := b != 19 || (s.ep e).ecrcCheck

/-- A read of host memory for a command fails (R332, R389). DESIGN CHOICE, log entry 96. -/
def execHostMemoryError (tag : TagNo) (address aerBit : Nat) (s : State) : Out :=
  let c := s.cmd tag
  guarded (s.live tag && (c.phase == .fetch || !c.listsOk || c.phase == .managed || c.phase == .executing) && s.hostOk c.ep && s.ecrcSeen c.ep aerBit) s <|
    (s.aerUncorr c.ep aerBit address).endWith tag { status := 0x0400, r0 := address }

/-! ### Destage hand-over (R433, R485) -/

/-- Dirty sectors of one track of a zone that are not yet handed over, in rising order. -/
def State.dirtyOnTrack (s : State) (v z track : Nat) : List Nat :=
  (s.dirtyIn v z).filter fun k => (s.place v (dlba k)).1 == track && !(sget s.bca.index k {}).handed

/-- Sectors of a zone that lie on one of its tracks, CAP taken into account. -/
def State.trackCount (s : State) (v z track : Nat) : Nat :=
  match s.zmap v z with
  | none => 0
  | some m =>
    let n := s.spt v z
    let lo := (track - m.firstTrack) * n
    let slipped := (m.slips.filter fun p => lo ≤ p && p < lo + n).length
    let before := lo - (m.slips.filter (· < lo)).length
    Nat.min (n - slipped) (m.cap - before)

/-- A FLUSH, FLUSH_RANGE or FUA write covers data of the zone (R433). -/
def State.flushCoversZone (s : State) (v z : Nat) : Bool := s.flushCovers fun k => dvol k == v && zoneOf (dlba k) == z

/-- A whole track's worth: in a sequential zone of committed data beyond the data already handed over, in a conventional zone the dirty sectors `ks` are
all that the track has (R433). -/
def State.wholeTrack (s : State) (v z track : Nat) (ks : List Nat) : Bool :=
  let n := s.trackCount v z track
  if s.isConv v z then ks.length == n else (s.zone v z).handed + n ≤ (s.zone v z).wp

/-- A condition of R433 lets the destage engine hand over the track. -/
def State.mayHandOver (s : State) (v z track : Nat) (idle : Bool) (ks : List Nat) : Bool :=
  s.wholeTrack v z track ks || (!s.isConv v z && !(s.zone v z).isOpen) || idle || s.urgent v || s.flushCoversZone v z

/-- A lower track of a conventional zone that could be handed over: the tracks of a band go in ascending order (R433). -/
def State.lowerTrack (s : State) (v z track : Nat) (idle : Bool) : Bool :=
  ((s.dirtyIn v z).map fun k => (s.place v (dlba k)).1).eraseDups.any fun k =>
    k < track && !(s.dirtyOnTrack v z k).isEmpty && s.mayHandOver v z k idle (s.dirtyOnTrack v z k)

/-- The keys marked as handed over. -/
def State.markHanded (s : State) : List Nat → State
  | [] => s
  | k :: r => ({ s with bca := { s.bca with index := supd s.bca.index k {} fun m => { m with handed := true, rewritten := false } } }).markHanded r

/-- The track that holds offset `o` of zone `z` handed to SCH (R433). -/
def State.handOver (s : State) (v z : Nat) (track : Nat) (ks : List Nat) : State :=
  match ks with
  | [] => s
  | k :: _ =>
    let d : Destage := { zone := z, track := track, first := (s.place v (dlba k)).2, count := ks.length, lbas := ks.map dlba }
    ((s.markHanded ks).updMu v fun m =>
      { m with sch := { m.sch with destage := m.sch.destage ++ [d], book := m.sch.book.filter fun e => e.1 != (2, z, track) } }).updZone v z fun x =>
      { x with inSch := true, handed := Nat.max x.handed (ofsOf (dlba (ks.getLastD k)) + 1) }

/-- The HDA is in HS2 or HS3, or on its way there, and the MU's heads are off the disk: destage hands over no track (R588 step 3). -/
def State.headsAway (s : State) (v : Nat) : Bool :=
  (s.hda (v / 2)).notSpunUp && ((s.mu v).act.st == .parked || (s.mu v).act.st == .unloading)

/-- The destage engine hands a track of a zone to SCH at operating time `now` in ms: the zone is idle when no write of it has committed for
2 s (R433). DESIGN CHOICE, log entry 31. -/
def execDestageHandover (mu : MuNo) (zone offset now : Nat) (s : State) : Out :=
  let v : Nat := mu
  let track := (s.place v (zone * 65536 + offset)).1
  let ks := s.dirtyOnTrack v zone track
  let lowest := (s.dirtyIn v zone).head? == some (dkey v (zone * 65536 + offset))
  let idle := decide ((s.zone v zone).lastCommit + 2000 ≤ now)
  guarded (now / 1000 == s.second && !ks.isEmpty && !(s.zone v zone).inSch && (s.mu v).sch.destage.length < 8 && !s.headsAway v
      && (if s.isConv v zone then !s.lowerTrack v zone track idle else lowest) && s.mayHandOver v zone track idle ks) s
    (s.handOver v zone track ks)

end Sys2Proof.Machine
end

