-- ==== Sys2Proof/Machine/Manage.lean ====
section
/-! DEFINITION. The common frame of the commands that MGT executes: the order of refusals (R388), custodian tokens
(R525, R526), data moved to host memory, and the slates and late list that record what ran (R516 to R519). -/

namespace Sys2Proof.Machine

/-- The byte string of a digest, most significant byte first (R509). -/
def digestBytes (d : BitVec 256) : List Byte := (leBytes 32 d.toNat).reverse

/-- The distinguishing identifier of every signature: the ASCII bytes "1234567812345678" (R509). -/
def sm2Ident : List Byte := (List.range 16).map fun i => BitVec.ofNat 8 (0x31 + i % 8)
/-- The value Z of a public key, of which R509 names the standard. PRESUMED, log entry 30. -/
def sm2Z (key : List Byte) : List Byte := digestBytes (Config.sm3 ([0x00#8, 0x80#8] ++ sm2Ident ++ Config.sm2Curve ++ key))
/-- The value e that is signed for a message: SM3 of Z and the message (R509). -/
def sm2E (key m : List Byte) : BitVec 256 := Config.sm3 (sm2Z key ++ m)
/-- A signature of 64 bytes over a message verifies: r and s lie from 1 to n - 1 (R509). PRESUMED, log entry 30. -/
def sm2Ok (key m sig : List Byte) : Bool :=
  let r := leNat (sig.take 32).reverse
  let v := leNat (sig.drop 32).reverse
  sig.length == 64 && 1 ≤ r && r < Config.sm2Order && 1 ≤ v && v < Config.sm2Order && Config.sm2Verify key (sm2E key m) sig

/-- `n` bytes of a text or key fixed at manufacture. DESIGN CHOICE, log entries 29 and 61. -/
def identityBytes (item n : Nat) : List Byte := (List.range n).map (Config.identity item)

/-- Length of the DIK certificate, at most 2,048 bytes (R511). -/
def certLen : Nat := leNat (identityBytes 3 2) % 2049
/-- The DIK certificate (R511). DESIGN CHOICE, log entry 29. -/
def certificate : List Byte := identityBytes 2 certLen
/-- The certificate chain that SPDM returns (R511). -/
def certChain : List Byte := identityBytes 4 (leNat (identityBytes 5 2))
/-- KEY_ID of the DIK (R510). DESIGN CHOICE, log entry 29. -/
def dikKeyId : Nat := leNat ((digestBytes (Config.sm3 (identityBytes 1 64))).take 4)

/-! ### Factory mode, activation, reaction masks -/

/-- The module runs in factory mode (R62). -/
def State.factory (s : State) : Bool := s.mns.factory

/-- A firmware activation is pending (R531). -/
def State.activationPending (s : State) : Bool := s.nor.pendingSlot.isSome || s.activationRuns

/-- The default reaction mask of a subsystem (R554). -/
def defaultMask (sub : Nat) : BitVec 5 :=
  if sub == 8 || sub == 9 || sub == 11 || sub == 13 then 0x03#5
  else if sub == 12 then 0x13#5
  else if [7, 14, 15, 17, 18, 20].contains sub then 0x11#5
  else 0x01#5

/-- The reaction mask of a source in force (R550). -/
def State.maskOf (s : State) (src : Nat) : BitVec 5 := sget s.flt.masks src (defaultMask (src / 64))

/-- Every source identifier, in order (R543). -/
def allSources : List Nat := (List.range 21).flatMap fun sub => (List.range (instancesOf sub)).map fun i => sub * 64 + i

/-! ### Slate entries (R517, R518) -/

/-- An entry's 48 bytes (R517). -/
def SlateEntry.bytes (e : SlateEntry) : List Byte :=
  leBytes 2 e.comp ++ leBytes 2 e.flags.toNat ++ leBytes 12 e.version ++ digestBytes e.digest

/-- A measured component. -/
def measured (comp version : Nat) (bytes : List Byte) : SlateEntry :=
  { comp := comp, version := version, digest := Config.sm3 bytes }

/-- A further entry folded into the last one, which becomes OVERFLOW (R518). -/
def foldInto (e n : SlateEntry) : SlateEntry :=
  { comp := 0x00FE, flags := e.flags, version := (if e.comp == 0x00FE then e.version else 1) + 1
    digest := Config.sm3 (digestBytes e.digest ++ n.bytes) }

/-- An entry added to a list of at most 80 (R518). DEDUCED, log entry 53. -/
def addEntry (l : List SlateEntry) (e : SlateEntry) : List SlateEntry :=
  if l.length < 80 then l ++ [e] else l.dropLast ++ [foldInto (l.getLastD {}) e]

/-- An entry put into the late list with LATE set (R517, R518). -/
def State.addLate (s : State) (e : SlateEntry) : State :=
  { s with nor := { s.nor with late := addEntry s.nor.late { e with flags := e.flags ||| 1#16 } } }

/-- A late measurement, once the present boot's slate is signed (R518). DEDUCED, log entry 62. -/
def State.late (s : State) (e : SlateEntry) : State := if s.sec.slate.isSome then s.addLate e else s

/-- The words of a feature, little-endian. DEDUCED, log entry 55. -/
def featBytes (v : Word × Word × Word × Word) : List Byte :=
  leBytes 4 v.1.toNat ++ leBytes 4 v.2.1.toNat ++ leBytes 4 v.2.2.1.toNat ++ leBytes 4 v.2.2.2.toNat

/-- Indexes of a feature: HDAs, volumes or its own range (R407). -/
def featIndexes (fid : Nat) : List Nat :=
  if featVolume fid then List.range 32 else (List.range 256).filter (featIdxOk fid)

/-- Stored value of a feature (R406). -/
def State.savedFeature (s : State) (fid idx : Nat) : Word × Word × Word × Word :=
  sget s.nor.feat (featKey fid idx) (featDefault fid)

/-- CONFIG: every persistent feature, then every reaction mask, in FID and source order (R517). DEDUCED, log entry 55. -/
def State.configEntry (s : State) : SlateEntry :=
  measured 0x0050 0
    (((List.range 17).flatMap fun f => (featIndexes (f + 1)).flatMap fun i => featBytes (s.savedFeature (f + 1) i))
      ++ allSources.map fun src => (sget s.nor.masks src (defaultMask (src / 64))).setWidth 8)

/-- CUSTODIANS: the eight slots' keys, zeros for empty slots (R517). -/
def State.custodiansEntry (s : State) : SlateEntry :=
  measured 0x0051 s.nor.custodians.length ((List.range 8).flatMap fun i => padTo 64 (sget s.nor.custodians i []))

/-- MAKER_KEYS, in KEY_ID order (R517). -/
def State.makersEntry (s : State) : SlateEntry :=
  measured 0x0052 s.nor.makers.length (s.nor.makers.flatMap fun m => leBytes 4 m.1 ++ m.2)

/-- SRV_TABLES of HDA `n`: the words of its coefficient memory in address order (R255, R517). -/
def State.srvEntry (s : State) (n : Nat) : SlateEntry :=
  measured (0x0010 + n) 0 ((List.range 0xC456).flatMap fun a => leBytes 2 (sget (s.hda n).srv.coef a 0).toNat)

/-- HDA_DESCRIPTOR of HDA `n` (R517). -/
def descEntry (n : Nat) (d : Desc) : SlateEntry := measured (0x0020 + n) (leNat (d.serial.take 12)) (d.raw.take 512)

/-! ### Slates (R516, R519) -/

/-- Number of the last slate written; 0 when there is none. -/
def State.slateNewest (s : State) : Nat := s.nor.slates.foldl (fun a x => Nat.max a x.number) 0
/-- Lowest number among slates; 0 when there is none. -/
def lowestOf : List Slate → Nat
  | [] => 0
  | x :: r => if r.isEmpty then x.number else Nat.min x.number (lowestOf r)
/-- Oldest number retained. -/
def State.slateOldest (s : State) : Nat := lowestOf s.nor.slates
/-- Oldest retained slate not exported; 0 when none. -/
def State.slateUnexported (s : State) : Nat := lowestOf (s.nor.slates.filter (!·.exported))

/-- The signature of the DIK over a message `m`, made with the draw `n` (R509). -/
def dikSignature (n : Nat) (m : List Byte) : List Byte := leBytes 64 (Config.sm2Sign n (sm2E (identityBytes 1 64) m))

/-- The slate's 4,096 bytes (R516). -/
def Slate.bytes (x : Slate) : List Byte :=
  let head := leBytes 2 1 ++ leBytes 1 x.cause ++ leBytes 1 x.flags.toNat ++ leBytes 4 x.number ++ leBytes 4 x.pcc
    ++ leBytes 4 x.oph ++ leBytes 2 x.ops ++ leBytes 2 x.entries.length ++ identityBytes 0 20 ++ leBytes 4 dikKeyId
    ++ leBytes 4 x.svn ++ leBytes 2 x.missed
  let body := padTo 0xFC0 (padTo 64 head ++ x.entries.flatMap SlateEntry.bytes)
  body ++ dikSignature x.sig body

/-- The boot measurements and the late list as one list of at most 80 (R518). -/
def slateEntries (boot late : List SlateEntry) : List SlateEntry := late.foldl addEntry (boot.foldl addEntry [])

/-- The slot record by number: 0 A, 1 B (R528). -/
def State.fwSlot (s : State) (n : Nat) : FwSlot := if n == 0 then s.nor.slotA else s.nor.slotB
/-- `s` with `f` applied to a slot record. -/
def State.updSlot (s : State) (n : Nat) (f : FwSlot → FwSlot) : State :=
  { s with nor := if n == 0 then { s.nor with slotA := f s.nor.slotA } else { s.nor with slotB := f s.nor.slotB } }

/-- A slate signed for the present boot: it empties the late list (R516, R518). -/
def State.signSlate (s : State) (cause : Nat) (boot : List SlateEntry) : State :=
  let (sig, s) := s.draw
  let all := slateEntries boot s.nor.late
  let x : Slate :=
    { number := s.nor.bootCount, cause := cause
      flags := BitVec.ofNat 8 (flag s.factory + 2 * s.sec.slot + 4 * flag s.sec.fallback + 8 * flag (80 < boot.length + s.nor.late.length))
      pcc := s.time.pcc, oph := s.time.oph, ops := s.time.ops, entries := all, svn := (s.fwSlot s.sec.slot).svn
      missed := Nat.min 0xFFFF (s.nor.bootCount - s.slateNewest - 1), sig := sig }
  { s with sec := { s.sec with slate := some x, entries := boot }, nor := { s.nor with late := [] } }

/-- A signed slate written to its ring position (R519). `ok` is false when the NOR write fails. -/
def State.writeSlate (s : State) (ok : Bool) : State :=
  match s.sec.slate with
  | none => s
  | some x =>
    if ok then
      let old := s.nor.slates.filter fun y => y.number % 1024 == x.number % 1024 && !y.exported
      let kept := s.nor.slates.filter fun y => y.number % 1024 != x.number % 1024
      let s := { s with nor := { s.nor with slates := kept ++ [x] } }
      let s := match old with
        | [] => s
        | y :: _ => (s.raise 15 0 1 y.number).bump 15 0 0x010F0024
      let n : Nat := (s.nor.slates.filter (!·.exported)).length
      if 960 ≤ n then s.notice 0xFFFF 7 n else s
    else s.raise 15 0 2 x.number

/-! ### Authorisation (R388, R411, R525, R526) -/

/-- The packet bytes that CMD_DIGEST covers (R525). -/
def cmdDigestBytes (raw : List Byte) : List Byte :=
  raw.take 2 ++ List.replicate 2 0 ++ (raw.drop 4).take 2 ++ List.replicate 2 0 ++ (raw.drop 8).take 16 ++ List.replicate 16 0
    ++ (raw.drop 40).take 20

/-- The cause of R526 for which a token fails, in order; none when it verifies. DEDUCED, log entry 51. -/
def State.tokenFault (s : State) (e : Nat) (p : Packet) (tok data : List Byte) (takes : Bool) : Option Nat :=
  let slot := field tok 5 1
  let key := sget s.nor.custodians slot []
  if !(tok.length == 160 && field tok 0 4 == 0x4E4B544F && field tok 4 1 == 1 && slot < 8 && field tok 6 2 == 160
      && field tok 88 8 == 0) then some 1
  else if key.isEmpty then some 2
  else if (s.ep e).nonce != some (BitVec.ofNat 128 (field tok 8 16)) then some 3
  else if (tok.drop 24).take 32 != digestBytes (Config.sm3 (cmdDigestBytes p.raw)) then some 4
  else if (tok.drop 56).take 32 != (if takes then digestBytes (Config.sm3 data) else List.replicate 32 0) then some 5
  else if !sm2Ok key (tok.take 96) ((tok.drop 96).take 64) then some 6
  else none

/-- An AUTH_FAILED from a token or an image: the nonce goes, one event, one count (R526). DEDUCED, log entry 51. -/
def State.authFailed (s : State) (e cause : Nat) : State :=
  ((s.updEp e fun x => { x with nonce := none }).raise 15 0 3 cause).bump 15 0 0x010F0020

/-- The first state code of a list whose condition holds (R388). -/
def firstCode : List (Bool × Nat) → Option Nat
  | [] => none
  | (b, k) :: r => if b then some k else firstCode r

/-! ### The management cores (R442, R444, R447) -/

/-- The management cores that run: not hung, and cores 1 to 3 not halted (R447, R587). -/
def State.coresRunning (s : State) : Nat := ((List.range 4).filter fun k => !s.mgt.hung.getLsbD k && (k == 0 || !s.pwr.coresHalted)).length

/-- A recovery take of the MU waits to be prepared: the first entry of its queue has none in flight, and no core holds it (R203, R444, R445). -/
def State.recoveryDue (s : State) (m : Nat) : Bool :=
  let x := s.mu m
  x.sch.recovery.isNone && (x.tsq.desc.all fun d => d.type != 3 && d.type != 4) && x.sch.slipNext.isNone
    && (x.sch.recQueue.head?.any fun t => s.at_ t .recovery) && !(s.mgt.hungTasks.any fun e => e.2 == .recovery m)

/-- Recovery takes waiting for a core. -/
def State.recoveryWork (s : State) : Nat := ((List.range 32).filter s.recoveryDue).length

/-- Managed commands waiting for a core: taken in, their lists checked, their endpoint's traffic not held back. -/
def State.managedWork (s : State) : Nat :=
  (s.cmds.filter fun c => (s.tag c.1).st == .accepted && c.2.phase == .managed && c.2.listsOk && s.hostOk c.2.ep).length

/-- A management core takes up a task above which `above` tasks of higher priority wait; none does while an activation runs (R442, R444).
DESIGN CHOICE, log entry 82. -/
def State.coreFree (s : State) (above : Nat) : Bool := !s.activationRuns && decide (above < s.coresRunning)

/-- Bytes of the MGT space class in use: the staged firmware image, capture records and the data of managed commands that execute (R436). DESIGN CHOICE, log entry 99. -/
def State.mgtHeld (s : State) : Nat :=
  (s.sec.staging.map fun e => e.2.length).sum + (s.mgt.capture.map fun e => e.2.length).sum
    + (s.cmds.map fun c => if (s.tag c.1).st == .accepted && c.2.phase == .executing then transferLen c.2.pkt else 0).sum

/-- The MGT space class has room for a command's data: 512 MiB (R436). -/
def State.mgtRoom (s : State) (p : Packet) : Bool := decide (s.mgtHeld + transferLen p ≤ 0x20000000)

/-- The command is next to be executed by MGT or ZCX: taken in, its lists checked, and a core takes it up for the
opcodes that MGT executes: zone logic and caching wait on no management core (R23, R427, R436, R442, R444). DEDUCED, log entry 35. -/
def State.mayBegin (s : State) (t opc sub : Nat) : Bool :=
  let c := s.cmd t
  s.live t && c.phase == (if opc < 0x20 then .perform else .managed) && c.pkt.opc == opc && c.pkt.sub == sub && c.listsOk
    && (opc < 0x20 || (s.coreFree s.recoveryWork && s.mgtRoom c.pkt))

/-- Deferred bookkeeping waits behind read recovery and managed commands (R444). -/
def State.booksMayRun (s : State) : Bool := s.coreFree (s.recoveryWork + s.managedWork)

/-- The transfers of the command through its endpoint can be made. -/
def State.mayMove (s : State) (t : Nat) (moves : Bool) : Bool := !moves || s.hostOk (s.cmd t).ep

/-- One management command begins: it meets its refusals in the order of R388, then runs. `need` says that a token is
required; `takes` that the command takes `data` from host memory, LEN bytes of it. -/
def State.manage (s : State) (t opc sub : Nat) (tok data : List Byte) (takes need moves : Bool) (codes : List (Bool × Nat))
    (run : State → State) : Out :=
  let c := s.cmd t
  guarded (s.mayBegin t opc sub && s.mayMove t (moves || takes || need)
      && data.length == (if takes then c.pkt.p5.toNat else 0)) s <|
    match firstCode codes with
    | some k => s.endWith t (conflict k)
    | none =>
      if need then
        if c.pkt.mptr == 0 then s.endWith t { status := 0x0500 }
        else match s.tokenFault c.ep c.pkt tok data takes with
        | some k => (s.authFailed c.ep k).endWith t { status := 0x0501, r0 := k }
        | none => run (s.updEp c.ep fun x => { x with nonce := none })
      else run s

/-- A management command without token or data. -/
def State.simple (s : State) (t opc sub : Nat) (codes : List (Bool × Nat)) (run : State → State) : Out :=
  s.manage t opc sub [] [] false false false codes run

/-- Bytes written to host memory from the start of the command's transfer on. -/
def State.sendBytes (s : State) (t : Nat) (bs : List Byte) : State :=
  if bs.isEmpty then s else s.toHost t (s.cmd t) false 0 bs

/-- The ownership check of a volume-scoped sub-operation, as its take-in decided it (R345, R388). -/
def State.ownCode (s : State) (t : Nat) : Bool × Nat := ((s.cmd t).stranger, 0x000A)
/-- The ownership check where the packet names a volume (R388). DEDUCED, log entry 78. -/
def State.ownScoped (s : State) (t : Nat) : Bool × Nat := (decide ((s.cmd t).pkt.vol < 32) && (s.cmd t).stranger, 0x000A)
/-- HDA_ABSENT for the command's volume (R377). -/
def State.absentCode (s : State) (t : Nat) : Bool × Nat := (!(s.hda ((s.cmd t).pkt.vol / 2)).hereForData, 0x000D)
/-- MU_STOPPED for the command's volume (R377). -/
def State.stoppedCode (s : State) (t : Nat) : Bool × Nat := (s.muStoppedAt (s.cmd t).pkt.vol (s.cmd t).order, 0x0008)

end Sys2Proof.Machine
end

