-- ==== Sys2Proof/Machine/Keys.lean ====
section
/-! DEFINITION. Key domains, custodian and maker keys, nonces (R411, R414, R527, R533 to R539). -/

namespace Sys2Proof.Machine

/-! ### Zones of a key domain (R533, R538) -/

/-- Indexes of the conventional zones among `l`, counted from `i`. -/
def convIndexes (i : Nat) : List ZoneMap → List Nat
  | [] => []
  | z :: r => if z.conv then i :: convIndexes (i + 1) r else convIndexes (i + 1) r

/-- Zones of an MU bound to key domain `k`. -/
def Mu.boundZones (m : Mu) (k : Nat) : List Nat :=
  (if m.convKdom == k then convIndexes 0 m.fmt.zones else []) ++ (m.zones.filter fun z => z.2.kdom == some k).map (·.1)

/-- Every zone bound to key domain `k`, as volume and zone. -/
def State.boundZones (s : State) (k : Nat) : List (Nat × Nat) := s.mus.flatMap fun m => (m.2.boundZones k).map fun z => (m.1, z)

/-- `s` with `f` applied to the record of a key domain; the record's write sequence advances (R539). -/
def State.updKd (s : State) (k : Nat) (f : Kd → Kd) : State :=
  { s with nor := { s.nor with kds := supd s.nor.kds k {} fun x => { f x with seq := (x.seq + 1) % 2 ^ 32 } } }

/-- An ERASED domain that no zone is bound to becomes EMPTY (R538). -/
def State.releaseKd (s : State) (k : Nat) : State :=
  if (s.kd k).st == .erased && (s.boundZones k).isEmpty then s.updKd k fun x => { x with st := .empty } else s

/-- A domain that a zone may have left, released where R538 lets it. -/
def State.releaseOpt (s : State) : Option Nat → State
  | none => s
  | some k => s.releaseKd k

/-- Code of a key domain's state (R533). -/
def kdCode : KdState → Nat
  | .empty => 0
  | .active => 1
  | .locked => 2
  | .erased => 3

/-- A command that passed the key check of domain `k` has still to finish its SEC pass (R536). -/
def State.keyInFlight (s : State) (k : Nat) : Bool :=
  s.cmds.any fun c => (s.tag c.1).st == .accepted && 1 ≤ c.2.pkt.opc && c.2.pkt.opc ≤ 4
    && s.boundKdom c.2.pkt.vol (zoneOf c.2.pkt.slba) == some k
    && (if c.2.pkt.opc == 2 || c.2.pkt.opc == 3 then c.2.phase == .perform || c.2.phase == .budget || c.2.phase == .fetch
        else c.2.phase != .intake)

/-- A BARRIER flush in progress covers a zone that uses key domain `k` (R395). -/
def State.barrierUses (s : State) (t k : Nat) : Bool := (s.boundZones k).any fun z => s.barrierCovers (s.cmd t).order z.1

/-! ### KEY_MGMT (R414, R533, R536, R537) -/

/-- The key domain a KEY_MGMT packet names. -/
def State.kdArg (s : State) (t : Nat) : Nat := bits (s.cmd t).pkt.p2.toNat 9 0
/-- The key slot a KEY_MGMT packet names. -/
def State.slotArg (s : State) (t : Nat) : Nat := bits (s.cmd t).pkt.p3.toNat 2 0

/-- CREATE: from EMPTY a new key and the state ACTIVE; an ACTIVE or LOCKED domain stays as it is (R533). DEDUCED, log entry 54; DESIGN CHOICE, log entry 86. -/
def State.createKey (s : State) (t k : Nat) : State :=
  if s.kdState k == .empty then
    let (n, s) := s.draw
    let s := s.updKd k fun x => { x with st := .active, key := n, good0 := true, good1 := true }
    { s with sec := { s.sec with keyRam := k :: s.sec.keyRam } }.endWith t {}
  else s.endWith t { r0 := kdCode (s.kdState k) }

/-- KEY_MGMT CREATE (R414). -/
def execKeyMgmtCreate (tag : TagNo) (token : List Byte) (s : State) : Out :=
  let k := s.kdArg tag
  s.manage tag 0x2D 1 token [] false true false [(s.kdState k == .erased, 0x0012)] fun s => s.createKey tag k

/-- The key of a domain leaves key RAM (R536, R537). -/
def State.dropKey (s : State) (k : Nat) : State := { s with sec := { s.sec with keyRam := s.sec.keyRam.filter (· != k) } }

/-- The mark of a LOCK, or of an ERASE, in the check table is gone (R536). -/
def State.unmarked (s : State) (k : Nat) (erase : Bool) : State :=
  { s with sec := { s.sec with keyMarks := s.sec.keyMarks.filter (· != (k, erase)) } }

/-- The domain is marked in the check table, and the command waits for the SEC passes (R536). DEDUCED, log entry 54. -/
def State.keyMarked (s : State) (t k : Nat) (erase : Bool) : State :=
  { s with sec := { s.sec with keyMarks := (k, erase) :: s.sec.keyMarks } }.setPhase t .executing

/-- The second part of LOCK: the key leaves key RAM, and the domain is LOCKED (R536). -/
def State.lockDone (s : State) (k : Nat) : State :=
  ((s.unmarked k false).updKd k fun x => { x with st := if x.st == .active then .locked else x.st }).dropKey k

/-- LOCK: the domain is marked at once; the rest follows when no command past the key check is left (R536). DEDUCED, log entry 54. -/
def State.lockKey (s : State) (t k : Nat) : State :=
  if s.kdState k != .active then s.endWith t {}
  else if s.keyInFlight k then s.keyMarked t k false
  else (s.lockDone k).endWith t {}

/-- A KEY_MGMT command that has marked its domain and waits for the SEC passes (R536). -/
def State.keyWaits (s : State) (t sub : Nat) : Bool :=
  s.at_ t .executing && (s.cmd t).pkt.opc == 0x2D && (s.cmd t).pkt.sub == sub && !s.hungCommand t

/-- The key domain that a packet names. -/
def Cmd.kd (c : Cmd) : Nat := bits c.pkt.p2.toNat 9 0

/-- KEY_MGMT LOCK: presented again, it ends the wait of R536, also of a command that a reset has discarded (R440). -/
def execKeyMgmtLock (tag : TagNo) (s : State) : Out :=
  let k := s.kdArg tag
  match s.orphan tag 0x2D 2 with
  | some c => guarded (!s.keyInFlight c.kd) s ((s.adopt c).lockDone c.kd)
  | none =>
  if s.keyWaits tag 2 then guarded (!s.keyInFlight k) s ((s.lockDone k).endWith tag {})
  else s.simple tag 0x2D 2 [(s.barrierUses tag k, 0x0014)] fun s => s.lockKey tag k

/-- UNLOCK of a LOCKED domain: ACTIVE, or DATA_INTEGRITY when both wrapped copies fail (R536). DEDUCED, log entry 54. -/
def State.unlockKey (s : State) (t k : Nat) : State :=
  let x := s.kd k
  if x.st != .locked then s.endWith t {}
  else if x.good0 || x.good1 then
    let s := s.updKd k fun x => { x with st := .active }
    { s with sec := { s.sec with keyRam := k :: s.sec.keyRam } }.endWith t {}
  else s.endWith t { status := 0x0401 }

/-- KEY_MGMT UNLOCK (R414). -/
def execKeyMgmtUnlock (tag : TagNo) (token : List Byte) (s : State) : Out :=
  let k := s.kdArg tag
  s.manage tag 0x2D 3 token [] false true false [(s.kdState k == .erased, 0x0012)] fun s => s.unlockKey tag k

/-- Acknowledged data of the zones listed lost with cause KEY_ERASED, their lines invalidated; the zones that received a
deferred error counted (R537). -/
def State.eraseZones (s : State) (n : Nat) : List (Nat × Nat) → Nat × State
  | [] => (n, s)
  | (v, z) :: r =>
    let ks := s.dirtyIn v z
    let t := (s.lose v z 4 ks).invalidateZone v z
    t.eraseZones (if ks.isEmpty then n else n + 1) r

/-- The second part of ERASE: steps 1 to 5 of R537. -/
def State.eraseDone (s : State) (k : Nat) : Nat × State :=
  let s := (s.unmarked k true).updKd k fun x => { x with st := .erased, key := 0, good0 := true, good1 := true }
  let (n, s) := (s.dropKey k).eraseZones 0 (s.boundZones k)
  (n, (s.raise 15 0 6 k).releaseKd k)

/-- The second part of ERASE, and the command's completion. -/
def State.eraseEnd (s : State) (t k : Nat) : State := let (n, s) := s.eraseDone k; s.endWith t { r0 := n }

/-- ERASE: the domain is marked at once; steps 1 to 5 of R537 follow after the wait of R536. DEDUCED, log entry 54. -/
def State.eraseKey (s : State) (t k : Nat) : State :=
  if s.kdState k == .empty then s.endWith t {}
  else if s.keyInFlight k then s.keyMarked t k true
  else s.eraseEnd t k

/-- KEY_MGMT ERASE: presented again, it ends the wait of R536, also of a command that a reset has discarded (R440). -/
def execKeyMgmtErase (tag : TagNo) (token : List Byte) (s : State) : Out :=
  let k := s.kdArg tag
  match s.orphan tag 0x2D 4 with
  | some c => guarded (!s.keyInFlight c.kd) s ((s.adopt c).eraseDone c.kd).2
  | none =>
  if s.keyWaits tag 4 then guarded (!s.keyInFlight k) s (s.eraseEnd tag k)
  else s.manage tag 0x2D 4 token [] false true false [(s.barrierUses tag k, 0x0014), (s.kdState k == .erased, 0x0012)]
    fun s => s.eraseKey tag k

/-! ### Custodian and maker keys (R527) -/

/-- The key is enrolled in another slot. -/
def State.enrolledElsewhere (s : State) (slot : Nat) (key : List Byte) : Bool :=
  s.nor.custodians.any fun c => c.1 != slot && c.2 == key

/-- ENROL_CUSTODIAN of a 64-byte key (R527). -/
def State.enrolCustodian (s : State) (t slot : Nat) (key : List Byte) : State :=
  if !Config.onCurve key || s.enrolledElsewhere slot key then s.endWith t (badField 24)
  else
    let s := { s with nor := { s.nor with custodians := sset s.nor.custodians slot key [] } }
    (s.late s.custodiansEntry).endWith t {}

/-- KEY_MGMT ENROL_CUSTODIAN: without a token while no slot is enrolled (R414, R527). -/
def execKeyMgmtEnrolCustodian (tag : TagNo) (token data : List Byte) (s : State) : Out :=
  s.manage tag 0x2D 5 token data true (!s.nor.custodians.isEmpty) false [] fun s => s.enrolCustodian tag (s.slotArg tag) data

/-- KEY_MGMT REMOVE_CUSTODIAN (R414). -/
def execKeyMgmtRemoveCustodian (tag : TagNo) (token : List Byte) (s : State) : Out :=
  s.manage tag 0x2D 6 token [] false true false [] fun s =>
    let s := { s with nor := { s.nor with custodians := sset s.nor.custodians (s.slotArg tag) [] [] } }
    (s.late s.custodiansEntry).endWith tag {}

/-- ENROL_MAKER_KEY: KEY_ID nonzero, at most sixteen KEY_IDs (R527). DEDUCED, log entry 54. -/
def State.enrolMaker (s : State) (t : Nat) (data : List Byte) : State :=
  let id := field data 0 4
  let key := data.drop 4
  if id == 0 || !Config.onCurve key || (16 ≤ s.nor.makers.length && !(s.nor.makers.map (·.1)).contains id) then s.endWith t (badField 24)
  else
    let s := { s with nor := { s.nor with makers := sset s.nor.makers id key [] } }
    (s.late s.makersEntry).endWith t {}

/-- KEY_MGMT ENROL_MAKER_KEY (R414). -/
def execKeyMgmtEnrolMakerKey (tag : TagNo) (token data : List Byte) (s : State) : Out :=
  s.manage tag 0x2D 7 token data true true false [] fun s => s.enrolMaker tag data

/-- KEY_MGMT REMOVE_MAKER_KEY (R414). -/
def execKeyMgmtRemoveMakerKey (tag : TagNo) (token : List Byte) (s : State) : Out :=
  s.manage tag 0x2D 8 token [] false true false [] fun s =>
    let s := { s with nor := { s.nor with makers := sset s.nor.makers (s.cmd tag).pkt.p4.toNat [] [] } }
    (s.late s.makersEntry).endWith tag {}

/-- KEY_MGMT STATUS: the state's code and the number of zones bound (R414). -/
def execKeyMgmtStatus (tag : TagNo) (s : State) : Out :=
  s.simple tag 0x2D 9 [] fun s =>
    s.endWith tag { r0 := kdCode (s.kd (s.kdArg tag)).st + (s.boundZones (s.kdArg tag)).length * 2 ^ 32 }

/-- AUTH_NONCE: a fresh nonce replaces the endpoint's outstanding one (R411). -/
def execAuthNonce (tag : TagNo) (s : State) : Out :=
  s.simple tag 0x2E 0 [] fun s =>
    let (a, s) := s.draw
    let n := a % 2 ^ 128
    (s.updEp (s.cmd tag).ep fun x => { x with nonce := some (BitVec.ofNat 128 n) }).endWith tag { r0 := n % 2 ^ 64, r1 := n / 2 ^ 64 }

end Sys2Proof.Machine
end

