-- ==== Sys2Proof/Machine/Tracks.lean ====
section
/-! DEFINITION. Where sectors stand on a track and what they hold, and the checks of format records (R138 to R147, R167 to R172). -/

namespace Sys2Proof.Machine

/-- The clock mark at or before the start of a wedge, 51.2 marks a wedge (R138). -/
def wedgeMark (w : Nat) : Nat := w * 512 / 10
/-- The servo field of a wedge in data symbols: offsets 0 to SPW ÷ 10 − 1 (R139, R141). -/
def servoField (spw : Nat) : Nat := spw / 10
/-- Sequencer cycles of a wedge: sixteen symbols each, the last cycle the rest (R143). -/
def wedgeCycles (spw : Nat) : Nat := (spw + 15) / 16

/-! ### Sector placement (R142, R146) -/

/-- DSTART of a data segment (R142). -/
def dstart (spw : Nat) : Nat := spw / 10 + 128
/-- DEND of a data segment (R142). -/
def dend (spw : Nat) : Nat := spw - 128

/-- The wedge and offset at which a payload of `left` symbols from offset `u` of wedge `w` ends; none past the last wedge (R146). -/
def payloadEnd (spw : Nat) : Nat → Nat → Nat → Nat → Option (Nat × Nat)
  | 0, _, _, _ => none
  | f + 1, w, u, left =>
    if left ≤ dend spw - u then some (w, u + left)
    else if w + 1 == 640 then none
    else payloadEnd spw f (w + 1) (dstart spw + 256) (left - (dend spw - u))

/-- The first preamble symbols of the sectors from offset `u` of wedge `w` on (R146). -/
def placeFrom (spw : Nat) : Nat → Nat → Nat → List Nat
  | 0, _, _ => []
  | f + 1, w, u =>
    if 640 ≤ w then []
    else if dend spw - u < 816 then placeFrom spw f (w + 1) (dstart spw)
    else match payloadEnd spw 4 w (u + 816) 37120 with
    | none => []
    | some (w', u') => (w * spw + u) :: if dend spw < u' + 160 then placeFrom spw f (w' + 1) (dstart spw) else placeFrom spw f w' (u' + 160)

/-- start[n] of every sector of a track at SPW (R146). -/
def sectorStarts (spw : Nat) : List Nat := placeFrom spw 2000 0 (dstart spw)
/-- SPT (R146). -/
def sptOf (spw : Nat) : Nat := (sectorStarts spw).length
/-- BTRK: the least number of tracks that hold 65,864 sectors (R167). -/
def btrkOf (spt : Nat) : Nat := if spt = 0 then 0 else (65864 + spt - 1) / spt
/-- The payload of the sector at `start` is split over wedges (R145). -/
def isSplit (spw start : Nat) : Bool := dend spw < start % spw + 816 + 37120

/-! ### The fields of a sector (R144, R145) -/

/-- The sync mark of the clapper, most significant bit first (R144). -/
def syncMark : BitVec 48 := 0xE2B4D19C6A73#48
/-- Symbol `i` of the clapper. -/
def clapperBit (i : Nat) : Bool := syncMark.getMsbD i
/-- Symbol `i` of the pattern 1100 repeated, which preamble, resync field and pad hold. -/
def patternBit (i : Nat) : Bool := i % 4 < 2

/-! ### The format's records (R147, R168, R169) -/

/-- A rate zone record of 16 bytes; none where a RSVD bit is set (R147). -/
def parseRateZone (b : List Byte) : Option RateZone :=
  if b.length == 16 && field b 15 1 < 2 then
    some { firstTrack := field b 0 4, lastTrack := field b 4 4, k := field b 8 4, spt := field b 12 2, btrk := field b 14 1, conv := field b 15 1 == 1 }
  else none

/-- A list as a rising list without repeats. -/
def risingSet (l : List Nat) : List Nat :=
  let rec put (p : Nat) : List Nat → List Nat
    | [] => [p]
    | q :: r => if p < q then p :: q :: r else if p == q then q :: r else q :: put p r
  l.foldl (fun a p => put p a) []

/-- A zone map entry of 16 bytes with its slip entries; none where a RSVD bit is set (R169). -/
def parseZone (b : List Byte) (slips : List Nat) : Option ZoneMap :=
  if b.length == 16 && field b 0 1 < 16 && field b 1 1 < 128 && field b 3 1 == 0 && field b 8 4 < 2 ^ 17 && field b 14 2 == 0 then
    some { head := field b 0 1, rz := field b 1 1 % 64, conv := bit (field b 1 1) 6, btrk := field b 2 1, firstTrack := field b 4 4
           cap := field b 8 4, slipCnt := field b 12 2, slips := risingSet slips }
  else none

/-- The zone map: each entry takes its SLIP_CNT entries off the slip list (R169). -/
def parseZones : List (List Byte) → List Nat → Option (List ZoneMap)
  | [], _ => some []
  | b :: r, slips =>
    let n := field b 12 2
    if slips.length < n then none
    else match parseZone b (slips.take n), parseZones r (slips.drop n) with
    | some z, some l => some (z :: l)
    | _, _ => none

/-- The rate zone records in turn. -/
def parseRateZones : List (Nat × List Byte) → Option (List (Nat × RateZone))
  | [] => some []
  | (i, b) :: r => match parseRateZone b, parseRateZones r with
    | some z, some l => some ((i, z) :: l)
    | _, _ => none

/-- The records of a format as read; none where a record has a RSVD bit set or the slip list is too short (R147, R169). -/
def parseFormat (f : FmtRecords) : Option MuFormat :=
  match parseRateZones f.rateZones, parseZones f.zoneMap f.slips with
  | some r, some z => some { rateZones := r, zones := z }
  | _, _ => none

/-- A rate zone record has legal values and its equalities hold (R140, R147), and it leaves the system area of its surface alone (R171). -/
def rateZoneOk (r : RateZone) : Bool :=
  512 ≤ r.firstTrack && r.firstTrack ≤ r.lastTrack && r.k % 12800 == 0 && 32000000 ≤ r.k && r.k ≤ 80000000 && r.spt == sptOf (r.k / 1280) && r.btrk == btrkOf r.spt

/-- The rate zone records, by head × 64 + zone: legal, in order, each surface's tracks rising (R140, R147). -/
def rateZonesOk (heads : Nat) : List (Nat × RateZone) → Bool
  | [] => true
  | [(i, r)] => i < heads * 64 && rateZoneOk r
  | (i, r) :: (j, q) :: l =>
    i < heads * 64 && i < j && rateZoneOk r && (i / 64 != j / 64 || r.lastTrack < q.firstTrack) && rateZonesOk heads ((j, q) :: l)

/-- A zone map entry is legal (R168, R169). -/
def zoneMapOk (heads : Nat) (rzs : List (Nat × RateZone)) (m : ZoneMap) : Bool :=
  match rzs.find? fun e => e.1 == m.head * 64 + m.rz with
  | none => false
  | some (_, r) =>
    let n := m.btrk * r.spt
    m.head < heads && m.rz < 64 && m.conv == r.conv && m.btrk == r.btrk && r.firstTrack ≤ m.firstTrack
      && m.firstTrack + m.btrk + (if m.conv then 0 else 1) ≤ r.lastTrack + 1
      && m.slipCnt + 32768 ≤ n && m.slips.all (· < n) && m.cap == Nat.min 65536 (n - m.slips.length) && 32768 ≤ m.cap

/-- C, the number of conventional zones of a volume of `n` zones (R170). -/
def convZones (n : Nat) : Nat := (n + 99) / 100

/-- The first C zones of the map, and no other, are conventional (R170). DEDUCED, log entry 105. -/
def convOk (zones : List ZoneMap) : Bool :=
  (List.range zones.length).all fun z => (zones.map (·.conv)).getD z false == decide (z < convZones zones.length)

/-- The records of an MU check (R147, R169, R172); R170 and R171 are taken with them. DEDUCED, log entry 105. -/
def fmtOk (heads : Nat) (f : MuFormat) : Bool := rateZonesOk heads f.rateZones && f.zones.all (zoneMapOk heads f.rateZones) && convOk f.zones

/-- The records that the module's checks pass, with the format they make. DEDUCED, log entry 105. -/
def checkedFormat (heads : Nat) (f : FmtRecords) : Option MuFormat := (parseFormat f).bind fun x => if fmtOk heads x then some x else none

/-- Zones in an order of R170: as many conventional ones ahead as the number of zones asks for, and no sequential zone beyond what they allow. -/
def conventionalFirst (conv seq : List ZoneMap) : List ZoneMap :=
  let c := Nat.min conv.length (if seq.isEmpty then 1 else (seq.length + 98) / 99)
  conv.take c ++ seq.take (99 * c)

/-- What a FORMAT in factory mode keeps of records that do not check: the bands that do, the conventional ones first; a band below the least capacity
is left out (R168, R170, R420). DEDUCED, log entry 105. -/
def usableFormat (heads : Nat) (f : FmtRecords) : MuFormat :=
  let x := (parseFormat f).getD {}
  let ok := x.zones.filter (zoneMapOk heads x.rateZones)
  if rateZonesOk heads x.rateZones then
    { x with zones := if convOk ok then ok else conventionalFirst (ok.filter (·.conv)) (ok.filter fun z => !z.conv) }
  else {}

/-- HEADS of an MU. -/
def State.headsOf (s : State) (m : Nat) : Nat :=
  let d := (s.hda (m / 2)).desc.getD {}
  if m % 2 == 0 then d.headsA else d.headsB

end Sys2Proof.Machine
end

