-- ==== Sys2Proof/Machine/Zones.lean ====
section
/-! DEFINITION. Zone management, zone reports, formats, ownership and event bindings (R344 to R346, R396 to R400, R420, R421). -/

namespace Sys2Proof.Machine

/-! ### Destage tracks in SCH that no longer have data -/

/-- A destage track without the sectors whose LBA `p` names. -/
def Destage.without (p : Nat → Bool) (d : Destage) : Destage := { d with lbas := d.lbas.filter fun l => !p l }

/-- The sectors `p` names leave the destage tracks of an MU; a track left without sectors leaves SCH. -/
def State.undestage (s : State) (v : Nat) (p : Nat → Bool) : State :=
  let left := ((s.mu v).sch.destage.map (Destage.without p)).filter fun d => !d.lbas.isEmpty
  let gone := ((s.mu v).sch.destage.map (·.zone)).filter fun z => !(left.map (·.zone)).contains z
  let s := s.updMu v fun m => { m with sch := { m.sch with destage := left } }
  gone.foldl (fun s z => s.updZone v z fun x => { x with inSch := false }) s

/-- Acknowledged data of a zone discarded without a deferred error (R398). -/
def State.dropZone (s : State) (v z : Nat) : State :=
  ((s.undirtyAll false (s.dirtyIn v z)).undestage v fun l => zoneOf l == z).settleFua

/-- The system take that writes the journal is due on an MU (R171, R434). -/
def State.journalDue (s : State) (v : Nat) : State := s.updMu v fun m => { m with sch := { m.sch with systemDue := true } }

/-! ### ZONE_MGMT (R396 to R398) -/

/-- The checks that every sub-operation makes first (R396); the deferred error is not checked with ALL (R397). -/
def State.blockZone (s : State) (e v z order : Nat) (all : Bool) : Option Block :=
  if s.notOwner e v then some (.code 0x000A)
  else if !all && (s.zone v z).deferred.isSome then some .deferred
  else if !(s.hda (v / 2)).hereForData then some (.code 0x000D)
  else if s.muStoppedAt v order then some (.code 0x0008)
  else if s.thp.hold then some (.code 0x0009)
  else none

/-- A code the table of R396 gives for a zone's state, in the order of R378. -/
def zoneCode (open_ keepReadOnly : Bool) (st : ZState) : Option Nat :=
  if st == .offline then some 0x0003
  else if st == .readOnly && keepReadOnly then some 0x0002
  else if st == .full && open_ then some 0x0001
  else none

/-- OPEN of a zone that would bind to key domain `k` (R396). -/
def State.openZone (s : State) (t v z k : Nat) : State :=
  let x := s.zone v z
  let kst := s.kdState k
  let taken := fun (s : State) => (s.updZone v z fun x =>
    { x with st := .explicitOpen, kdom := if x.st == .empty then some k else x.kdom }).journalDue v |>.endWith t {}
  if x.st == .empty && (kst == .erased || kst == .empty) then s.endWith t (conflict 0x0012)
  else if x.st == .empty && kst == .locked then s.endWith t (conflict 0x0011)
  else match zoneCode true true x.st with
  | some c => s.endWith t (conflict c)
  | none =>
    if x.st == .explicitOpen then s.endWith t {}
    else if x.st == .implicitOpen then taken s
    else if s.noContext v then s.endWith t (conflict 0x0005)
    else taken s

/-- The state in which a zone goes from `CLOSE`, `FINISH` or `RESET` (R396): none where the table changes nothing. -/
def Zone.managed (x : Zone) (sub cap : Nat) : Option Zone :=
  if sub == 2 then
    if x.isOpen then some (if x.wp == 0 then { x with st := .empty, kdom := none } else { x with st := .closed }) else none
  else if sub == 3 then
    if x.isOpen || x.st == .empty || x.st == .closed then some { x with st := .full, wp := cap } else none
  else if x.st == .offline then none
  else some { x with st := .empty, wp := 0, gen := (x.gen + 1) % 65536, kdom := none, handed := 0, onMedium := 0, inSch := false }

/-- One zone changed by CLOSE, FINISH or RESET; a RESET drops its data and its lines (R396, R398, R491). -/
def State.changeZone (s : State) (v z sub : Nat) : State :=
  match (s.zone v z).managed sub (s.cap v z) with
  | none => s
  | some x =>
    let old := (s.zone v z).kdom
    let s := if sub == 4 then s.dropZone v z else s
    let s := s.updZone v z fun y => { x with deferred := y.deferred }
    let s := if sub == 4 && s.bca.enabled then s.invalidateZone v z else s
    if x.kdom == none then s.releaseOpt old else s

/-- Every sequential zone of a volume changed in turn, zones with an undelivered deferred error passed over (R397):
the zones changed, the zones passed over for a record, and the state. -/
def State.changeAll (s : State) (v sub : Nat) : Nat → List Nat → Nat × Nat × State
  | n, [] => (n, 0, s)
  | n, z :: r =>
    if s.isConv v z then s.changeAll v sub n r
    else if (s.zone v z).deferred.isSome then
      let (n, p, t) := s.changeAll v sub n r
      (n, p + 1, t)
    else
      let n := if ((s.zone v z).managed sub (s.cap v z)).isSome then n + 1 else n
      (s.changeZone v z sub).changeAll v sub n r

/-- CLOSE, FINISH or RESET of one zone or, with ALL, of every zone (R396, R397). -/
def State.manageZone (s : State) (t v z sub : Nat) (all : Bool) : State :=
  let reset := fun (s : State) => if sub == 4 then s.bypassed else s
  if all then
    let (n, p, u) := s.changeAll v sub 0 (List.range (s.zoneCount v))
    ((reset u).journalDue v).endWith t { r0 := n, r1 := p }
  else match zoneCode false (sub != 4) (s.zone v z).st with
  | some c => s.endWith t (conflict c)
  | none => ((reset (s.changeZone v z sub)).journalDue v).endWith t {}

/-- One ZONE_MGMT sub-operation, after the checks of R396. -/
def State.zoneMgmt (s : State) (tag sub : Nat) (run : State → Nat → Nat → Bool → State) : Out :=
  let c := s.cmd tag
  let v := c.pkt.vol
  let z := zoneOf c.pkt.slba
  let all := bit c.pkt.p0.toNat 8
  guarded (s.at_ tag .perform && c.pkt.opc == 6 && c.pkt.sub == sub) s <|
    match s.blockZone c.ep v z c.order all with
    | some b => s.block tag v z b
    | none => if s.zoneCount v ≤ z then s.endWith tag { status := 0x0104 } else run s v z all

/-- ZONE_MGMT OPEN (R396). -/
def execZoneMgmtOpen (tag : TagNo) (s : State) : Out :=
  s.zoneMgmt tag 1 fun s v z _ =>
    let k := (s.cmd tag).pkt.p2.toNat
    s.openZone tag v z (if k == 0x7FF then (s.mu v).defaultKdom else k)

/-- ZONE_MGMT CLOSE (R396). -/
def execZoneMgmtClose (tag : TagNo) (s : State) : Out := s.zoneMgmt tag 2 fun s v z all => s.manageZone tag v z 2 all
/-- ZONE_MGMT FINISH (R396). -/
def execZoneMgmtFinish (tag : TagNo) (s : State) : Out := s.zoneMgmt tag 3 fun s v z all => s.manageZone tag v z 3 all
/-- ZONE_MGMT RESET (R396, R398). -/
def execZoneMgmtReset (tag : TagNo) (s : State) : Out := s.zoneMgmt tag 4 fun s v z all => s.manageZone tag v z 4 all

/-! ### ZONE_REPORT (R399, R400) -/

/-- Code of a zone state (R400). -/
def zoneStateCode : ZState → Nat
  | .empty => 0
  | .implicitOpen => 1
  | .explicitOpen => 2
  | .closed => 3
  | .full => 4
  | .readOnly => 5
  | .offline => 6

/-- A zone matches FILTER (R399). -/
def State.zoneMatches (s : State) (v filter z : Nat) : Bool :=
  let x := s.zone v z
  let conv := s.isConv v z
  if filter == 0 then true
  else if filter ≤ 7 then !conv && zoneStateCode x.st + 1 == filter
  else if filter == 8 then !conv && x.isOpen
  else if filter == 9 then conv
  else x.deferred.isSome

/-- A zone's 64-byte descriptor (R400). -/
def State.zoneDesc (s : State) (v z : Nat) : List Byte :=
  let x := s.zone v z
  let conv := s.isConv v z
  let d := x.deferred.getD { lba := 0, count := 0, cause := 0 }
  padTo 64 (leBytes 8 (z * 65536) ++ leBytes 4 (s.cap v z)
    ++ leBytes 4 (if conv then 0xFFFFFFFF else if x.st == .full then s.cap v z else x.wp)
    ++ leBytes 1 (if conv then 0xFF else zoneStateCode x.st) ++ leBytes 1 (flag conv) ++ leBytes 2 ((s.boundKdom v z).getD 0x7FF)
    ++ leBytes 2 x.gen ++ leBytes 1 (flag x.deferred.isSome) ++ leBytes 1 d.cause ++ leBytes 8 d.lba ++ leBytes 4 d.count)

/-- The bytes of a report of `len` bytes from zone `z` on (R399). -/
def State.zoneReport (s : State) (v z filter len : Nat) : List Byte :=
  let zs := ((List.range (s.zoneCount v)).drop z).filter (s.zoneMatches v filter)
  let out := zs.take (len / 64 - 1)
  padTo 64 (leBytes 8 zs.length ++ leBytes 4 out.length) ++ out.flatMap (s.zoneDesc v)

/-- ZONE_REPORT (R399). -/
def execZoneReport (tag : TagNo) (s : State) : Out :=
  s.manage tag 7 0 [] [] false false true [s.absentCode tag, s.stoppedCode tag] fun s =>
    let p := (s.cmd tag).pkt
    (s.sendBytes tag (s.zoneReport p.vol (zoneOf p.slba) (bits p.p0.toNat 15 8) p.p5.toNat)).endWith tag {}

/-! ### VOLUME_CTL (R344 to R346, R420) -/

/-- FLUSH_BARRIER_ACTIVE (R395). DEDUCED, log entry 57. -/
def State.barrierCode (s : State) (t : Nat) : Bool × Nat := (s.barrierActive (s.cmd t).order, 0x0014)

/-- The heads of an MU are on the medium. -/
def Act.loaded (a : Act) : Bool := a.st == .seeking || a.st == .settling || a.st == .following || a.st == .tuning

/-- The HDA is in HS0 and the MU is loaded (R420). -/
def State.formattable (s : State) (v : Nat) : Bool :=
  (s.hda (v / 2)).hs == 0 && !(s.hda (v / 2)).hsTransit && (s.hda (v / 2)).st == .active && (s.mu v).act.loaded && (s.mu v).act.st != .tuning

/-- The zone as FORMAT leaves it: sequential zones EMPTY in a new generation, records of lost data kept (R420, R538). DEDUCED, log entry 56. -/
def formatZone (conv : Bool) (x : Zone) : Zone :=
  if conv then { gen := x.gen, deferred := x.deferred } else { gen := (x.gen + 1) % 65536, deferred := x.deferred }

/-- The zones of a volume after FORMAT. -/
def formatZones (f : MuFormat) (old : Sparse Zone) : Sparse Zone :=
  ((List.range f.zones.length).map fun z => (z, formatZone ((f.zones[z]?.map (·.conv)).getD false) (sget old z {}))).filter
    fun e => decide (e.2 ≠ {})

/-- Acknowledged data of a volume discarded without deferred errors. -/
def State.dropVolume (s : State) (v : Nat) : State :=
  ((s.undirtyAll false ((s.bca.index.filter fun e => dvol e.1 == v).map (·.1))).undestage v fun _ => true).settleFua

/-- FORMAT of volume `v` with the factory records `f`: it completes when the system take has written the medium (R420, R491, R493, R534). DEDUCED,
log entry 56. -/
def State.formatVolume (s : State) (t v : Nat) (f : MuFormat) : State :=
  let p2 := (s.cmd t).pkt.p2.toNat
  let k := bits p2 25 16
  let olds := (s.mu v).convKdom :: (s.mu v).zones.filterMap fun z => z.2.kdom
  let s := s.dropVolume v
  let s := s.updMu v fun m =>
    { m with formatted := true, recovered := true, fmt := f, hasMeta := bit p2 0, defaultKdom := k, convKdom := k
             zones := formatZones f m.zones, zeroed := true, rewritten := []
             sch := { m.sch with systemDue := true, sysTake := none, sysFails := 0, format := m.sch.format ++ [t] } }
  let s := if s.bca.enabled then s.invalidateVolume v else s
  ((olds.foldl (fun s k => s.releaseKd k) s).bypassed).setPhase t .executing

/-- VOLUME_CTL FORMAT: `records` are the factory records on the medium (R420). -/
def execVolumeCtlFormat (tag : TagNo) (token : List Byte) (rateZones : List (Nat × List Byte)) (zones : List (List Byte) × List Nat) (s : State) : Out :=
  let v := (s.cmd tag).pkt.vol
  let records : FmtRecords := { rateZones, zoneMap := zones.1, slips := zones.2 }
  let f := checkedFormat (s.headsOf v) records
  s.manage tag 0x33 1 token [] false true false
    [s.ownCode tag, s.absentCode tag, s.barrierCode tag, (f.isNone && !s.factory, 0x000C), (!s.formattable v, 0x0008)]
    fun s => s.formatVolume tag v (f.getD (usableFormat (s.headsOf v) records))

/-- Ownership of a volume changes: stored, one event, and a notice on both endpoints (R343, R345). -/
def State.setOwner (s : State) (v : Nat) (o : Option Nat) : State :=
  let owners := sset s.owners v o (some (v / 16))
  let code := match o with | some e => e | none => 2
  let s := { s with owners := owners, nor := { s.nor with owners := owners, ownersDual := s.dual } }
  (s.raise 3 0 1 (v + code * 2 ^ 8)).notice v 2 code

/-- A change of ownership, taken in and decided in one cycle (R344, R346). DEDUCED, log entry 57. -/
def State.changeOwner (s : State) (t sub : Nat) (codes : List (Bool × Nat)) (run : State → State) : Out :=
  guarded (s.mayTakeIn t && (s.cmd t).pkt.opc == 0x33 && (s.cmd t).pkt.sub == sub) s <|
    match firstCode codes with
    | some k => s.endWith t (conflict k)
    | none => run s

/-- VOLUME_CTL RELEASE (R344). -/
def execVolumeCtlRelease (tag : TagNo) (s : State) : Out :=
  let c := s.cmd tag
  s.changeOwner tag 2 [(s.notOwner c.ep c.pkt.vol, 0x000A), s.barrierCode tag] fun s => (s.setOwner c.pkt.vol none).endWith tag {}

/-- Another endpoint whose link is up owns the volume, and the command carries no FORCE (R344). -/
def State.takeoverBars (s : State) (e v : Nat) (force : Bool) : Bool :=
  match s.owner v with
  | none => false
  | some o => o != e && (s.ep o).linkUp && !(s.ep o).perst && !force

/-- VOLUME_CTL TAKEOVER (R344, R346). DEDUCED, log entry 57. -/
def execVolumeCtlTakeover (tag : TagNo) (s : State) : Out :=
  let c := s.cmd tag
  s.changeOwner tag 3 [s.barrierCode tag, (s.takeoverBars c.ep c.pkt.vol (bit c.pkt.p2.toNat 1), 0x000A)] fun s =>
    (if s.owner c.pkt.vol == some c.ep then s else s.setOwner c.pkt.vol (some c.ep)).endWith tag {}

/-- VOLUME_CTL SET_DEFAULT_KDOM (R420). -/
def execVolumeCtlSetDefaultKdom (tag : TagNo) (s : State) : Out :=
  let c := s.cmd tag
  let k := bits c.pkt.p2.toNat 25 16
  s.simple tag 0x33 4 [s.ownCode tag, s.barrierCode tag, (s.kdState k == .erased || s.kdState k == .empty, 0x0012)] fun s =>
    (s.updMu c.pkt.vol fun m => { m with defaultKdom := k }).endWith tag {}

/-! ### EVENT_ARM (R421) -/

/-- The binding the command names: its scope and the module number of its queue. -/
def State.bindingNamed (s : State) (t : Nat) : Nat × Nat :=
  let c := s.cmd t
  (c.pkt.vol, moduleNo c.ep (bits c.pkt.p2.toNat 7 0))

/-- The bindings of the command's endpoint changed by `f`, unless its queue is no longer an enabled EVENT queue. -/
def State.rebind (s : State) (t : Nat) (f : List (Nat × Nat) → List (Nat × Nat)) : State :=
  if (s.cq (s.bindingNamed t).2).isEvent then
    (s.updEp (s.cmd t).ep fun x => { x with bindings := f x.bindings }).endWith t {}
  else s.endWith t (badField 40)

/-- EVENT_ARM BIND (R421). -/
def execEventArmBind (tag : TagNo) (s : State) : Out :=
  let b := s.bindingNamed tag
  s.simple tag 0x34 0 [s.ownScoped tag] fun s => s.rebind tag fun l => if l.contains b then l else l ++ [b]

/-- EVENT_ARM UNBIND (R421). -/
def execEventArmUnbind (tag : TagNo) (s : State) : Out :=
  let b := s.bindingNamed tag
  s.simple tag 0x34 1 [s.ownScoped tag] fun s => s.rebind tag fun l => l.filter (· != b)

end Sys2Proof.Machine
end

