-- ==== Sys2Proof/Machine/CacheCtl.lean ====
section
/-! DEFINITION. CACHE_CTL (R402, R489 to R494). -/

namespace Sys2Proof.Machine

/-- POWER_STATE of R587, for a command that needs what PS4 turns off. DEDUCED, log entry 41. -/
def State.ps4Code (s : State) : Bool × Nat := (s.psRefuses, 0x0010)

/-- The command waits for the PS4 exit that its packet has fired (R587). DEDUCED, log entry 41. -/
def State.asleep (s : State) : Bool := s.pwr.pstate == 4 && s.wakeHost

/-- A cache operation: held while the module leaves PS4, otherwise as any management command. -/
def State.cacheOp (s : State) (t sub : Nat) (codes : List (Bool × Nat)) (run : State → State) : Out :=
  if s.asleep then .next s else s.simple t 9 sub (codes ++ [s.ps4Code]) run

/-- DISABLE: lines with a DIRTY sector become STRANDED and lookup stops (R492). -/
def State.cacheDisable (s : State) (t : Nat) : State :=
  if s.bca.enabled then
    let n := s.dirtyLines
    let strand := fun (l : Line) => if l.dirty != 0 then { l with stranded := true } else l
    { s with bca := { s.bca with enabled := false, bypass := 0, lines := smap s.bca.lines {} strand } }.endWith t { r0 := n }
  else s.endWith t {}

/-- CACHE_CTL DISABLE (R402). -/
def execCacheCtlDisable (tag : TagNo) (s : State) : Out :=
  s.cacheOp tag 1 [s.barrierCode tag, (s.bca.enabled && s.dirtyLines != 0 && !bit (s.cmd tag).pkt.p2.toNat 0, 0x0006)] fun s => s.cacheDisable tag

/-- Lines as ENABLE INVALIDATE leaves them: CLEAN lines go, fills in progress are dropped when they end (R494). -/
def Line.invalidated (l : Line) : Line :=
  if l.st == .clean then l.emptied else if l.st == .filling then { l with st := .doomed } else l

/-- Lines that are FILLING, each of which becomes DOOMED when every line is invalidated (R491, R494, R506). -/
def State.fillingLines (s : State) : Nat := (s.bca.lines.filter fun e => e.2.st == .filling).length

/-- ENABLE by MODE; a new key is a key change (R494, R506). DEDUCED, log entry 56. -/
def State.cacheEnable (s : State) (t : Nat) (resume stale : Bool) : State :=
  if s.bca.enabled then s.endWith t {}
  else
    let n := s.bca.bypass
    let s := if resume then s else (s.bump 6 0 (aBca 0x28) s.fillingLines).bump 6 0 (aBca 0x44)
    let s := if resume then
        { s with bca := { s.bca with enabled := true, staleResumed := stale && n != 0
                                     lines := smap s.bca.lines {} fun l => { l with stranded := false } } }
      else { s with bca := { s.bca with enabled := true, staleResumed := false, cut := [], lines := smap s.bca.lines {} Line.invalidated } }.newKey
    s.endWith t { r0 := n }

/-- CACHE_CTL ENABLE (R402). -/
def execCacheCtlEnable (tag : TagNo) (s : State) : Out :=
  let p2 := (s.cmd tag).pkt.p2.toNat
  s.cacheOp tag 2 [(!s.bca.enabled && bit p2 0 && s.bca.bypass != 0 && !bit p2 1, 0x0007)] fun s => s.cacheEnable tag (bit p2 0) (bit p2 1)

/-- The block of a line touches the command's range. -/
def inRange (p : Packet) : Nat → Nat → Bool := blockIn p.vol p.slba (p.slba + p.nsec)

/-- DIRTY lines of the command's range. -/
def State.dirtyRange (s : State) (p : Packet) : List (Nat × Line) := s.bca.lines.filter fun e => e.2.dirty != 0 && inRange p e.2.vol e.2.block

/-- CACHE_CTL FLUSH_RANGE: the range's DIRTY sectors are covered at once, and FLUSH_COMPLETE ends the command (R489). -/
def execCacheCtlFlushRange (tag : TagNo) (s : State) : Out :=
  s.cacheOp tag 3 [s.ownCode tag] fun s =>
    s.updCmd tag fun c => { c with phase := .flush, counted := (s.dirtyRange c.pkt).length }

/-- A destage attempt that covers a sector has begun: a WRITE take of its track is in the sequencer's hands, waits for its next revolution, or has
ended with sectors still to be decided (R235, R239, R490). -/
def State.attempted (s : State) (k : Nat) : Bool :=
  let m := s.mu (dvol k)
  (sget s.bca.index k {}).handed && (m.tsq.desc.toList ++ m.sch.slipNext.toList ++ m.was.closing.toList).any fun d =>
    d.type == 2 && d.zone == zoneOf (dlba k) && d.track == (s.place (dvol k) (dlba k)).1

/-- DIRTY sectors of the range that DISCARD drops (R490). -/
def State.discardable (s : State) (p : Packet) : List Nat :=
  ((s.bca.index.filter fun e => dvol e.1 == p.vol && p.slba ≤ dlba e.1 && dlba e.1 < p.slba + p.count).map (·.1)).filter fun k =>
    s.isConv p.vol (zoneOf (dlba k)) && !s.attempted k

/-- The CLEAN and FILLING lines of the range and its cutting-room entries; while the cache is disabled its tags stand still (R490, R492). -/
def State.invalidateRange (s : State) (p : Packet) : State := if s.bca.enabled then s.invalidateLines (inRange p) else s

/-- INVALIDATE_RANGE with DISCARD (R490). -/
def State.discardRange (s : State) (t : Nat) (p : Packet) : State :=
  let ks := s.discardable p
  let lines := s.dirtyRange p
  let holds := fun (l : Line) (k : Nat) => l.block == dlba k / 16 && l.dirty.getLsbD (dlba k % 16)
  let hit := (lines.filter fun e => ks.any (holds e.2)).length
  let s := ((s.undirtyAll false ks).undestage p.vol fun l => ks.contains (dkey p.vol l)).settleFua
  let left := (s.dirtyRange p).length
  (s.invalidateRange p).endWith t { r0 := hit, r1 := left }

/-- CACHE_CTL INVALIDATE_RANGE (R402, R490). -/
def execCacheCtlInvalidateRange (tag : TagNo) (token : List Byte) (s : State) : Out :=
  let p := (s.cmd tag).pkt
  let discard := bit p.p2.toNat 2
  if s.asleep then .next s
  else s.manage tag 9 4 token [] false discard false [s.ownCode tag, s.ps4Code] fun s =>
    if discard then s.discardRange tag p
    else (s.invalidateRange p).endWith tag { r0 := (s.dirtyRange p).length }

/-- REKEY with the cache enabled and no line DIRTY: the pass begins (R491). -/
def State.rekey (s : State) (t : Nat) : State :=
  if !s.bca.enabled || s.bca.rekeyBusy then s.endWith t {}
  else
    let f := fun (l : Line) => if l.st == .filling || l.st == .doomed then { l with st := .doomed } else l.emptied
    let s := s.bump 6 0 (aBca 0x28) s.fillingLines
    { s with bca := { s.bca with rekeyBusy := true, rekeyCmd := some t, cut := [], lines := smap s.bca.lines {} f } }.setPhase t .executing

/-- CACHE_CTL REKEY (R402). -/
def execCacheCtlRekey (tag : TagNo) (s : State) : Out :=
  if s.bca.rekeyBusy then .next s
  else s.cacheOp tag 5 [s.barrierCode tag, (s.bca.enabled && s.dirtyLines != 0, 0x0006)] fun s => s.rekey tag

end Sys2Proof.Machine
end

