-- ==== Sys2Proof/Machine/Channel.lean ====
section
/-! DEFINITION. The channel's own arithmetic: the fields of a channel entry, the front-end loops, converter slots, equaliser taps, the code, the
samples of a slot, and what is written of a sector (R141, R144, R145, R176 to R183, R186, R191, R215, R220). -/

namespace Sys2Proof.Machine

/-! ### The channel entry (R186) -/

/-- Initial gain of a reader. -/
def entryGain (e : List Byte) (r : Nat) : Nat := field e (4 + 2 * r) 2
/-- Initial offset of a reader in 1/8 converter LSB. -/
def entryOfs (e : List Byte) (r : Nat) : Int := ofTwos 16 (field e (8 + 2 * r) 2)
/-- Asymmetry coefficient of a reader in 1/256. -/
def entryAsym (e : List Byte) (r : Nat) : Int := ofTwos 8 (field e (12 + r) 1)
/-- EQ_STEP: the tap step is 2^−(EQ_STEP + 8). -/
def entryEqStep (e : List Byte) : Nat := field e 21 1 % 16
/-- NP_STEP: the predictor step is 2^−(NP_STEP + 8). -/
def entryNpStep (e : List Byte) : Nat := field e 21 1 / 16
/-- AGC_GAIN, the gain and offset loop gain code. -/
def entryAgc (e : List Byte) : Nat := field e 22 1
/-- PHASE_KP and PHASE_KI, the fine-phase loop codes. -/
def entryPhase (e : List Byte) : Nat × Nat := (field e 23 1 % 16, field e 23 1 / 16)
/-- g0, g1 and g2 of the target, Q3.12 (R181). -/
def entryTarget (e : List Byte) : List Int := (List.range 3).map fun i => ofTwos 16 (field e (24 + 2 * i) 2)
/-- The 24 taps of a reader, Q1.14 (R180). -/
def entryTaps (e : List Byte) (r : Nat) : List Int := (List.range 24).map fun k => ofTwos 16 (field e (32 + 48 * r + 2 * k) 2)
/-- The pattern record of one of the 8 three-symbol patterns: C1, C2, VAR and BIAS (R181). -/
def entryPattern (e : List Byte) (p : Nat) : Int × Int × Nat × Int :=
  let a := 128 + 8 * (p % 8)
  (ofTwos 16 (field e a 2), ofTwos 16 (field e (a + 2) 2), field e (a + 4) 2, ofTwos 16 (field e (a + 6) 2))

/-- The front end of a reader at the values of an entry (R176, R179). -/
def entryFront (e : List Byte) (r : Nat) : Front :=
  { boost := field e 2 1, corner := field e 3 1, gain := entryGain e r, ofs := entryOfs e r, asym := entryAsym e r }

/-! ### The front-end loops (R179) -/

/-- What the loops do at a symbol from start[s]. -/
def loopMode (pos : Nat) : LoopMode := if pos < 512 then .gainOffset else if pos < 768 then .finePhase else .hold
/-- What they do at a symbol of a resync field and what follows it. -/
def resyncMode (pos : Nat) : LoopMode := if pos < 224 then .finePhase else .hold

/-- A front end after a stretch in one mode over the samples `x` under an entry's loop codes: what adapts ends within its range, and the rest is held.
No rule states the loops' arithmetic (log entry 3). -/
def Front.adapt (f : Front) (e : List Byte) (mode : LoopMode) (x : List Int) : Front :=
  match mode with
  | .gainOffset =>
    let r := Config.agcLoop (entryAgc e) f.gain f.ofs x
    { f with gain := Nat.min 1023 r.1, ofs := clampI (-512) 511 r.2 }
  | .finePhase => { f with phase := clampI (-32) 32 (Config.phaseLoop (entryPhase e).1 (entryPhase e).2 f.phase x) }
  | .hold => f

/-- Samples from symbol `a` on. -/
def stretch (x : Int → Int) (a n : Nat) : List Int := (List.range n).map fun i => x ((a + i : Nat) : Int)

/-- A front end over the header of a sector: gain and offset from the table values, then the phase, then all held (R179, R189). -/
def Front.train (f : Front) (e : List Byte) (x : Int → Int) : Front :=
  ((f.adapt e (loopMode 0) (stretch x 0 512)).adapt e (loopMode 512) (stretch x 512 256)).adapt e (loopMode 768) []
/-- A front end over a resync field that begins at symbol `a`. -/
def Front.resync (f : Front) (e : List Byte) (x : Int → Int) (a : Nat) : Front :=
  (f.adapt e (resyncMode 0) (stretch x a 224)).adapt e (resyncMode 224) []

/-! ### Converters and equaliser (R177, R180) -/

/-- The sub-converter that takes sample `n`: the one in active slot n mod 8. -/
def takenBy (slots : List Nat) (n : Nat) : Nat := slots.getD (n % 8) 0

/-- Sample `n` of a reader, 7 bits, from the sub-converter that takes it (R176, R177). -/
def convSample (slots : List Nat) (streams : List (List Int)) (n : Int) : Int :=
  if n < 0 then 0 else clampI (-64) 63 ((streams.getD (takenBy slots n.toNat) []).getD (n.toNat / 8) 0)

/-- A reader's samples after the fine-phase interpolator (R176, R179). -/
def interpolated (phase : Int) (x : Int → Int) (n : Int) : Int :=
  if phase == 0 then x n else Config.interpolate phase (x (n - 1)) (x n) (x (n + 1))

/-- The spare takes the slot of sub-converter (s + 1) mod 9, which becomes the spare (R178, R595). -/
def swapSlots (slots : List Nat) (spare : Nat) : List Nat := slots.map fun c => if c == (spare + 1) % 9 then spare else c

/-- One output of the joint equaliser: 24 taps over each reader's samples, tap 8 the main tap; Q1.14 taps, not yet scaled (R180). -/
def equalised (taps0 taps1 : List Int) (x0 x1 : Int → Int) (n : Int) : Int :=
  let part (t : List Int) (x : Int → Int) : Int := (List.range 24).foldl (fun s k => s + t.getD k 0 * x (n + 8 - k)) 0
  part taps0 x0 + part taps1 x1

/-- The converter samples of a reader as one take gave them. -/
def Sampled.reader (t : Sampled) (r : Nat) : Int → Int :=
  if r == 0 then convSample t.convs0 t.signal.conv0 else convSample t.convs1 t.signal.conv1

/-- The equaliser's output of a take at symbol `n` from start[s], in run `j` of the slot (R176, R180). -/
def Sampled.output (t : Sampled) (n : Int) (j : Nat) : Int :=
  let p := t.phases.getD j (t.phases.getLastD (0, 0))
  equalised t.taps0 t.taps1 (interpolated p.1 (t.reader 0)) (interpolated p.2 (t.reader 1)) n

/-- The symbol and the run of the `k`-th sample of a slot (R191). -/
def slotAt : List (Nat × Nat) → Nat → Nat → Nat × Nat
  | [], _, j => (0, j)
  | (p, n) :: r, k, j => if k < n then (p + k, j) else slotAt r (k - n) (j + 1)

/-- The `k`-th sample of a slot: the sum over the takes added, less the neighbours' symbols (R191, R200). -/
def SecWork.slot (w : SecWork) (k : Nat) : Int :=
  let at_ := slotAt w.samples k 0
  (w.taken.map fun t => t.output at_.1 at_.2 - if t.cancel.isEmpty then 0 else Config.crossTrack t.cancel w.sector at_.1).foldl (· + ·) 0

/-- 24 taps in their format, adapted by least mean squares with a converged codeword as the reference (R180); no rule states how a step rounds (log
entry 3). -/
def adaptedTaps (step : Nat) (target taps : List Int) (streams : List (List Int)) (word : BitVec 37120) : List Int :=
  let r := Config.lmsTaps step target taps streams word
  (List.range 24).map fun k => clampI (-32768) 32767 (r.getD k 0)

/-- The channel at the start of a take: table taps, table step (R180). -/
def Rch.fresh (r : Rch) : Rch := { r with taps0 := entryTaps r.entry 0, taps1 := entryTaps r.entry 1, eqStep := entryEqStep r.entry }

/-- The equaliser fed by one reader alone: the other's taps are zero and EQ_STEP is halved in exponent (R200, step 2): the field is halved, an odd value
rounded down. DESIGN CHOICE, log entry 110. -/
def Rch.single (r : Rch) (reader : Nat) : Rch :=
  let z := List.replicate 24 (0 : Int)
  { r with taps0 := if reader == 0 then entryTaps r.entry 0 else z, taps1 := if reader == 0 then z else entryTaps r.entry 1
           eqStep := entryEqStep r.entry / 2 }

/-- The taps after a payload that converged: those in use adapt over its samples, taps set to zero stay (R180, R200). -/
def Rch.learned (r : Rch) (variant : Nat) (x : Signal) (word : BitVec 37120) : Rch :=
  let g := entryTarget r.entry
  { r with taps0 := if variant == 2 then r.taps0 else adaptedTaps r.eqStep g r.taps0 x.conv0 word
           taps1 := if variant == 1 then r.taps1 else adaptedTaps r.eqStep g r.taps1 x.conv1 word }

/-! ### Detector and code (R181, R182) -/

/-- States of the detector's trellis: two symbols of target memory and a predictor of order 2. -/
def detectorStates : Nat := 16
/-- A 6-bit value: a log-likelihood ratio or a message. -/
def six (x : Int) : Int := clampI (-32) 31 x
/-- The 6-bit log-likelihood ratios of a payload from the sums of its samples, under an entry and the decoder's extrinsic information (R181, R183). -/
def softOutput (e : List Byte) (takes : Nat) (x : List Int) (ext : Nat → Int) : Nat → Int :=
  let r := Config.detector detectorStates (entryTarget e) ((List.range 8).map (entryPattern e)) (entryNpStep e) takes x ((List.range 37120).map ext)
  fun k => six (r.getD k 0)
/-- Bit `i` of block row `r` of the syndrome: 290 block columns of 128 × 128 circulants. -/
def syndromeBit (x : BitVec 37120) (r i : Nat) : Bool :=
  (List.range 290).foldl (fun b c => match Config.circulant r c with
    | some k => b != x.getMsbD (c * 128 + (i + k) % 128)
    | none => b) false
/-- A word is a codeword: the syndrome of the 32 block rows is zero. -/
def isCodeword (x : BitVec 37120) : Bool := (List.range 32).all fun r => (List.range 128).all fun i => !syndromeBit x r i

/-- An engine within an attempt (R182): what it holds of each symbol, and the message of each check by block row, row in it and block column. -/
structure Engine where
  post : Nat → Int
  msg : Nat → Nat → Nat → Int

/-- The message of block column `c` to row `i` of block row `r`. -/
def Engine.toCheck (e : Engine) (r i c : Nat) : Option Int :=
  (Config.circulant r c).map fun k => six (e.post (c * 128 + (i + k) % 128) - e.msg r i c)

/-- The min-sum message of a row to block column `c`: the sign of the product and the least magnitude of the other messages. -/
def Engine.fromCheck (e : Engine) (r i c : Nat) : Int :=
  let others := (List.range 290).filterMap fun b => if b == c then none else e.toCheck r i b
  let v := six (Config.minSumScale (others.foldl (fun a x => Nat.min a x.natAbs) 32))
  if (others.filter (· < 0)).length % 2 == 0 then v else -v

/-- One layer: the 128 rows of block row `r`. -/
def Engine.layer (e : Engine) (r : Nat) : Engine :=
  { post := fun v => match Config.circulant r (v / 128) with
      | none => e.post v
      | some k =>
        let i := (v % 128 + 128 - k % 128) % 128
        (e.toCheck r i (v / 128)).getD 0 + e.fromCheck r i (v / 128)
    msg := fun q i c => if q == r then e.fromCheck r i c else e.msg q i c }

/-- The decisions on all symbols. -/
def Engine.word (e : Engine) : BitVec 37120 := BitVec.ofNat 37120 ((List.range 37120).foldl (fun n v => 2 * n + flag (e.post v < 0)) 0)

/-- At most so many local iterations, ended by the first after which the syndrome is zero: those made, whether it is zero, and the engine (R182). -/
def Engine.run : Nat → Nat → Engine → Nat × Bool × Engine
  | 0, n, e => (n, false, e)
  | l + 1, n, e =>
    let e := (List.range 32).foldl Engine.layer e
    if isCodeword e.word then (n + 1, true, e) else Engine.run l (n + 1) e

/-- The passes of an attempt: local iterations in all, and the codeword once the syndrome is zero. Each pass decodes what the detector gives for the
extrinsic information of the pass before, its messages starting at zero (R182, R183). DESIGN CHOICE, log entry 110. -/
def decode (detect : (Nat → Int) → Nat → Int) : List Nat → Nat → (Nat → Int) → Nat × Option (BitVec 37120)
  | [], used, _ => (used, none)
  | l :: r, used, ext =>
    let soft := detect ext
    let (n, ok, e) := Engine.run l 0 { post := soft, msg := fun _ _ _ => 0 }
    if ok then (used + n, some e.word) else decode detect r (used + n) fun k => six (e.post k - soft k)

/-- The 4,128 bytes of a sector's payload (R148). -/
def payloadOf (x : Sector) : List Byte :=
  padTo 4096 x.data ++ padTo 16 x.hmeta ++ leBytes 8 (x.lba % 2 ^ 40 + x.vol % 32 * 2 ^ 40 + x.zgen % 65536 * 2 ^ 48) ++ leBytes 4 x.scrc.toNat
    ++ leBytes 4 x.smac.toNat

/-- The sector that 4,128 payload bytes hold, in a zone bound to key domain `k` (R148, R149). -/
def sectorOf (p : List Byte) (k : Nat) : Sector :=
  let tag := field p 4112 8
  { data := p.take 4096, hmeta := (p.drop 4096).take 16, vol := tag / 2 ^ 40 % 32, lba := tag % 2 ^ 40, zgen := tag / 2 ^ 48, kdom := k
    scrc := BitVec.ofNat 32 (field p 4120 4), smac := BitVec.ofNat 32 (field p 4124 4) }

/-- The codeword that carries a sector (R182, R213). -/
def codewordOf (x : Sector) : BitVec 37120 := Config.ldpcEncode (payloadOf x)

/-! ### A sector on its track (R141, R144, R145) -/

/-- The pieces of a payload of `left` symbols from offset `u` of wedge `w`: first symbol of the track, length, offset in the payload. -/
def payloadPieces (spw : Nat) : Nat → Nat → Nat → Nat → Nat → List (Nat × Nat × Nat)
  | 0, _, _, _, _ => []
  | f + 1, w, u, left, done =>
    if left ≤ dend spw - u then [(w * spw + u, left, done)]
    else (w * spw + u, dend spw - u, done) :: payloadPieces spw f (w + 1) (dstart spw + 256) (left - (dend spw - u)) (done + (dend spw - u))

/-- The pieces of the payload of the sector at `start`. -/
def pieces (spw start : Nat) : List (Nat × Nat × Nat) := payloadPieces spw 4 (start / spw) (start % spw + 816) 37120 0

/-- The symbol after the sector's last pad symbol, the pad cut short at DEND. -/
def sectorEnd (spw start : Nat) : Nat :=
  match (pieces spw start).getLast? with
  | some (p, n, _) => Nat.min (p + n + 160) (p / spw * spw + dend spw)
  | none => start

/-- The wedge in which the sector ends. -/
def endWedge (spw start : Nat) : Nat := (sectorEnd spw start - 1) / spw

/-- The spans of a sector: the first from its preamble, each continuation from its resync field (R220). -/
def sectorSpans (spw start : Nat) : List (Nat × Nat) :=
  let e := sectorEnd spw start
  (pieces spw start).map fun (p, n, o) => (if o = 0 then start else p - 256, if o + n = 37120 then e else p + n)

/-- The symbols from start[s] whose equalised samples a slot holds: 16 either side of the predicted payload, continuations included (R191). -/
def slotSamples (spw start : Nat) : List (Nat × Nat) :=
  (pieces spw start).map fun (p, n, o) =>
    let before := if o = 0 then 16 else 0
    (p - before - start, n + before + if o + n = 37120 then 16 else 0)

/-- Track symbol `p` is the next symbol in a preamble, clapper, payload or resync field of the sector at `start` (R178, R189). -/
def inFields (spw start p : Nat) : Bool :=
  (start ≤ p && p < start + 816) || (pieces spw start).any fun (q, n, o) => (if o = 0 then q else q - 256) ≤ p && p < q + n

/-- The number of the span of the sector at `start` in which track symbol `p` is the next (R189, R220). -/
def spanAt (spw start p : Nat) : Option Nat := (sectorSpans spw start).findIdx? fun e => decide (e.1 ≤ p) && decide (p < e.2)

/-- Symbol `p` of the track as the sector at `start` with a codeword holds it; none outside its spans (R144, R145, R215). -/
def symbolAt (spw start : Nat) (cw : BitVec 37120) (p : Nat) : Option Bool :=
  if start ≤ p && p < start + 768 then some (patternBit (p - start))
  else if start + 768 ≤ p && p < start + 816 then some (clapperBit (p - start - 768))
  else match (pieces spw start).find? fun x => x.1 ≤ p && p < x.1 + x.2.1 with
  | some (q, _, o) => some (cw.getMsbD (o + (p - q)))
  | none => match ((pieces spw start).drop 1).find? fun x => x.1 - 256 ≤ p && p < x.1 with
    | some (q, _, _) => some (patternBit (p - (q - 256)))
    | none => match (pieces spw start).getLast? with
      | some (q, n, _) => if q + n ≤ p && p < sectorEnd spw start then some (patternBit (p - (q + n))) else none
      | none => none

/-- The written polarity changes at symbol `n`: it differs from the symbol before (R215). -/
def transition (sym : Nat → Option Bool) (n : Nat) : Bool :=
  match sym (n - 1), sym n with
  | some a, some b => n != 0 && a != b
  | _, _ => false

/-- The index of the precompensation at symbol `n` (R215). -/
def precompIndex (t : Nat → Bool) (n : Nat) : Nat := flag (t (n - 2)) * 8 + flag (t (n - 1)) * 4 + flag (t (n + 1)) * 2 + flag (t (n + 2))

/-- PRECOMP[i] of a write entry, in 1/64 symbol (R217). -/
def precomp (e : List Byte) (i : Nat) : Int := ofTwos 8 (field e (24 + i) 1)

/-- The delay of the transition at symbol `n` of a written sector under a write entry, in 1/64 symbol; none where the polarity does not change (R215). -/
def writeDelay (e : List Byte) (sym : Nat → Option Bool) (n : Nat) : Option Int :=
  if transition sym n then some (precomp e (precompIndex (transition sym) n)) else none

end Sys2Proof.Machine
end

