-- ==== Sys2Proof/Machine/Takes.lean ====
section
/-! DEFINITION. Takes: the descriptors SCH hands to a sequencer, the recovery ladder, and what the end of a take does to the
work it served (R166, R171, R194, R200 to R205, R235 to R240, R288, R434, R435, R445). -/

namespace Sys2Proof.Machine

/-! ### Places on a track (R166) -/

/-- The offset in its zone of a sector of a track; none where no host sector stands there. -/
def offsetAt (m : ZoneMap) (spt track sector : Nat) : Option Nat :=
  if track < m.firstTrack then none
  else
    let p := (track - m.firstTrack) * spt + sector
    let o := p - (m.slips.filter (· < p)).length
    if m.slips.contains p || m.cap ≤ o then none else some o

/-- The LBA at a sector of a track of zone `z` of volume `v`. -/
def State.lbaAt (s : State) (v z track sector : Nat) : Option Nat :=
  match s.zmap v z with
  | none => none
  | some m => (offsetAt m (s.spt v z) track sector).map (· + z * 65536)

/-- The offset of the first host sector of a track, whether or not it lies below CAP. -/
def firstOffset (m : ZoneMap) (spt track : Nat) : Nat :=
  let p := (track - m.firstTrack) * spt
  p - (m.slips.filter (· < p)).length

/-- Head, rate zone and CONV of a zone. -/
def State.bandOf (s : State) (v z : Nat) : Nat × Nat × Bool :=
  match s.zmap v z with
  | some m => (m.head, m.rz, m.conv)
  | none => (0, 0, false)

/-- A descriptor over the sectors listed, which rise (R288). -/
def State.descOver (s : State) (v z type step track rlvl : Nat) (secs : List Nat) (cmd : Option Nat) : TakeDesc :=
  let (h, rz, conv) := s.bandOf v z
  let a := secs.headD 0
  { type := type, step := step, head := h, track := track, first := a, count := secs.getLastD a + 1 - a, rlvl := rlvl
    spt := s.spt v z, rz := rz, conv := conv, zone := z, cmd := cmd, serves := track }

/-- The leading run of successive sectors of a rising list: a write take covers no sector that was not handed over. DEDUCED, log entry 67. -/
def firstRun : List Nat → List Nat
  | [] => []
  | [a] => [a]
  | a :: b :: r => if b == a + 1 then a :: firstRun (b :: r) else [a]

/-! ### Step 0 of a read (R434) -/

/-- Offsets in the command of its undecided sectors on a track. -/
def State.wanted (s : State) (c : Cmd) (track : Nat) : List Nat :=
  c.missing.filter fun i => (s.place c.pkt.vol (c.pkt.slba + i)).1 == track

/-- The lowest track on which the command still has sectors to read at step 0. -/
def State.stepZeroTrack (s : State) (c : Cmd) : Option Nat :=
  (c.missing.map fun i => (s.place c.pkt.vol (c.pkt.slba + i)).1).find? fun k => !c.stepZero.contains k

/-- That track, once none of its sectors waits for a STRANDED line any more (R481). -/
def State.readyTrack (s : State) (c : Cmd) : Option Nat :=
  (s.stepZeroTrack c).bind fun k => if (s.wanted c k).any (s.sectorWaits c) then none else some k

/-- The line takes sector `i` of block `b` of volume `v` from the medium: it is FILLING there, and no write has come since. -/
def Line.takes (l : Line) (v b i : Nat) : Bool :=
  l.vol == v && l.block == b && l.filling.getLsbD i && (l.st == .filling || l.st == .doomed) && !l.dirty.getLsbD i

/-! ### The READ space class (R436) -/

/-- A line takes sector `lba` of volume `v` from the medium (R482). -/
def State.fillsLine (s : State) (v lba : Nat) : Bool := s.bca.lines.any fun e => e.2.takes v (lba / 16) (lba % 16)

/-- Buffer memory holds sector `lba` of volume `v` in a line or in write staging. -/
def State.buffers (s : State) (v lba : Nat) : Bool :=
  s.isDirty (dkey v lba) || s.bca.lines.any fun e =>
    e.2.vol == v && e.2.block == lba / 16 && e.2.st != .invalid && (e.2.filling ||| e.2.valid ||| e.2.dirty).getLsbD (lba % 16)

/-- Sectors of the MU's READ space class in use: those of reads on their way to the host that the cache does not hold (R436). A read's sectors count
from the last of its takes on: while it is still being read they leave as they are decoded. DESIGN CHOICE, log entry 99. -/
def State.inReadSpace (s : State) (v : Nat) : Nat :=
  (s.cmds.map fun e =>
    if (s.tag e.1).st == .accepted && e.2.phase == .egress && e.2.pkt.opc == 1 && e.2.pkt.vol == v then
      ((List.range e.2.pkt.count).filter fun i => (sget e.2.secs i {}).data.isSome && !s.buffers v (e.2.pkt.slba + i)).length
    else 0).sum

/-- The MU's READ space class has room for what a take of a READ would decode: 32 MiB, that is 8,192 sectors (R436). -/
def State.readRoom (s : State) (d : TakeDesc) : Bool :=
  match d.cmd with
  | none => true
  | some t =>
    let c := s.cmd t
    c.pkt.opc != 1 || d.type == 4 || decide (s.inReadSpace c.pkt.vol
      + ((s.wanted c d.serves).filter fun i => !s.fillsLine c.pkt.vol (c.pkt.slba + i)).length ≤ 8192)

/-- The command's eligible take at step 0 (R434, R481). -/
def State.readTake (s : State) (t : Nat) : Option TakeDesc :=
  let c := s.cmd t
  let v := c.pkt.vol
  (s.readyTrack c).map fun k =>
    s.descOver v (zoneOf c.pkt.slba) (if c.pkt.opc == 4 then 1 else if c.pkt.opc == 0x0A then 5 else 0) 0 k c.pkt.rlvl
      ((s.wanted c k).map fun i => (s.place v (c.pkt.slba + i)).2) (some t)

/-! ### The ladder (R200, R201) -/

/-- The takes of steps 1 to 6, as step and take within the step. -/
def ladder : List (Nat × Nat) :=
  [(1, 0), (2, 0), (2, 1), (3, 0), (3, 1), (4, 0), (4, 1), (4, 2), (4, 3), (5, 0), (5, 1), (6, 0), (6, 1), (6, 2)]

/-- A track of a zone's band holds written data (R200, step 6). -/
def State.holdsData (s : State) (v z track : Nat) : Bool :=
  match s.zmap v z with
  | none => false
  | some m => m.firstTrack ≤ track && track < m.firstTrack + m.btrk
      && (m.conv || firstOffset m (s.spt v z) track < (s.zone v z).wp)

/-- Sectors that take part in a step: in step 4 those of the six of lowest LBA that are still to be read (R200). -/
def State.taking (s : State) (c : Cmd) (track step : Nat) : List Nat :=
  if step == 4 then (s.wanted c track).filter c.averaging.contains else s.wanted c track

/-- The take of the ladder can be made on a track at recovery level `n`: a later take of step 4 needs a sector of the step that is still to be read,
and a take of a neighbour one that holds data. -/
def State.ladderOk (s : State) (c : Cmd) (v z track n : Nat) (e : Nat × Nat) : Bool :=
  e.1 ≤ n && !(e.1 == 4 && e.2 != 0 && (s.taking c track 4).isEmpty)
    && (if e == (6, 0) then 0 < track && s.holdsData v z (track - 1) else if e == (6, 1) then s.holdsData v z (track + 1) else true)

/-- The index of the next take of the ladder from index `i` on. DEDUCED, log entry 46. -/
def State.nextTake (s : State) (c : Cmd) (v z track n i : Nat) : Option Nat :=
  (List.range ladder.length).find? fun j => i ≤ j && s.ladderOk c v z track n (ladder.getD j (0, 0))

/-- The track whose ladder runs: the lowest with undecided sectors. DEDUCED, log entry 46. -/
def State.ladderTrack (s : State) (c : Cmd) : Option Nat := c.missing.head?.map fun i => (s.place c.pkt.vol (c.pkt.slba + i)).1

/-- The recovery take that stands next for a command (R203). DEDUCED, log entry 46. -/
def State.recoveryTake (s : State) (t : Nat) : Option TakeDesc :=
  let c := s.cmd t
  let v := c.pkt.vol
  match s.ladderTrack c with
  | none => none
  | some k =>
    let (st, n) := ladder.getD c.ladderTake (0, 0)
    let track := if st == 6 && n == 0 then k - 1 else if st == 6 && n == 1 then k + 1 else k
    some { s.descOver v (zoneOf c.pkt.slba) (if st == 6 && n < 2 then 4 else 3) st track c.pkt.rlvl
        ((s.taking c k st).map fun i => (s.place v (c.pkt.slba + i)).2) (some t) with serves := k }

/-! ### From the last take to egress -/

/-- Sectors given up: their budget is spent (R205). -/
def Cmd.giveUp (c : Cmd) (is_ : List Nat) : Cmd :=
  { c with secs := is_.foldl (fun m i => sset m i { sget m i {} with failed := true } {}) c.secs }

/-- A command leaves SCH and the recovery queue. -/
def Sch.without (c : Sch) (t : Nat) : Sch :=
  let drop := fun (l : List Nat) => l.filter (· != t)
  { c with queue := drop c.queue, overflow := drop c.overflow, recQueue := drop c.recQueue, recWaiting := drop c.recWaiting
           recovery := c.recovery.bind fun d => if d.cmd == some t then none else some d
           slipNext := c.slipNext.bind fun d => if d.cmd == some t then none else some d }

/-- Every sector of the command is decided: it passes to egress. -/
def State.toEgress (s : State) (t v : Nat) : State :=
  (s.updMu v fun m => { m with sch := (m.sch.without t).promote }).setPhase t .egress

/-- A read whose sectors are all decided, wherever it waits, passes to egress. -/
def State.settleRead (s : State) (t : Nat) : State :=
  let c := s.cmd t
  if s.live t && (c.phase == .sch || c.phase == .overflow || c.phase == .recovery) && c.missing.isEmpty then s.toEgress t c.pkt.vol else s

/-- The ladder moves on to its next take; tracks without one are given up. At most as many tracks as `fuel`. -/
def State.settleLadder (s : State) (t : Nat) : Nat → State
  | 0 => s
  | fuel + 1 =>
    let c := s.cmd t
    match s.ladderTrack c with
    | none => s.toEgress t c.pkt.vol
    | some k =>
      match s.nextTake c c.pkt.vol (zoneOf c.pkt.slba) k c.pkt.rlvl c.ladderTake with
      | some j => s.updCmd t fun c => { c with ladderTake := j, averaging := if ladder.getD j (0, 0) == (4, 0) then (s.wanted c k).take 6 else c.averaging }
      | none => (s.updCmd t fun c => { c.giveUp (s.wanted c k) with ladderTake := 0 }).settleLadder t fuel

/-- A command enters the MU's recovery queue, or waits for an entry (R203, R445). -/
def State.toRecovery (s : State) (t : Nat) : State :=
  let v := (s.cmd t).pkt.vol
  let s := s.updMu v fun m =>
    let c := m.sch.without t
    { m with sch := if c.recQueue.length < 32 && c.recWaiting.isEmpty then { c with recQueue := c.recQueue ++ [t] }
                    else { c with recWaiting := c.recWaiting ++ [t] } }
  ((s.setPhase t .recovery).updCmd t fun c => { c with ladderTake := 0 }).settleLadder t (s.cmd t).pkt.count

/-- Step 0 has run on a track of the command (R203, R205, R434). -/
def State.stepZeroDone (s : State) (t track : Nat) : State :=
  let s := s.updCmd t fun c => { c with stepZero := c.stepZero ++ [track] }
  let c := s.cmd t
  if c.missing.isEmpty then s.toEgress t c.pkt.vol
  else if (s.stepZeroTrack c).isSome then s
  else if c.pkt.rlvl == 0 then (s.updCmd t fun c => c.giveUp c.missing).toEgress t c.pkt.vol
  else s.toRecovery t

/-- A take of the ladder has been spent on the track it served; the ladder of the next failed track starts at its first step (R200 to R202). -/
def State.ladderDone (s : State) (t served : Nat) : State :=
  let c := s.cmd t
  (s.updCmd t fun c => { c with ladderTake := if s.ladderTrack c == some served then c.ladderTake + 1 else 0 }).settleLadder t (c.pkt.count + 1)

/-- A take of a command starts: it is counted on the track it serves, and its step is run (R201, R202, R206). -/
def State.countTake (s : State) (d : TakeDesc) : State :=
  match d.cmd with
  | none => s
  | some t => s.updCmd t fun c => { c with takes := supd c.takes d.serves 0 (· + 1), step := Nat.max c.step d.step }

/-! ### Sectors read -/

/-- The reads that receive a sector: the take's own command and those attached to a fill of its block (R481). -/
def State.receivers (s : State) (owner : Option Nat) (v lba : Nat) : List Nat :=
  let attached := (s.bca.lines.filter fun e => e.2.vol == v && e.2.block == lba / 16 && e.2.filling.getLsbD (lba % 16)).flatMap (·.2.attached)
  (owner.toList ++ attached).eraseDups.filter fun t =>
    let c := s.cmd t
    s.live t && c.pkt.vol == v && (c.pkt.opc == 1 || c.pkt.opc == 4 || c.pkt.opc == 0x0A) && c.pkt.slba ≤ lba && lba ≤ c.pkt.slba + c.pkt.nsec
      && c.missing.contains (lba - c.pkt.slba)

/-- The track whose ladder ran has been decided by a sector read for another take: the ladder of the next one starts at its first step, and a take that
was submitted for the track and has not been issued falls away (R200, R201). -/
def State.ladderMoves (s : State) (t : Nat) (old : Option Nat) : State :=
  let c := s.cmd t
  if c.phase == .recovery && !c.missing.isEmpty && s.ladderTrack c != old then
    let s := s.updMu c.pkt.vol fun m => { m with sch := { m.sch with recovery := m.sch.recovery.bind fun d => if d.cmd == some t then none else some d } }
    (s.updCmd t fun c => { c with ladderTake := 0 }).settleLadder t (c.pkt.count + 1)
  else s

/-- A sector that BUF has accepted goes to the reads of the list. -/
def State.deliverTo (s : State) (lba : Nat) (o : SecOut) : List Nat → State
  | [] => s
  | t :: r => (((s.setSec t (lba - (s.cmd t).pkt.slba) o).ladderMoves t (s.ladderTrack (s.cmd t))).settleRead t).deliverTo lba o r

/-- A sector that BUF has accepted goes to its reads and into the line being filled. -/
def State.deliver (s : State) (owner : Option Nat) (v lba : Nat) (o : SecOut) : State :=
  let s := s.deliverTo lba o (s.receivers owner v lba)
  match o.data with
  | none => s
  | some d =>
    let i := lba % 16
    let into := s.bca.lines.filter fun e => e.2.takes v (lba / 16) i
    let s := into.foldl (fun s e => s.wroteSector e.1 i []) s
    { s with bca := { s.bca with lines := smap s.bca.lines {} fun l => if l.takes v (lba / 16) i then { l with data := sset l.data i d {} } else l } }

/-! ### Destage tracks (R235 to R238, R433) -/

/-- WAS counters of MU `m`. -/
def aWas (m ofs : Nat) : Nat := 0x010B0000 + m * 0x40 + ofs
/-- TSQ counters of MU `m`. -/
def aTsq (m ofs : Nat) : Nat := 0x01080000 + m * 0x40 + ofs

/-- WRITE_RETRY in force on an MU (R240). -/
def State.writeRetry (s : State) (v : Nat) : Nat := bits (s.mu v).was.settings.toNat 3 0

/-- Sectors of the destage track that stand on the medium leave it; an empty track is complete (R433). -/
def State.trackDone (s : State) (v : Nat) (z : Nat) (lbas : List Nat) : State :=
  s.undestage v fun l => zoneOf l == z && lbas.contains l

/-- A conventional sector written since FORMAT (R391). -/
def State.noteRewritten (s : State) (v l : Nat) : State :=
  if (s.mu v).zeroed && s.isConv v (zoneOf l) then s.updMu v fun m => { m with rewritten := l :: m.rewritten } else s

/-- Sectors reported on the medium: DIRTY clears, budget returns and the commands that wait are told (R235, R485). -/
def State.reportSectors (s : State) (v : Nat) : List Nat → State
  | [] => s
  | l :: r =>
    ((((s.onMediumReport (dkey v l)).updZone v (zoneOf l) fun x =>
      { x with onMedium := Nat.max x.onMedium (ofsOf l + 1) }).noteRewritten v l).resumeReads [dkey v l]).reportSectors v r

/-- The report of WAS to ZCX at a sample (R235). -/
def State.report (s : State) (v z : Nat) (lbas : List Nat) : State :=
  if lbas.isEmpty then s
  else ((((s.seePressure.reportSectors v lbas).trackDone v z lbas).journalDue v)).settleFua

/-- The write retry budget of a destage track is spent (R238). -/
def State.spendBudget (s : State) (v : Nat) (d : Destage) : State :=
  match d.lbas with
  | [] => s
  | l :: _ =>
    let conv := s.isConv v d.zone
    let own (k : Nat) : Bool := d.lbas.contains (dlba k) && !(sget s.bca.index k {}).rewritten
    let ks := (s.dirtyIn v d.zone).filter fun k => if conv then own k else l ≤ dlba k
    let s := (s.raise 11 v 0x0B l).bump 11 v (aWas v 0x18)
    let kept := d.lbas.filter fun x => s.isDirty (dkey v x) && (sget s.bca.index (dkey v x) {}).rewritten
    let s := (s.lose v d.zone 1 ks).undestage v fun x => zoneOf x == d.zone
    if conv then kept.foldl (fun s x => s.onMediumReport (dkey v x)) s else s

/-- The failed attempts of a destage track pass WRITE_RETRY: its budget is spent, once the sectors of the last attempt are decided (R235, R237, R238). -/
def State.settleBudget (s : State) (v z track : Nat) : State :=
  match (s.mu v).sch.destage.find? fun d => d.zone == z && d.track == track with
  | none => s
  | some d => if s.writeRetry v < d.failed && (s.mu v).was.closing.isNone then s.spendBudget v d else s

/-- Failed attempts on a destage track. -/
def Mu.failedOn (m : Mu) (z track : Nat) : Nat := (m.sch.destage.find? fun x => x.zone == z && x.track == track).elim 0 (·.failed)

/-- One failed attempt on the destage track of a zone (R236, R237). DEDUCED, log entry 95. -/
def State.attemptFailed (s : State) (v z track : Nat) : State :=
  let s := s.bump 11 v (aWas v 0x14)
  let s := s.updMu v fun m => { m with sch := { m.sch with destage := m.sch.destage.map fun d =>
    if d.zone == z && d.track == track then { d with failed := d.failed + 1 } else d } }
  (s.updMu v fun m => { m with was := { m.was with failed := Nat.min 16 (m.failedOn z track) } }).settleBudget v z track

/-! ### The journal (R171) -/

/-- What the system take writes of a zone. -/
def State.journalOf (s : State) (v z : Nat) (x : Zone) : Journal :=
  let dirty := !(s.dirtyIn v z).isEmpty
  { st := if dirty then .implicitOpen else x.st, wp := if dirty then Nat.min x.onMedium x.wp else x.wp, gen := x.gen, kdom := x.kdom }

/-- The journal as the system take leaves it on the medium: no further write of it is due. -/
def State.writeJournal (s : State) (v : Nat) : State :=
  s.updMu v fun m =>
    { m with zones := (m.zones.map fun e => (e.1, if s.isConv v e.1 then e.2 else { e.2 with journal := s.journalOf v e.1 e.2 })).filter
                        fun e => decide (e.2 ≠ {})
             sch := { m.sch with systemDue := false, sysTake := none, sysFails := 0 } }

/-- The FORMATs of an MU end, but for one in a hung core's hands (R447). -/
def State.endFormats (s : State) (v : Nat) (r : Res) : State :=
  ((s.mu v).sch.format.filter fun t => !s.hungCommand t).foldl (fun s t => s.endWith t r) s

/-- A system take that writes the journal ends (R171, R237, R238, R420): a FORMAT that stands completes; a failed one stays eligible until the write
retry budget is spent. A take issued before a FORMAT counts for nothing. DESIGN CHOICE, log entry 106. -/
def State.systemWritten (s : State) (v : Nat) (failed : Bool) : State :=
  if failed then
    let s := s.bump 11 v (aWas v 0x14)
    let n := (s.mu v).sch.sysFails + 1
    if n ≤ s.writeRetry v then s.updMu v fun m => { m with sch := { m.sch with sysFails := n } }
    else
      let (a, s) := s.draw
      (((s.raise 11 v 0x0B a).bump 11 v (aWas v 0x18)).updMu v fun m =>
        { m with sch := { m.sch with systemDue := false, sysTake := none, sysFails := 0 } }).endFormats v { status := 0x0301 }
  else if (s.mu v).sch.sysTake.isNone then s
  else (s.writeJournal v).endFormats v {}

/-- The read of the system area ends (R288, R451): given up after as many takes as the largest budget of R201. DESIGN CHOICE, log entry 106. -/
def State.systemRead (s : State) (v : Nat) (failed : Bool) : State :=
  s.updMu v fun m =>
    let n := m.sch.sysReadFails + 1
    { m with sch := if failed && n < 15 then { m.sch with sysReadFails := n } else { m.sch with systemRead := false, sysTake := none, sysReadFails := 0 } }

/-! ### The end of a take (R290, R435) -/

/-- The continuation of a slipped take, ahead of any other choice (R194, R239, R435). -/
def State.slipTake (s : State) (v : Nat) (d : TakeDesc) (resume : Nat) : State :=
  let s := match d.cmd with
    | some t => if d.type != 2 then s.updCmd t fun c => { c with takeSlips := c.takeSlips + 1 } else s
    | none => s
  if resume < d.first + d.count then
    s.updMu v fun m => { m with sch := { m.sch with slipNext := some { d with first := resume, count := d.first + d.count - resume } } }
  else s

/-- Rate zone of a take as the calibration counts it. -/
def TakeDesc.zoneKey (d : TakeDesc) : Nat := d.head * 64 + d.rz

/-- The index of the first take of a rate zone in a plan. -/
def planStart (key : Nat) : List TakeDesc → Nat
  | [] => 0
  | d :: r => if d.zoneKey == key then 0 else planStart key r + 1

/-- A calibration take has ended in band `band`: a zone whose band changed starts again, otherwise the next take stands (R596). -/
def CalWork.takeEnded (k : CalWork) (d : TakeDesc) (band : Nat) : CalWork :=
  if band != k.band then { k with pos := planStart d.zoneKey k.plan, converged := 0, band := band }
  else if (k.plan[k.pos + 1]?).map (·.zoneKey) == some d.zoneKey then { k with pos := k.pos + 1 }
  else { k with pos := k.pos + 1, converged := 0, counts := sset k.counts d.zoneKey k.converged 0 }

/-- The calibration of an MU changed by `f`. -/
def State.updCalib (s : State) (v : Nat) (f : CalWork → CalWork) : State :=
  s.updMu v fun m => { m with sch := { m.sch with calib := m.sch.calib.map f } }

/-- What a take that was spent does for the work it served. -/
def State.takeSpent (s : State) (v : Nat) (d : TakeDesc) (failed : Bool) : State :=
  if d.type == 2 then (if failed then s.attemptFailed v d.zone d.track else s)
  else if d.type == 7 then s.systemWritten v failed
  else if d.type == 6 then s.systemRead v failed
  else if d.type == 8 then s.updCalib v fun k => k.takeEnded d (s.hda (v / 2)).clk.band
  else match d.cmd with
  | none => s
  | some t =>
    let p := (s.cmd t).phase
    if !s.live t then s
    else if (d.type ≤ 1 || d.type == 5) && (p == .sch || p == .overflow) then s.stepZeroDone t d.track
    else if (d.type == 3 || d.type == 4) && p == .recovery then s.ladderDone t d.serves
    else s

/-- The trim of a head at the end of a write take (R228): the new trim and whether it has reached its limit from below. -/
def trimAfter (tgt gain lim : Nat) (trim : Int) (readings : List Nat) : Int × Bool :=
  if readings.length < 4 then (trim, false)
  else
    let mean := readings.foldl (· + ·) 0 / readings.length
    let e : Int := (tgt : Int) - mean
    let n := clampI (-(lim : Int)) lim (trim + (e * gain).tdiv 256)
    (n, trim.natAbs < lim && n.natAbs == lim)

/-- The entry of the write table that WAS has in use. -/
def State.wasEntry (s : State) (m : Nat) : List Byte :=
  let w := (s.mu m).was
  sget (s.mu m).writeTable ((w.head * 64 + w.rz) * 12 + w.band) []

/-- The trim update at the end of a write take without an assist cut (R228). -/
def State.updateTrim (s : State) (m : Nat) : State :=
  let w := (s.mu m).was
  let e := s.wasEntry m
  if w.astCut then s
  else
    let (n, limit) := trimAfter (field e 20 2) (field e 23 1) (field e 22 1) (sget w.trim w.head 0) w.readings
    let s := s.updMu m fun x => { x with was := { x.was with trim := sset x.was.trim w.head n 0 } }
    if limit then s.raise 11 m 0x0A w.head else s

/-- A register marked G in the register map (R113, R114, R115). -/
def isG (a : Nat) : Bool := a == 3 || (0x20 ≤ a && a < 0x70 && [0, 1, 6, 7].contains ((a - 0x20) % 8))

/-- PA_CAPS.HEADS of the preamp (R114). -/
def Preamp.heads (p : Preamp) : Nat := (sget p.regs 1 0).toNat % 16

/-- Bits of a register that a write changes (R114, R115); 0 for a register that is not written as data. -/
def paMask (heads a : Nat) : Nat :=
  if a == 0x02 then 0x000F else if a == 0x03 then 0x000F else if a == 0x08 then 0x0FFF else if a == 0x09 then 0x00FF
  else if a == 0x0A then 0x003F else if a == 0x0B then 0xFFFF
  else if 0x20 ≤ a && a < 0x70 && (a - 0x20) / 8 < heads then
    match (a - 0x20) % 8 with
    | 0 => 0x00FF | 1 => 0x0FFF | 2 => 0x03FF | 3 => 0x03FF | 4 => 0xFFFF | 5 => 0x03FF | 6 => 0x03FF | _ => 0x0FFF
  else 0

/-- A register write that is due takes effect: PA_STAT clears by ones, and PFLT follows it; a head at or above HEADS and the bank of such a head
are ignored (R114, R115, R117). -/
def Preamp.put (p : Preamp) (a v : Nat) : Preamp :=
  let old := (sget p.regs a 0).toNat
  if a == 4 then
    let n := BitVec.ofNat 16 old &&& ~~~(BitVec.ofNat 16 (v % 1024))
    { p with regs := sset p.regs 4 n 0, pflt := n != 0 }
  else if a == 3 && p.heads ≤ v % 16 then p
  else if paMask p.heads a == 0 then p
  else { p with regs := sset p.regs a (BitVec.ofNat 16 v &&& BitVec.ofNat 16 (paMask p.heads a)) 0 }

/-- Writes to G registers that waited take effect at the fall of WG (R113). -/
def Preamp.wgFall (p : Preamp) : Preamp := p.pendingG.foldl (fun q e => q.put e.1 e.2.toNat) { p with pendingG := [] }

/-- WAS at the end of a take: WG and AE are low, and AST_ARM is 0 (R219, R222). -/
def Was.ended (w : Was) (d : TakeDesc) : Was :=
  { w with wg := false, ae := false, writeTake := false, encoded := [], codewords := [], writing := none, joined := none, readings := [], rose := false
           closing := if (d.type == 2 || d.type == 7) && !w.awaiting.isEmpty then some d else none }

/-- PA_CTL outside write takes: MODE READ, HTR_EN 1, AST_ARM 0 (R219); HTR_EN is 0 once the heads are off the medium (R231). -/
def paRead : BitVec 16 := 0x0006#16

/-- The sequencer when a routine has ended: registers of the take cleared, RESTORE applied; IDLE, STOPPED, or
HELD while a change of K goes on; link frames that it asked for still run (R290, R292, R296). -/
def Tsq.ended (q : Tsq) : Tsq :=
  { q with st := if q.st == .stopped then .stopped else if q.st == .held then .held else .idle, desc := none, stack := [], readQ := [], writeQ := [], armed := none
           anyFail := false, rdSlipped := false, rawOpen := false, reported := none, sinceSafe := 0, violReported := false
           abortPend := false, stopPend := false, tablesReady := false, bandChanged := false, attemptOpen := false
           variant := 0, htrRaised := false, deep := false, seekTrack := none, locWrap := false
           attemptEnding := false, handling := none }

/-- A write attempt is in progress: from ATTEMPT_BEGIN until the last posted sector after ATTEMPT_END has been written. -/
def Mu.inAttempt (m : Mu) : Bool :=
  m.tsq.attemptOpen && !(m.tsq.attemptEnding && m.tsq.writeQ.isEmpty && m.was.writing.isNone)

/-- A heater code compensated for HDA temperature in 1/16 °C, `extra` codes added before the clamp (R200, R230). -/
def heaterCode (top htr : Nat) (tc t16 tCal : Int) (extra : Nat) : Nat :=
  (clampI 0 top ((htr : Int) + roundHalfAway (tc * (t16 - 16 * tCal)) 256 + extra)).toNat

/-- The HTR_RD and HTR_WR codes of the entry in use, with the heater step of the ladder variant (R200, R230). -/
def State.heaters (s : State) (m : Nat) (extra : Nat) : Nat × Nat :=
  let d := (s.hda (m / 2)).desc.getD {}
  let e := s.wasEntry m
  let tCal := ofTwos 8 (field e 12 1)
  let t16 := (s.hda (m / 2)).lastTemp.getD (16 * tCal)
  (heaterCode d.htrMax (field e 6 2) (ofTwos 8 (field e 10 1)) t16 tCal extra
   , heaterCode d.htrMax (field e 8 2) (ofTwos 8 (field e 11 1)) t16 tCal 0)

/-- A slot and the work on a sector are of the same command and sector. -/
def SecWork.same (w k : SecWork) : Bool := w.sector == k.sector && w.take.cmd == k.take.cmd && w.take.serves == k.take.serves

/-- The samples of a sector of step 4 that is not read may serve the running average of the next take (R194, R200). -/
def SecWork.averages (w : SecWork) : Bool := w.take.type == 3 && w.take.step == 4 && !w.read

/-- The slots of step 4 whose sectors a take has not read stay for the running average (R194, R200). -/
def Rch.keepWork (r : Rch) : Rch :=
  { r with kept := (r.kept.filter fun k => r.work.all fun w => !w.same k) ++ (r.work.filter (·.averages)) }

/-- What the end of a take leaves of the read channel: a slipped take's sectors that are in the sample buffer are still finished (R195). -/
def Rch.ended (r : Rch) (slip : Bool) : Rch :=
  if slip then { Rch.keepWork { r with work := r.work.filter (·.finished) } with work := r.work.filter fun w => !w.finished && w.decided, gateOpen := false }
  else { r.keepWork with work := [], gateOpen := false }

/-- A later take of step 4 needs the samples of the slot: its command still waits there with the sector to be read (R194). -/
def State.needsSlot (s : State) (k : SecWork) : Bool :=
  match k.take.cmd with
  | none => false
  | some t =>
    let c := s.cmd t
    s.live t && c.phase == .recovery && (ladder.getD c.ladderTake (0, 0)).1 == 4 && s.ladderTrack c == some k.take.serves
      && (s.taking c k.take.serves 4).any fun i => (s.place c.pkt.vol (c.pkt.slba + i)).2 == k.sector

/-- Sample buffer slots taken, RCH_STAT.SLOTS_BUSY: sectors in work, and those that step 4 keeps (R194). -/
def State.slotsBusy (s : State) (m : Nat) : Nat :=
  let r := (s.mu m).rch
  let busy := r.work.filter fun w => !w.finished || (w.averages && s.needsSlot w)
  busy.length + (r.kept.filter fun k => s.needsSlot k && busy.all fun w => !w.same k).length

/-- The preamp at the end of a take: PA_CTL after a write take, HTR_RD at its table value after a fly-height take, and what waited for WG (R219, R231,
R296). -/
def Preamp.ended (p : Preamp) (d : TakeDesc) (powered loaded : Bool) (restore : Option (Nat × Nat)) : Preamp :=
  let p := if (d.type == 2 || d.type == 7) && powered then { p with regs := sset p.regs 2 (if loaded then paRead else 0x0002#16) 0 } else p
  let p := match restore with | some (a, v) => if powered then p.put a v else p | none => p
  p.wgFall

/-- HTR_RD as RESTORE writes it at the end of a take that raised it (R200, R296). -/
def State.heaterRestore (s : State) (m : Nat) (d : TakeDesc) : Option (Nat × Nat) :=
  if (s.mu m).tsq.htrRaised then some (0x20 + 8 * d.head + 5, (s.heaters m 0).1) else none

/-- The routine of an MU ends with its report, or without one as TAKE_FAILED (R290). A failed write attempt counts as such whatever is reported, but
against the budget only where TAKE_ABANDONED is not (R236, R290). DEDUCED, log entry 67. -/
def State.endTake (s : State) (m : Nat) (o : TakeOutcome) : State :=
  match (s.mu m).tsq.desc with
  | none => s
  | some d =>
    let q := (s.mu m).tsq
    let write := d.type == 2 || d.type == 7
    let powered := (sget s.pwr.port (m / 2) {}).on
    let restore := s.heaterRestore m d
    let s := if o == .failed then s.bump 8 m (aTsq m 0x0C) else s
    let s := if write then s.updateTrim m else s
    let s := if o == .slip && !write then s else { s with ldp := { s.ldp with waiting := s.ldp.waiting.filter fun e => e.1 != m } }
    let s := s.updMu m fun x =>
      { x with tsq := x.tsq.ended, was := x.was.ended d, rch := (x.rch.ended (o == .slip && !write)).fresh
               act := { x.act with target := x.act.target - x.act.offset, offset := 0 }
               pa := x.pa.ended d powered x.act.loaded restore }
    let failed := write && (s.mu m).was.attemptFailed
    match o with
    | .slip => if failed then s.takeSpent m d true else s.slipTake m d q.resume
    | .abandoned => if failed then s.bump 11 m (aWas m 0x14) else s
    | .failed => s.takeSpent m d true
    | .done => s.takeSpent m d failed

/-- A take in progress fails as a whole (R152, R187, R202, R218, R236). -/
def State.failTake (s : State) (m : Nat) : State :=
  if (s.mu m).tsq.desc.isSome then
    (s.updMu m fun x => { x with was := { x.was with attemptFailed := true } }).endTake m .failed
  else s

/-! ### The choice of the next take (R435) -/

/-- The thermal write gate of the MU's HDA is closed: no write take of it is issued (R578). -/
def State.withheld (s : State) (v : Nat) : Bool := s.thp.wrGate.getLsbD (v / 2)

/-- The TYPE of the system take that an MU owes: the read of the area first, then the journal (R288, R434). -/
def State.systemOwed (s : State) (v : Nat) : Option Nat :=
  let c := (s.mu v).sch
  if c.systemRead then some 6 else if c.systemDue && !s.withheld v then some 7 else none

/-- The system take that stands for the TYPE owed; without one yet its place is still to be drawn. -/
def Sch.systemTake (c : Sch) (type : Nat) : TakeDesc := (c.sysTake.filter (·.type == type)).getD { type := type }

/-- A recovery take in the hands of a hung core is not made (R447). -/
def State.recoveryHeld (s : State) (v : Nat) : Bool := s.mgt.hungTasks.any fun e => e.2 == .recovery v

/-- The takes eligible on an MU, in a fixed order: its commands, its destage tracks, one that MGT has submitted, of recovery or of calibration, and
one system take: at most 1,024 + 8 + 1 + 1; a read takes its turn once its sectors have room (R434, R436, R447, R596). DESIGN CHOICE, log entry 28. DEDUCED, log entry 40. -/
def State.eligible (s : State) (v : Nat) : List TakeDesc :=
  let c := (s.mu v).sch
  let gated := s.withheld v
  let reads := (c.queue.filterMap fun t => s.readTake t).filter s.readRoom
  let writes := if gated then [] else
    (c.destage.filter fun d => match (s.mu v).was.closing with | some k => !(k.zone == d.zone && k.track == d.track) | none => true).map fun d =>
      s.descOver v d.zone 2 0 d.track 0 (firstRun (d.lbas.map fun l => (s.place v l).2)) none
  let recovery := if s.recoveryHeld v then [] else c.recovery.toList.filter s.readRoom
  let calib := (c.calib.bind fun k => k.plan[k.pos]?).toList
  reads ++ writes ++ (recovery ++ calib).take 1 ++ ((s.systemOwed v).map c.systemTake).toList

/-! ### The ages of takes (R434) -/

/-- What names a take while it waits: a destage take by zone and track, so that it keeps its age over its attempts. -/
def TakeDesc.key (d : TakeDesc) : Nat × Nat × Nat :=
  if d.type == 2 then (2, d.zone, d.track) else (d.type, d.cmd.getD (d.head * 64 + d.rz), d.track * 8 + d.step)

/-- When SCH saw a take become eligible. -/
def Sch.since (c : Sch) (d : TakeDesc) : Option Nat := (c.book.find? fun e => e.1 == d.key).map (·.2)

/-- The age of a take at time `now` in ms; `age` is that of a take which SCH has not met before. -/
def Sch.ageAt (c : Sch) (now : Nat) (d : TakeDesc) (age : Nat) : Nat := (c.since d).elim age fun t => now - t

/-- The book after a choice at time `now`: the takes that were eligible, and the destage tracks that are still in hand (R434). -/
def Sch.booked (c : Sch) (now : Nat) (l : List (TakeDesc × Nat)) : Sch :=
  let kept := c.book.filter fun e => e.1.1 == 2 && c.destage.any (fun d => (2, d.zone, d.track) == e.1) && l.all fun x => x.1.key != e.1
  { c with now := now, book := kept ++ l.map fun x => (x.1.key, now - c.ageAt now x.1 x.2) }

/-- A take that is issued waits no more; a destage take keeps its age for a further attempt (R434). -/
def Sch.issued (c : Sch) (d : TakeDesc) : Sch :=
  if d.type == 2 then c else { c with book := c.book.filter fun e => e.1 != d.key }

/-- The age of each eligible take as the registers show it, at a free ms of the operating second; a take that became eligible after the last choice
shows a free part of the time since. DESIGN CHOICE, log entry 7. -/
def State.shownAges (s : State) (v : Nat) : List Nat :=
  let c := (s.mu v).sch
  let now := Nat.max c.now (s.time.up * 1000 + Config.free s.free % 1000)
  (s.eligible v).map fun d => c.ageAt now d (Config.free (s.free + 1) % (now - c.now + 1))

/-- The element of least key, the earlier one at equal keys. -/
def leastBy {α : Type} (key : α → Nat) : List α → Option α
  | [] => none
  | x :: r => match leastBy key r with
    | none => some x
    | some y => if key y < key x then some y else some x

/-- The take that R435 chooses among takes with their ages in ms and access costs. DESIGN CHOICE, log entry 7. -/
def chooseTake (urgent : Bool) (l : List (TakeDesc × Nat × Nat)) : Option TakeDesc :=
  let oldest := l.foldl (fun a e => Nat.max a e.2.1) 0
  let aged := l.filter fun e => 500 ≤ e.2.1 && e.2.1 == oldest
  let writes := l.filter (·.1.type == 2)
  let byCost (l : List (TakeDesc × Nat × Nat)) := leastBy (fun e => e.2.2 * 2 ^ 32 + (2 ^ 31 - e.2.1)) l
  match aged with
  | e :: _ => some e.1
  | [] => ((if urgent && !writes.isEmpty then byCost writes else byCost l)).map (·.1)

end Sys2Proof.Machine
end

