-- ==== Sys2Proof/Machine/Buffer.lean ====
section
/-! DEFINITION. The two scrubbers, of buffer SDRAM and of on-chip SRAMs, and SCRUB (R403, R466, R467, R470 to R473, R488). -/

namespace Sys2Proof.Machine

/-! ### The buffer scrubber (R470, R472) -/

/-- The SCRUB_SUMMARY page of a buffer pass of `ms` milliseconds (R472). -/
def State.bufferPage (s : State) (p : ScrubPass) (ms : Nat) : List Byte :=
  padTo 256 (padTo 64 (leBytes 4 ((s.counter (aBuf 0x20)).count) ++ leBytes 4 s.time.oph ++ leBytes 2 s.time.ops ++ leBytes 1 (flag p.cmd.isSome)
      ++ leBytes 1 0 ++ leBytes 4 ms ++ leBytes 8 p.corrected ++ leBytes 8 p.uncorrectable ++ leBytes 8 p.poisoned ++ leBytes 4 p.addrErrors
      ++ leBytes 4 p.entries.length)
    ++ p.entries.flatMap fun e => leBytes 8 e.1 ++ leBytes 1 (bufRegion e.1) ++ leBytes 1 e.2.1 ++ leBytes 2 0 ++ leBytes 4 e.2.2)

/-- Length of a pass that ends in operating second `now`, in ms: between its first and last seconds, at a free value within them (R472). DESIGN CHOICE,
log entry 7. -/
def ScrubPass.duration (p : ScrubPass) (now free : Nat) : Nat := ((now - p.began) * 1000 + free % 1999 - 999) % 2 ^ 32

/-- A pass ends: it is counted and recorded, its command completes, and a waiting one starts its own (R470, R472). -/
def State.scrubPassEnd (s : State) (p : ScrubPass) : State :=
  let s := s.bump 5 0 (aBuf 0x20)
  let (x, s) := s.draw
  let s := { s with mgt := { s.mgt with scrubBuffer := s.bufferPage p (p.duration s.second x) } }
  let next := match s.buf.scrubWaiting with | [] => none | t :: _ => some { cmd := some t, began := s.second }
  let s := { s with buf := { s.buf with scrubBurst := 0, scrub := next, scrubWaiting := s.buf.scrubWaiting.drop 1 } }
  match p.cmd with
  | some t => s.complete t { r0 := p.corrected % 2 ^ 32 + p.uncorrectable % 2 ^ 32 * 2 ^ 32 }
  | none => s

/-- The pass under way and its position; none under way starts a background pass at address 0. -/
def State.scrubNow (s : State) : ScrubPass × Nat :=
  match s.buf.scrub with
  | some p => (p, s.buf.scrubBurst)
  | none => ({ began := s.second }, 0)

/-- The scrubber may run: no fill, no self-refresh, no dump (R470). -/
def State.scrubRuns (s : State) : Bool := s.buf.fill == 3 && !s.pwr.sdramSelfRefresh && !s.vlt.dumping

/-- The scrubber reads the next burst, with the bits that memory shows in error and, outside the cache's lines, what the burst holds (R470). DEDUCED,
log entry 71. -/
def execBufScrubStep (hmeta : BurstMeta) (words : List (BitVec 72)) (holds : Held) (s : State) : Out :=
  let (p, n) := s.scrubNow
  let b : BurstRead := { burst := n, hmeta := hmeta, words := words, holds := holds }
  guarded (s.scrubRuns && burstOk b) s <|
    let (s, p) := s.readBurst b p
    if n + 1 == burstCount then s.scrubPassEnd p
    else { s with buf := { s.buf with scrub := some p, scrubBurst := n + 1 } }

/-! ### On-chip SRAMs (R466, R467, R488, R546) -/

/-- Number of SRAMs of a subsystem (R546). -/
def sramCount (sub : Nat) : Nat := [0, 5, 2, 3, 2, 2, 3, 2, 4, 3, 2, 2, 3, 1, 5, 3, 1, 2, 1, 1, 1].getD sub 0

/-- A line whose tag holds an uncorrectable byte (R488). -/
def Line.tagLost (l : Line) : Line :=
  match l.st with
  | .clean => l.emptied
  | .filling => { l with st := .doomed, stranded := l.stranded || l.dirty != 0 }
  | .dirty => { l with stranded := true }
  | .invalid => l
  | .doomed => l

/-- The effect of a lost BCA tag: a main cache tag names its line frame, a cutting-room tag its entry (R488). DEDUCED, log entry 71. -/
def State.tagLost (s : State) (sram word : Nat) : State :=
  if sram == 0 then
    let s := if (s.line word).st == .filling then s.bump 6 0 (aBca 0x28) else s
    s.updLine word Line.tagLost
  else if sram == 1 then { s with bca := { s.bca with cut := s.bca.cut.eraseIdx word } }
  else s

/-- The consumer's table of R466: a word of the stores, the coefficient memory or a context meets its own rule when it is next used or is
reloaded; the tags of BCA follow R488; HLK's buffers follow R332, an uncorrectable internal error of the endpoint; elsewhere the commands whose data
or state passed through the byte are lost. DEDUCED, log entry 71. -/
def State.sramLost (s : State) (sub inst sram word : Nat) (lost : List Loss) : State :=
  if (sub == 8 && sram ≤ 2) || (sub == 12 && sram == 0) || (sub == 3 && sram == 0) then s
  else if sub == 6 && sram ≤ 1 then s.tagLost sram word
  else if sub == 1 then (s.aerUncorr inst 22 (sram * 2 ^ 32 + word)).endLost lost
  else s.endLost lost

/-- A scrubber reads one word of SRAM `sram` of an instance of a subsystem and finds a correctable byte, or an uncorrectable one through which
the data or state of the commands `lost` has passed; the stores that two sequencers share are actuator A's (R466, R467, R546). DEDUCED, log entry 71. -/
def execSramScrub (sub inst sram word : Nat) (uncorrectable : Bool) (lost : List Loss) (s : State) : Out :=
  guarded (inst < instancesOf sub && sram < sramCount sub && word < 2 ^ 32 && !(sub == 8 && sram ≤ 2 && inst % 2 == 1) && s.start.phase != .off) s <|
    let a := sram * 2 ^ 32 + word
    if uncorrectable then (s.raise sub inst 0x3E a).sramLost sub inst sram word lost else s.raise sub inst 0x3D a

/-! ### SCRUB (R403, R471) -/

/-- The first LBA from `l` on and below `top` that is not dirty; each dirty sector passed uses up one of `fuel`. DEDUCED, log entry 72. -/
def State.cleanFrom (s : State) (v top : Nat) : Nat → Nat → Option Nat
  | 0, _ => none
  | fuel + 1, l => if top ≤ l then none else if s.isDirty (dkey v l) then s.cleanFrom v top fuel (l + 1) else some l

/-- LBA past the last written sector of a zone. -/
def State.writtenTop (s : State) (v z : Nat) : Nat :=
  let n := if s.isConv v z then s.cap v z else if (s.zone v z).st == .offline then 0 else Nat.min (s.cap v z) (s.zone v z).wp
  z * 65536 + n

/-- The next window of a scrub from `l` on: sectors of one track that are written and on the medium, as first LBA and number. At most `fuel` zones. DEDUCED, log entry 72. -/
def State.window (s : State) (v last : Nat) : Nat → Nat → Option (Nat × Nat)
  | 0, _ => none
  | fuel + 1, l =>
    let z := zoneOf l
    if last ≤ z || s.zoneCount v ≤ z then none
    else
      let top := s.writtenTop v z
      match s.cleanFrom v top ((s.dirtyIn v z).length + 1) l with
      | none => s.window v last fuel ((z + 1) * 65536)
      | some a =>
        let track := (s.place v a).1
        some (a, ((List.range (s.spt v z)).takeWhile fun i => a + i < top && (s.place v (a + i)).1 == track && !s.isDirty (dkey v (a + i))).length)

/-- What SCRUB MEDIA completes with (R403). -/
def Cmd.scrubRes (c : Cmd) : Res :=
  { r0 := match c.runs.reverse with | [] => 2 ^ 64 - 1 | (a, _) :: _ => a
    r1 := c.counted % 2 ^ 32 + c.uncounted % 2 ^ 32 * 2 ^ 32 }

/-- The scrub goes on at LBA `l`: its next window enters SCH, or the command completes. DEDUCED, log entry 72. -/
def State.scrubFrom (s : State) (t l : Nat) : State :=
  let c := s.cmd t
  let n := c.pkt.p2.toNat
  let s := s.keepScrubPage c false
  match s.window c.pkt.vol (zoneOf c.lba + n) (n + 1) l with
  | none => s.complete t c.scrubRes
  | some (a, k) =>
    (s.updCmd t fun c => { c with pkt := { c.pkt with slba := a, nsec := k - 1 }, secs := [], takes := [], step := 0, ladderTake := 0
                                  stepZero := [] }).toSch t c.pkt.vol

/-- SCRUB MEDIA: it begins, or goes on after a window whose sectors are all decided (R403, R471). DEDUCED, log entry 72. -/
def execScrubMedia (tag : TagNo) (s : State) : Out :=
  let c := s.cmd tag
  if s.at_ tag .egress && c.pkt.opc == 0x0A then
    let s := s.updCmd tag (·.tally false)
    .next (s.scrubFrom tag (c.pkt.slba + c.pkt.count))
  else if s.asleep then .next s
  else s.simple tag 0x0A 1 [s.ownCode tag, s.absentCode tag, s.stoppedCode tag, s.ps4Code] fun s => (s.scrubBegins tag).scrubFrom tag (s.cmd tag).lba

/-- SCRUB BUFFER: it ends a background pass and starts its own, or waits for the one before it (R403, R470). -/
def State.scrubBuffer (s : State) (t : Nat) : State :=
  let s := s.setPhase t .executing
  match s.buf.scrub.bind (·.cmd) with
  | some _ => { s with buf := { s.buf with scrubWaiting := s.buf.scrubWaiting ++ [t] } }
  | none => { s with buf := { s.buf with scrub := some { cmd := some t, began := s.second }, scrubBurst := 0 } }

/-- SCRUB BUFFER (R403). -/
def execScrubBuffer (tag : TagNo) (s : State) : Out :=
  if s.asleep then .next s else s.simple tag 0x0A 2 [s.ps4Code] fun s => s.scrubBuffer tag

end Sys2Proof.Machine
end

