-- ==== Sys2Proof/Machine/Motion.lean ====
section
/-! DEFINITION. The current ledger, speed targets, per-HDA power states, port power, seeks, gate cuts, the emergency retract
and the end of a capture: what the rows of spindles, heads and power states share (R45 to R47, R79 to R82, R129, R157, R159,
R262 to R266, R273 to R276, R278 to R282, R576, R585 to R589). -/

namespace Sys2Proof.Machine

/-! ### The ledger (R79 to R82), in mA -/

/-- Current of an allocation. DESIGN CHOICE, log entry 33. -/
def Alloc.ma : Alloc → Nat
  | .zero => 0
  | .spinUp n => n
  | .run n => n

/-- The HDA is spinning up in the sense of R81. -/
def Alloc.spinning : Alloc → Bool
  | .spinUp _ => true
  | _ => false

/-- Ledger capacity (R79). DESIGN CHOICE, log entry 100. -/
def State.capacityMA (s : State) : Nat := if s.mns.feedA.present && s.mns.feedB.present then 62000 else 58000
/-- The ledger without the charger. -/
def State.loadMA (s : State) : Nat := 21000 + (s.mns.alloc.map fun e => e.2.ma).foldl (· + ·) 0
/-- The ledger (R80). DESIGN CHOICE, log entry 33. -/
def State.ledgerMA (s : State) : Nat := s.loadMA + if s.mns.chargePaused then 0 else 5000

/-- The charger pauses when the ledger exceeds its capacity and resumes when 5.0 A fit again (R82). -/
def State.settleLedger (s : State) : State :=
  if s.mns.chargePaused then
    (if s.loadMA + 5000 ≤ s.capacityMA then { s with mns := { s.mns with chargePaused := false } } else s)
  else if s.capacityMA < s.ledgerMA then { s with mns := { s.mns with chargePaused := true } }
  else s

/-- The allocation of an HDA. -/
def State.setAlloc (s : State) (h : Nat) (a : Alloc) : State :=
  ({ s with mns := { s.mns with alloc := sset s.mns.alloc h a .zero } }).settleLedger

/-- The descriptor of an HDA; zeros where none is accepted. -/
def State.desc (s : State) (h : Nat) : Desc := (s.hda h).desc.getD {}
/-- The actuator block of an MU's descriptor. -/
def State.actDesc (s : State) (m : Nat) : ActDesc := if m % 2 == 0 then (s.desc (m / 2)).actA else (s.desc (m / 2)).actB

/-- An HDA waits to spin up, in ascending number (R81). -/
def insertSorted (h : Nat) : List Nat → List Nat
  | [] => [h]
  | x :: r => if h < x then h :: x :: r else if h == x then x :: r else x :: insertSorted h r

/-- The HDA asks for a spin-up (R81). -/
def State.askSpin (s : State) (h : Nat) : State := { s with mns := { s.mns with waiting := insertSorted h s.mns.waiting } }

/-! ### Speed (R157, R159, R576) -/

/-- Both actuators of the HDA are PARKED. -/
def State.bothParked (s : State) (h : Nat) : Bool := (s.mu (2 * h)).act.st == .parked && (s.mu (2 * h + 1)).act.st == .parked

/-- A module sensor counts as being at THROTTLE; sensor 14, of the AIR class, has no such level, failed or not (R573, R576). -/
def State.atThrottle (s : State) (n : Nat) : Bool :=
  let x := sget s.thp.sensors n {}
  n != 14 && (2 ≤ x.level || x.failed)

/-- The caps in force on an HDA, in rpm (R576, R586, R588). -/
def State.caps (s : State) (h : Nat) : List Nat :=
  let d := s.hda h
  let away := (s.mu (2 * h)).act.st == .parked && (s.mu (2 * h + 1)).act.st == .parked
  let depth := if 2 ≤ d.hs || (d.hsTransit && 2 ≤ d.hsTarget && away) then [4800] else []
  let heat := (List.range 16).filterMap fun n =>
    if s.atThrottle n then
      if n == 4 || n == 8 then (if h < 8 then some 5400 else none)
      else if n == 5 || n == 9 then (if h < 8 then none else some 5400)
      else some 6000
    else none
  depth ++ heat

/-- The speed the spindle is driven towards (R159). -/
def State.speedTarget (s : State) (h : Nat) : Nat := (s.caps h).foldl Nat.min (s.hda h).gov.target

/-- A cap limits the speed: CLK_STAT.CAPPED (R159). -/
def State.capped (s : State) (h : Nat) : Bool := s.speedTarget h < (s.hda h).gov.target

/-- The measured speed is within 2 rpm of `rpm`. -/
def Clk.within2 (c : Clk) (rpm : Nat) : Bool := rpm * 4 ≤ c.meas + 8 && c.meas ≤ rpm * 4 + 8

/-- The spindle is driven towards a speed: TARGET, CAPPED and SLEWING read 0 until a spin-up and once it stops. DESIGN CHOICE, log entry 104. -/
def State.driven (s : State) (h : Nat) : Bool :=
  let p := (s.hda h).srv.spin
  p == .aligning || p == .starting || p == .spunUp

/-- The speed of a driven spindle is changing towards its target when it is not within 2 rpm of it, a spin-up included (R159, R174). -/
def State.retarget (s : State) (h : Nat) : State :=
  let t := s.speedTarget h
  let on := s.driven h
  s.updHda h fun d => { d with clk := { d.clk with slewing := on && !d.clk.within2 t } }

/-- Every HDA's target after a change of caps (R160). -/
def State.retargetAll (s : State) : State := (List.range 16).foldl (fun s h => s.retarget h) s

/-! ### Port power (R129, R591, R592) -/

/-- The HDA temperature that the coil model takes, in 2⁻⁴⁰ °C: the last valid reading, else T_SPIN_MAX (R265). -/
def State.coilBase (s : State) (h : Nat) : Int := match (s.hda h).lastTemp with | some t => t * 2 ^ 36 | none => (s.desc h).tSpinMax * 2 ^ 40

/-- What the power of a port gives one MU: preamp registers at reset (R114), trims at zero (R229), the coil at HDA temperature (R265). While READING has
given no descriptor and no temperature, T_SPIN_MAX and every limit read zero, and the coil starts at 0 °C. DESIGN CHOICE, log entry 107. -/
def Mu.portPowered (t : Int) (m : Mu) : Mu :=
  { m with pa := {}, was := { m.was with trim := [], clearDue := false }, act := { m.act with tCoil := t, sqSum := 0, sqN := 0, ms := [], rms := 0, throttled := false } }

/-- The port domain is powered (R592). DEDUCED, log entry 90. -/
def State.portOn (s : State) (h : Nat) : State :=
  let s := s.updHda h fun d =>
    { d with hp5Limit := 200, hp12Limit := 0, tempValid := false, clk := { d.clk with markCnt := 0 }, srv := { d.srv with lfsr := none } }
  let s := { s with pwr := { s.pwr with port := sset s.pwr.port h { on := true, clamped := false, chansOpen := true } {} } }
  (s.updMu (2 * h) (Mu.portPowered (s.coilBase h))).updMu (2 * h + 1) (Mu.portPowered (s.coilBase h))

/-- The spindle with its bridge at high impedance: no current flows (R268, R274). -/
def Srv.undriven (v : Srv) (st : Spin) : Srv := { v with spin := st, bridge := .open_, phaseI := 0, spinAmp := 0 }

/-- A spindle that is not stopped coasts from here on (R268, R274). -/
def Srv.coasts (v : Srv) : Srv := if v.spin == .stopped then v.undriven .stopped else v.undriven .coasting

/-- A spindle is stopped: its three phases are shorted, and opened whenever the current would pass SP_IMAX, so that the current is a free value of at
most that (R269; log entry 3). -/
def State.brake (s : State) (h : Nat) : State :=
  let (n, s) := s.draw
  s.updHda h fun d => { d with srv := { d.srv with spin := .stopping, bridge := .shorted, spinAmp := 0, phaseI := n % (((d.desc.getD {}).spImax) + 1) } }

/-- What the loss of a port's power leaves of one MU: its drives at high impedance, and its sequencer STOPPED, since the symbol clock stands (R129, R292). -/
def Mu.portLost (m : Mu) : Mu :=
  { m with pa := {}, tsq := { m.tsq with st := .stopped, frames := [], linkBusy := false }
           was := { m.was with wg := false, ae := false, writing := none, joined := none, awaiting := [], closing := none, entryValid := false }
           rch := { m.rch with entryValid := false, gateOpen := false, work := [], kept := [] }
           act := { m.act with st := .parked, rdSettled := false, wrSettled := false, seek := none, ramp := .rest, acquired := 0, drvV := 0, drvM := 0 } }

/-- The port domain is turned off (R129, R592). DEDUCED, log entry 90. -/
def State.portOff (s : State) (h : Nat) : State :=
  let s := { s with pwr := { s.pwr with port := sset s.pwr.port h {} {} }
                    mns := { s.mns with waiting := s.mns.waiting.filter (· != h) } }
  let s := s.updHda h fun d =>
    { d with
      hp5Limit := 0, hp12Limit := 0, tempValid := false
      clk := { d.clk with lock := .stopped, slewing := false, symRunning := false, gatesPermitted := false, islandLocked := false
                          goodIntervals := 0, goodRevs := 0 }
      srv := { d.srv.undriven .stopped with bemf := 0 } }
  ((s.updMu (2 * h) Mu.portLost).updMu (2 * h + 1) Mu.portLost).setAlloc h .zero

/-! ### Gate cuts (R45, R232, R234, R236) -/

/-- The write gate cut of an actuator: WG and AE fall, the attempt in progress fails (R222, R236). -/
def State.cutGate (s : State) (m : Nat) : State :=
  (s.updMu m fun x =>
    { x with pa := if x.was.wg then x.pa.wgFall else x.pa
             was := { x.was with wg := false, ae := false, wgCut := true, writing := none, joined := none, encoded := [], codewords := []
                                 attemptFailed := x.was.attemptFailed || x.was.writeTake } }).bump 11 m (aWas m 0x08)

/-! ### MU stops and the end of a capture (R47, R278, R281, R282, R301) -/

/-- The STOP event reaches a sequencer: pending while a routine runs; answered by the control unit when it is STOPPED (R301, R302). -/
def State.stopTsq (s : State) (m : Nat) : State :=
  if (s.mu m).tsq.desc.isNone then s
  else if (s.mu m).tsq.st == .stopped then s.failTake m
  else s.updMu m fun x => { x with tsq := { x.tsq with stopPend := true } }

/-- An MU is stopped (R47). -/
def State.stopMu (s : State) (m : Nat) : State := (s.updMu m fun x => { x with stopped := true }).stopTsq m

/-- The capture record of an HDA (R282). DEDUCED, log entry 50. -/
def Tune.page (t : Tune) (ended : Bool) : List Byte :=
  let chan (c : Nat) : List Byte :=
    padTo 32768 ((t.data.reverse.flatMap fun r => leBytes 2 (toTwos 16 (r.getD c 0))))
  let head := leBytes 2 1 ++ leBytes 1 t.act ++ leBytes 1 t.band ++ leBytes 2 t.f ++ leBytes 2 t.a ++ leBytes 1 t.point
    ++ leBytes 1 (t.mode + (t.prbsHold - 1) * 16) ++ (List.range 4).flatMap (fun i => leBytes 1 (t.chans.getD i 0)) ++ leBytes 2 t.d
    ++ leBytes 2 t.speed ++ leBytes 2 (Nat.min 65535 t.invalid) ++ leBytes 2 (Nat.min 65535 t.saturated)
    ++ leBytes 1 (flag t.bandSwitch + 2 * flag ended) ++ leBytes 1 0 ++ leBytes 4 t.markCnt.toNat
  let body := chan 0 ++ chan 1 ++ chan 2 ++ chan 3
  head ++ leBytes 4 (crc32c (head ++ body)).toNat ++ body

/-- The FLAGS byte of a capture record (R282). DEDUCED, log entry 50. -/
def Tune.flags (t : Tune) (ended : Bool) : Nat := flag t.bandSwitch + 2 * flag ended

/-- TUNING ends: the record is kept, the actuator returns to SETTLING and START completes (R278, R424). DEDUCED, log entry 50. -/
def State.endTune (s : State) (h : Nat) (ended : Bool) : State :=
  match (s.hda h).srv.tune with
  | none => s
  | some t =>
    let s := { s with mgt := { s.mgt with capture := sset s.mgt.capture h (t.page ended) [] } }
    let s := s.updHda h fun d => { d with srv := { d.srv with tune := none } }
    let s := s.updMu (2 * h + t.act) fun m =>
      if m.act.st == .tuning then { m with act := { m.act with st := .settling, rdSettled := false, wrSettled := false, rdRun := 0, wrRun := 0 } } else m
    match t.cmd with
    | some c => s.complete c { r0 := t.markCnt.toNat, r1 := t.flags ended }
    | none => s

/-! ### Emergency retract (R273 to R276) -/

/-- SRV counters of HDA `h`. -/
def aSrv (h ofs : Nat) : Nat := 0x010C0000 + h * 0x40 + ofs

/-- The actuator is neither PARKED nor retracting. -/
def State.unparked (s : State) (m : Nat) : Bool := (s.mu m).act.st != .parked && (s.mu m).act.st != .retracting

/-- PA_CTL with HTR_EN clear (R231). -/
def Preamp.heaterOff (p : Preamp) : Preamp := { p with regs := sset p.regs 2 (sget p.regs 2 0 &&& ~~~(4#16)) 0 }

/-- One actuator starts to retract: its microactuator at 0 V, its VCM driven towards the ramp at RET_I (R274); an attempt in progress fails (R236).
The drive towards the ramp counts as positive. DESIGN CHOICE, log entry 107. -/
def State.retractAct (s : State) (m : Nat) : State :=
  if (s.mu m).act.st != .parked then
    let i := (s.actDesc m).retI
    s.updMu m fun x =>
      { x with act := { x.act with st := .retracting, rdSettled := false, wrSettled := false, invalid := true, seek := none, ramp := .rest, uM := 0
                                   uV0 := 0, uV := 0, drvM := 0, drvV := (i * 32768 : Nat) }
               pa := x.pa.heaterOff, was := { x.was with attemptFailed := x.was.attemptFailed || x.inAttempt } }
  else s

/-- The emergency retract of an HDA with a RET_CAUSE: it drives each actuator not PARKED, one that retracts already included, and is counted (R274,
R275). With every actuator PARKED it drives nothing and raises no event, and RETRACTED and RET_CAUSE are recorded; a thermal shutdown and a module reset
retract loaded actuators alone (R273). The spindle coasts at its start, or where nothing is left to drive. DESIGN CHOICE, log entry 107. -/
def State.retract (s : State) (h cause : Nat) : State :=
  let a := (s.mu (2 * h)).act.st != .parked
  let b := (s.mu (2 * h + 1)).act.st != .parked
  let atStart := cause == 1 || cause == 4 || cause == 5
  let on := (sget s.pwr.port h {}).on
  let s := if a || b then (s.raise 12 h 2 (cause + flag a * 16 + flag b * 32)).endTune h true else s
  let s := if a || b || (on && cause != 4 && cause != 5) then s.bump 12 h (aSrv h 0x24) else s
  let s := if on then
      s.updHda h fun d =>
        { d with onlyCtl := d.onlyCtl || cause == 2 || cause == 3, srv := (if atStart || s.bothParked h then Srv.coasts else id) { d.srv with retracted := true, retCause := cause } }
    else s
  let s := (s.retractAct (2 * h)).retractAct (2 * h + 1)
  if cause == 2 || cause == 3 then (s.stopMu (2 * h)).stopMu (2 * h + 1) else (s.stopTsq (2 * h)).stopTsq (2 * h + 1)

/-- An SRV engine fault of a kind on an actuator (R276). -/
def State.engineFault (s : State) (h kind act : Nat) : State :=
  let s := (s.raise 12 h 1 (kind + act * 16)).bump 12 h (aSrv h 0x34)
  (s.updHda h fun d => { d with srv := { d.srv with fault := kind } }).retract h 2

/-- Both actuators of the HDA have their heads loaded. -/
def State.bothLoaded (s : State) (h : Nat) : Bool := (s.mu (2 * h)).act.loaded && (s.mu (2 * h + 1)).act.loaded

/-- A block reset of the engine that waited for its actuators: the engine starts again from coefficient memory and both MUs
are stopped (R552). DEDUCED, log entry 17. -/
def State.settleSrvReset (s : State) (h : Nat) : State :=
  if (s.hda h).srv.resetDue && s.bothParked h then
    let s := s.updHda h fun d =>
      { d with srv := { d.srv with resetDue := false, integ := 0, bumpSpin := 0, replacements := [] } }
    (s.stopMu (2 * h)).stopMu (2 * h + 1)
  else s

/-! ### Transitions of one HDA (R586, R588, R589, R418) -/

/-- The transition ends: the command that asked for it completes. -/
def State.endHs (s : State) (h : Nat) (r : Res) : State :=
  let c := (s.hda h).hsCmd
  let s := s.updHda h fun d => { d with hsTransit := false, hsCmd := none, hsRestart := false }
  match c with
  | some t => s.complete t r
  | none => s

/-- A transition that cannot be made ends in the deepest state reached, and its command with MEDIA_UNIT_OFFLINE (R418, R609). DEDUCED, log entry 42. -/
def State.failHs (s : State) (h r0 : Nat) : State :=
  if (s.hda h).hsTransit then
    ({ s with mns := { s.mns with waiting := s.mns.waiting.filter (· != h) } }).endHs h { status := 0x0302, r0 := r0 }
  else s

/-- HS0 to HS3 once the HDA rests there: STATE is ACTIVE in HS0 to HS2 (R136). -/
def Hda.withHs (d : Hda) (n : Nat) : Hda :=
  { d with hs := n, st := if d.st == .accepted || d.st == .active then (if n == 3 then .accepted else .active) else d.st }

/-- THP_PORT_STAT.STATE by its code (R136). -/
def portCode : PortState → Nat
  | .empty => 0
  | .reading => 1
  | .rejected => 2
  | .accepted => 3
  | .active => 4
  | .releasing => 5
  | .released => 6

/-- The HDA of a converter is in HS0 to HS2, so that CALIBRATE CONVERTER waits for the converter (R595). -/
def State.convWaited (s : State) (c : Nat) : Bool := (s.hda (c / 4)).usable && (s.hda (c / 4)).hs < 3

/-- Every converter that CALIBRATE CONVERTER waits for has completed nine periods or has stalled. -/
def State.convDone (s : State) : Bool :=
  (List.range 64).all fun c => !s.convWaited c || s.cal.stalled.getLsbD c || 9 ≤ sget s.cal.periods c 0

/-- Converters stalled, and converters passed over, as RESULT0 of CALIBRATE CONVERTER holds them. -/
def State.convResult (s : State) : Nat :=
  let n (p : Nat → Bool) : Nat := ((List.range 64).filter p).length
  n (fun c => s.cal.stalled.getLsbD c) + n (fun c => !s.convWaited c) * 2 ^ 32

/-- CALIBRATE CONVERTER completes once nothing is left to wait for. -/
def State.settleConverters (s : State) : State :=
  if s.cal.converterCmds.isEmpty || !s.convDone then s
  else
    let cs := s.cal.converterCmds
    let r := s.convResult
    let s := { s with cal := { s.cal with converterCmds := [], periods := [] } }
    cs.foldl (fun s t => s.complete t { r0 := r }) s

/-- The state of a port changed by `f`: a new STATE posts one HDA_STATE notice (R421), and CALIBRATE CONVERTER may have nothing left to wait for (R595). -/
def State.setPort (s : State) (h : Nat) (f : Hda → Hda) : State :=
  let t := s.updHda h f
  (if (t.hda h).st == (s.hda h).st then t else t.notice 0xFFFF 4 (h + portCode (t.hda h).st * 16)).settleConverters

/-- The HDA rests in HS `n` (R586). -/
def State.setHs (s : State) (h n : Nat) : State := s.setPort h fun d => d.withHs n

/-- No head of the HDA can be loaded: its sets are not valid, or an MU is stopped and no RESTART ends the stop (R257, R47). -/
def State.cannotLoad (s : State) (h : Nat) : Bool :=
  !(s.hda h).srv.setsValid || (!(s.hda h).hsRestart && ((s.mu (2 * h)).stopped || (s.mu (2 * h + 1)).stopped))

/-- Towards HS2 and HS3: HS2 with the heads parked and the spindle at 4,800 rpm, then the spindle stops, then the port is turned off (R588). -/
def State.sinkHs (s : State) (h : Nat) : State :=
  let d := s.hda h
  let s := if d.hs < 2 && 2 ≤ d.hsTarget && s.bothParked h && (d.clk.within2 4800 || d.srv.spin != .spunUp) then s.setHs h 2 else s
  let s := if (s.hda h).hs == 2 && d.hsTarget == 3 && d.srv.spin == .spunUp && s.bothParked h then
      s.brake h
    else s
  if d.hsTarget == 3 && (s.hda h).srv.spin == .stopped && s.bothParked h then (s.setHs h 3).portOff h else s

/-- Towards HS0 and HS1: reached with both actuators loaded; a RESTART ends the stops (R418, R589). -/
def State.riseHs (s : State) (h : Nat) : State :=
  let d := s.hda h
  if d.hsTarget < 2 && d.srv.spin == .spunUp && s.bothLoaded h then
    let s := s.setHs h d.hsTarget
    let s := if d.hsRestart then
        (s.updMu (2 * h) fun m => { m with stopped := false }).updMu (2 * h + 1) fun m => { m with stopped := false }
      else s
    s.retarget h
  else if d.hsTarget < 2 && d.hs == 2 && s.cannotLoad h then s.failHs h 0
  else s

/-- The parts of a transition that follow at once from what has been reached. DEDUCED, log entry 42. -/
def State.settleHs (s : State) (h : Nat) : State :=
  if !(s.hda h).hsTransit then s
  else
    let s := (((s.retarget h).sinkHs h).riseHs h)
    let d := s.hda h
    if d.hsTransit && d.hs == d.hsTarget && (!d.hsRestart || s.bothLoaded h) && (d.hsTarget != 2 || d.srv.spin == .spunUp) then s.endHs h {} else s

/-- A transition begins: `restart` for HDA_CTL RESTART. An exit from HS3 powers the port for the repeated bring-up (R589). DEDUCED, log entry 42. -/
def State.beginHs (s : State) (h target : Nat) (cmd : Option Nat) (restart : Bool) : State :=
  let s := s.updHda h fun d => { d with hsTransit := true, hsTarget := target, hsCmd := cmd, hsRestart := restart }
  let d := s.hda h
  let s := if d.hs == 3 && target < 3 then s.portOn h
    else if target < 3 && (d.srv.spin == .stopped || d.srv.spin == .coasting) then s.askSpin h
    else s
  (s.retarget h).settleHs h

/-! ### Seeks (R262 to R266, R283) -/

/-- A word of the coefficient memory (R255). -/
def Srv.w (v : Srv) (a : Nat) : Nat := (sget v.coef a 0).toNat
/-- A signed word of the coefficient memory. -/
def Srv.i (v : Srv) (a : Nat) : Int := ofTwos 16 (v.w a)
/-- Base of the actuator set of an actuator and band (R255). -/
def actSet (act band : Nat) : Nat := (act * 12 + band) * 0x200

/-- One step of the seek-jitter register, x¹⁶ + x¹⁴ + x¹³ + x¹¹ + 1 (R264). DEDUCED, log entry 47. -/
def lfsrStep (x : BitVec 16) : BitVec 16 :=
  let b := x.getLsbD 0 ^^ x.getLsbD 2 ^^ x.getLsbD 3 ^^ x.getLsbD 5
  (x >>> 1) ||| (if b then 0x8000#16 else 0)

/-- The actuator is PARKED or on the ramp: no seek is made. DEDUCED, log entry 47. -/
def Act.canSeek (a : Act) : Bool := a.st == .settling || a.st == .following || a.st == .seeking || a.st == .tuning

/-- A seek to a head and track starts: the settings of R283 take effect, both settle flags clear (R262, R263). -/
def Act.seekTo (a : Act) (head track short : Nat) (p0 p1 : Word) : Act :=
  let target : Int := track * 4096
  let near := (target - a.pos).natAbs ≤ short * 4096
  { a with st := if near then .settling else .seeking, head := head, target := target + a.offset, rdSettled := false, wrSettled := false
           rdRun := 0, wrRun := 0, seek := none, pol0 := p0, pol1 := p1
           uM := if near then a.uM else 0, maHist := if near then a.maHist else [], modelHist := if near then a.modelHist else {} }

/-- The seek of an actuator starts. DEDUCED, log entry 47. -/
def State.startSeek (s : State) (m head track : Nat) : State :=
  let v := (s.hda (m / 2)).srv
  let short := v.w (actSet (m % 2) v.bandInUse + 0x00F)
  s.updMu m fun x => { x with act := x.act.seekTo head track short (s.feature 0x03 (m / 2)).1 (s.feature 0x03 (m / 2)).2.1 }

/-- A seek is asked for: a short one starts at once; a profiled one draws its jitter and waits for SEEK_START (R262, R264). DEDUCED, log entry 47. -/
def State.askSeek (s : State) (m head track : Nat) : State :=
  let h := m / 2
  let v := (s.hda h).srv
  let a := (s.mu m).act
  let short := v.w (actSet (m % 2) v.bandInUse + 0x00F)
  if !a.canSeek then s
  else if (((track * 4096 : Nat) : Int) - a.pos).natAbs ≤ short * 4096 then s.startSeek m head track
  else
    let max := bits (s.feat0 0x03 h) 7 4
    let jit := bit (s.feat0 0x03 h) 0
    let x := lfsrStep (v.lfsr.getD 1)
    let s := if jit then s.updHda h fun d => { d with srv := { d.srv with lfsr := d.srv.lfsr.map fun _ => x } } else s
    s.updMu m fun y => { y with act := { y.act with seek := some { head := head, track := track, jitter := if jit then x.toNat % (max + 1) else 0 } } }

/-! ### Releases (R134) -/

/-- Every command accepted for the two volumes before the release began has completed (R134). -/
def State.releaseCmdsDone (s : State) (h : Nat) : Bool :=
  !s.cmds.any fun c => (s.tag c.1).st == .accepted && (c.2.pkt.vol == 2 * h || c.2.pkt.vol == 2 * h + 1) && c.2.order < (s.hda h).releaseOrder

/-- A release has drained its commands and its data (R134). DEDUCED, log entry 44. -/
def State.releaseDrained (s : State) (h : Nat) : Bool :=
  s.releaseCmdsDone h && s.dirtyOf (2 * h) == 0 && s.dirtyOf (2 * h + 1) == 0

/-- A drained release whose heads are parked already stops its spindle at the next sample (R134, R269). -/
def State.settleRelease (s : State) (h : Nat) : State :=
  if (s.hda h).srv.spin == .spunUp && (s.hda h).st == .releasing && s.bothParked h && s.releaseDrained h then s.brake h else s

/-- A back-EMF speed above SPD_MAX + 150 rpm is an engine fault of kind OVERSPEED (R276); it is one occurrence until the fault has been cleared by a
spin-up. -/
def State.overspeed (s : State) (h : Nat) : State :=
  let v := (s.hda h).srv
  if (s.desc h).spdMax + 150 < v.bemf && (s.hda h).desc.isSome && !(v.retracted && v.fault == 7) then s.engineFault h 7 0 else s

end Sys2Proof.Machine
end

