-- ==== Sys2Proof/Machine/Layout.lean ====
section
/-! DEFINITION. What the module recovers from the medium when it first loads an MU (R171, R172, R607, R616). -/

namespace Sys2Proof.Machine

/-! ### Recovery at the first load (R171, R607, R616) -/

/-- A zone state by its code (R400). -/
def zstOf (n : Nat) : ZState :=
  match n with | 1 => .implicitOpen | 2 => .explicitOpen | 3 => .closed | 4 => .full | 5 => .readOnly | 6 => .offline | _ => .empty

/-- No context survives a start: an open zone becomes CLOSED, or EMPTY at its start (R440, R607). -/
def closeOpen (st : ZState) (wp : Nat) : ZState :=
  if st == .implicitOpen || st == .explicitOpen then (if wp == 0 then .empty else .closed) else st

/-- A location tag read on the last written track of a zone agrees with the recovered write pointer (R149, R171). -/
def tagOk (v z gen wp tag : Nat) : Bool :=
  let lba := tag % 2 ^ 40
  bits tag 44 40 == v && bits tag 63 48 == gen && zoneOf lba == z && ofsOf lba < wp

/-- The tags of the last written track of an open zone agree with its write pointer, which stands after the last of them (R171). -/
def tagsOk (v z gen wp : Nat) (tags : List Nat) : Bool :=
  wp == 0 || (tags.all (tagOk v z gen wp) && tags.any fun t => ofsOf (t % 2 ^ 40) + 1 == wp)

/-- A sequential zone after the first load: `same` says that the accepted HDA is the one that held the data (R616). -/
def recoverZone (same : Bool) (j : Journal) (dirty : List Nat) (x : Zone) : Zone :=
  let r : Zone := if x.kept && same then x else { st := j.st, wp := j.wp, gen := j.gen, kdom := j.kdom, deferred := x.deferred }
  let st := closeOpen r.st r.wp
  let st := if same && r.deferred.isSome && st != .offline then .readOnly else st
  { r with st := st, pend := none, kept := false, journal := j, inSch := false, handed := 0
           kdom := if st == .empty then none else r.kdom
           onMedium := match dirty with | [] => r.wp | k :: _ => Nat.min r.wp (ofsOf (dlba k)) }

/-- What the journal says of zone `z`. -/
def journalAt (js : List JournalEntry) (z : Nat) : Journal :=
  match js.find? fun j => j.zone == z with
  | some j => { st := zstOf j.st, wp := j.wp, gen := j.gen, kdom := j.kdom }
  | none => {}

/-- The location tags found on the last written track of zone `z`. -/
def tagsAt (js : List JournalEntry) (z : Nat) : List Nat := ((js.find? fun j => j.zone == z).map (·.tags)).getD []

/-- The journal shows the zone open. -/
def Journal.openAt (j : Journal) : Bool := j.st == .implicitOpen || j.st == .explicitOpen

/-- A copy of the format record is closed by its CRC-32C (R171): 20 bytes of SERIAL, the actuator, the metadata setting, two bytes of the default key
domain, and the CRC-32C of those. No rule places its fields. DESIGN CHOICE, log entry 109. -/
def copyChecks (b : List Byte) : Bool := b.length == 28 && field b 24 4 == (crc32c (b.take 24)).toNat

/-- A copy names the accepted HDA and this actuator of it (R171, R172). DESIGN CHOICE, log entry 109. -/
def State.copyNames (s : State) (m : Nat) (b : List Byte) : Bool := b.take 20 == (s.desc (m / 2)).serial && field b 20 1 == m % 2

/-- The MU after its format has been read and its zones recovered. -/
def State.recoverMu (s : State) (m : Nat) (f : MuFormat) (js : List JournalEntry) (b : List Byte) (conv : Nat) : State :=
  let same := (s.hda (m / 2)).sameSerial
  let zones := ((List.range f.zones.length).map fun z =>
    let x := sget (s.mu m).zones z {}
    let j := journalAt js z
    (z, if (f.zones[z]?.map (·.conv)).getD false then { x with kept := false }
        else { recoverZone same j (s.dirtyIn m z) x with tagsBad := j.openAt && !tagsOk m z j.gen j.wp (tagsAt js z) })).filter
      fun e => decide (e.2 ≠ {})
  s.updMu m fun x =>
    { x with formatted := true, recovered := true, fmt := f, hasMeta := field b 21 1 == 1, defaultKdom := field b 22 2, convKdom := conv, zones := zones }

/-- The first load since acceptance reads both copies of the format record, the records and the journal: an MU neither of whose copies checks, whose
record names another HDA or actuator, or whose records fail is unformatted (R171, R172). `conv` is the key domain of its conventional zones. DESIGN
CHOICE, log entries 31 and 109. -/
def State.readFormat (s : State) (m : Nat) (copies : List (List Byte)) (records : FmtRecords) (js : List JournalEntry) (conv : Nat) : State :=
  if (s.mu m).recovered then s
  else
    let s := s.updMu m fun x => { x with sch := { x.sch with systemRead := true } }
    let b := (copies.find? copyChecks).getD []
    match (if s.copyNames m b then checkedFormat (s.headsOf m) records else none) with
    | some f => s.recoverMu m f js b conv
    | none => s.updMu m fun x => { x with formatted := false, recovered := true }

end Sys2Proof.Machine
end

