-- ==== Sys2Proof/Machine/Servo.lean ====
section
/-! DEFINITION. Spindles, heads, coils and captures: the rows of "Servo control engines and motor drive" other than the
sample itself (R81, R250, R257, R262 to R276, R281, R558). -/

namespace Sys2Proof.Machine

/-! ### Validity of sets and tables (R255 to R257) -/

/-- The words from `a`, `n` of them. -/
def Srv.words (v : Srv) (a n : Nat) : List Nat := (List.range n).map fun i => v.w (a + i)

/-- CRC-32C over 16-bit words, little-endian. -/
def crcWords (ws : List Nat) : Nat := (crc32c (ws.flatMap fun w => leBytes 2 w)).toNat

/-- The first offset at which a check of a list of checks fails. -/
def firstBad : List (Nat × Bool) → Option Nat
  | [] => none
  | (o, ok) :: r => if ok then firstBad r else some o

/-- Offsets `a` to `b` - 1 hold zero. -/
def zeros (ws : List Nat) (a b : Nat) : List (Nat × Bool) := (List.range (b - a)).map fun i => (a + i, ws.getD (a + i) 0 == 0)

/-- Sections of eight words from `a`: SH at most 7 and the two RSVD words zero. -/
def sections (ws : List Nat) (a n : Nat) : List (Nat × Bool) :=
  (List.range n).flatMap fun i =>
    [(a + 8 * i + 5, ws.getD (a + 8 * i + 5) 0 ≤ 7), (a + 8 * i + 6, ws.getD (a + 8 * i + 6) 0 == 0), (a + 8 * i + 7, ws.getD (a + 8 * i + 7) 0 == 0)]

/-- The first word in error of an actuator set's image; none when it is valid (R256, R257). -/
def actSetBad (act band : Nat) (ws : List Nat) : Option Nat :=
  let w := fun i => ws.getD i 0
  firstBad <|
    [(0, w 0 == act + band * 2 + 0x8000), (1, bits (w 1) 3 0 ≤ 8 && bits (w 1) 6 4 ≤ 4 && bits (w 1) 9 7 ≤ 4 && w 1 / 1024 == 0),
     (3, w 3 ≤ 7), (5, w 5 ≤ 7), (7, w 7 ≤ 7), (10, w 10 ≤ 15), (13, w 13 ≤ 7), (15, 1 ≤ w 15 && w 15 ≤ 7), (16, 1 ≤ w 16 && w 16 ≤ 7),
     (17, w 17 ≤ 7)] ++ zeros ws 0x016 0x020 ++ sections ws 0x020 17 ++ zeros ws 0x0E8 0x100 ++ zeros ws 0x141 0x1FE
      ++ [(0x1FE, w 0x1FE + w 0x1FF * 65536 == crcWords (ws.take 0x1FE))]

/-- The first word in error of a spindle set's image (R256, R257). -/
def spinSetBad (band : Nat) (ws : List Nat) : Option Nat :=
  let w := fun i => ws.getD i 0
  firstBad <| [(0, w 0 == band + 0x8000), (2, w 2 ≤ 7), (4, w 4 ≤ 7)] ++ zeros ws 6 30
    ++ [(30, w 30 + w 31 * 65536 == crcWords (ws.take 30))]

/-- Base and length of table `t`, 0 to 42 (R255). -/
def tableAt (t : Nat) : Nat × Nat :=
  if t == 0 then (0x3200, 1024) else if t < 3 then (0x3600 + (t - 1) * 0x100, 256)
  else if t < 23 then (0x3800 + (t - 3) * 0x500, 1280) else (0x9C00 + (t - 23) * 0x200, 512)

/-- The word address of the first invalid set or table of an engine, in address order; none when SETS_VALID (R257). -/
def Srv.firstInvalid (v : Srv) : Option Nat :=
  let acts := (List.range 24).map fun i => (i * 0x200, (actSetBad (i / 12) (i % 12) (v.words (i * 0x200) 512)).isNone)
  let spins := (List.range 12).map fun b => (0x3000 + b * 0x20, (spinSetBad b (v.words (0x3000 + b * 0x20) 32)).isNone)
  let tabs := (List.range 43).map fun t =>
    let (a, n) := tableAt t
    (a, v.w (0xC400 + t * 2) + v.w (0xC401 + t * 2) * 65536 == crcWords (v.words a n))
  firstBad (acts ++ spins ++ tabs)

/-- A load of all sets and tables of an HDA: SETS_VALID, and one event when it is left at 0 (R257). DEDUCED, log entry 62. -/
def State.loadSets (s : State) (h : Nat) (coef : Sparse (BitVec 16)) : State :=
  let s := s.updHda h fun d => { d with srv := { d.srv with coef := coef, replacements := [] } }
  match (s.hda h).srv.firstInvalid with
  | none => s.updHda h fun d => { d with srv := { d.srv with setsValid := true } }
  | some a => (s.updHda h fun d => { d with srv := { d.srv with setsValid := false } }).raise 12 h 8 a

/-! ### Spindles (R81, R267 to R270) -/

/-- HDAs spinning up. -/
def State.spinningUp (s : State) : Nat := (s.mns.alloc.filter fun e => e.2.spinning).length

/-- The spin-up at the head of the list may start (R81, R82). -/
def State.maySpin (s : State) (h : Nat) : Bool :=
  !s.mns.powerFail && s.spinningUp < s.feat0 0x09 && !s.mns.chargePaused && s.ledgerMA + (s.desc h).iSpinup ≤ s.capacityMA

/-- The lowest-numbered waiting HDA starts its spin-up: rotor alignment at 50 % of SP_IMAX (R81, R267). -/
def execSpinupAdmit (s : State) : Out :=
  match s.mns.waiting with
  | [] => .next s
  | h :: r =>
    guarded (s.maySpin h) s <|
      ((({ s with mns := { s.mns with waiting := r } }).setAlloc h (.spinUp (s.desc h).iSpinup)).updHda h fun d =>
        { d with onlyCtl := false
                 srv := { d.srv with spin := .aligning, retracted := false, commDone := false, bridge := .driven, phaseI := (d.desc.getD {}).spImax / 2 } }).retarget h

/-- The spindle driven at a current that no rule states: a free value of at most SP_IMAX (R121, R122; log entry 3). -/
def State.driveOpen (s : State) (h : Nat) (f : Srv → Srv) : State :=
  let (n, s) := s.draw
  s.updHda h fun d => { d with srv := { f d.srv with phaseI := n % ((d.desc.getD {}).spImax + 1) } }

/-- The alignment ends after 300 ms: open-loop commutation (R267). -/
def execSpinupCommutate (h : HdaNo) (s : State) : Out :=
  guarded ((s.hda h).srv.spin == .aligning) s (s.driveOpen h fun v => { v with spin := .starting })

/-- Back-EMF zero crossings are found, and commutation follows them at the current that R122 allows (R267). -/
def execBackEmfDetected (h : HdaNo) (rpm : Nat) (s : State) : Out :=
  guarded ((s.hda h).srv.spin == .starting) s ((s.driveOpen h fun v => { v with bemf := rpm }).overspeed h)

/-- The allocation of an HDA becomes its running current 20 s after its spin-up started, or at lock on target (R81). -/
def execSpinupAllocationRun (h : HdaNo) (s : State) : Out :=
  guarded (sget s.mns.alloc h .zero).spinning s (s.setAlloc h (.run (s.desc h).iRun))

/-- The spindle has stayed at its target for one revolution: SPUN_UP (R267). -/
def execSpunUp (h : HdaNo) (s : State) : Out :=
  let d := s.hda h
  guarded (d.srv.spin == .starting && d.clk.lock == .locked && d.clk.within2 (s.speedTarget h)) s <|
    let s := (s.setAlloc h (.run (s.desc h).iRun)).updHda h fun d => { d with srv := { d.srv with spin := .spunUp } }
    let s := if (s.hda h).hs == 3 then s.setHs h 2 else s
    (s.retarget h).settleHs h

/-- A spin-up fails (R268). -/
def execSpinupFail (h : HdaNo) (s : State) : Out :=
  let p := (s.hda h).srv.spin
  guarded (p == .aligning || p == .starting) s <|
    (((s.updHda h fun d => { d with srv := d.srv.undriven .coasting })).raise 12 h 4).failHs h 0

/-- Back-EMF speed below 4,500 rpm while any head is not PARKED (R270). -/
def execSpindleUnderspeed (h : HdaNo) (rpm : Nat) (s : State) : Out :=
  unheld (rpm < 4500 && !s.bothParked h) s <|
    (((s.updHda h fun d => { d with srv := { d.srv with bemf := rpm } })).raise 12 h 3 rpm).retract h 3

/-- The spindle is stopped: the back-EMF speed has stayed below 60 rpm for 1 s (R268, R269). -/
def execSpindleStopped (h : HdaNo) (s : State) : Out :=
  let p := (s.hda h).srv.spin
  guarded (p == .stopping || p == .coasting) s <|
    let s := (s.updHda h fun d => { d with srv := { d.srv.undriven .stopped with bemf := 0 } }).setAlloc h .zero
    let s := s.settleHs h
    if (s.hda h).hs == 3 && !(s.hda h).hsTransit then s.portOff h else s

/-! ### Head load and unload (R271, R272) -/

/-- R261 permits a load: the speed is within 2 rpm of its target, or changes by at most 200 rpm per second from one revolution to the next. -/
def State.speedPermits (s : State) (h : Nat) : Bool :=
  let c := (s.hda h).clk
  c.within2 (s.speedTarget h) || ((c.meas : Int) - c.prev).natAbs * c.meas ≤ 192000

/-- The conditions of R271, and that a transition of the HDA asks for loaded heads. -/
def State.mayLoad (s : State) (m : Nat) : Bool :=
  let d := s.hda (m / 2)
  (s.mu m).act.st == .parked && d.hsTransit && d.hsTarget < 2 && (!(s.mu m).stopped || d.hsRestart) && d.srv.spin == .spunUp
    && d.clk.lock == .locked && d.clk.band < 12 && d.srv.setsValid && s.speedPermits (m / 2) && !s.mns.powerFail

/-- A VCM current of `n` mA in the units of a drive. -/
def milliamps (n : Nat) : Int := (n * 32768 : Nat)

/-- An actuator at the start of a load: step 1 measures its coil at 50 mA and at 150 mA, 5 ms each, and it will seek to the first track of the system
area under the settings in force at a seek's start (R271, R283). No rule names the head that a load selects: the head of the last seek stays selected.
DESIGN CHOICE, log entry 107. -/
def Act.loads (a : Act) (p0 p1 : Word) : Act :=
  { a with st := .loading, ramp := .measure, rampMs := 0, drvV := milliamps 50, drvM := 0, acquired := 0, invalidRun := 0, rdSettled := false, wrSettled := false, rdRun := 0, wrRun := 0, target := 0, offset := 0
           writer := false, pol0 := p0, pol1 := p1 }

/-- An actuator's load starts (R271). -/
def execHeadLoadStart (mu : MuNo) (s : State) : Out :=
  guarded (s.mayLoad mu) s <|
    let f := s.feature 0x03 ((mu : Nat) / 2)
    s.updMu mu fun x => { x with act := x.act.loads f.1 f.2.1 }

/-- PA_CTL with the heads loaded: MODE READ and HTR_EN (R219, R231). -/
def Preamp.loaded (p : Preamp) : Preamp := { p with regs := sset p.regs 2 paRead 0 }

/-- Read settle at the end of a load: FOLLOWING, the load counted, and what the medium says recovered at the first load since
acceptance: both copies of the format record, the records, the journal, and the key domain of the conventional zones (R171, R271). -/
def execHeadLoaded (mu : MuNo) (copy0 : List Byte) (records : FmtRecords) (journal : List JournalEntry) (copy1 : List Byte) (convKdom : Nat) (s : State) : Out :=
  let m : Nat := mu
  guarded ((s.mu m).act.st == .loading && (s.mu m).act.ramp == .settle && bits (s.mu m).act.pol1.toNat 15 8 ≤ (s.mu m).act.rdRun) s <|
    let s := s.updMu m fun x =>
      { x with act := { x.act with st := .following, ramp := .rest, rdSettled := true, loadedOph := s.time.oph, lateReported := false }, pa := x.pa.loaded }
    let s := (s.bump 12 (m / 2) (aSrv (m / 2) (0x28 + m % 2 * 4))).readFormat m [copy0, copy1] records journal convKdom
    s.settleHs (m / 2)

/-- The way of an actuator that unloads: a seek to the outermost track where its position is known, and else the ramp (R271, R272). -/
def Act.unloads (a : Act) : Act :=
  { a with st := .unloading, ramp := if a.loaded || a.ramp == .seek || a.ramp == .settle then .seek else .home, target := 0, offset := 0
           rdSettled := false, wrSettled := false, seek := none }

/-- A load fails: the actuator goes back to the ramp as in an unload and the MU is stopped (R271). -/
def execHeadLoadFail (mu : MuNo) (s : State) : Out :=
  let m : Nat := mu
  guarded ((s.mu m).act.st == .loading) s <|
    ((((s.updMu m fun x => { x with act := x.act.unloads }).raise 12 (m / 2) 5 (m % 2)).stopMu m)).failHs (m / 2) 0

/-- Work of an MU that needs the medium and was taken in (R588). DEDUCED, log entry 97. -/
def State.needsMedium (s : State) (v : Nat) : Bool :=
  s.cmds.any fun c => (s.tag c.1).st == .accepted && (c.2.pkt.vol == v || (c.2.pkt.opc == 5 && c.2.pkt.vol == 0xFFFF))
    && (c.2.phase == .sch || c.2.phase == .overflow || c.2.phase == .recovery || c.2.phase == .fua || c.2.phase == .flush
        || (c.2.phase == .executing && (c.2.pkt.opc == 0x2B || c.2.pkt.opc == 0x33)))

/-- The heads of an actuator are to be unloaded now (R134, R588). -/
def State.mayUnload (s : State) (m : Nat) : Bool :=
  let d := s.hda (m / 2)
  (s.mu m).act.loaded && (s.mu m).act.st != .tuning && (s.mu m).tsq.desc.isNone &&
    ((d.hsTransit && 2 ≤ d.hsTarget && !s.needsMedium m) || (d.st == .releasing && s.releaseDrained (m / 2)))

/-- An unload starts with a seek to the outermost track, which is taken for track 0, and goes on to the ramp (R272). DESIGN CHOICE, log entry 107. -/
def execHeadUnload (mu : MuNo) (s : State) : Out :=
  guarded (s.mayUnload mu) s <|
    s.updMu mu fun x => { x with act := x.act.unloads, pa := x.pa.heaterOff }

/-- What follows when an actuator is PARKED. -/
def State.parked (s : State) (m : Nat) : State :=
  let s := s.updMu m fun x => { x with act := { x.act with st := .parked, ramp := .rest, acquired := 0, drvV := 0, drvM := 0 } }
  let h := m / 2
  let s := if (s.hda h).st == .releasing && s.bothParked h && (s.hda h).srv.spin == .spunUp then
      s.brake h
    else s
  (s.settleHs h).settleSrvReset h

/-- PARKED: on the ramp the back-EMF velocity has stayed low for 20 ms, or RET_I has held for RET_T (R272). -/
def execHeadParked (mu : MuNo) (s : State) : Out :=
  let a := (s.mu mu).act
  guarded (a.st == .unloading && (a.ramp == .home || a.ramp == .forced)) s (s.parked mu)

/-- An unload not parked at 400 ms: its event, and RET_I towards the ramp for RET_T, at whose end HEAD_PARKED parks it (R272). DESIGN CHOICE, log
entry 107. -/
def execHeadUnloadFail (mu : MuNo) (s : State) : Out :=
  let m : Nat := mu
  guarded ((s.mu m).act.st == .unloading && (s.mu m).act.ramp != .forced) s <|
    (s.raise 12 (m / 2) 6 (m % 2)).updMu m fun x =>
      { x with act := { x.act with ramp := .forced, uV0 := 0, uV := 0, uM := 0, drvM := 0, drvV := milliamps (s.actDesc m).retI } }

/-! ### Retract and engine faults (R273 to R276) -/

/-- The retract sequencer acts on the power-fail signal or on a thermal shutdown (R273). -/
def execEmergencyRetract (h : HdaNo) (s : State) : Out :=
  let c := if s.mns.powerFail then 1 else 4
  let v := (s.hda h).srv
  unheld ((s.mns.powerFail || s.thp.shutdown) && (sget s.pwr.port h {}).on
      && (s.unparked (2 * h) || s.unparked (2 * h + 1) || !v.retracted || v.retCause != c)) s (s.retract h c)

/-- The drive of a retract ends: PARKED; after a fault or under-speed the spindle coasts from here (R274). -/
def execRetractParked (h : HdaNo) (s : State) : Out :=
  let ra := (s.mu (2 * h)).act.st == .retracting
  let rb := (s.mu (2 * h + 1)).act.st == .retracting
  guarded (ra || rb) s <|
    let c := (s.hda h).srv.retCause
    let s := if c == 2 || c == 3 then s.updHda h fun d => { d with srv := d.srv.coasts } else s
    let s := if ra then s.parked (2 * h) else s
    if rb then s.parked (2 * h + 1) else s

/-- An SRV engine fault is detected (R276). -/
def execSrvEngineFault (h : HdaNo) (kind : Nat) (act : Nat) (s : State) : Out :=
  unheld (1 ≤ kind && kind ≤ 7 && act < 2 && (sget s.pwr.port h {}).on) s (s.engineFault h kind act)

/-! ### Seeks and the coil model (R262 to R266) -/

/-- A seek starts after its jitter, which the samples count down, and any dwell (R262, R264, R266). -/
def execSeekStart (mu : MuNo) (s : State) : Out :=
  match (s.mu mu).act.seek with
  | none => .next s
  | some r => guarded (r.jitter == 0 && (s.mu mu).act.canSeek && !(s.mu mu).act.throttled && (s.hda ((mu : Nat) / 2)).srv.lfsr.isSome) s (s.startSeek mu r.head r.track)

/-- The coil temperature after 1 ms, in 2⁻⁴⁰ °C, from the mean square current in mA² (R265). DESIGN CHOICE, log entry 33. -/
def coilNext (a : ActDesc) (base t : Int) (ms : Nat) : Int :=
  let r : Int := a.vcmRes * (100000 * 2 ^ 40 + 393 * (t - 25 * 2 ^ 40))
  let p : Int := (ms * a.coilRth * r).tdiv (10 ^ 15)
  t + (base + p - t).tdiv (100 * a.coilTau)

/-- The mean square of the commands of the 1 ms that ends, in mA²; without a sample, that of the drive that stands. DESIGN CHOICE, log entry 33. -/
def Act.meanSquare (a : Act) : Nat := (if a.sqN = 0 then a.drvV.natAbs * a.drvV.natAbs else a.sqSum / a.sqN) / 2 ^ 30

/-- The greatest number whose square is at most `n`, built from bit `k` down. -/
def squareRoot (n : Nat) : Nat → Nat → Nat
  | 0, r => r
  | k + 1, r => let q := r + 2 ^ k; squareRoot n k (if q * q ≤ n then q else r)

/-- The mean squares of the last 1,000 ms with the newest, and the RMS over them (R265). -/
def Act.kept (a : Act) : Act :=
  let l := (a.meanSquare :: a.ms).take 1000
  { a with ms := l, rms := squareRoot (l.foldl (· + ·) 0 / 1000) 14 0, sqSum := 0, sqN := 0 }

/-- The throttle state from the temperature and the RMS current (R266). -/
def throttleNext (a : ActDesc) (margin : Nat) (t : Int) (rms : Nat) (was : Bool) : Bool :=
  let top : Int := (a.coilTmax : Int) - margin
  if was then !(t ≤ (top - 3) * 2 ^ 40 && rms * 10 ≤ a.vcmIcont * 8)
  else top * 2 ^ 40 ≤ t || a.vcmIcont * 9 ≤ rms * 10

/-- One millisecond of the resistance measurement of a load: 150 mA from the sixth on, and after the tenth the actuator moves off the ramp with the
resistance found, a free value (R271; log entry 3). DESIGN CHOICE, log entry 107. -/
def Act.measures (a : Act) (free : Nat) : Act :=
  if a.ramp != .measure then a
  else if a.rampMs + 1 < 10 then { a with rampMs := a.rampMs + 1, drvV := milliamps (if a.rampMs + 1 < 5 then 50 else 150) }
  else { a with ramp := .move, coilRes := free }

/-- The 1 ms update of the coil model, from the mean square `ms` of the coil's current in mA², and of the RMS of the command over 1 s (R265, R266). Before a
descriptor has been accepted its limits are zero: the temperature is a free value and the first update enters the throttle. DESIGN CHOICE, log
entry 107. -/
def execCoilModelUpdate (hda : HdaNo) (act : Fin 2) (ms : Nat) (s : State) : Out :=
  let h : Nat := hda
  let m := 2 * h + act
  guarded (sget s.pwr.port h {}).on s <|
    let a := s.actDesc m
    let (x, s) := if a.coilTau == 0 then s.draw else (0, s)
    let t := if a.coilTau == 0 then (x : Int) else coilNext a (s.coilBase h) (s.mu m).act.tCoil ms
    let was := (s.mu m).act.throttled
    let kept := (s.mu m).act.kept
    let now := throttleNext a (bits kept.pol0.toNat 15 8) t kept.rms was
    let (r, s) := s.draw
    let s := s.updMu m fun y => { y with act := { kept with tCoil := t, throttled := now }.measures r }
    if now && !was then (s.raise 12 h 7 (m % 2)).bump 12 h (aSrv h 0x30) else s

/-! ### Captures and the age of a load (R281, R558) -/

/-- The next sample of an actuator is of wedge 0. -/
def Act.beforeZero (a : Act) : Bool := (a.wedge + 1) % 640 == 0

/-- Capture starts at the first wedge 0 sample after SETTLE samples of injection (R281). -/
def execCaptureStart (h : HdaNo) (s : State) : Out :=
  match (s.hda h).srv.tune with
  | none => .next s
  | some t =>
    guarded (t.injecting && !t.capturing && t.settle ≤ t.count && (s.mu (2 * h + t.act)).act.beforeZero) s <|
      s.updHda h fun d =>
        { d with srv := { d.srv with tune := some { t with capturing := true, skip := 0, data := [], taken := 0, invalid := 0, saturated := 0
                                                           bandSwitch := false, band := d.clk.band, speed := d.clk.meas, markCnt := d.clk.markCnt } } }

/-- Capture ends with 16,384 samples of each channel (R281). -/
def execCaptureDone (h : HdaNo) (s : State) : Out :=
  match (s.hda h).srv.tune with
  | none => .next s
  | some t => guarded (t.capturing && t.taken == 16384) s (s.endTune h false)

/-- An actuator has been loaded for 720 operating hours without a load (R558). -/
def execLatentTestDue (mu : MuNo) (s : State) : Out :=
  let a := (s.mu mu).act
  guarded (a.loaded && a.loadedOph + 720 ≤ s.time.oph && !a.lateReported) s <|
    (s.updMu mu fun x => { x with act := { x.act with lateReported := true } }).raise 12 ((mu : Nat) / 2) 0x0A ((mu : Nat) % 2)

end Sys2Proof.Machine
end

