-- ==== Sys2Proof/Machine/Reset.lean ====
section
/-! DEFINITION. What a reset of the islands leaves: the always-on island, NOR and the preserved parts of buffer SDRAM
(R372, R440, R441, R468, R579, R615). -/

namespace Sys2Proof.Machine

/-- A zone's record as region 3 keeps it: no context survives, the record is marked as kept (R440, R607). DEDUCED, log entry 11. -/
def Zone.keep (x : Zone) : Zone :=
  let st := closeOpen x.st x.wp
  { x with st := st, kdom := if st == .empty then none else x.kdom, pend := none, handed := 0, inSch := false, lastCommit := 0, kept := true }

/-- A dirty sector after the reset: nothing is handed over and every sequence is past. DEDUCED, log entry 11. -/
def DirtyMark.keep (m : DirtyMark) : DirtyMark :=
  { m with seq := 0, seq2 := 0, handed := false, rewritten := false }

/-- What region 3 and the format known of it keep of an MU, and what the medium holds in its conventional sectors since a FORMAT. DEDUCED, log entries 11,
56 and 95. -/
def Mu.keep (m : Mu) : Mu := { zones := smap m.zones {} Zone.keep, zeroed := m.zeroed, rewritten := m.rewritten }

/-- What is left of an endpoint: PERST# is a pin of the connector, and the trainings are counted from power-on (R341). DEDUCED, log entry 11.
PRESUMED, log entry 98. -/
def Endpoint.keep (x : Endpoint) : Endpoint := { perst := x.perst, trained := x.trained }

/-- A marker whose command a reset has discarded. -/
def LogItem.orphan : LogItem → LogItem
  | .record r => .record { r with cmd := none }
  | .reserve r => .reserve { r with cmd := none }
  | .boundary => .boundary

/-- Everything except the always-on island, NOR and buffer SDRAM is reset; the HDA port domains are turned off, so the ledger holds no HDA and
the charger's 5.0 A fit it again (R82, R441). DEDUCED, log entry 11. -/
def State.resetIslands (s : State) : State :=
  { State.reset with
    pending := s.pending, free := s.free, out := s.out, nor := s.nor, ctr := s.ctr, time := s.time, flt := s.flt
    log := { s.log with queue := (s.log.queue.filter (· != .boundary)).map LogItem.orphan ++ [.boundary], running := false, nmi := [], startDue := none }
    thp := { s.thp with hold := false, wrGate := 0 }
    mns := { s.mns with alloc := [], waiting := [], chargePaused := false, bank := { s.mns.bank with hostRequests := [] } }
    cal := { s.cal with busy := false, calrefCmd := none, converterCmds := [], periods := [], foreign := 0, seqs := [] }
    start := { s.start with phase := .inReset, resetting := true, cold := s.vlt.selected.isSome || (s.start.phase == .inReset && s.start.cold) }
    eps := smap s.eps {} Endpoint.keep
    mus := smap s.mus {} Mu.keep
    bca := { State.reset.bca with index := smap s.bca.index {} DirtyMark.keep }
    vlt := { State.reset.vlt with erasing := s.vlt.erasing, eraseOther := s.vlt.eraseOther }
    mgt := { State.reset.mgt with scrubBuffer := s.mgt.scrubBuffer }
    buf := { State.reset.buf with poison := s.buf.poison, words := s.buf.words, holders := s.buf.holders } }

end Sys2Proof.Machine
end

