-- ==== Sys2Proof/Machine/Thermal.lean ====
section
/-! DEFINITION. Sensors, thermal levels, the thermal shutdown and the fans (R67, R572 to R584). -/

namespace Sys2Proof.Machine

/-! ### Classes and levels (R574, R575), in 1/16 °C -/

/-- Warning, throttle, shutdown and release thresholds of a module sensor in °C; the AIR class has no throttle threshold. -/
def thresholds (n : Nat) : Nat × Option Nat × Nat × Nat :=
  if n < 6 then (105, some 115, 125, 95)
  else if n < 8 then (95, some 100, 105, 85)
  else if n < 10 then (125, some 135, 150, 110)
  else if n < 12 then (105, some 115, 130, 95)
  else if n == 12 then (87, some 90, 95, 80)
  else if n == 13 then (95, some 100, 110, 90)
  else if n == 14 then (86, none, 95, 80)
  else (100, some 110, 120, 90)

/-- A threshold in units of 1/16 °C. -/
def sixteenths (c : Nat) : Int := (c : Int) * 16

/-- The level after a reading (R575). -/
def nextLevel (n level : Nat) (t : Int) : Nat :=
  let (w, th, _, _) := thresholds n
  let atT : Bool := match th with | some x => decide (sixteenths x ≤ t) | none => false
  let belowT : Bool := match th with | some x => decide (t ≤ sixteenths x - 80) | none => true
  if atT then 2
  else if level == 0 then (if sixteenths w ≤ t then 1 else 0)
  else if t ≤ sixteenths w - 80 then 0
  else if level == 2 && belowT then 1
  else level

/-- The partner of a paired sensor (R573). -/
def partner (n : Nat) : Option Nat := if n < 10 then some (if n % 2 == 0 then n + 1 else n - 1) else none

/-- The module sensor `n`. -/
def State.sensor (s : State) (n : Nat) : Sensor := sget s.thp.sensors n {}
/-- `s` with `f` applied to a sensor. -/
def State.updSensor (s : State) (n : Nat) (f : Sensor → Sensor) : State := { s with thp := { s.thp with sensors := supd s.thp.sensors n {} f } }

/-- THERM_SUM.LEVEL (R573, R575). -/
def State.thermLevel (s : State) : Nat :=
  if s.thp.hold then 3
  else if s.thp.wrGate != 0 || (List.range 16).any (fun n => s.atThrottle n) then 2
  else if (List.range 16).any (fun n => (s.sensor n).level != 0) || (s.sensor 14).failed || s.hdas.any (fun h => h.2.tempLevel != 0) then 1
  else 0

/-- A change of THERM_SUM.LEVEL posts one THERMAL_LEVEL notice (R575, R421). -/
def State.settleTherm (s : State) : State :=
  let l := s.thermLevel
  if l == s.thp.level then s else ({ s with thp := { s.thp with level := l } }).notice 0xFFFF 5 l

/-! ### Readings (R573, R575, R578) -/

/-- The reading kept in a sensor's maxima; the highest over life is saved to NOR (R573). -/
def State.keepMax (s : State) (n : Nat) (t : Int) : State :=
  let s := s.updSensor n fun x => { x with maxPon := if x.maxPon < t then t else x.maxPon, maxLife := if x.maxLife < t then t else x.maxLife }
  { s with nor := { s.nor with maxLife := sset s.nor.maxLife n (s.sensor n).maxLife (-32768) } }

/-- A sensor reads again and agrees with its partner. DEDUCED, log entry 48. -/
def State.agrees (s : State) (n : Nat) (t : Int) : Bool :=
  match partner n with
  | none => true
  | some p => let x := s.sensor p; x.valid && (t - x.temp).natAbs ≤ 240

/-- A module sensor fails: one LATENT_TEST_FAIL of test 8 (R573). DEDUCED, log entry 48. -/
def State.failSensor (s : State) (n : Nat) : State :=
  if (s.sensor n).failed then s else (s.updSensor n fun x => { x with failed := true }).latentFail 18 0 8 n

/-- The events and counts of a rise of the level (R575). -/
def State.levelRise (s : State) (n old new : Nat) : State :=
  if new ≤ old then s
  else if new == 1 then (s.raise 18 0 9 n).bump 18 0 0x01120100
  else (s.raise 18 0 0x0A n).bump 18 0 0x01120104

/-- The trip record of a shutdown (R581). -/
def State.tripRecord (s : State) (n : Nat) : Trip :=
  { sensor := n, tripNo := s.nor.tripNo + 1, pcc := s.time.pcc, oph := s.time.oph, ops := s.time.ops
    readings := (List.range 16).map fun i => (s.sensor i).temp }

/-- The thermal shutdown from its event to the state in which step 7 leaves the module (R48, R579). DESIGN CHOICE, log entry 8. -/
def State.thermalShutdown (s : State) (n : Nat) : State :=
  let s := (s.raise 18 0 0x0B n).bump 18 0 0x01120108
  let s := (List.range 16).foldl (fun s h => s.retract h 4) s
  let trip := s.tripRecord n
  let s := { s with nor := { s.nor with trips := (s.nor.trips ++ [trip]).drop (s.nor.trips.length - 7), tripNo := trip.tripNo, hold := true } }
  let vlt := { s.vlt with selected := none, replaying := false }
  let s := s.resetIslands
  { s with vlt := vlt, thp := { s.thp with shutdown := true, shutdownPending := none, duty := 100 }
           start := { s.start with cause := 2, resetting := false }
           pwr := { s.pwr with sdramSelfRefresh := true } }

/-- A reading at or above the shutdown threshold: at once, or after a dump in progress (R49, R575). DESIGN CHOICE, log entry 8. -/
def State.tripped (s : State) (n : Nat) : State :=
  if s.thp.shutdown || s.thp.shutdownPending.isSome then s
  else if s.vlt.dumping then { s with thp := { s.thp with shutdownPending := some n } }
  else s.thermalShutdown n

/-- One conversion of a module sensor: its value in 1/16 °C, or none when it did not complete in 10 ms (R573, R575). Only a reading at the shutdown
threshold, a protective stop, passes a full event buffer (R548). -/
def execSensorReading (n : Nat) (reading : Option Int) (s : State) : Out :=
  detected (n < 16 && s.mns.busUp) (match reading with | some t => decide (sixteenths (thresholds n).2.2.1 ≤ t) | none => false) s <|
    match reading with
    | none => (s.failSensor n).retargetAll.settleTherm
    | some t =>
      let old := (s.sensor n).level
      let new := nextLevel n old t
      let ok := s.agrees n t
      let s := if (s.sensor n).failed && ok then s.latentPass 8 else s
      let s := (s.updSensor n fun x => { x with temp := t, valid := true, level := new, failed := x.failed && !ok }).keepMax n t
      let s := (s.levelRise n old new).retargetAll.settleTherm
      let (_, _, top, _) := thresholds n
      if sixteenths top ≤ t then s.tripped n else s

/-- One pair compared: three successive differences of more than 15 °C fail both sensors; what is failed stays so until it reads again (R573). DEDUCED,
log entry 48. -/
def State.comparePair (s : State) (n : Nat) : State :=
  let a := s.sensor n
  let b := s.sensor (n + 1)
  if !(a.valid && b.valid) then s
  else if (a.temp - b.temp).natAbs ≤ 240 then
    (s.updSensor n fun x => { x with diffs := 0 }).updSensor (n + 1) fun x => { x with diffs := 0 }
  else
    let s := (s.updSensor n fun x => { x with diffs := Nat.min 3 (x.diffs + 1) }).updSensor (n + 1) fun x => { x with diffs := Nat.min 3 (x.diffs + 1) }
    if 2 ≤ a.diffs then (s.failSensor n).failSensor (n + 1) else s

/-- The comparison of paired sensors, made every 10 s (R573). -/
def execSensorCompare (s : State) : Out :=
  guarded s.mns.busUp s ((([0, 2, 4, 6, 8].foldl (fun s n => s.comparePair n) s).retargetAll).settleTherm)

/-- The write gate of an HDA after a valid reading (R578). -/
def gateAfter (d : Desc) (gated : Bool) (t : Int) : Bool :=
  if d.tWrMax * 16 < t || t < d.tWrMin * 16 then true
  else if gated then !((d.tWrMin + 2) * 16 ≤ t && t ≤ (d.tWrMax - 2) * 16)
  else false

/-- A valid reading of an HDA sensor: its level, its maxima and the write gate (R127, R573, R575, R578). DEDUCED, log entries 48 and 90. -/
def State.hdaReading (s : State) (h : Nat) (t : Int) : State :=
  let d := s.desc h
  let old := (s.hda h).tempLevel
  let new := if (d.tWrMax - 3) * 16 ≤ t then 1 else if t ≤ (d.tWrMax - 8) * 16 then 0 else old
  let s := (s.updHda h fun x => { x with temp := t, tempValid := true, lastTemp := some t, tempLevel := new }).keepMax (16 + h) t
  let s := s.levelRise (16 + h) old new
  let g := gateAfter d (s.thp.wrGate.getLsbD h) t
  let s := { s with thp := { s.thp with wrGate := if g then s.thp.wrGate ||| (1#16 <<< h) else s.thp.wrGate &&& ~~~(1#16 <<< h) } }
  s.settleTherm

/-- An HDA is gone: no level and no write gate rests on a reading of it (R575, R578). DEDUCED, log entry 48. -/
def State.forgetTemp (s : State) (h : Nat) : State :=
  let s := s.updHda h fun x => { x with tempValid := false, lastTemp := none, tempLevel := 0 }
  { s with thp := { s.thp with wrGate := s.thp.wrGate &&& ~~~(1#16 <<< h) } }.settleTherm

/-- A read of an HDA's temperature sensor: its value, or none when it was not acknowledged (R127). -/
def execHdaTempRead (h : HdaNo) (reading : Option Int) (s : State) : Out :=
  guarded (sget s.pwr.port h {}).on s <|
    match reading with
    | none => (s.updHda h fun x => { x with tempValid := false }).raise 18 0 6 h
    | some t => s.hdaReading h t

/-! ### Fans (R67, R583, R584) -/

/-- A fan. -/
def State.fan (s : State) (f : Nat) : Fan := sget s.thp.fans f {}
/-- `s` with `g` applied to a fan. -/
def State.updFan (s : State) (f : Nat) (g : Fan → Fan) : State := { s with thp := { s.thp with fans := supd s.thp.fans f {} g } }

/-- The smallest margin of the module sensors that read, in 1/16 °C (R583). -/
def State.margins (s : State) : List Int :=
  (List.range 16).filterMap fun n =>
    let x := s.sensor n
    if x.failed then some 0
    else if x.valid then
      let (w, th, _, _) := thresholds n
      some (sixteenths (th.getD w) - x.temp)
    else none

/-- The duty of R583 from a margin in 1/16 °C. -/
def dutyOf (minDuty : Nat) (m : Int) : Nat :=
  if m ≤ 80 then 100
  else if 480 ≤ m then minDuty
  else minDuty + ((100 - minDuty) * (480 - m).toNat + 399) / 400

/-- A throttle action is in force, the module is in thermal shutdown, the margin is at most 5 °C, or sensor 14 is failed (R583). -/
def State.dutyForced (s : State) : Bool :=
  s.thp.shutdown || (List.range 16).any (fun n => s.atThrottle n) || (s.sensor 14).failed || s.margins.any (· ≤ 80)

/-- The duty that applies from this second on (R583). -/
def State.nextDuty (s : State) : Nat :=
  let p := s.feat0 0x11
  if s.dutyForced then 100
  else if bit p 8 then bits p 22 16
  else match s.margins with
  | [] => s.thp.duty
  | m :: r =>
    let d := dutyOf (bits p 6 0) (r.foldl (fun a x => if x < a then x else a) m)
    if s.thp.duty ≤ d then d else Nat.max d (s.thp.duty - 2)

/-- The TACH readings of the headers: what the fans turn at, up to 20,000 rpm, each a free value (R67). DESIGN CHOICE, log entry 101. -/
def State.readTachs (s : State) : State :=
  (List.range 6).foldl (fun s f => let (n, s) := s.draw; s.updFan f fun x => { x with rpm := n % 20001 }) s

/-- Once per second THP reads the headers and sets the common duty (R67, R583). -/
def execFanDutyUpdate (s : State) : Out :=
  guarded s.mns.busUp s { s.readTachs with thp := { s.readTachs.thp with duty := s.nextDuty } }

/-- A fan header enters current limit (R67). -/
def execFanOvercurrent (fan : Nat) (s : State) : Out :=
  guarded (fan < 6 && s.mns.busUp && !(s.fan fan).currentLimit) s ((s.updFan fan fun x => { x with currentLimit := true }).raise 18 0 7 fan)

/-- A fan header leaves current limit (R67). -/
def execFanCurrentLimitExit (fan : Nat) (s : State) : Out :=
  guarded (fan < 6 && (s.fan fan).currentLimit) s (s.updFan fan fun x => { x with currentLimit := false })

/-- A header has read below 300 rpm for 3 s at a duty of at least 20 % (R584). -/
def execFanStall (fan rpm : Nat) (s : State) : Out :=
  guarded (fan < 6 && s.mns.busUp && rpm < 300 && 20 ≤ s.thp.duty && !(s.fan fan).stall) s <|
    ((s.updFan fan fun x => { x with stall := true, rpm := rpm }).raise 18 0 8 fan).bump 18 0 0x0112010C

/-- A stalled header has read at least 300 rpm for 3 s (R584). -/
def execFanStallEnd (fan rpm : Nat) (s : State) : Out :=
  guarded (fan < 6 && 300 ≤ rpm && rpm ≤ 20000 && (s.fan fan).stall) s (s.updFan fan fun x => { x with stall := false, rpm := rpm })

end Sys2Proof.Machine
end

