-- ==== Sys2Proof/Machine/Calib.lean ====
section
/-! DEFINITION. Calibration records, the load of an HDA's sets and tables, and trims taken into the write table
(R185, R216, R228, R255 to R258, R582, R596 to R599). -/

namespace Sys2Proof.Machine

/-! ### Records (R598, R599) -/

/-- Lengths: entries of a channel or write table. -/
def tableEntries : Nat := 7680

/-- A table's entries of `n` bytes each, one after the other (R185, R216). -/
def tableBytes (n : Nat) (m : Sparse (List Byte)) : List Byte := (List.range tableEntries).flatMap fun i => padTo n (sget m i [])

/-- Coefficient words 0x0000 to 0xC455, little-endian (R255, R598). -/
def coefBytes (m : Sparse (BitVec 16)) : List Byte := (List.range 0xC456).flatMap fun i => leBytes 2 (sget m i 0).toNat

/-- REFERENCES: c0, c1 and c2 of each source as 32-bit words, then items 4 and 5 (R598; the layout is log entry 26). -/
def CalRecord.refBytes (r : CalRecord) : List Byte :=
  ((List.range 3).flatMap fun i =>
    let c := r.refs.getD i {}
    leBytes 4 (toTwos 32 c.c0) ++ leBytes 4 (toTwos 32 c.c1) ++ leBytes 4 (toTwos 32 c.c2)) ++ r.adc

/-- The sections of a record, with their identifiers (R598). DESIGN CHOICE, log entry 26. -/
def CalRecord.sections (r : CalRecord) : List (Nat × List Byte) :=
  if r.recno == 0 then [(0x01, r.refBytes), (0x02, r.converters), (0x03, r.calrefLast)]
  else [(0x10, coefBytes r.srv), (0x11, tableBytes 256 r.chanA), (0x12, tableBytes 256 r.chanB), (0x13, tableBytes 128 r.writeA)
        , (0x14, tableBytes 128 r.writeB)]

/-- Bytes padded to a multiple of 64. -/
def pad64 (bs : List Byte) : List Byte := padTo ((bs.length + 63) / 64 * 64) bs

/-- The directory of sections from offset `ofs` on (R598). DESIGN CHOICE, log entry 26. -/
def directory : Nat → List (Nat × List Byte) → List Byte
  | _, [] => []
  | ofs, (id, b) :: r =>
    leBytes 2 id ++ leBytes 2 0 ++ leBytes 4 ofs ++ leBytes 4 b.length ++ leBytes 4 (crc32c b).toNat ++ directory (ofs + (pad64 b).length) r

/-- Length of a record with the sections `ss`, RCRC included. -/
def recordLength (ss : List (Nat × List Byte)) : Nat := ss.foldl (fun a e => a + 16 + (pad64 e.2).length) 68

/-- The header (R598). -/
def CalRecord.header (r : CalRecord) : List Byte :=
  let h := padTo 60 (leBytes 4 0x4C41434F ++ leBytes 1 1 ++ leBytes 1 (flag (r.recno != 0)) ++ leBytes 1 r.recno ++ leBytes 1 0 ++ leBytes 4 r.seq
    ++ leBytes 4 r.oph ++ leBytes 2 r.ops ++ leBytes 2 r.sections.length ++ leBytes 4 r.pcc ++ padTo 20 r.serial
    ++ leBytes 4 (recordLength r.sections))
  h ++ leBytes 4 (crc32c h).toNat

/-- The record's bytes (R598). DESIGN CHOICE, log entry 26. -/
def CalRecord.bytes (r : CalRecord) : List Byte :=
  let b := r.header ++ directory (64 + 16 * r.sections.length) r.sections ++ r.sections.flatMap fun e => pad64 e.2
  b ++ leBytes 4 (crc32c b).toNat

/-- The record of greater SEQ, the earlier one at equal SEQ. -/
def newerRecord (a : Option CalRecord) (r : CalRecord) : Option CalRecord :=
  match a with
  | none => some r
  | some x => if x.seq < r.seq then some r else some x

/-- The record in force for a RECNO: the highest SEQ among those that check (R599). -/
def State.inForce (s : State) (recno : Nat) : Option CalRecord :=
  (s.nor.cal.filter fun r => r.recno == recno && r.good).foldl newerRecord none

/-- Records whose checks fail at this load, by position in NOR (R599). -/
def State.failRecords (s : State) (bad : List Nat) : State :=
  { s with nor := { s.nor with cal := (List.range s.nor.cal.length).filterMap (fun i =>
      (s.nor.cal[i]?).map (fun r => if bad.contains i then { r with good := false } else r)) } }

/-- One CAL_RECORD_ERROR event for each record of a RECNO that fails (R599). -/
def State.recordErrors (s : State) (recno : Nat) : State :=
  (s.nor.cal.filter fun r => r.recno == recno && !r.good).foldl (fun s _ => s.raise 19 0 1 recno) s

/-- A new record stored: it takes a free slot, and the slot of the record it replaces is freed; a late measurement (R518, R599). -/
def State.storeRecord (s : State) (r : CalRecord) : State :=
  let held := s.nor.cal.filter fun x => x.recno == r.recno
  let seq := held.foldl (fun a x => Nat.max a x.seq) 0 + 1
  let r := { r with seq := seq, oph := s.time.oph, ops := s.time.ops, pcc := s.time.pcc, good := true }
  let s := { s with nor := { s.nor with cal := (s.nor.cal.filter (fun x : CalRecord => x.recno != r.recno)) ++ [r] }
                    cal := { s.cal with seqs := sset s.cal.seqs r.recno seq 0 } }
  s.late (measured (if r.recno == 0 then 0x40 else 0x30 + (r.recno - 1)) seq r.bytes)

/-- Firmware runs the loads itself from step 9 of the start on (R257, R603). -/
def State.loadsAtOnce (s : State) : Bool := s.start.phase == .tables || s.start.phase == .service || s.start.phase == .ready

/-- A component measured: with the boot's entries as far as step 9 of the start, in the late list afterwards (R517, R518, R608). DEDUCED, log entry 62. -/
def State.measure (s : State) (e : SlateEntry) : State :=
  if s.loadsAtOnce then s.addLate e else { s with sec := { s.sec with entries := s.sec.entries ++ [e] } }

/-! ### The load of an HDA's sets and tables (R257, R258, R599) -/

/-- The tables of one MU as the record has them, with every TRIM at zero (R185, R216, R229). -/
def Mu.tables (chan write : Sparse (List Byte)) (m : Mu) : Mu :=
  { m with chanTable := chan, writeTable := write, entryMarks := [], was := { m.was with trim := [] } }

/-- Bit `h` of a 16-bit map at `b`. -/
def putBit16 (m : BitVec 16) (h : Nat) (b : Bool) : BitVec 16 := if b then m ||| (1#16 <<< h) else m &&& ~~~(1#16 <<< h)

/-- The record in force of HDA `h` loaded into coefficient memory and both MUs' tables, and measured (R258, R599). -/
def State.loadHdaTables (s : State) (h : Nat) : State :=
  let s := s.recordErrors (h + 1)
  let r := s.inForce (h + 1)
  let x := r.getD {}
  let s := s.loadSets h x.srv
  let s := (s.updMu (2 * h) (Mu.tables x.chanA x.writeA)).updMu (2 * h + 1) (Mu.tables x.chanB x.writeB)
  let foreign := r.isSome && x.serial != (s.desc h).serial
  let s := { s with cal := { s.cal with seqs := sset s.cal.seqs (h + 1) x.seq 0, foreign := putBit16 s.cal.foreign h foreign } }
  match r with
  | none => s
  | some r => (s.measure (s.srvEntry h)).measure (measured (0x30 + h) r.seq r.bytes)

/-! ### The module record (R582) -/

/-- The module calibration record applied: its coefficients, or no correction (R582, R599). -/
def State.applyModuleRecord (s : State) : State :=
  let s := s.recordErrors 0
  match s.inForce 0 with
  | none => { s with cal := { s.cal with uncompensated := true, refs := [], oscCorr := 0, coreCorr := 0, vrefCorr := 0, seqs := sset s.cal.seqs 0 0 0 } }
  | some r => { s with cal := { s.cal with uncompensated := false, refs := r.refs, seqs := sset s.cal.seqs 0 r.seq 0 } }

/-! ### Trims taken into the write table (R228, R596, R597) -/

/-- A write entry with AST_SET replaced and ECRC recomputed. -/
def withAstSet (e : List Byte) (v : Nat) : List Byte :=
  let b := (padTo 128 e).take 14 ++ leBytes 2 v ++ ((padTo 128 e).drop 16).take 108
  b ++ leBytes 4 (crc32c b).toNat

/-- The write entries of a band with each head's TRIM added to AST_SET, clamped to 0 and AST_SET_MAX (R228, R596). -/
def trimmedTable (top band : Nat) (trim : Sparse Int) (t : Sparse (List Byte)) : Sparse (List Byte) :=
  t.map fun e =>
    let head := e.1 / 12 / 64
    let d := sget trim head 0
    if e.1 % 12 == band && d != 0 then (e.1, withAstSet e.2 (clampI 0 top ((field e.2 14 2 : Int) + d)).toNat) else e

/-- Every TRIM of an MU taken into the entries of the band in force and set to zero (R596, R597). -/
def State.takeTrims (s : State) (m : Nat) : State :=
  let top := (s.desc (m / 2)).astSetMax
  let band := (s.hda (m / 2)).clk.band
  s.updMu m fun x => { x with writeTable := trimmedTable top band x.was.trim x.writeTable, was := { x.was with trim := [] } }

/-- The new record of an HDA: the coefficient memory and the tables of both MUs as they stand (R597). -/
def State.hdaRecord (s : State) (h : Nat) : CalRecord :=
  let a := s.mu (2 * h)
  let b := s.mu (2 * h + 1)
  { recno := h + 1, serial := (s.desc h).serial, srv := (s.hda h).srv.coef
    chanA := a.chanTable, chanB := b.chanTable, writeA := a.writeTable, writeB := b.writeTable }

end Sys2Proof.Machine
end

