-- ==== Sys2Proof/Machine/Weold.lean ====
section
/-! DEFINITION. The Weold port: descriptors, bring-up, insertion, release and removal, the preamplifier link and its faults
(R108 to R118, R123 to R137, R577, R589). -/

namespace Sys2Proof.Machine

/-! ### The descriptor (R123 to R125, R137) -/

/-- A signed byte of the descriptor. -/
def sbyte (bs : List Byte) (o : Nat) : Int := ofTwos 8 (field bs o 1)

/-- Bytes `a` to `b` - 1 are zero. -/
def zeroBytes (bs : List Byte) (a b : Nat) : Bool := ((bs.drop a).take (b - a)).all (· == 0)

/-- The actuator block at byte `o` (R123). -/
def actDescAt (bs : List Byte) (o : Nat) : ActDesc :=
  { vcmRes := field bs o 2, vcmKt := field bs (o + 2) 2, vcmImax := field bs (o + 4) 2, vcmIcont := field bs (o + 6) 2
    coilRth := field bs (o + 8) 2, coilTau := field bs (o + 10) 2, coilTmax := field bs (o + 12) 1, retI := field bs (o + 14) 2
    retT := field bs (o + 16) 2, maVmax := field bs (o + 18) 2, maCap := field bs (o + 20) 2, maGain := field bs (o + 22) 2 }

/-- The descriptor that 512 bytes hold (R123). -/
def parseDesc (bs : List Byte) : Desc :=
  { serial := (bs.drop 40).take 20, makerCode := field bs 60 2, paVer := field bs 62 2, headsA := field bs 64 1, headsB := field bs 65 1
    assist := field bs 66 1, spdMin := field bs 72 2, spdMax := field bs 74 2, polePairs := field bs 76 1, spImax := field bs 82 2
    iSpinup := field bs 84 2, iRun := field bs 86 2, tSpinup := field bs 88 2, actA := actDescAt bs 96, actB := actDescAt bs 128
    wdDly := field bs 160 2, wgOn := field bs 162 2, wgOff := field bs 164 2, aeOn := field bs 166 2, aeOff := field bs 168 2
    iwMax := field bs 170 2, htrMax := field bs 172 2, astSetMax := field bs 174 2, astLimMax := field bs 176 2
    astMonScale := field bs 178 2, rbiasMax := field bs 180 2, tSpinMin := sbyte bs 188, tSpinMax := sbyte bs 189
    tWrMin := sbyte bs 190, tWrMax := sbyte bs 191, makerKeyId := field bs 504 4, hp12Ma := field bs 182 2, hp5Ma := field bs 184 2, raw := bs }

/-- FLAGS.SIGNED. -/
def descSigned (bs : List Byte) : Bool := bit (field bs 67 1) 0

/-- An actuator block lies within its ranges (R123). -/
def actDescOk (d : ActDesc) : Bool :=
  4000 ≤ d.vcmRes && d.vcmRes ≤ 15000 && d.vcmImax ≤ 3000 && d.vcmIcont ≤ 1500 && d.retI ≤ d.vcmImax && d.retT ≤ 200
    && d.maVmax ≤ 240 && d.maCap ≤ 200

/-- Every field lies within its range (R123, R124). -/
def descOk (bs : List Byte) : Bool :=
  let d := parseDesc bs
  1 ≤ d.makerCode && d.makerCode ≤ 255 && 1 ≤ d.headsA && d.headsA ≤ 10 && 1 ≤ d.headsB && d.headsB ≤ 10 && 1 ≤ d.assist && d.assist ≤ 2
    && field bs 68 4 ≤ 64000 && d.spdMin ≤ 4800 && 7200 ≤ d.spdMax && d.spdMax ≤ 7500 && 1 ≤ d.polePairs && d.polePairs ≤ 16
    && 500 ≤ field bs 78 2 && field bs 78 2 ≤ 4000 && d.spImax ≤ 4000 && d.iSpinup ≤ 3000 && d.iRun ≤ 1400 && d.tSpinup ≤ 20000
    && actDescOk d.actA && actDescOk d.actB && d.wdDly ≤ 5000 && d.wgOn ≤ 20 && d.wgOff ≤ 20 && d.aeOn ≤ 1500 && d.aeOff ≤ 100
    && d.iwMax ≤ 255 && d.htrMax ≤ 1023 && d.astSetMax ≤ 4095 && d.astLimMax ≤ 4095 && d.rbiasMax ≤ 1023
    && d.hp12Ma ≤ 300 && d.hp5Ma ≤ 400 && d.tSpinMin ≤ d.tSpinMax && d.tWrMin ≤ d.tWrMax
    && (descSigned bs || d.makerKeyId == 0)

/-- Every RSVD byte and every RSVD bit within a field is zero (R124, R137). -/
def descRsvdOk (bs : List Byte) : Bool :=
  field bs 63 1 == 0 && field bs 67 1 ≤ 1 && [(77, 78), (94, 96), (109, 110), (120, 128), (141, 142), (152, 160), (186, 188), (194, 256)].all
    fun r => zeroBytes bs r.1 r.2

/-- DESC_SIG of a descriptor (R125, R136). -/
def State.descSigOf (s : State) (bs : List Byte) : Nat :=
  if !descSigned bs then 0
  else match s.nor.makers.find? fun m => m.1 == field bs 504 4 with
  | none => 3
  | some m => if sm2Ok m.2 (bs.take 512) ((bs.drop 512).take 64) then 1 else 2

/-- The reason of step 3 of R130 for which a descriptor is rejected; 0 when it passes (R137). -/
def State.descReject (s : State) (bytes : Option (List Byte)) : Nat :=
  match bytes with
  | none => 1
  | some bs =>
    if !(field bs 0 4 == 0x4C4F4557 && field bs 4 1 == 1 && field bs 6 2 == (if descSigned bs then 576 else 512)
        && bs.length == field bs 6 2) then 2
    else if field bs 508 4 != (crc32c (bs.take 508)).toNat then 3
    else if !(field bs 90 2 == 32768 && field bs 92 2 == 640 && descRsvdOk bs) then 2
    else if !descOk bs then 4
    else if s.feat0 0x0A == 1 && s.descSigOf bs != 1 then 5
    else 0

/-- PA_ID and PA_CAPS of an actuator agree with the descriptor (R114, R123, R130). -/
def capsOk (d : Desc) (heads id caps : Nat) : Bool :=
  bits id 15 8 == d.makerCode % 256 && bits id 7 0 == d.paVer % 256 && bits caps 3 0 == heads && bits caps 5 4 == d.assist

/-- REJECT of a bring-up; 0 when every step of R130 passes (R131, R137). DEDUCED, log entry 62. -/
def State.rejectOf (s : State) (b : BringUp) : Nat :=
  let d := parseDesc (b.bytes.getD [])
  let supply (lo hi : Nat) : Bool := match b.supplyStep with | some k => lo ≤ k && k ≤ hi | none => false
  if supply 1 3 then 9
  else if s.descReject b.bytes != 0 then s.descReject b.bytes
  else if supply 4 4 then 9
  else if b.parityBad.isSome then 6
  else if !(capsOk d d.headsA b.idA b.capsA && capsOk d d.headsB b.idB b.capsB) then 7
  else if !b.scratchOk then 6
  else if b.statA != 0 || b.statB != 0 then 8
  else if supply 5 6 then 9
  else 0

/-! ### Insertion and bring-up (R128 to R133) -/

/-- The always-on island runs and no reset holds the module. DEDUCED, log entry 62. -/
def State.portsRun (s : State) : Bool := s.mns.busUp && s.start.phase != .off && s.start.phase != .inReset && s.start.phase != .stuck

/-- HPRES_N has been low for 50 ms: the HDA is present, and its bring-up starts unless a power failure stands (R128, R130). -/
def execHdaInserted (h : HdaNo) (s : State) : Out :=
  guarded (s.portsRun && !(s.hda h).present) s <|
    let s := s.updHda h fun d => { d with present := true, lastTemp := if d.st == .empty then none else d.lastTemp }
    if s.mns.powerFail || (s.hda h).st != .empty then s
    else ((s.setPort h fun d => { d with st := .reading, hs := 3 }).portOn h).raise 18 0 1 h

/-- The temperature that a bring-up reads as soon as HP5 is up (R127, R577). -/
def State.bringUpTemp (s : State) (h : Nat) (t : Option Int) : State :=
  match t with
  | none => (s.updHda h fun x => { x with tempValid := false }).raise 18 0 6 h
  | some t => s.hdaReading h t

/-- The bring-up under way is the one of a newly present HDA. -/
def State.readingNow (s : State) (h : Nat) : Bool := (s.hda h).st == .reading && (s.hda h).present
/-- The bring-up under way is the repeated one of an exit from HS3 (R589). DEDUCED, log entry 43. -/
def State.exitingHs3 (s : State) (h : Nat) : Bool :=
  let d := s.hda h
  d.st == .accepted && d.hs == 3 && d.hsTransit && d.hsTarget < 3 && (sget s.pwr.port h {}).on && !s.mns.waiting.contains h
    && sget s.mns.alloc h .zero == .zero
/-- Firmware is there to read a descriptor, and no power failure stands. DEDUCED, log entry 43. -/
def State.canBringUp (s : State) : Bool := s.portsRun && s.start.phase != .stage0 && s.start.phase != .fiddlehead && !s.mns.powerFail

/-- A preamp after step 5 of R130: PA_ID and PA_CAPS as it holds them, PA_STAT cleared, so that PFLT is released, MODE SLEEP and the last pattern in
PA_SCRATCH. -/
def Preamp.broughtUp (id caps : Nat) (p : Preamp) : Preamp :=
  { regs := sset (sset (sset (sset (sset p.regs 0 (BitVec.ofNat 16 id) 0) 1 (BitVec.ofNat 16 (caps % 64)) 0) 2 0 0) 4 0 0) 0x0B 0xA55A#16 0
    pendingG := [], pflt := false }

/-- What a passing bring-up leaves of the descriptor, the supply limits, which the descriptor narrows, and the preamps (R121, R125, R130). -/
def State.described (s : State) (h : Nat) (b : BringUp) : State :=
  let bs := b.bytes.getD []
  let sig := s.descSigOf bs
  let d := parseDesc bs
  let s := s.updHda h fun x =>
    { x with desc := some d, descSig := sig, reject := 0, hp5Limit := Nat.min 400 d.hp5Ma, hp12Limit := Nat.min 300 d.hp12Ma }
  (s.updMu (2 * h) fun m => { m with pa := m.pa.broughtUp b.idA b.capsA }).updMu (2 * h + 1) fun m => { m with pa := m.pa.broughtUp b.idB b.capsB }

/-- The HDA is accepted: it rests in HS3 with its port off, is measured, and its tables load at once or at step 9 of the
start (R126, R130, R133, R258, R586, R608). DEDUCED, log entry 62. -/
def State.acceptHda (s : State) (h : Nat) (b : BringUp) : State :=
  let bs := b.bytes.getD []
  let d := parseDesc bs
  let same := sget s.nor.serials h [] == d.serial
  let s := (s.described h b).bringUpTemp h b.temp
  let s := s.setPort h fun x => { x with st := .accepted, hs := 3, sameSerial := same, onlyCtl := false }
  let s := { s with nor := { s.nor with serials := sset s.nor.serials h d.serial [] } }
  let fresh (m : Mu) : Mu :=
    { m with formatted := false, recovered := false, stopped := false, zeroed := m.zeroed && same, rewritten := if same then m.rewritten else [] }
  let s := ((s.updMu (2 * h) fresh).updMu (2 * h + 1) fresh).raise 18 0 2 h
  let s := (s.portOff h).measure (descEntry h d)
  if s.loadsAtOnce then s.loadHdaTables h else s

/-- The spin-up that an exit from HS3 asks for, if the fresh reading permits it (R577, R589). -/
def State.spinIfWarm (s : State) (h : Nat) (b : BringUp) : State :=
  let s := (s.described h b).bringUpTemp h b.temp
  let d := s.desc h
  let ok : Bool := match b.temp with | some t => decide (d.tSpinMin * 16 ≤ t) && decide (t ≤ d.tSpinMax * 16) | none => false
  if ok then (s.updHda h fun x => { x with spinWithheld := false }).askSpin h
  else ((s.updHda h fun x => { x with spinWithheld := true }).portOff h).failHs h 1

/-- Bring-up completes: the HDA is accepted, or at an exit from HS3 its spindle may start (R130, R577, R589). -/
def execHdaAccepted (h : HdaNo) (found : BringUp) (s : State) : Out :=
  if s.readingNow h then guarded (s.canBringUp && s.rejectOf found == 0) s (s.acceptHda h found)
  else guarded (s.exitingHs3 h && s.canBringUp && s.rejectOf found == 0) s (s.spinIfWarm h found)

/-- A supply failed before step `k` (R131). -/
def supplyBefore (b : BringUp) (k : Nat) : Bool := match b.supplyStep with | some n => decide (n < k) | none => false

/-- A step of the bring-up fails; the signature was verified once step 3 was passed, and by a failure of the signature itself (R125, R131); a transition that asked for it ends with MEDIA_UNIT_OFFLINE (R418, R589). -/
def State.rejectHda (s : State) (h : Nat) (b : BringUp) : State :=
  let r := s.rejectOf b
  let s := match b.parityBad with
    | some (a, reg) => if r == 6 then s.raise 11 (2 * h + a % 2) 5 reg else s
    | none => s
  let checked : Bool := r == 5 || (s.descReject b.bytes == 0 && !supplyBefore b 4)
  let sig := if checked then s.descSigOf (b.bytes.getD []) else 0
  let s := (s.portOff h).setPort h fun d => { d with st := .rejected, hs := 3, reject := r, descSig := sig, sameSerial := false, desc := none }
  (s.raise 18 0 3 (h + r * 16)).failHs h 0

/-- Bring-up fails: the HDA is rejected (R131). -/
def execHdaRejected (h : HdaNo) (found : BringUp) (s : State) : Out :=
  guarded ((s.readingNow h || s.exitingHs3 h) && s.canBringUp && s.rejectOf found != 0) s (s.rejectHda h found)

/-! ### Release and removal (R134, R135) -/

/-- A release has ended: the port domain is off (R134). -/
def State.release (s : State) (h : Nat) : State :=
  let c := (s.hda h).releaseCmd
  let s := (s.portOff h).setPort h fun d => { d with st := .released, hs := 3, sameSerial := false, releaseCmd := none, hsTransit := false, desc := none }
  let s := s.raise 18 0 4 h
  match c with
  | some t => s.complete t {}
  | none => s

/-- A release has drained, unloaded and stopped its HDA (R134). -/
def execHdaReleased (h : HdaNo) (s : State) : Out :=
  let d := s.hda h
  guarded (d.st == .releasing && d.srv.spin == .stopped && s.bothParked h && s.releaseDrained h) s (s.release h)

/-- What a removal leaves of an MU: its format and zones are unknown but for records of data it lost (R135, R616). -/
def Mu.removed (m : Mu) : Mu :=
  { m with formatted := false, recovered := false, stopped := false, zeroed := false, rewritten := [], fmt := {}
           act := { m.act with st := .parked, rdSettled := false, wrSettled := false }
           zones := (m.zones.map fun e => (e.1, ({ st := e.2.st, wp := e.2.wp, gen := e.2.gen, kdom := e.2.kdom, deferred := e.2.deferred, kept := true } : Zone))).filter
             fun e => e.2.deferred.isSome
           sch := { m.sch with destage := [], recovery := none, slipNext := none, systemRead := false, systemDue := false, sysTake := none
                               sysFails := 0, sysReadFails := 0, book := [], calib := none } }

/-- The commands of the two volumes in progress or queued anywhere, but for flushes, which complete as data is dropped (R135). -/
def State.removedCmds (s : State) (h : Nat) : List Nat :=
  s.cmdsWhere fun c => (c.pkt.vol == 2 * h || c.pkt.vol == 2 * h + 1) && c.phase != .flush

/-- One volume of a removed HDA loses its data and its lines (R135, R381, R490). -/
def State.loseVolume (s : State) (v : Nat) : State :=
  let s := (s.undestage v fun _ => true).loseZones v 2 (s.dirtyZones v)
  s.invalidateVolume v

/-- A surprise removal (R135). DEDUCED, log entry 49. -/
def State.surpriseRemoval (s : State) (h : Nat) : State :=
  let s := s.endAll { status := 0x0302 } (s.removedCmds h)
  let s := match (s.hda h).releaseCmd with | some t => s.complete t { status := 0x0302 } | none => s
  let s := (s.failHs h 0).endTune h true
  let s := (s.loseVolume (2 * h)).loseVolume (2 * h + 1)
  let s := ((s.failTake (2 * h)).failTake (2 * h + 1)).portOff h
  let s := (s.updMu (2 * h) Mu.removed).updMu (2 * h + 1) Mu.removed
  let s := s.setPort h fun d =>
    { d with st := .empty, present := false, hs := 3, desc := none, descSig := 0, sameSerial := false, releaseCmd := none, hsTransit := false }
  (s.forgetTemp h).raise 18 0 5 h

/-- A removal that loses nothing returns the port to EMPTY (R135). -/
def State.quietRemoval (s : State) (h : Nat) : State :=
  ((s.portOff h).setPort h fun d =>
    { d with st := .empty, present := false, hs := 3, reject := 0, descSig := 0, sameSerial := false, desc := none }).forgetTemp h

/-- HPRES_N has been high for 10 µs: the HDA is absent (R128, R135). -/
def execHdaRemoved (h : HdaNo) (s : State) : Out :=
  let d := s.hda h
  unheld (s.mns.busUp && d.present) s <|
    if s.mns.powerFail then s.updHda h fun d => { d with present := false }
    else if d.st == .accepted || d.st == .active || d.st == .releasing then s.surpriseRemoval h
    else s.quietRemoval h

/-! ### The preamplifier link (R108 to R117) -/

/-- The number that bits spell, first bit most significant. -/
def bitsNat (bs : List Bool) : Nat := bs.foldl (fun a b => a * 2 + flag b) 0

/-- The number of ones is odd (R109). -/
def oddOnes (bs : List Bool) : Bool := (bs.filter id).length % 2 == 1

/-- A write frame that the preamp has taken (R113): a G register waits for the next fall of WG while WG is asserted. -/
def State.paWrite (s : State) (m a v : Nat) : State :=
  s.updMu m fun x =>
    if isG a && x.was.wg then
      { x with pa := { x.pa with pendingG := x.pa.pendingG ++ [(a, BitVec.ofNat 16 v &&& BitVec.ofNat 16 (paMask x.pa.heads a))] } }
    else { x with pa := x.pa.put a v }

/-- A read frame that the module has taken: its parity decides whether the read took place (R112). -/
def State.paRead (s : State) (m a v : Nat) (ok : Bool) : State :=
  if ok then s.updMu m fun x => { x with tsq := { x.tsq with linkParity := false, v := sset x.tsq.v 13 (BitVec.ofNat 32 v) 0 } }
  else (s.updMu m fun x => { x with tsq := { x.tsq with linkParity := true } }).raise 11 m 5 a

/-- The lowest `n` bits of `v`, most significant first, as a frame carries them (R108). -/
def natBits : Nat → Nat → List Bool
  | 0, _ => []
  | n + 1, v => v.testBit n :: natBits n v

/-- Bits with the PAR that makes their ones odd in number (R109). -/
def withPar (bs : List Bool) : List Bool := bs ++ [!oddOnes bs]

/-- Bits as they arrive when the line changes those that `flips` marks. -/
def flipBits : List Bool → List Bool → List Bool
  | b :: bs, f :: fs => (b != f) :: flipBits bs fs
  | bs, _ => bs

/-- The bits that the module drives in a frame, cycle 1 first: RNW and ADDR, and in a write frame DATA and PAR (R109). -/
def LinkFrame.driven (f : LinkFrame) : List Bool :=
  if f.read then true :: natBits 7 f.addr else false :: withPar (natBits 7 f.addr ++ natBits 16 f.data.toNat)

/-- Cycles of a frame (R109). -/
def LinkFrame.cycles (f : LinkFrame) : Nat := if f.read then 26 else 25

/-- The largest code that the descriptor allows in a register (R114, R123). -/
def codeMax (d : Desc) (a : Nat) : Option Nat :=
  if a == 0x08 then some d.astLimMax
  else if 0x20 ≤ a && a < 0x70 then
    match (a - 0x20) % 8 with
    | 0 => some d.iwMax | 2 => some d.rbiasMax | 3 => some d.rbiasMax | 5 => some d.htrMax | 6 => some d.htrMax | 7 => some d.astSetMax | _ => none
  else none

/-- The DATA that a frame to register `a` carries for `v`: zeros in RSVD fields, and no code above the descriptor's maximum (R114). DEDUCED, log entry 103. -/
def State.linkData (s : State) (m a v : Nat) : BitVec 16 :=
  let w := if a == 4 then v % 1024 else (BitVec.ofNat 16 v &&& BitVec.ofNat 16 (paMask (s.headsOf m) a)).toNat
  BitVec.ofNat 16 (match codeMax (s.desc (m / 2)) a with | some k => Nat.min w k | none => w)

/-- A register whose value the preamp measures: PA_TEMP, PA_SUPPLY, PA_AST_MON (R114). -/
def liveMask (a : Nat) : Nat := if a == 5 then 0x03FF else if a == 6 then 0xFFFF else if a == 7 then 0x0FFF else 0

/-- What a read of register `a` finds: `live` is the preamp's present measurement, where the register holds one; a bank at or above HEADS reads as
zero, as does every RSVD register (R114, R115). -/
def Preamp.reading (p : Preamp) (a live : Nat) : BitVec 16 :=
  if liveMask a != 0 then BitVec.ofNat 16 live &&& BitVec.ofNat 16 (liveMask a)
  else if 0x20 ≤ a && paMask p.heads a == 0 then 0
  else sget p.regs a 0

/-- The preamp after register `a` has been read: a measurement stands in its register. -/
def Preamp.readAt (p : Preamp) (a live : Nat) : Preamp :=
  if liveMask a == 0 then p else { p with regs := sset p.regs a (p.reading a live) 0 }

/-- One assist cut for the assist bits that PA_STAT shows: one event for each (R234). -/
def State.assistBit (s : State) (m stat b kind : Nat) : State := if bit stat b then s.raise 11 m kind 0 else s

/-- A falling edge of PFLT with `stat` newly set in PA_STAT: the write gate cut, one PREAMP_FAULT that records PA_STAT, and one assist cut with an
event for each assist bit (R117, R118, R234). -/
def State.preampFault (s : State) (m stat : Nat) : State :=
  let all := (sget (s.mu m).pa.regs 4 0 ||| BitVec.ofNat 16 (stat % 1024)).toNat
  let s := s.updMu m fun x =>
    { x with pa := { x.pa with regs := sset x.pa.regs 4 (BitVec.ofNat 16 all) 0, pflt := true }, was := { x.was with clearDue := true } }
  let s := (s.cutGate m).raise 11 m 4 all
  let cut := bit all 4 || bit all 5 || bit all 6
  let s := if cut then (s.updMu m fun x => { x with was := { x.was with astCut := true } }).bump 11 m (aWas m 0x0C) else s
  ((s.assistBit m all 4 6).assistBit m all 5 7).assistBit m all 6 8

/-- The preamp sets bits of PA_STAT: PFLT falls, unless it is asserted already (R117). -/
def State.setStat (s : State) (m stat : Nat) : State :=
  if (s.mu m).pa.pflt then s.updMu m fun x => { x with pa := { x.pa with regs := supd x.pa.regs 4 0 (· ||| BitVec.ofNat 16 (stat % 1024)) } }
  else s.preampFault m stat

/-- The effect of a whole frame: `flips` marks the bits that the line changed among those of ADDR, DATA and PAR in a write frame, of DATA and PAR in
a read frame (R109, R112, R113). -/
def State.frameEnd (s : State) (m : Nat) (f : LinkFrame) (flips : List Bool) (live : Nat) : State :=
  if f.read then
    let v := (s.mu m).pa.reading f.addr live
    let got := flipBits (withPar (natBits 16 v.toNat)) flips
    (s.updMu m fun x => { x with pa := x.pa.readAt f.addr live }).paRead m f.addr (bitsNat (got.take 16)) (oddOnes got)
  else
    let got := flipBits (f.driven.drop 1) flips
    if oddOnes got then s.paWrite m (bitsNat (got.take 7)) (bitsNat ((got.drop 7).take 16))
    else s.setStat m 0x200

/-- The frame under way ends as PSEL falls, after some of its cycles: a frame cut short is void (R108 to R113). DEDUCED, log entry 103. -/
def execPreampFrameEnd (mu : MuNo) (frame : FrameIn) (s : State) : Out :=
  match (s.mu mu).tsq.frames with
  | [] => .next s
  | f :: r =>
    guarded (sget s.pwr.port ((mu : Nat) / 2) {}).on s <|
      let s := s.updMu mu fun x => { x with tsq := { x.tsq with frames := r, linkBusy := !r.isEmpty } }
      if frame.cycles < f.cycles then s else s.frameEnd mu f frame.flips frame.live

/-- The preamp sets the bits `stat` of PA_STAT for faults that it finds (R114, R117, R118). -/
def execPreampFault (mu : MuNo) (stat : Nat) (s : State) : Out :=
  unheld (stat % 1024 != 0 && stat < 1024 && (sget s.pwr.port ((mu : Nat) / 2) {}).on) s (s.setStat mu stat)

/-! ### What the preamp does with its registers (R116) -/

/-- MODE of PA_CTL. -/
def Preamp.mode (p : Preamp) : Nat := (sget p.regs 2 0).toNat % 4
/-- A bit of PA_STAT. -/
def Preamp.stat (p : Preamp) (i : Nat) : Bool := (sget p.regs 4 0).getLsbD i
/-- Write current passes: MODE is 3 and WG is asserted; WR_SHORT cuts it. -/
def Mu.writeCurrent (m : Mu) : Bool := m.pa.mode == 3 && m.was.wg && !m.pa.stat 1
/-- The assist is driven: MODE is 3, AST_ARM is 1 and AE is asserted; AST_OVERPOWER, AST_OVERCURRENT and AST_NOWG cut it. -/
def Mu.assistDriven (m : Mu) : Bool := m.pa.mode == 3 && (sget m.pa.regs 2 0).getLsbD 3 && m.was.ae && !m.pa.stat 4 && !m.pa.stat 5 && !m.pa.stat 6
/-- Reader bias passes: MODE is 2 or 3. -/
def Mu.readerBias (m : Mu) : Bool := 2 ≤ m.pa.mode
/-- The heater code driven for the selected head: none while HTR_EN is 0. -/
def Mu.heaterCode (m : Mu) : Option (BitVec 16) :=
  let b := 0x20 + 8 * (sget m.pa.regs 3 0).toNat
  if !(sget m.pa.regs 2 0).getLsbD 2 then none else some (sget m.pa.regs (b + if m.was.wg then 6 else 5) 0)

end Sys2Proof.Machine
end

