-- ==== Sys2Proof/Machine/Clock.lean ====
section
/-! DEFINITION. The rotation-locked clock and the spindle governor (R33, R34, R120, R151 to R161, R264, R267, R292, R558). -/

namespace Sys2Proof.Machine

/-! ### Bands (R155, R156) -/

/-- The band that contains a speed in units of 0.25 rpm (R155). -/
def bandOfSpeed (v : Nat) : Nat := if v < 19200 then 0 else Nat.min 11 ((v - 19200) / 800)

/-- The band after a measurement, with the hysteresis of R155. -/
def bandAfter (b v : Nat) : Nat :=
  if b < 11 && 19200 + 800 * (b + 1) + 40 ≤ v then b + 1
  else if 0 < b && v + 40 < 19200 + 800 * b then b - 1
  else b

/-- The speed lies in the range of lock, 4,700 to 7,300 rpm (R151). -/
def lockRange (v : Nat) : Bool := 18800 ≤ v && v ≤ 29200

/-- CLK counters of HDA `h`. -/
def aClk (h ofs : Nat) : Nat := 0x010D0000 + h * 0x20 + ofs

/-- A band is decided: it is in force, SRV switches at the next wedge 0 sample, and takes in progress see the change (R156, R161). -/
def State.setBand (s : State) (h b : Nat) : State :=
  if (s.hda h).clk.band == b then s
  else
    let s := s.updHda h fun d => { d with clk := { d.clk with band := b, servoBandDue := 2 } }
    let mark (m : Mu) : Mu := if m.tsq.desc.isSome then { m with tsq := { m.tsq with bandChanged := true } } else m
    ((s.updMu (2 * h) mark).updMu (2 * h + 1) mark).raise 13 h 3 b

/-- Lock is declared: the seek-jitter register is seeded (R264), COMM_OFS is measured at the first lock of a spin-up (R254, R267), and the band is
assigned (R155, R156). At a later lock the band is likewise the one that contains the speed: R156 speaks of an assignment there and does not say
whether the hysteresis of R155 takes part in it. DESIGN CHOICE, log entry 104. -/
def State.declareLock (s : State) (h speed : Nat) : State :=
  let (ofs, s) := s.draw
  let s := s.updHda h fun d =>
    { d with clk := { d.clk with lock := .locked, islandLocked := false, goodRevs := 0, mismatches := 0 }
             srv := { d.srv with
               lfsr := match d.srv.lfsr with | some x => some x | none => some (BitVec.ofNat 16 d.clk.markCnt.toNat ||| 1#16)
               commOfs := if d.srv.spin == .starting && !d.srv.commDone then ofs % 65536 else d.srv.commOfs
               commDone := d.srv.commDone || d.srv.spin == .starting } }
  s.setBand h (bandOfSpeed speed)

/-- The acquisition of lock at one index edge (R151). -/
def State.acquire (s : State) (h marks speed : Nat) (edgesOk : Bool) : State :=
  let c := (s.hda h).clk
  let put (f : Clk → Clk) : State := s.updHda h fun d => { d with clk := f d.clk }
  match c.lock with
  | .stopped =>
    if !lockRange speed then put fun c => { c with goodIntervals := 0 }
    else if c.goodIntervals == 0 then put fun c => { c with goodIntervals := 1 }
    else put fun c => { c with lock := .acquiring, goodIntervals := 0, goodRevs := 0 }
  | .acquiring =>
    if !lockRange speed then put fun c => { c with lock := .stopped, goodIntervals := 0, goodRevs := 0 }
    else if !(marks == 32768 && edgesOk) then put fun c => { c with goodRevs := 0 }
    else if c.goodRevs == 0 then put fun c => { c with goodRevs := 1 }
    else s.declareLock h speed
  | .locked =>
    let s := if c.islandLocked then s else put fun c => { c with islandLocked := true, symRunning := true, gatesPermitted := false }
    if marks == 32768 && lockRange speed then s.setBand h (bandAfter c.band speed) else s

/-- Test 4 of R558: back-EMF speed in rpm against CLK speed, at an index edge while CLK is LOCKED. DEDUCED, log entry 22. -/
def State.compareSpeed (s : State) (h speed bemf : Nat) : State :=
  let n := (s.hda h).clk.mismatches
  if ((bemf * 4 : Nat) : Int) - speed ≤ 200 && (speed : Int) - (bemf * 4 : Nat) ≤ 200 then
    (s.updHda h fun d => { d with clk := { d.clk with mismatches := 0 } }).latentPass 4
  else
    let s := s.updHda h fun d => { d with clk := { d.clk with mismatches := Nat.min 3 (n + 1) } }
    if n == 1 then (s.raise 12 h 9 (bemf % 65536 + speed / 4 * 65536)).latentFail 12 h 4 h else s

/-- An index edge: `marks` counted since the last, the speed of the revolution in units of 0.25 rpm, whether every mark edge
fell within ±2 % of its prediction, and the back-EMF speed in rpm (R120, R151, R156). -/
def execClkIndexEdge (h : HdaNo) (marks speed : Nat) (edgesOk : Bool) (bemf : Nat) (s : State) : Out :=
  guarded (sget s.pwr.port h {}).on s <|
    let s := s.updHda h fun d =>
      { d with clk := { d.clk with markCnt := d.clk.markCnt + BitVec.ofNat 32 marks, prev := d.clk.meas, meas := speed }, srv := { d.srv with bemf := bemf } }
    let s := if marks == 32768 then s else (s.raise 13 h 2 (marks % 2 ^ 17)).bump 13 h (aClk h 0x0C)
    let locked := (s.hda h).clk.lock == .locked
    let s := s.acquire h marks speed edgesOk
    (if locked then s.compareSpeed h speed bemf else s).overspeed h

/-- 20 µs after the symbol clocks start, gates may open and the sequencers are IDLE (R151, R292). -/
def execSymbolClockSettled (h : HdaNo) (s : State) : Out :=
  guarded ((s.hda h).clk.symRunning && !(s.hda h).clk.gatesPermitted) s <|
    let s := s.updHda h fun d => { d with clk := { d.clk with gatesPermitted := true } }
    let up (m : Mu) : Mu := if m.tsq.st == .stopped then { m with tsq := { m.tsq with st := .idle } } else m
    (s.updMu (2 * h) up).updMu (2 * h + 1) up

/-- The clocks of an HDA stop: the island runs on the fallback clock and both sequencers are STOPPED (R34, R292). -/
def State.stopClocks (s : State) (h : Nat) : State :=
  let s := s.updHda h fun d =>
    { d with clk := { d.clk with lock := .stopped, goodIntervals := 0, goodRevs := 0, islandLocked := false, symRunning := false, gatesPermitted := false } }
  let stop (m : Mu) : Mu := { m with tsq := { m.tsq with st := .stopped } }
  (s.updMu (2 * h) stop).updMu (2 * h + 1) stop

/-- Every head is PARKED and the spindle is being stopped: lock ends without a loss (R152). -/
def State.stoppingParked (s : State) (h : Nat) : Bool :=
  s.bothParked h && ((s.hda h).srv.spin == .stopping || (s.hda h).srv.spin == .coasting)

/-- The last sector that waits for its sample was still being written at the first mark edge that was absent or misplaced: it
does not count (R235). -/
def Was.notClocked (w : Was) (late : Bool) : Was := if late then { w with awaiting := w.awaiting.dropLast } else w

/-- A loss of lock: both gates are cut, the takes in progress fail, the symbol clocks stop (R45, R152). DEDUCED, log entry 63. -/
def State.loseLock (s : State) (h case : Nat) (lateA lateB : Bool) : State :=
  let s := s.updMu (2 * h) fun x => { x with was := x.was.notClocked lateA }
  let s := s.updMu (2 * h + 1) fun x => { x with was := x.was.notClocked lateB }
  let s := (s.cutGate (2 * h)).cutGate (2 * h + 1)
  let s := (s.failTake (2 * h)).failTake (2 * h + 1)
  ((s.stopClocks h).raise 13 h 1 case).bump 13 h (aClk h 0x10)

/-- A locked CLK meets one of the three cases of R152, 1 to 3 in their order; `lateA` and `lateB` say that the last pad symbol written
by each actuator came after the mark edge that CLK declares as the loss (R235). DEDUCED, log entry 63. -/
def execClkLockLost (h : HdaNo) (case : Nat) (lateA lateB : Bool) (s : State) : Out :=
  unheld ((s.hda h).clk.lock == .locked && 1 ≤ case && case ≤ 3) s
    (if s.stoppingParked h then s.stopClocks h else s.loseLock h case lateA lateB)

/-- The new symbol clock of an actuator is in phase: the sequencer resumes (R154, R292). -/
def execKChangeDone (mu : MuNo) (s : State) : Out :=
  guarded ((s.mu mu).tsq.st == .held) s <|
    s.updMu mu fun m => { m with tsq := { m.tsq with st := if m.tsq.desc.isSome then .running else .idle } }

/-! ### The governor (R157 to R160) -/

/-- SCH queue depth of an HDA's MUs, the greater (R158). -/
def State.queueDepth (s : State) (h : Nat) : Nat := Nat.max (s.mu (2 * h)).sch.queue.length (s.mu (2 * h + 1)).sch.queue.length

/-- PRESSURE of the window that ends (R158). -/
def State.pressureOf (s : State) (h : Nat) : Bool := (s.hda h).gov.pressure || (s.writeWaits && s.overSixteenth h)

/-- The governor after an evaluation: the feature's parameters, the measured speed in rpm, BUSY, QD and PRESSURE (R157, R158). DEDUCED, log entry 63. -/
def Gov.eval (g : Gov) (v0 v1 v2 v3 rpm busy qd : Nat) (pressure : Bool) : Gov :=
  let lo := bits v1 15 0
  let hi := bits v1 31 16
  if !bit v0 0 then { target := bits v0 31 16, following := false, quiet := 0 }
  else if !g.following then { target := Nat.min hi (Nat.max lo (rpm / 100 * 100)), following := true, quiet := 0 }
  else
    let calm := busy ≤ bits v2 15 8 && qd ≤ bits v3 26 16
    let quiet := if calm then g.quiet + 1 else 0
    let clamp (t : Nat) : Nat := Nat.min hi (Nat.max lo t)
    if pressure then { target := hi, following := true, quiet := quiet }
    else if bits v2 7 0 ≤ busy || bits v3 10 0 ≤ qd then { target := clamp (g.target + 400), following := true, quiet := quiet }
    else if bits v2 23 16 ≤ quiet then { target := clamp (g.target - 200), following := true, quiet := 0 }
    else { target := clamp g.target, following := true, quiet := quiet }

/-- The end of a 2 s window: `busy` is the busy percentage that the window shows (R158). DESIGN CHOICE, log entry 7. -/
def execGovernorEval (h : HdaNo) (busy : Nat) (s : State) : Out :=
  guarded (busy ≤ 100) s <|
    let g := (s.hda h).gov.eval (s.feat0 0x02 h) (s.feat1 0x02 h) (s.feat2 0x02 h) (s.feat3 0x02 h) ((s.hda h).clk.meas / 4) busy (s.queueDepth h)
      (s.pressureOf h)
    ((s.updHda h fun d => { d with gov := g }).seePressure).retarget h

/-- The spindle reaches the speed it is driven towards (R159). -/
def execSpeedTargetReached (h : HdaNo) (s : State) : Out :=
  let d := s.hda h
  guarded (d.clk.slewing && s.driven h && d.clk.within2 (s.speedTarget h)) s ((s.updHda h fun d => { d with clk := { d.clk with slewing := false } }).settleHs h)

end Sys2Proof.Machine
end

