-- ==== Sys2Proof/Machine/Loops.lean ====
section
/-! DEFINITION. The arithmetic of the servo engine: Q15 sections, demodulation, the loops of actuators and spindle
(R246 to R254, R259, R262). -/

namespace Sys2Proof.Machine

/-! ### Q15 arithmetic (R246) -/

/-- A value saturated to an interval, and 1 when it was saturated. -/
def satTo (lo hi x : Int) : Int × Nat := if x < lo then (lo, 1) else if hi < x then (hi, 1) else (x, 0)
/-- Saturation to Q15. -/
def satQ (x : Int) : Int × Nat := satTo (-32768) 32767 x
/-- Saturation of the 40-bit accumulator. -/
def sat40 (x : Int) : Int × Nat := satTo (-(2 ^ 39 : Nat)) (2 ^ 39 - 1 : Nat) x
/-- A Q30 accumulator shifted left by `sh` with saturation, rounded to Q15 with ties away from zero, not yet saturated. -/
def toQ15 (acc : Int) (sh : Nat) : Int × Nat :=
  let (a, n) := sat40 (acc * (2 ^ sh : Nat))
  (roundHalfAway a 32768, n)
/-- A gain of raw value `k` and shift `sh` applied to a Q15 value. -/
def gain (k : Int) (sh : Nat) (x : Int) : Int × Nat :=
  let (y, n) := toQ15 (k * x) sh
  let (z, m) := satQ y
  (z, n + m)

/-- One biquad section at word `a` of a set, direct form I: output, histories, saturations. -/
def biquad (w : Nat → Int) (a : Nat) (h : BiqHist) (x : Int) : Int × BiqHist × Nat :=
  let (acc, n0) := sat40 (w a * x + w (a + 1) * h.x1 + w (a + 2) * h.x2 - w (a + 3) * h.y1 - w (a + 4) * h.y2)
  let (y, n1) := toQ15 acc ((w (a + 5)).toNat % 8)
  let (z, n2) := satQ y
  (z, { x1 := x, x2 := h.x1, y1 := z, y2 := h.y1 }, n0 + n1 + n2)

/-- A cascade of `n` sections from word `a`; without sections the input passes unchanged. -/
def cascade (w : Nat → Int) : Nat → Nat → List BiqHist → Int → Int × List BiqHist × Nat
  | 0, _, _, x => (x, [], 0)
  | n + 1, a, hs, x =>
    let (y, h, c) := biquad w a (hs.headD {}) x
    let (z, r, d) := cascade w n (a + 8) hs.tail y
    (z, h :: r, c + d)

/-! ### Demodulation (R247 to R249) -/

/-- The number that `n` Gray-coded bits stand for. -/
def grayDecode : Nat → Nat → Nat
  | 0, _ => 0
  | n + 1, g => (g ^^^ grayDecode n (g / 2))

/-- The fraction of a reader position in 1/4,096 track; `free` stands where R248 states none. DEDUCED, log entry 69. -/
def burstFrac (r : ReaderIn) (free : Nat) : Int :=
  let n : Int := (r.a : Int) - r.b
  let q : Int := (r.c : Int) - r.d
  let s := n.natAbs + q.natAbs
  if s == 0 then ((free % 4097 : Nat) : Int) - 2048
  else if n.natAbs ≤ q.natAbs then roundHalfAway (n * 4096) (2 * s)
  else roundHalfAway (n * 4096 * (if q == 0 then (if bit free 0 then 1 else -1) else q.sign)) (2 * s)

/-- The position of a reader in 1/4,096 track. -/
def readerPos (r : ReaderIn) (free : Nat) : Int := ((grayDecode 24 r.gray * 4096 : Nat) : Int) + burstFrac r free

/-- The even parity of R247 checks over `n` bits and their parity bit. -/
def evenParity (n : Nat) (p : Bool) : Bool := ((List.range 5).filter fun i => bit n i).length % 2 == flag p

/-- Bits in which two patterns of a servo sync mark differ. -/
def syncErrors (x : BitVec 32) : Nat := ((List.range 32).filter fun i => (x ^^^ 0xF0A5C93E#32).getLsbD i).length

/-- The sync mark lies within 8 servo symbols of its predicted position with at most 2 bits in error (R247, R249). -/
def syncOk (r : ReaderIn) : Bool := r.syncAt.natAbs ≤ 8 && syncErrors r.sync ≤ 2

/-- The reader's demodulation is valid (R249): `near` is the check of the track identity. -/
def readerValid (r : ReaderIn) (wedge burstMin : Nat) (near : Nat → Bool) : Bool :=
  syncOk r && evenParity (r.wedge / 32) r.parityHi && evenParity (r.wedge % 32) r.parityLo && r.wedge == wedge
    && near (grayDecode 24 r.gray) && burstMin ≤ r.a + r.b + r.c + r.d

/-- The track identity lies within ±(2 + |v| ÷ 4) tracks of the predicted one; positions in 1/4,096 track (R249). -/
def nearTrack (predicted v : Int) (track : Nat) : Bool :=
  let p := (predicted + 2048) / 4096
  (((track : Int) - p).natAbs) * 16384 ≤ 32768 + v.natAbs

/-- The mean over the valid readers, less their offsets; none when neither is valid (R248, R249). DEDUCED, log entry 69. -/
def meanPos (v0 v1 : Bool) (p0 p1 : Int) : Option Int :=
  match v0, v1 with
  | true, true => some (roundHalfAway (p0 + p1) 2)
  | true, false => some p0
  | false, true => some p1
  | false, false => none

/-! ### The drivers (R253) -/

/-- The current of a VCM command in 1/32,768 mA: 3.0 A full scale, clamped to ±VCM_IMAX. -/
def vcmDrive (a : ActDesc) (u : Int) : Int := clampI (-((a.vcmImax * 32768 : Nat) : Int)) (a.vcmImax * 32768 : Nat) (u * 3000)
/-- The voltage of a microactuator command in 1/327,680 V: 24 V full scale, clamped to ±MA_VMAX, which is in 0.1 V. -/
def maDrive (a : ActDesc) (u : Int) : Int := clampI (-((a.maVmax * 32768 : Nat) : Int)) (a.maVmax * 32768 : Nat) (u * 240)

/-! ### The loops of an actuator (R251 to R253, R259) -/

/-- What one evaluation of R251 gives. -/
structure LoopOut where
  e : Int := 0
  xv0 : Int := 0
  xv : Int := 0
  uV0 : Int := 0
  uM : Int := 0
  yMM : Int := 0
  vcm : List BiqHist := []
  ma : List BiqHist := []
  model : BiqHist := {}
  sats : Nat := 0
deriving DecidableEq, Repr

/-- Word of a set, signed. -/
def Srv.setWord (v : Srv) (act band : Nat) (i : Nat) : Int := v.i (actSet act band + i)

/-- The index by track of the friction and jog tables (R251, R259). -/
def Srv.fricIndex (v : Srv) (act band track : Nat) : Nat := Nat.min 255 (track / 2 ^ (v.w (actSet act band + 0x00A) % 16))

/-- FRIC at a track. -/
def Srv.fric (v : Srv) (act band track : Nat) : Int := v.i (0x3600 + act * 0x100 + v.fricIndex act band track)
/-- WRRO (0) or RRO_FF (1) of a head and wedge. -/
def Srv.rro (v : Srv) (act head wedge k : Nat) : Int := v.i (0x3800 + (act * 10 + head) * 0x500 + 2 * wedge + k)
/-- J0 (0) or J1 (1) of a head at a track. -/
def Srv.jog (v : Srv) (act band head track k : Nat) : Int := v.i (0x9C00 + (act * 10 + head) * 0x200 + 2 * v.fricIndex act band track + k)

/-- The mean offset of the readers from the writer at a track: what a change of the controlled point moves it by (R248, R262). -/
def Srv.meanJog (v : Srv) (act band head track : Nat) : Int := roundHalfAway (v.jog act band head track 0 + v.jog act band head track 1) 2

/-! ### The seek law (R262) -/

/-- The greatest number whose cube is at most `n`, built from bit `k` down. -/
def cubeRoot (n : Nat) : Nat → Nat → Nat
  | 0, r => r
  | k + 1, r => let q := r + 2 ^ k; cubeRoot n k (if q * q * q ≤ n then q else r)

/-- Breakpoint `i` of the seek tables, 2^(i/3) tracks, in 1/4,096 track. -/
def breakpoint (i : Nat) : Nat := cubeRoot (2 ^ (i + 36)) 40 0

/-- A seek table read at a distance in 1/4,096 track: linear between breakpoints, the last entry above the last, the first below the first.
DESIGN CHOICE, log entry 107. -/
def interpSeek (t : Nat → Nat) (d : Nat) : Nat :=
  let i := Nat.log2 (d * d * d) - 36
  if d < 4096 then t 0
  else if 63 ≤ i then t 63
  else
    let lo := breakpoint i
    let hi := breakpoint (i + 1)
    ((t i : Int) + (((t (i + 1) : Int) - t i) * ((d : Int) - lo)).tdiv ((hi : Int) - lo)).toNat

/-- SEEK_VEL at a distance, in 1/16 track per sample. -/
def Srv.seekVel (v : Srv) (act band d : Nat) : Nat := interpSeek (fun i => v.w (actSet act band + 0x0A8 + i)) d
/-- SEEK_TIME of a distance, in samples (R264). -/
def Srv.seekTime (v : Srv) (act band d : Nat) : Nat := interpSeek (fun i => v.w (actSet act band + 0x100 + i)) d

/-- The velocity-loop command of a seek: K_SEEK on the difference of the reference speed, towards the target, and the estimate, both in 1/16 track
per sample. DESIGN CHOICE, log entry 107. -/
def Srv.seekLaw (v : Srv) (act band : Nat) (dtg vEst : Int) : Int :=
  let w := v.setWord act band
  let x := dtg.sign * v.seekVel act band dtg.natAbs - roundHalfAway vEst 256
  (gain (w 0x00C) ((w 0x00D).toNat % 8) (satQ x).1).1

/-- R251 for an actuator in SETTLING, FOLLOWING or TUNING: `err` is target − pos, `inj` the injection at points 1 to 4. DEDUCED, log entry 69. -/
def followLoop (v : Srv) (act band wedge track : Nat) (a : Act) (err : Int) (inj : Nat → Int) : LoopOut :=
  let w := v.setWord act band
  let counts := v.w (actSet act band + 1)
  let (e, c0) := satQ (err + v.rro act a.head wedge 0)
  let (xm, c1) := satQ (e + inj 3)
  let (ym, ma, c2) := cascade w (bits counts 6 4) 0x060 a.maHist xm
  let (gm, c3) := gain (w 0x004) ((w 0x005).toNat % 8) ym
  let (uM, c4) := satQ (gm + inj 4)
  let (y, model, c5) := biquad w 0x080 a.modelHist uM
  let (xv0, c6) := satQ (e + y)
  let (xv, c7) := satQ (xv0 + inj 1)
  let (yv, vcm, c8) := cascade w (bits counts 3 0) 0x020 a.vcmHist xv
  let (gv, c9) := gain (w 0x002) ((w 0x003).toNat % 8) yv
  let (ff, c10) := gain (w 0x008) 0 (v.rro act a.head wedge 1)
  let (uV0, c11) := satQ (gv + v.fric act band track + ff + inj 2)
  { e := e, xv0 := xv0, xv := xv, uV0 := uV0, uM := uM, yMM := y, vcm := vcm, ma := ma, model := model
    sats := c0 + c1 + c2 + c3 + c4 + c5 + c6 + c7 + c8 + c9 + c10 + c11 }

/-- R252: the coupling term of an actuator from the other's u_v0, the command with it, histories, saturations. -/
def coupling (v : Srv) (act band : Nat) (hs : List BiqHist) (own other : Int) : Int × Int × List BiqHist × Nat :=
  let w := v.setWord act band
  let (y, h, c0) := cascade w (bits (v.w (actSet act band + 1)) 9 7) 0x088 hs other
  let (t, c1) := toQ15 (w 0x006 * y) ((w 0x007).toNat % 8)
  let (u, c2) := satQ (own + t)
  (t, u, h, c0 + c1 + c2)

/-- The command with its bump, and what remains of the bump (R260). DEDUCED, log entry 70. -/
def bumped (u bump : Int) (shift : Nat) : Int × Int := ((satQ (u + bump)).1, bump - bump / (2 ^ shift : Nat))

/-! ### The spindle loop (R254) -/

/-- One evaluation of R254: the amplitude and the integrator. COG acts while CLK is locked (R259). DEDUCED, log entry 70. -/
def spinLoop (v : Srv) (band mark : Nat) (locked : Bool) (err : Int) : Int × Int :=
  let w (i : Nat) : Int := v.i (0x3000 + band * 0x20 + i)
  let shifted (k sh : Nat) : Int := w k * err * (2 ^ ((w sh).toNat % 8) : Nat)
  let integ := (sat40 (v.integ + shifted 3 4)).1
  let cog : Int := if locked then w 5 * v.i (0x3200 + mark / 32 % 1024) else 0
  let acc := (sat40 (shifted 1 2 + integ + cog)).1
  ((satQ (roundHalfAway acc 32768)).1, integ)

/-- The phase current in mA of an amplitude, limited to SP_IMAX. DEDUCED, log entry 70. -/
def phaseMA (amp : Int) (spImax : Nat) : Nat := (clampI 0 spImax (amp * 4000 / 32768)).toNat

/-- 200 rpm per second as a step of one sample in 1/65,536 rpm, from the measured speed in 0.25 rpm: 640 samples a revolution (R159). DESIGN CHOICE, log entry 104. -/
def refStep (meas : Nat) : Nat := if meas = 0 then 0 else 4915200 / meas

/-- The speed reference moved towards the target, both in 1/65,536 rpm (R159, R160). DEDUCED, log entry 70. -/
def moveRef (ref target step : Nat) : Nat := if ref < target then Nat.min target (ref + step) else Nat.max target (ref - step)

end Sys2Proof.Machine
end

