-- ==== Sys2Proof/Machine/Takeup.lean ====
section
/-! DEFINITION. The issue of a take and the loads of its channel and write entries (R185 to R188, R216 to R221, R229 to R231,
R240, R289, R434, R435). -/

namespace Sys2Proof.Machine

/-! ### Table entries (R186, R187, R217, R218) -/

/-- Index of the entry of a head, rate zone and band (R185, R216). -/
def entryIndex (head rz band : Nat) : Nat := (head * 64 + rz) * 12 + band

/-- TAG of a valid entry (R186, R217). -/
def entryTag (head rz band : Nat) : Nat := head + rz * 16 + band * 1024 + 0x8000

/-- A channel entry passes R187 for a head, rate zone and band. -/
def chanEntryOk (d : Desc) (head rz band : Nat) (e : List Byte) : Bool :=
  e.length == 256 && field e 0 2 == entryTag head rz band && field e 252 4 == (crc32c (e.take 252)).toNat
    && field e 16 2 ≤ d.rbiasMax && field e 18 2 ≤ d.rbiasMax

/-- A write entry passes R218. -/
def writeEntryOk (d : Desc) (head rz band : Nat) (e : List Byte) : Bool :=
  e.length == 128 && field e 0 2 == entryTag head rz band && field e 124 4 == (crc32c (e.take 124)).toNat
    && field e 2 1 ≤ d.iwMax && field e 4 1 < 16 && field e 6 2 ≤ d.htrMax && field e 8 2 ≤ d.htrMax && field e 14 2 ≤ d.astSetMax
    && field e 20 2 ≤ field e 16 2 && field e 16 2 ≤ d.astLimMax && field e 20 2 ≤ 4095
    && ((List.range 16).all fun i => (-32 : Int) ≤ ofTwos 8 (field e (24 + i) 1) && ofTwos 8 (field e (24 + i) 1) ≤ 31)
    && field e 5 1 == 0 && field e 13 1 == 0 && field e 19 1 == 0 && ((e.drop 40).take 84).all (· == 0)

/-! ### Delays (R221) -/

/-- Symbols per second times 480, from K of the rate zone and the measured speed in units of 0.25 rpm (R221). -/
def rate480 (k meas : Nat) : Nat := k * meas

/-- WD delay in 1/64 symbol (R221). -/
def wddOf (ps r480 : Nat) : Nat := (ps * r480 * 64 * 2 + 480 * 10 ^ 12) / (2 * 480 * 10 ^ 12)
/-- A delay in ns as whole symbols, rounded up (R221). -/
def ceilSymbols (ns r480 : Nat) : Nat := (ns * r480 + 480 * 10 ^ 9 - 1) / (480 * 10 ^ 9)
/-- The bridged interval of 1.8 µs in whole symbols (R221, R222). -/
def bridgeOf (r480 : Nat) : Nat := 1800 * r480 / (480 * 10 ^ 9)

/-- K of a head's rate zone on an MU. -/
def State.kOf (s : State) (m head rz : Nat) : Nat := (sget (s.mu m).fmt.rateZones (head * 64 + rz) {}).k

/-- Registers written in turn over the link while WG is low. -/
def State.paWrites (s : State) (m : Nat) : List (Nat × Nat) → State
  | [] => s
  | (a, v) :: r => (s.paWrite m a v).paWrites m r

/-! ### TAKE_ISSUE (R289, R435) -/

/-- SCH counters of MU `m`. -/
def aSch (m ofs : Nat) : Nat := 0x01040000 + m * 0x20 + ofs

/-- The sequencer is IDLE and may start a routine (R47, R278, R289, R314). -/
def State.mayIssue (s : State) (m : Nat) : Bool :=
  let x := s.mu m
  x.tsq.st == .idle && x.tsq.desc.isNone && !x.stopped && x.act.loaded && x.act.st != .tuning && s.store.swap.isNone && !s.mns.powerFail
    && !s.thp.shutdown && (s.hda (m / 2)).clk.gatesPermitted

/-- The surface and rate zone under an actuator's head. -/
def Clk.zoneOf (c : Clk) (act : Nat) : Nat × Nat := if act == 0 then (c.surfA, c.zoneA) else (c.surfB, c.zoneB)
/-- The surface and rate zone under an actuator's head changed. -/
def Clk.withZone (c : Clk) (act head z : Nat) : Clk :=
  if act == 0 then { c with surfA := head, zoneA := z } else { c with surfB := head, zoneB := z }

/-- Both gates of an actuator are closed while its clock changes: an open read gate closes, and a sector being written is cut (R154). DESIGN CHOICE,
log entry 104. -/
def State.closeGates (s : State) (m : Nat) : State :=
  let s := s.updMu m fun x => { x with tsq := { x.tsq with rawOpen := false }, rch := { x.rch with gateOpen := false } }
  if (s.mu m).was.wg then s.cutGate m else s

/-- A move to a track in another rate zone, each surface having its own: CLK changes K with both gates closed, and the sequencer is HELD until the
new clock is in phase (R140, R154). The system area lies outside every rate zone; passing between it and rate zone 0 of a surface is taken as no change
of K, and ZONE_A or ZONE_B reads 0 there. DESIGN CHOICE, log entry 106. -/
def State.changeK (s : State) (m head rz : Nat) : State :=
  if (s.hda (m / 2)).clk.zoneOf (m % 2) == (head, rz) then s
  else ((s.closeGates m).updHda (m / 2) fun d => { d with clk := d.clk.withZone (m % 2) head rz }).updMu m fun x =>
    { x with tsq := { x.tsq with st := .held, cyc := none } }

/-- The distance from the controlled point of a take to its track, in 1/4,096 track: a head switch and a change between read and write take move the
point by the offsets of the jog table (R248, R262). -/
def State.pointShift (s : State) (m head : Nat) (write : Bool) : Int :=
  let v := (s.hda (m / 2)).srv
  let a := (s.mu m).act
  let j (h : Nat) (w : Bool) : Int := if w then v.meanJog (m % 2) v.bandInUse h a.track else 0
  j head write - j a.head a.writer

/-- The actuator already follows the head, track and controlled point (R289). -/
def Act.follows (a : Act) (head track : Nat) (write : Bool) : Bool :=
  a.st == .following && a.head == head && a.target == (track * 4096 : Nat) && a.writer == write

/-- The seek of a take, unless the actuator already follows that head and track with the same controlled point (R262, R289). -/
def State.seekFor (s : State) (m head track : Nat) (write : Bool) : State :=
  let a := (s.mu m).act
  if a.follows head track write then s
  else
    let j := s.pointShift m head write
    (s.updMu m fun x => { x with act := { x.act with pos := x.act.pos - j, writer := write } }).askSeek m head track

/-- The seek of a take as SCH plans it, in samples: SEEK_TIME of its distance plus JITTER_MAX, plus WR_EXTRA for a write (R264). -/
def State.plannedSeek (s : State) (m : Nat) (d : TakeDesc) : Nat :=
  let v := (s.hda (m / 2)).srv
  let a := (s.mu m).act
  let write := d.type == 2 || d.type == 7
  if a.follows d.head d.track write then 0
  else
    let dist := (((d.track * 4096 : Nat) : Int) - (a.pos - s.pointShift m d.head write)).natAbs
    v.seekTime (m % 2) v.bandInUse dist + bits (s.feat0 0x03 (m / 2)) 7 4 + if write then v.w (actSet (m % 2) v.bandInUse + 0x140) else 0

/-- Access cost in tenths of a mark: the planned seek and the rotational wait from the planned arrival to the first sector's start[s], the head being
at clock mark `angle` of the revolution (R138, R146, R435). -/
def State.accessCost (s : State) (m angle : Nat) (d : TakeDesc) : Nat :=
  let seek := s.plannedSeek m d * 512
  let spw := s.kOf m d.head d.rz / 1280
  let at_ := (sectorStarts spw).getD d.first 0 * 512 / spw
  seek + (at_ + 327680 - (angle * 10 + seek) % 327680) % 327680

/-- WAS at the start of a take. -/
def Was.begun (w : Was) (write : Bool) (failed : Nat) : Was :=
  { w with writeTake := write, attemptFailed := false, slipped := false, wgCut := false, astCut := false, crcCut := false, rose := false
           monRead := false, readings := [], encoded := [], codewords := [], onMedium := [], writing := none, joined := none, failed := if write then Nat.min 16 failed else w.failed }

/-- The routine of a take starts (R289). -/
def State.startTake (s : State) (m : Nat) (d : TakeDesc) : State :=
  let base := if s.store.service then 0x800 else 0
  let write := d.type == 2 || d.type == 7
  let failed := (s.mu m).failedOn d.zone d.track
  let s := s.updMu m fun x =>
    { x with tsq := { x.tsq with st := .running, desc := some d, upc := base + d.type, locSector := 0, resume := d.first
                                      , band := (s.hda (m / 2)).clk.band, cyc := none }
             was := x.was.begun write failed
             rch := { x.rch.keepWork with work := [], gateOpen := false, kept := x.rch.keepWork.kept.filter s.needsSlot
                                          cross := if d.step == 6 && x.rch.crossFor == some (d.cmd, d.serves) then x.rch.cross else []
                                          crossFor := if d.step == 6 then some (d.cmd, d.serves) else none }
             sch := { x.sch with recovery := if d.type == 3 || d.type == 4 then none else x.sch.recovery } }
  let s := { s with pwr := { s.pwr with gated := s.pwr.gated &&& ~~~(1#32 <<< m) } }
  (((s.bump 8 m (aTsq m 0x08)).seekFor m d.head d.track write).changeK m d.head d.rz)

/-- READ_CHANNEL and WRITE_PATH take effect at the start of a take (R208, R240). -/
def State.latchSettings (s : State) (m : Nat) : State :=
  s.updMu m fun x => { x with rch := { x.rch with settings := (s.feature 0x04 m).1 }, was := { x.was with settings := (s.feature 0x06 m).1 } }

/-- A system take's head, track and sectors, which no rule gives: free values within the system area and the range of R288 (log entries 3 and 106). -/
def State.systemDesc (s : State) (m : Nat) (d : TakeDesc) : TakeDesc × State :=
  let (h, s) := s.draw
  let (k, s) := s.draw
  let (a, s) := s.draw
  let (c, s) := s.draw
  let spt := sptOf 25000
  let first := a % spt
  ({ d with head := h % Nat.max 1 (s.headsOf m), track := k % 512, serves := k % 512, spt := spt, first := first, count := 1 + c % (spt - first) }, s)

/-- The destage tracks whose failed attempts reach a WRITE_RETRY that this take has lowered from `old` spend their budget (R240). DEDUCED, log entry 95. -/
def State.lowerRetry (s : State) (m old : Nat) : State :=
  let new := s.writeRetry m
  let spent := (s.mu m).sch.destage.filter fun x => decide (1 ≤ x.failed) && (decide (new < x.failed) || (decide (new < old) && decide (new ≤ x.failed)))
  spent.foldl (fun s x => s.spendBudget m x) s

/-- The chosen take is issued with the settings in force from it on (R208, R240); a destage track that has left SCH has none. DEDUCED, log entry 95. -/
def State.issue (s : State) (m : Nat) (d : TakeDesc) : State :=
  let s := (s.latchSettings m).lowerRetry m (s.writeRetry m)
  if d.type == 2 && !((s.mu m).sch.destage.any fun x => x.zone == d.zone && x.track == d.track) then s else s.startTake m d

/-- The sectors that a slipped take left in the sample buffer are finished (R195). -/
def Mu.bufferDone (x : Mu) : Bool := x.rch.work.all (·.finished)

/-- The place of the system take owed is drawn when it becomes eligible, and stands until it has ended (R434). DESIGN CHOICE, log entry 106. -/
def State.placeSystem (s : State) (m : Nat) : State :=
  match s.systemOwed m with
  | none => s
  | some type =>
    if ((s.mu m).sch.sysTake.filter (·.type == type)).isSome then s
    else
      let (d, s) := s.systemDesc m { type := type }
      s.updMu m fun x => { x with sch := { x.sch with sysTake := some d } }

/-- SCH's continuation of a slipped take, unless the thermal write gate holds it back (R290, R435, R578). -/
def State.continuation (s : State) (m : Nat) : Option TakeDesc :=
  (s.mu m).sch.slipNext.filter fun d => !(s.withheld m && (d.type == 2 || d.type == 7))

/-- The choice of R435 among the eligible takes with their ages. -/
def State.choose (s : State) (m angle : Nat) (l : List (TakeDesc × Nat)) : State :=
  match chooseTake (s.urgent m) (l.map fun e => (e.1, e.2, s.accessCost m angle e.1)) with
  | none => s
  | some d =>
    let s := if l.any fun e => 500 ≤ e.2 then s.bump 4 m (aSch m 0x0C) else s
    ((s.countTake d).updMu m fun x => { x with sch := x.sch.issued d }).issue m d

/-- SCH issues the next take at clock mark `angle` of the revolution (R435); `clock` gives the time in ms within the operating second and the ages of
the eligible takes that SCH has not met before. DESIGN CHOICE, log entry 7. -/
def execTakeIssue (mu : MuNo) (clock : SchClock) (angle : Nat) (s : State) : Out :=
  let m : Nat := mu
  guarded (s.mayIssue m && (s.mu m).bufferDone && clock.ages.length == (s.eligible m).length && clock.now / 1000 == s.second
      && (s.mu m).sch.now ≤ clock.now && angle < 32768) s <|
    let s := s.placeSystem m
    let c := (s.mu m).sch
    let l := (s.eligible m).zip clock.ages
    let aged := l.map fun e => (e.1, c.ageAt clock.now e.1 e.2)
    let s := s.updMu m fun x => { x with sch := x.sch.booked clock.now l }
    match s.continuation m with
    | some d => (s.updMu m fun x => { x with sch := { x.sch with slipNext := none } }).issue m d
    | none => s.choose m angle aged

/-! ### TABLES_READY (R188, R218, R219) -/

/-- A preamp register written over the link only where its value changes (R188, R219). -/
def State.paRenew (s : State) (m a v : Nat) : State :=
  if sget (s.mu m).pa.regs a 0 == BitVec.ofNat 16 v && (s.mu m).pa.pendingG.all (fun e => e.1 != a) then s else s.paWrite m a v

/-- Registers renewed in turn. -/
def State.paRenews (s : State) (m : Nat) : List (Nat × Nat) → State
  | [] => s
  | (a, v) :: r => (s.paRenew m a v).paRenews m r

/-- Poisoned words of a table entry (R463). -/
def Mu.poisonIn (x : Mu) (i : Nat) (write : Bool) : Nat := sget x.entryMarks (2 * i + flag write) 0
/-- An entry with a poisoned word fails its check (R463). -/
def Mu.entryPoisoned (x : Mu) (i : Nat) (write : Bool) : Bool := x.poisonIn i write != 0
/-- A load of an entry takes each of its poisoned words (R463). -/
def State.entryRead (s : State) (m i : Nat) (write : Bool) : State := s.bump 5 0 (aBuf 0x14) ((s.mu m).poisonIn i write)

/-- The channel uses this entry already (R188). -/
def Rch.uses (r : Rch) (head rz band : Nat) (e : List Byte) : Bool := r.entryValid && r.head == head && r.rz == rz && r.band == band && r.entry == e

/-- The channel entry of the take: in use, with the preamp registers whose value changes written, or a table error; an entry already in use is not
loaded again (R187, R188). The equaliser starts at the table's taps (R180). -/
def State.loadChannel (s : State) (m : Nat) (d : TakeDesc) : Bool × State :=
  let band := (s.mu m).tsq.band
  let i := entryIndex d.head d.rz band
  let e := sget (s.mu m).chanTable i []
  let uses := (s.mu m).rch.uses d.head d.rz band e
  let s := if uses then s else s.entryRead m i false
  let ok := uses || (chanEntryOk (s.desc (m / 2)) d.head d.rz band e && !(s.mu m).entryPoisoned i false)
  let s := s.updMu m fun x => { x with rch := ({ x.rch with head := d.head, rz := d.rz, band := band, entryValid := ok, entry := e }).fresh }
  if ok then
    let b := 0x20 + 8 * d.head
    (true, s.paRenews m [(0x03, d.head), (b + 4, field e 14 2), (b + 2, field e 16 2), (b + 3, field e 18 2), (0x0A, field e 20 1)])
  else (false, (s.raise 9 m 1 i).bump 9 m (aRch m 0x20))

/-- The write registers of a write take (R219, R228). -/
def State.writeRegs (s : State) (m : Nat) (head : Nat) (e : List Byte) : List (Nat × Nat) :=
  let b := 0x20 + 8 * head
  let set := (clampI 0 (s.desc (m / 2)).astSetMax ((field e 14 2 : Int) + sget (s.mu m).was.trim head 0)).toNat
  [(b, field e 2 1), (b + 1, field e 3 1 + field e 4 1 % 16 * 256), (b + 7, set), (0x08, field e 16 2), (0x09, field e 18 1)]

/-- The delays of a write take in symbols (R221). -/
def State.delays (s : State) (m : Nat) (d : TakeDesc) : State :=
  let x := s.desc (m / 2)
  let r := rate480 (s.kOf m d.head d.rz) (s.hda (m / 2)).clk.meas
  s.updMu m fun y => { y with was := { y.was with wdd := wddOf x.wdDly r, wgOn := ceilSymbols x.wgOn r, aeLead := ceilSymbols x.aeOn r + 16, bridge := bridgeOf r } }

/-- PA_CTL of a write take: MODE WRITE, AST_ARM, and HTR_EN while the heads are loaded (R219, R231). -/
def Act.writeCtl (a : Act) : Nat := if a.loaded then 0x000F else 0x000B

/-- The write entry of the take: in use, with heater codes and, for a write take, the write registers and PA_CTL; each register is written only where
its value changes (R218, R219). -/
def State.loadWrite (s : State) (m : Nat) (d : TakeDesc) : Bool × State :=
  let band := (s.mu m).tsq.band
  let i := entryIndex d.head d.rz band
  let e := sget (s.mu m).writeTable i []
  let s := s.entryRead m i true
  let ok := writeEntryOk (s.desc (m / 2)) d.head d.rz band e && !(s.mu m).entryPoisoned i true
  let s := s.updMu m fun x => { x with was := { x.was with head := d.head, rz := d.rz, band := band, entryValid := ok } }
  if ok then
    let b := 0x20 + 8 * d.head
    let (rd, wr) := s.heaters m 0
    let s := s.paRenews m [(b + 5, rd), (b + 6, wr)]
    if d.type == 2 || d.type == 7 then
      (true, ((s.paRenews m (s.writeRegs m d.head e)).paRenew m 0x02 (s.mu m).act.writeCtl).delays m d)
    else (true, s)
  else (false, (s.raise 11 m 9 i).bump 11 m (aWas m 0x20))

/-- The clearing frame that starts a write attempt (R118); `stays` says that PFLT is still asserted 2 µs after it: none then. -/
def State.clearFault (s : State) (m : Nat) (d : TakeDesc) (stays : Bool) : Option State :=
  if (d.type == 2 || d.type == 7) && ((s.mu m).pa.pflt || (s.mu m).was.clearDue) then
    if stays then none
    else some ((s.updMu m fun x => { x with was := { x.was with clearDue := false } }).paWrite m 4 0x03FF)
  else some s

/-- The attempt ends without opening the write gate (R118). -/
def State.faultStays (s : State) (m : Nat) : State :=
  (s.raise 11 m 4 ((sget (s.mu m).pa.regs 4 0).toNat + 0x10000)).failTake m

/-- The loads of a take complete, or fail it. -/
def State.loadTables (s : State) (m : Nat) (d : TakeDesc) : State :=
  let (a, s) := s.loadChannel m d
  let (b, s) := s.loadWrite m d
  if a && b then s.updMu m fun x => { x with tsq := { x.tsq with tablesReady := true } } else s.failTake m

/-- A burst that holds bytes of an entry that the take loads. -/
def State.ofEntry (s : State) (m : Nat) (d : TakeDesc) (b : BurstRead) : Bool :=
  match s.holderOf b.burst b.holds with
  | .entry k i _ => (k : Nat) == m && i == entryIndex d.head d.rz (s.mu m).tsq.band && bufRegion (b.burst * 64) == 4
  | .none => false
  | .sector _ => false
  | .staged _ => false

/-- The channel and write table loads of the take complete, their bursts decoded first; `found.stays` is PFLT 2 µs after the clearing frame of a write
take (R118, R188, R219, R462). -/
def execTablesReady (mu : MuNo) (found : TableIn) (s : State) : Out :=
  let m : Nat := mu
  match (s.mu m).tsq.desc with
  | none => .next s
  | some d =>
    guarded (((s.mu m).tsq.st == .running || (s.mu m).tsq.st == .held) && !(s.mu m).tsq.tablesReady && found.reads.all fun b => burstOk b && s.ofEntry m d b) s <|
      let s := s.readBursts found.reads
      match s.clearFault m d found.stays with
      | none => s.faultStays m
      | some t => t.loadTables m d

end Sys2Proof.Machine
end

