-- ==== Sys2Proof/Machine/Gates.lean ====
section
/-! DEFINITION. Where the head stands on its track, and the read gate, write gate and assist enable that follow it (R138, R139, R141 to R146, R178, R179,
R189, R213, R220 to R222, R235). -/

namespace Sys2Proof.Machine

/-! ### The place on the track (R138, R141, R143) -/

/-- SPW of the rate zone of a take; the least legal rate stands for the system area, whose rate no rule states. DESIGN CHOICE, log entry 106. -/
def State.spwOf (s : State) (m : Nat) (d : TakeDesc) : Nat :=
  let spw := s.kOf m d.head d.rz / 1280
  if d.type == 6 || d.type == 7 || spw == 0 then 25000 else spw

/-- Cycle `i` is the last of its wedge: the condition WEDGE_LAST (R143, R295). -/
def State.wedgeLast (s : State) (m : Nat) (d : TakeDesc) (i : Nat) : Bool := i + 1 == wedgeCycles (s.spwOf m d)

/-- Cycle `i` of a wedge follows the sequencer's last: the count rises by one and restarts at the start of each wedge (R143). -/
def State.cycleFits (s : State) (m : Nat) (d : TakeDesc) (i : Nat) : Bool :=
  i < wedgeCycles (s.spwOf m d) && (match (s.mu m).tsq.cyc with
    | none => true
    | some c => i == (if s.wedgeLast m d c then 0 else c + 1))

/-- The first symbol of a sequencer cycle on its track (R141, R143). -/
def State.position (s : State) (m : Nat) (d : TakeDesc) (cycle : Nat) : Nat := (s.mu m).tsq.wedge * s.spwOf m d + cycle * 16

/-- start[s] of a sector of a take's track; the track's end where it has no such sector. -/
def State.startOf (s : State) (m : Nat) (d : TakeDesc) (sector : Nat) : Nat :=
  let spw := s.spwOf m d
  (sectorStarts spw).getD sector (640 * spw)

/-- The sector of a track is split (R145). -/
def State.sectorSplit (s : State) (m : Nat) (d : TakeDesc) (sector : Nat) : Bool :=
  match (sectorStarts (s.spwOf m d))[sector]? with
  | some p => isSplit (s.spwOf m d) p
  | none => false

/-! ### Spans of the write gate (R213, R220 to R222, R227, R235) -/

/-- The sector being written has had its last pad symbol: it waits for its first sample, unless it was written without assist
(R227, R235). -/
def Was.padDone (w : Was) : Was :=
  match w.writing with
  | none => w
  | some k => { w with writing := none, awaiting := if w.astCut then w.awaiting else w.awaiting ++ [k] }

/-- The symbols of WG low between two spans (R222). -/
def Was.gap (w : Was) (fall rise : Nat) : Nat := rise - fall - w.wgOn

/-- The next posted sector starts where the one being written ends: one span (R220). -/
def State.joins (s : State) (m : Nat) (d : TakeDesc) (sector : Nat) : Bool :=
  match (s.mu m).was.writing with
  | some k => (s.mu m).was.wg && sectorEnd (s.spwOf m d) (s.startOf m d k) == s.startOf m d sector
  | none => false

/-- AE is held from the end of the sector being written to the next posted sector: their spans lie within the bridge (R222). -/
def State.bridged (s : State) (m : Nat) : Bool :=
  let x := s.mu m
  match x.tsq.desc, x.was.writing, x.tsq.writeQ with
  | some d, some k, n :: _ => decide (x.was.gap (sectorEnd (s.spwOf m d) (s.startOf m d k)) (s.startOf m d n) ≤ x.was.bridge)
  | _, _, _ => false

/-- WG falls at the end of a span; AE is held for a further span of the attempt within the bridge (R222). -/
def State.spanEnd (s : State) (m : Nat) (more : Bool) : State :=
  s.updMu m fun x =>
    { x with pa := if x.was.wg then x.pa.wgFall else x.pa, was := { x.was.padDone with wg := false, ae := x.was.ae && more } }

/-- WG falls at DEND of a wedge under a sector that goes on in the next, and AE with it unless the next span lies within the bridge (R220, R222). -/
def State.wedgeGap (s : State) (m : Nat) (d : TakeDesc) : State :=
  let spw := s.spwOf m d
  s.updMu m fun x =>
    { x with pa := if x.was.wg then x.pa.wgFall else x.pa
             was := { x.was with wg := false, ae := x.was.ae && decide (x.was.gap (dend spw) (spw + dstart spw) ≤ x.was.bridge) } }

/-- WG rises for a span, with AE ahead of it (R220, R222). After an assist cut AE stays low (R227). -/
def State.spanBegins (s : State) (m : Nat) : State := s.updMu m fun x => { x with was := { x.was with wg := true, ae := !x.was.astCut, rose := true } }

/-! ### The gates at track symbol `p`, the next to pass the head (R142, R179, R189, R220 to R222) -/

/-- A sector opened in this take whose span holds `p` as its next symbol, and the number of the span. -/
def State.reading (s : State) (m : Nat) (d : TakeDesc) (p : Nat) : Option (SecWork × Nat) :=
  (s.mu m).rch.work.findSome? fun w =>
    if w.opened && !w.passed && w.take == d then (spanAt (s.spwOf m d) (s.startOf m d w.sector) p).map (w, ·) else none

/-- A resync field begins: the fine-phase loops adapt over it, and the rest of the payload is taken at their phases (R179). -/
def State.resyncs (s : State) (m sector j : Nat) : State :=
  s.updMu m fun x => match x.rch.work.find? fun w => w.sector == sector with
    | none => x
    | some w =>
      let t := w.taken.getLastD {}
      let a := (w.samples.getD j (0, 0)).1 - 256
      let r := { x.rch with front0 := x.rch.front0.resync x.rch.entry (t.reader 0) a, front1 := x.rch.front1.resync x.rch.entry (t.reader 1) a }
      let u : Sampled := { t with phases := t.phases ++ [(r.front0.phase, r.front1.phase)] }
      { x with rch := { r with work := r.work.map fun y => if y.sector == sector && !y.taken.isEmpty then { y with taken := y.taken.dropLast ++ [u] } else y } }

/-- The read gate at `p`: open within the spans of a sector that the engine has opened, closed from the end of its pad or from DEND and over the servo field;
it opens again for a continuation (R142, R179, R189). -/
def State.readGateAt (s : State) (m : Nat) (d : TakeDesc) (p : Nat) : State :=
  let spw := s.spwOf m d
  let s := s.updMu m fun x =>
    { x with rch := { x.rch with work := x.rch.work.map fun w =>
        if w.opened && w.take == d && decide (sectorEnd spw (s.startOf m d w.sector) ≤ p) then { w with passed := true } else w } }
  match s.reading m d p with
  | none => s.updMu m fun x => { x with rch := { x.rch with gateOpen := false } }
  | some (w, j) =>
    let s := if j != 0 && !(s.mu m).rch.gateOpen then s.resyncs m w.sector j else s
    s.updMu m fun x => { x with rch := { x.rch with gateOpen := true } }

/-- No edge of WG rises: a cut, INHIBIT or the power-fail signal stands (R224, R227). -/
def State.noRise (s : State) (m : Nat) : Bool := (s.mu m).was.wgCut || (s.mu m).was.inhibit || s.mns.powerFail

/-- AE rises `aeLead` symbols ahead of a span that begins at `e`, the timeline standing at `q` (R222). -/
def State.assistLead (s : State) (m e q : Nat) : State :=
  let w := (s.mu m).was
  if !w.wg && !w.astCut && !s.noRise m && decide (e ≤ q + w.aeLead) && decide (q < e) then s.updMu m fun x => { x with was := { x.was with ae := true } } else s

/-- The next posted sector is the one that joins the span, and its start is at hand: WG stays (R220). -/
def State.joinsAt (s : State) (m : Nat) (d : TakeDesc) (e q : Nat) : Bool :=
  match (s.mu m).tsq.writeQ with
  | k :: _ => (s.mu m).was.encoded.contains k && s.startOf m d k == e && decide (q < e + 16)
  | [] => false

/-- The write gate and the assist at `p`, on the timeline that leads it by the WD delay: WG falls at the end of a span, a sector's last symbol passes, and
WG rises ahead of a continuation (R142, R220 to R222, R235). -/
def State.writeGateAt (s : State) (m : Nat) (d : TakeDesc) (p : Nat) : State :=
  let x := s.mu m
  let q := p + x.was.wdd / 64
  let spw := s.spwOf m d
  match x.was.writing with
  | none => match x.tsq.writeQ with
    | k :: _ => if x.was.encoded.contains k then s.assistLead m (s.startOf m d k) q else s
    | [] => s
  | some k =>
    let start := s.startOf m d k
    let e := sectorEnd spw start
    if e ≤ q then if s.joinsAt m d e q then s else s.spanEnd m (s.bridged m)
    else match (sectorSpans spw start).find? fun g => decide (q < g.2) with
      | none => s
      | some g =>
        if x.was.wg then if q + x.was.wgOn < g.1 then s.wedgeGap m d else s
        else if g.1 ≤ q + x.was.wgOn && !s.noRise m then s.spanBegins m
        else s.assistLead m g.1 q

/-- The gates at the first symbol of a cycle. -/
def State.gatesAt (s : State) (m : Nat) (d : TakeDesc) (cycle : Nat) : State :=
  let p := s.position m d cycle
  (s.readGateAt m d p).writeGateAt m d p

end Sys2Proof.Machine
end

