-- ==== Sys2Proof/Machine/Cycle.lean ====
section
/-! DEFINITION. One cycle of a track sequencer: fetch, conditions, nanoword fields, events and the gate guard, and the
installation of a microcode image (R287 to R317). -/

namespace Sys2Proof.Machine

/-! ### Faults and reports (R290, R299, R317) -/

/-- A TSQ_FAULT of a kind of R317, counted. -/
def State.tsqFault (s : State) (m kind : Nat) : State := (s.raise 8 m 1 kind).bump 8 m (aTsq m 0x18)

/-- A fault that ends the routine with TAKE_FAILED. -/
def State.tsqDie (s : State) (m kind : Nat) : State := (s.tsqFault m kind).endTake m .failed

/-- The LBA at a sector of the take's track; a free value where no host sector stands there (log entry 3). DEDUCED, log entry 67. -/
def State.takeLba (s : State) (m : Nat) (d : TakeDesc) (sector : Nat) : Nat × State :=
  match s.lbaAt m d.zone d.track sector with
  | some l => (l, s)
  | none => let (n, s) := s.draw; (n % 2 ^ 40, s)

/-- One refusal of the gate guard (R299). DEDUCED, log entry 66. -/
def State.refuseGate (s : State) (m : Nat) (d : TakeDesc) (sector : Nat) : State :=
  let (l, s) := s.takeLba m d sector
  (s.raise 8 m 2 l).bump 8 m (aTsq m 0x10)

/-! ### The gate guard (R297, R298) -/

/-- The conditions that R297 and R298 share, but for the settle flag. -/
def State.gateReady (s : State) (m : Nat) : Bool :=
  let x := s.mu m
  let c := (s.hda (m / 2)).clk
  x.tsq.st == .running && c.lock == .locked && c.gatesPermitted && x.tsq.tablesReady && x.rch.entryValid && x.act.st != .tuning && !x.stopped

/-- The actuator's target is the take's head and track, or in a NEIGHBOUR_READ take the track of an SRVOP SEEK (R297). -/
def Mu.onTrack (x : Mu) (d : TakeDesc) : Bool :=
  x.act.head == d.head
    && (d.track :: if d.type == 4 then x.tsq.seekTrack.toList else []).any fun k => x.act.target - x.act.offset == (k * 4096 : Nat)

/-- The guard opens a read gate (R297). -/
def State.readGateOk (s : State) (m : Nat) (d : TakeDesc) : Bool := s.gateReady m && (s.mu m).act.rdSettled && (s.mu m).onTrack d

/-- The guard accepts a posted sector that comes in time (R298): every span of a placed sector lies in a data segment (R146). -/
def State.writeGateOk (s : State) (m : Nat) (d : TakeDesc) (sector : Nat) : Bool :=
  s.gateReady m && (s.mu m).act.wrSettled && (s.mu m).onTrack d && (d.type == 2 || d.type == 7) && sector < d.spt

/-! ### Slips (R194, R239) -/

/-- A take slip: no read gate opens for `sector` or any later sector of the take (R194). DEDUCED, log entry 66. -/
def State.readSlip (s : State) (m sector : Nat) : State :=
  if (s.mu m).tsq.rdSlipped then s
  else (s.updMu m fun x => { x with tsq := { x.tsq with rdSlipped := true, resume := sector, readQ := [] } }).bump 9 m (aRch m 0x1C)

/-- A write take slip at `sector` (R239): nothing further of the attempt is posted. DEDUCED, log entry 66. -/
def State.writeSlip (s : State) (m sector : Nat) : State :=
  if (s.mu m).was.slipped then s
  else (s.updMu m fun x => { x with tsq := { x.tsq with resume := sector, writeQ := [], attemptEnding := true }
                                    was := { x.was with slipped := true } }).bump 11 m (aWas m 0x1C)

/-! ### Registers and conditions (R287, R295) -/

/-- A value register as a source (R287). -/
def Tsq.reg (q : Tsq) (d : TakeDesc) (n : Nat) : Word :=
  if n == 10 then BitVec.ofNat 32 d.track
  else if n == 11 then BitVec.ofNat 32 d.first
  else if n == 12 then BitVec.ofNat 32 d.count
  else if n == 14 then BitVec.ofNat 32 q.locSector
  else if n == 15 then BitVec.ofNat 32 q.resume
  else sget q.v n 0

/-- Four condition bits as a number. -/
def bits4 (a b c d : Bool) : Nat := flag a + 2 * flag b + 4 * flag c + 8 * flag d

/-- Nothing is queued, open or decoding in the read engine. -/
def Mu.readIdle (x : Mu) : Bool := x.tsq.readQ.isEmpty && x.rch.work.all (·.finished)

/-- Every posted sector is written or dropped. -/
def Mu.writeIdle (x : Mu) : Bool := x.tsq.writeQ.isEmpty && x.was.writing.isNone

/-- The read channel's work on the armed sector. -/
def Mu.armedWork (x : Mu) : SecWork :=
  match x.tsq.armed with
  | none => { sector := 0 }
  | some a => (x.rch.work.find? fun w => w.sector == a).getD { sector := a }

/-- A sector given to the read engine in one of the last two cycles before its start[s] comes too late (R296). -/
def State.readLate (s : State) (m : Nat) (d : TakeDesc) (cycle : Nat) : Bool :=
  let rev := 640 * s.spwOf m d
  decide ((s.startOf m d (s.mu m).tsq.locSector + rev - s.position m d cycle) % rev ≤ 32)

/-- A posting less than ae_lead + 32 symbols before the sector's first WG edge comes too late (R221, R298). -/
def State.writeLate (s : State) (m : Nat) (d : TakeDesc) (cycle : Nat) : Bool :=
  let rev := 640 * s.spwOf m d * 64
  let w := (s.mu m).was
  decide ((s.startOf m d (s.mu m).tsq.locSector * 64 + 2 * rev - w.wgOn * 64 - w.wdd - s.position m d cycle * 64) % rev < (w.aeLead + 32) * 64)

/-- The bits of a condition group (R295). -/
def State.condGroup (s : State) (m : Nat) (d : TakeDesc) (last : Bool) (g : Nat) : Nat :=
  let x := s.mu m
  let q := x.tsq
  let c := (s.hda (m / 2)).clk
  match g with
  | 0 => bits4 true false s.store.service s.store.custLoaded
  | 1 => bits4 q.anyFail q.rdSlipped x.readIdle (q.readQ.length < 2)
  | 2 => bits4 x.was.attemptFailed x.was.slipped x.writeIdle (q.writeQ.length < 2)
  | 3 => bits4 x.act.rdSettled x.act.wrSettled (!x.act.invalid) x.was.inhibit
  | 4 => bits4 (c.lock == .locked) q.tablesReady q.bandChanged last
  | 5 =>
    let w := x.armedWork
    bits4 (w.decided && w.clap.isSome) (w.decided && w.clap.isNone) w.decided (q.armed.isSome && s.sectorSplit m d (q.armed.getD 0))
  | 6 => bits4 x.pa.pflt q.linkBusy q.linkParity (x.was.wgCut || x.was.crcCut || x.was.astCut)
  | 7 => bits4 (q.lc0 == 0) (q.lc1 == 0) (q.sc == 0) (q.t0 == 0)
  | 8 => d.type % 16
  | 9 => d.step % 16
  | 10 => bits4 q.abortPend q.stopPend s.store.swap.isSome (1024 ≤ s.store.msgs.length)
  | 11 => bits4 q.zf q.nf q.cyf q.vf
  | 12 => bits4 (q.locSector == 0) (q.locSector + 1 == d.spt) q.locWrap (s.sectorSplit m d q.locSector)
  | 13 => q.f.toNat
  | 14 => q.cf.toNat
  | _ => bits4 (s.store.bind0.getLsbD m) (s.store.bind1.getLsbD m) (s.store.bind2.getLsbD m) (s.store.bind3.getLsbD m)

/-! ### Fetch (R303 to R305, R307) -/

/-- The enabled match register of a ROM microaddress, as its patch word number (R304); of two with the same ADDR the lowest-numbered, which no rule
orders. DESIGN CHOICE, log entry 111. -/
def Store.patchOf (t : Store) (a : Nat) : Option Nat :=
  (t.matchRegs.find? fun e => e.2.getLsbD 31 && bits e.2.toNat 10 0 == a).map fun e => bits e.2.toNat 21 16

/-- The address executed at microaddress `a`, after the match registers. -/
def Store.effective (t : Store) (a : Nat) : Nat :=
  if t.service || 0x800 ≤ a then a else match t.patchOf a with | some p => 0x800 + p | none => a

/-- The microword at an effective address; none where ROM mode has none. DESIGN CHOICE, log entry 61. -/
def Store.microAt (t : Store) (a : Nat) : Option Word :=
  if a < 0x800 then some (Config.romMicro a)
  else if t.service then some (sget t.micro a 0x80000000#32)
  else if a < 0x840 then some (sget t.patch (a - 0x800) 0x80000000#32)
  else none

/-- The nanoword at an address; 0x000 is the all-zero nanoword. DESIGN CHOICE, log entry 61. -/
def Store.nanoAt (t : Store) (a : Nat) : Option (BitVec 192) :=
  if a == 0 then some 0
  else if a < 0x400 then some (Config.romNano a)
  else if t.service then some (sget t.nano a 0)
  else none

/-! ### The fields of a nanoword (R296) -/

/-- RGOP SECTOR_READ: the locator's sector to the read engine, or a slip (R194, R296). DEDUCED, log entry 66. -/
def State.sectorRead (s : State) (m : Nat) (late : Bool) : State :=
  let q := (s.mu m).tsq
  if q.rdSlipped then s
  else if late || 2 ≤ q.readQ.length then s.readSlip m q.locSector
  else s.updMu m fun x => { x with tsq := { x.tsq with readQ := x.tsq.readQ ++ [x.tsq.locSector], armed := some x.tsq.locSector } }

/-- RGOP. -/
def State.doRg (s : State) (m : Nat) (d : TakeDesc) (op cycle : Nat) : State :=
  match op with
  | 1 => s.sectorRead m (s.readLate m d cycle)
  | 2 => s.updMu m fun x => { x with tsq := { x.tsq with readQ := [] } }
  | 3 =>
    if d.type != 8 then s
    else if s.readGateOk m d then s.updMu m fun x => { x with tsq := { x.tsq with rawOpen := true } }
    else s.refuseGate m d (s.mu m).tsq.locSector
  | 4 => s.updMu m fun x => { x with tsq := { x.tsq with rawOpen := false } }
  | _ => s

/-- WGOP SECTOR_WRITE: the locator's sector posted, refused, or ignored outside an attempt (R239, R296, R298, R299). DEDUCED, log entry 66. -/
def State.sectorWrite (s : State) (m : Nat) (d : TakeDesc) (late : Bool) : State :=
  let q := (s.mu m).tsq
  if !q.attemptOpen || q.attemptEnding || (s.mu m).was.slipped then s
  else if 2 ≤ q.writeQ.length then s.writeSlip m q.locSector
  else if late || !s.writeGateOk m d q.locSector then (s.refuseGate m d q.locSector).writeSlip m q.locSector
  else s.updMu m fun x => { x with tsq := { x.tsq with writeQ := x.tsq.writeQ ++ [x.tsq.locSector] } }

/-- WGOP. -/
def State.doWg (s : State) (m : Nat) (d : TakeDesc) (op cycle : Nat) : State :=
  match op with
  | 1 => s.updMu m fun x => { x with tsq := { x.tsq with attemptOpen := true, attemptEnding := false } }
  | 2 => s.sectorWrite m d (s.writeLate m d cycle)
  | 3 => s.updMu m fun x => { x with tsq := { x.tsq with attemptEnding := true } }
  | _ => s

/-- LOCOP on a track of `spt` sectors, with the ARS1 value. -/
def Tsq.doLoc (q : Tsq) (spt op : Nat) (a : Word) : Tsq :=
  match op with
  | 1 => { q with locSector := 0 }
  | 2 => if spt ≤ q.locSector + 1 then { q with locSector := 0, locWrap := true } else { q with locSector := q.locSector + 1 }
  | 3 => { q with locSector := a.toNat }
  | _ => q

/-- CTROP. -/
def Tsq.doCtr (q : Tsq) (count op : Nat) (imm : BitVec 16) (a : Word) : Tsq :=
  match op with
  | 1 => { q with lc0 := imm }
  | 2 => { q with lc1 := imm }
  | 3 => { q with lc0 := a.setWidth 16 }
  | 4 => { q with lc1 := a.setWidth 16 }
  | 5 => { q with sc := BitVec.ofNat 16 count }
  | 6 => { q with sc := if q.sc == 0 then 0 else q.sc - 1 }
  | _ => q

/-- The result of an ALU operation: `n` is the free value that stands where R296 leaves the result open, namely which source
MOV copies and a shift by 32 or more. DEDUCED, log entry 64. -/
def aluResult (op : Nat) (a b : Word) (n : Nat) : Word :=
  match op with
  | 1 => if bit n 0 then a else b
  | 2 => a + b
  | 4 => a &&& b
  | 5 => a ||| b
  | 6 => a ^^^ b
  | 8 => if b.toNat < 32 then a <<< b.toNat else BitVec.ofNat 32 n
  | 9 => if b.toNat < 32 then a >>> b.toNat else BitVec.ofNat 32 n
  | _ => a - b

/-- Carry of an addition, else a free value: R295 does not state it for the other operations. DEDUCED, log entry 64. -/
def aluCarry (op : Nat) (a b : Word) (n : Nat) : Bool := if op == 2 then 2 ^ 32 ≤ a.toNat + b.toNat else bit n 32

/-- Signed overflow of an addition or subtraction, else a free value. DEDUCED, log entry 64. -/
def aluOverflow (op : Nat) (a b : Word) (n : Nat) : Bool :=
  if op == 2 then decide ((a + b).toInt ≠ a.toInt + b.toInt)
  else if op == 3 || op == 7 then decide ((a - b).toInt ≠ a.toInt - b.toInt)
  else bit n 33

/-- ALUOP 1 to 9: the flags, and the result where the destination may be written and the operation is not CMP. DEDUCED, log entry 64. -/
def Tsq.doAlu (q : Tsq) (op ard : Nat) (a b : Word) (n : Nat) : Tsq :=
  let r := aluResult op a b n
  let q := { q with zf := r == 0, nf := r.msb, cyf := aluCarry op a b n, vf := aluOverflow op a b n }
  if op != 7 && ard < 10 then { q with v := sset q.v ard r 0 } else q

/-- FLAGOP. -/
def Tsq.doFlag (q : Tsq) (op : Nat) (k : BitVec 4) : Tsq :=
  match op with
  | 1 => { q with f := q.f ||| k }
  | 2 => { q with f := q.f &&& ~~~k }
  | 3 => { q with cf := q.cf ||| k }
  | 4 => { q with cf := q.cf &&& ~~~k }
  | _ => q

/-- LINKOP: a frame to or from preamp register `addr` starts, or waits behind the one under way; its end is PREAMP_FRAME_END (R109, R113, R296). The
maker-defined registers are never accessed (R114). DEDUCED, log entry 103. -/
def Tsq.doLink (q : Tsq) (op addr : Nat) (data : BitVec 16) : Tsq :=
  if (op == 1 || op == 2) && addr < 0x70 then { q with linkBusy := true, frames := q.frames ++ [{ read := op == 2, addr := addr, data := data }] } else q

/-- TSQ_MSG_DROP_CNT. -/
def aMsgDrop : Nat := 0x01080820

/-- SIGOP MSG (R310). -/
def State.postMsg (s : State) (m : Nat) (v : Word) : State :=
  if s.store.msgs.length < 1024 then
    { s with store := { s.store with msgs := s.store.msgs ++ [{ value := v, mu := m, oph := s.time.oph, ops := s.time.ops }] } }
  else s.bump 8 m aMsgDrop

/-- A take report: the first of a routine counts, a second is a REPORT fault (R290). -/
def State.report1 (s : State) (m : Nat) (o : TakeOutcome) : State :=
  if (s.mu m).tsq.reported.isSome then s.tsqFault m 1
  else s.updMu m fun x => { x with tsq := { x.tsq with reported := some o } }

/-- SIGOP. -/
def State.doSig (s : State) (m op : Nat) (a : Word) : State :=
  match op with
  | 1 => s.report1 m .done
  | 2 => s.report1 m .failed
  | 3 => s.report1 m .slip
  | 4 => s.report1 m .abandoned
  | 5 => s.postMsg m a
  | _ => s

/-- The rate zone of a head that holds a track. -/
def State.rzAt (s : State) (m head track : Nat) : Option Nat :=
  ((s.mu m).fmt.rateZones.find? fun e => e.1 / 64 == head && e.2.firstTrack ≤ track && track ≤ e.2.lastTrack).map fun e => e.1 % 64

/-- SRVOP (R253, R296, R297). DEDUCED, log entry 66. -/
def State.doSrv (s : State) (m : Nat) (d : TakeDesc) (op : Nat) (imm : BitVec 16) (a : Word) : State :=
  match op with
  | 1 =>
    let s := (s.updMu m fun x => { x with tsq := { x.tsq with seekTrack := some a.toNat } }).askSeek m d.head a.toNat
    match s.rzAt m d.head a.toNat with
    | some z => s.changeK m d.head z
    | none => s
  | 2 => s.updMu m fun x => { x with act := { x.act with target := x.act.target + imm.toInt, offset := x.act.offset + imm.toInt } }
  | 3 => s.updMu m fun x => { x with act := { x.act with target := x.act.target - x.act.offset, offset := 0 } }
  | _ => s

/-- HTR_RD of the head rewritten with `extra` codes above the table value (R200, R230). -/
def State.heaterStep (s : State) (m head extra : Nat) : State := s.paWrite m (0x20 + 8 * head + 5) (s.heaters m extra).1

/-- TBLOP: the ladder variants of R200 for the rest of the take. -/
def State.doTbl (s : State) (m : Nat) (d : TakeDesc) (op : Nat) : State :=
  if op == 0 || 7 < op then s
  else
    let s := s.updMu m fun x =>
      { x with tsq := { x.tsq with variant := if op == 7 then 0 else op, htrRaised := (x.tsq.htrRaised || op == 3 || op == 4) && op != 7 }
               rch := if op == 1 then x.rch.single 0 else if op == 2 then x.rch.single 1 else if op == 7 then x.rch.fresh else x.rch }
    if op == 3 then s.heaterStep m d.head 16 else if op == 4 then s.heaterStep m d.head 32 else if op == 7 then s.heaterStep m d.head 0 else s

/-- EVOP ACK: the event being handled is no longer pending (R301). -/
def Tsq.doEv (q : Tsq) (op : Nat) : Tsq :=
  if op == 1 then
    match q.handling with
    | some true => { q with stopPend := false, handling := none }
    | some false => { q with abortPend := false, handling := none }
    | none => q
  else q

/-- DECOP and TMROP. -/
def Tsq.doDecTmr (q : Tsq) (dec tmr : Nat) (imm : BitVec 16) : Tsq :=
  let q := if dec == 1 then { q with deep := false } else if dec == 2 then { q with deep := true } else q
  if tmr == 1 then { q with t0 := imm } else if tmr == 2 then { q with t1 := imm } else q

/-- A nanoword executes: its fields act in the order of R296 on the sources as they stood, the ALU result last. DEDUCED, log entry 65. -/
def State.nanoExec (s : State) (m : Nat) (d : TakeDesc) (nw : BitVec 192) (cycle : Nat) : State :=
  let n := nw.toNat
  let fld (i : Nat) : Nat := bits n (i + 3) i
  let q := (s.mu m).tsq
  let imm : BitVec 16 := BitVec.ofNat 16 (bits n 51 36)
  let a := q.reg d (fld 28)
  let b := if fld 32 == 15 then imm.setWidth 32 else q.reg d (fld 32)
  let upq (s : State) (f : Tsq → Tsq) : State := s.updMu m fun x => { x with tsq := f x.tsq }
  let s := (s.doRg m d (fld 0) cycle).doWg m d (fld 8) cycle
  let addr := bits n 62 56
  let data := s.linkData m addr imm.toNat
  let s := upq s fun q => (((q.doLoc d.spt (fld 12) a).doCtr d.count (fld 16) imm a).doLink (fld 52) addr data).doFlag (fld 64) (BitVec.ofNat 4 (fld 68))
  let s := ((s.doSig m (fld 72) a).doSrv m d (fld 76) imm a).doTbl m d (fld 80)
  let s := upq s fun q => (q.doDecTmr (fld 84) (fld 92) imm).doEv (fld 88)
  if fld 20 == 0 || 9 < fld 20 then s
  else let (f, s) := s.draw; upq s fun q => q.doAlu (fld 20) (fld 24) a b f

/-! ### One microword (R291, R294, R300, R301) -/

/-- The monitor has counted 65 microwords: one event with the present microaddress, and no further one until the next safe point (R300). -/
def State.safeViolation (s : State) (m : Nat) : State :=
  ((s.updMu m fun x => { x with tsq := { x.tsq with violReported := true } }).raise 8 m 3 (s.mu m).tsq.violAddr).bump 8 m (aTsq m 0x14)

/-- A microword that is no safe point counts in the monitor, which notes the address of the 65th (R300). -/
def Tsq.counted (q : Tsq) : Tsq := { q with sinceSafe := q.sinceSafe + 1, violAddr := if q.sinceSafe == 64 then q.addr else q.violAddr }

/-- A routine ends by its last RET with its report, TAKE_FAILED without one; the monitor has counted that word (R290, R300). -/
def State.endRoutine (s : State) (m : Nat) : State :=
  let s := s.updMu m fun x => { x with tsq := x.tsq.counted }
  let s := if (s.mu m).tsq.sinceSafe == 65 && !(s.mu m).tsq.violReported then s.safeViolation m else s
  s.endTake m ((s.mu m).tsq.reported.getD .failed)

/-- A microword has executed with the next address `a`; `safe` restarts the monitor (R300). -/
def State.goTo (s : State) (m a : Nat) (safe : Bool) : State :=
  s.updMu m fun x => { x with tsq := { (if safe then { x.tsq with sinceSafe := 0, violReported := false } else x.tsq.counted) with upc := a % 4096 } }

/-- An event is pending that is not the one being handled: true for STOP, which is taken first (R301). -/
def Tsq.eventDue (q : Tsq) : Option Bool :=
  if q.stopPend && q.handling != some true then some true
  else if q.abortPend && q.handling != some false then some false
  else none

/-- A safe point with an event pending (R301). DEDUCED, log entry 65. -/
def State.takeEvent (s : State) (m a : Nat) (stop : Bool) : State :=
  if 8 ≤ (s.mu m).tsq.stack.length then s.tsqDie m 2
  else s.updMu m fun x =>
    { x with tsq := { x.tsq with stack := a :: x.tsq.stack, handling := some stop, sinceSafe := 0, violReported := false
                                 upc := (if s.store.service then 0x810 else 0x010) + flag stop } }

/-- CALL and RET on the return stack. -/
def State.callRet (s : State) (m a nxt target : Nat) : State :=
  if nxt == 3 then
    if 8 ≤ (s.mu m).tsq.stack.length then s.tsqDie m 2
    else (s.updMu m fun x => { x with tsq := { x.tsq with stack := (a + 1) % 4096 :: x.tsq.stack } }).goTo m target false
  else match (s.mu m).tsq.stack with
    | [] => s.endRoutine m
    | r :: l => (s.updMu m fun x => { x with tsq := { x.tsq with stack := l } }).goTo m r false

/-- LOOP on LC0 or LC1: the next address, and the counter decremented. DEDUCED, log entry 65. -/
def State.loop (s : State) (m a i target : Nat) : Nat × State :=
  let q := (s.mu m).tsq
  let c := if i == 0 then q.lc0 else q.lc1
  if c == 0 then (a + 1, s)
  else (target, s.updMu m fun x => { x with tsq := if i == 0 then { x.tsq with lc0 := c - 1 } else { x.tsq with lc1 := c - 1 } })

/-- The microword `w` at `a` with the nanoword `nw` (R294). DEDUCED, log entry 65. -/
def State.microExec (s : State) (m : Nat) (d : TakeDesc) (a : Nat) (w : Word) (nw : BitVec 192) (i : CycleIn) : State :=
  let n := w.toNat
  let nxt := bits n 31 29
  let cw := bits n 24 23
  let target := bits n 11 0
  let g := s.condGroup m d (s.wedgeLast m d i.cycle) (bits n 28 25)
  let c := bit g cw
  let waits := nxt == 5 && !c
  match (if nxt == 7 || waits then (s.mu m).tsq.eventDue else none) with
  | some stop => s.takeEvent m a stop
  | none =>
    if waits then s.updMu m fun x => { x with tsq := { x.tsq with sinceSafe := 0, violReported := false } }
    else
      let (loopTo, s) := if nxt == 6 then s.loop m a (cw % 2) target else (a + 1, s)
      let t := s.nanoExec m d nw i.cycle
      match nxt with
      | 0 => t.goTo m (a + 1) false
      | 2 => t.goTo m (target ||| g % 2 ^ (cw + 1)) false
      | 3 => if c then t.callRet m a 3 target else t.goTo m (a + 1) false
      | 4 => if c then t.callRet m a 4 target else t.goTo m (a + 1) false
      | 5 => t.goTo m (a + 1) false
      | 6 => t.goTo m loopTo false
      | 7 => t.goTo m (if c then target else a + 1) true
      | _ => t.goTo m (if c then target else a + 1) false

/-- T0 and T1 count cycles: down, once in each cycle and before its microword executes, and they hold at 0, so that the word after a load of n sees n − 1,
and T0_DONE is T0 at 0. R287 says only that they count cycles. DESIGN CHOICE, log entry 111. -/
def Tsq.tick (q : Tsq) : Tsq := { q with t0 := if q.t0 == 0 then 0 else q.t0 - 1, t1 := if q.t1 == 0 then 0 else q.t1 - 1 }

/-- The cycle count of the wedge stands at `i`; its restart begins the next wedge (R138, R143). -/
def Tsq.counts (q : Tsq) (i : Nat) : Tsq := { q with cyc := some i, wedge := if i == 0 && q.cyc.isSome then (q.wedge + 1) % 640 else q.wedge }

/-- A fetch that found a correctable error counts in TSQ_STORE_CORR_CNT of the island (R307). -/
def State.corrected (s : State) (m ecc : Nat) : State := if ecc == 1 then s.bump 8 m (0x01080900 + 4 * (m / 2)) else s

/-- A cycle of a running routine. DEDUCED, log entry 65. -/
def State.cycle (s : State) (m : Nat) (d : TakeDesc) (i : CycleIn) : State :=
  let a := s.store.effective (s.mu m).tsq.upc
  let s := (s.updMu m fun x => { x with tsq := { x.tsq.tick.counts i.cycle with upc := a, addr := a } }).gatesAt m d i.cycle
  match s.store.microAt a with
  | none => s.tsqDie m 3
  | some w =>
    let s := s.corrected m i.micro
    if i.micro == 2 then s.tsqDie m 4
    else match s.store.nanoAt (bits w.toNat 22 12) with
    | none => s.tsqDie m 3
    | some nw =>
      let s := s.corrected m i.nano
      if i.nano == 2 then s.tsqDie m 4 else s.microExec m d a w nw i

/-- The sequencer executes one microword and its nanoword, in the cycle of the wedge that follows its last (R143, R291). -/
def execTsqCycle (mu : MuNo) (inputs : CycleIn) (s : State) : Out :=
  match (s.mu mu).tsq.desc with
  | none => .next s
  | some d => guarded ((s.mu mu).tsq.st == .running && s.cycleFits mu d inputs.cycle) s (s.cycle mu d inputs)

/-- The monitor counts 65 microwords since the last safe point (R300). -/
def execTsqSafeViolation (mu : MuNo) (s : State) : Out :=
  let m : Nat := mu
  let q := (s.mu m).tsq
  guarded (q.desc.isSome && 65 ≤ q.sinceSafe && !q.violReported) s (s.safeViolation m)

/-! ### Replacement of a region (R313, R314) -/

/-- First and last addresses of a region's microwords and nanowords (R303): 1 VENDOR, 2 CUSTOMER. -/
def regionOf (region : Nat) : (Nat × Nat) × (Nat × Nat) := if region == 1 then ((0x800, 0xBFF), (0x400, 0x5FF)) else ((0xC00, 0xFFF), (0x600, 0x7FF))

/-- Words written in turn from an address. -/
def putWords {α : Type} [DecidableEq α] (m : Sparse α) (a : Nat) (d : α) : List α → Sparse α
  | [] => m
  | w :: r => putWords (sset m a w d) (a + 1) d r

/-- The region at its fill words (R313). -/
def Store.fillRegion (t : Store) (region : Nat) : Store :=
  let ((ml, mh), (nl, nh)) := regionOf region
  { t with micro := sdrop t.micro fun a => ml ≤ a && a ≤ mh, nano := sdrop t.nano fun a => nl ≤ a && a ≤ nh }

/-- Every hook unbound. -/
def Store.unbindAll (t : Store) : Store := { t with bind0 := 0, bind1 := 0, bind2 := 0, bind3 := 0 }

/-- The customer region is empty (R306, R313). -/
def Store.noCustomer (t : Store) : Store := { t with custLoaded := false, custVer := 0, custHooks := 0 }

/-- The region replaced by an image or, with CLEAR, by the fill words (R313). -/
def Store.install (t : Store) (p : SwapImage) : Store :=
  let u := t.fillRegion p.region
  let u := { u with micro := putWords u.micro p.mbase 0x80000000#32 p.micro, nano := putWords u.nano p.nbase 0 p.nano }
  if p.region == 1 then { u with vendorLoaded := !p.clear, vendorVer := p.version }
  else if p.clear then u.noCustomer
  else { u with custLoaded := true, custVer := p.version, custHooks := p.hooks }

/-- What a failed copy leaves (R314). -/
def Store.installFailed (t : Store) (p : SwapImage) : Store :=
  let u := (t.fillRegion p.region).unbindAll
  if p.region == 1 then { u with vendorLoaded := false, vendorVer := 0 } else u.noCustomer

/-- The bytes of a region as stored, for its measurement: microwords, then nanowords (R313). -/
def Store.customerBytes (t : Store) : List Byte :=
  ((List.range 0x400).flatMap fun i => leBytes 4 (sget t.micro (0xC00 + i) 0x80000000#32).toNat)
    ++ (List.range 0x200).flatMap fun i => leBytes 24 (sget t.nano (0x600 + i) 0).toNat

/-- The replacement is over: the command completes and one that waited becomes pending. -/
def State.endSwap (s : State) (p : SwapImage) (r : Res) : State :=
  let s := { s with store := { s.store with swap := s.store.swapNext, swapNext := none } }
  match p.cmd with
  | some t => s.complete t r
  | none => s

/-- The accepted image is written in all sixteen copies (steps 2 to 4 of R314); `copiesOk` is the comparison of step 3. The events of the whole module
name instance 0, and MU 0 counts the fault: no rule names an instance. DESIGN CHOICE, log entry 111. -/
def execMicrocodeSwapInstall (copiesOk : Bool) (s : State) : Out :=
  match s.store.swap with
  | none => .next s
  | some p =>
    guarded ((List.range 32).all fun m => (s.mu m).tsq.desc.isNone) s <|
      if copiesOk then
        let s := { s with store := s.store.install p }
        let s := s.raise 8 0 4 p.region
        let s := if p.region == 2 then s.measure { comp := 8, flags := 0, version := p.version, digest := Config.sm3 s.store.customerBytes } else s
        s.endSwap p {}
      else (({ s with store := s.store.installFailed p }).tsqFault 0 5).endSwap p { status := 0x0401 }

end Sys2Proof.Machine
end

