-- ==== Sys2Proof/Machine/Images.lean ====
section
/-! DEFINITION. Microcode images: their format, and the checks of a customer image (R293 to R296, R300, R303, R308, R311). -/

namespace Sys2Proof.Machine

/-- Microwords of an image. -/
def microCount (img : List Byte) : Nat := field img 6 2
/-- Nanowords of an image. -/
def nanoCount (img : List Byte) : Nat := field img 8 2
/-- First microaddress of an image. -/
def microBase (img : List Byte) : Nat := field img 10 2
/-- First nanoword address of an image. -/
def nanoBase (img : List Byte) : Nat := field img 12 2
/-- The microwords of an image. -/
def microWords (img : List Byte) : List Word := (List.range (microCount img)).map fun i => BitVec.ofNat 32 (field img (64 + 4 * i) 4)
/-- The nanowords of an image. -/
def nanoWords (img : List Byte) : List (BitVec 192) :=
  (List.range (nanoCount img)).map fun i => BitVec.ofNat 192 (field img (64 + 4 * microCount img + 24 * i) 24)

/-- First microaddress and size of a region, and first nanoword address and size: 1 VENDOR, 2 CUSTOMER, 3 PATCH (R303, R311). -/
def regionSize (region : Nat) : (Nat × Nat) × (Nat × Nat) :=
  if region == 1 then ((0x800, 0x400), (0x400, 0x200)) else if region == 2 then ((0xC00, 0x400), (0x600, 0x200)) else ((0x800, 64), (0, 0))

/-- The header is legal for a region, and the image has its length: 32 match register values follow the words of a patch image, and the signature
ends it (R311). DEDUCED, log entry 52. -/
def imageHeaderOk (region : Nat) (img : List Byte) : Bool :=
  let m := microCount img
  let n := nanoCount img
  let ((mb, ms), (nb, ns)) := regionSize region
  field img 0 4 == 0x49515354 && field img 4 1 == 1 && field img 5 1 == region && 1 ≤ m && m ≤ ms && n ≤ ns
    && mb ≤ microBase img && microBase img + m ≤ mb + ms && (n == 0 && ns == 0 || nb ≤ nanoBase img && nanoBase img + n ≤ nb + ns)
    && field img 14 1 < 16 && field img 15 1 == 0 && ((img.drop 24).take 36).all (· == 0)
    && field img 60 4 == (crc32c (img.take 60)).toNat && img.length == 128 + 4 * m + 24 * n + if region == 3 then 128 else 0

/-- The 32 match register values of a patch image (R304, R311). -/
def matchValues (img : List Byte) : List Word :=
  (List.range 32).map fun i => BitVec.ofNat 32 (field img (64 + 4 * microCount img + 24 * nanoCount img + 4 * i) 4)

/-- A microaddress of the customer region. -/
def inCustomer (a : Nat) : Bool := 0xC00 ≤ a && a ≤ 0xFFF
/-- A service table entry. -/
def inService (a : Nat) : Bool := 0x840 ≤ a && a ≤ 0x87F

/-- A microword of an image whose nanowords stand from `nb`, `nn` of them, is legal (R293, R294, R308). -/
def microOk (nb nn : Nat) (w : Word) : Bool :=
  let x := w.toNat
  let csel := bits x 28 25
  let cw := bits x 24 23
  let nptr := bits x 22 12
  let target := bits x 11 0
  (nptr == 0 || (nb ≤ nptr && nptr < nb + nn)) &&
  (match bits x 31 29 with
   | 0 => csel == 0 && cw == 0 && target == 0
   | 3 => inCustomer target || inService target
   | 4 | 5 => target == 0
   | 6 => csel == 0 && cw ≤ 1 && inCustomer target
   | _ => inCustomer target)

/-- A nanoword holds only what a customer routine may use (R296, R308). -/
def nanoOk (w : BitVec 192) : Bool :=
  let x := w.toNat
  bits x 15 0 == 0 && bits x 19 16 ≤ 6 && bits x 23 20 ≤ 9 && bits x 27 24 ≤ 9 && (bits x 55 52 == 0 || bits x 55 52 == 2) && bits x 63 63 == 0
    && (bits x 67 64 == 0 || bits x 67 64 == 3 || bits x 67 64 == 4) && (bits x 75 72 == 0 || bits x 75 72 == 5) && bits x 91 76 == 0
    && bits x 95 92 ≤ 2 && bits x 191 96 == 0

/-- What R300 needs of the paths from a microaddress: the longest run before a SAFE word or the end, the longest way to a RET without one, and the
longest way from the last one to a RET; values stop at 65. -/
structure RunRow where
  run : Nat := 0
  ret : Option Nat := none
  tail : Option Nat := none
deriving DecidableEq, Repr

/-- The greater of two lengths, none being none. -/
def maxOpt : Option Nat → Option Nat → Option Nat
  | none, b => b
  | a, none => a
  | some a, some b => some (Nat.max a b)

/-- The sum of two lengths up to 65. -/
def addOpt : Option Nat → Option Nat → Option Nat
  | some a, some b => some (Nat.min 65 (a + b))
  | _, _ => none

/-- A word that is not a safe point, going on as one of two rows. -/
def RunRow.both (a b : RunRow) : RunRow := { run := Nat.max a.run b.run, ret := maxOpt a.ret b.ret, tail := maxOpt a.tail b.tail }

/-- `n` words ahead of a row. -/
def RunRow.after (n : Nat) (a : RunRow) : RunRow := { run := Nat.min 65 (n + a.run), ret := addOpt (some n) a.ret, tail := a.tail }

/-- A taken CALL of the routine of row `c` with the row `k` at its return. -/
def RunRow.call (c k : RunRow) : RunRow :=
  { run := Nat.min 65 (Nat.max c.run ((addOpt c.ret (some k.run)).getD 0)), ret := addOpt c.ret k.ret
    tail := maxOpt (addOpt c.tail k.ret) (if c.ret.isSome || c.tail.isSome then k.tail else none) }

/-- The row of a word at address `a`, from the rows of the words it leads to (R294, R300). A condition other than the constants can go both ways. DEDUCED, log entry 80. -/
def runRow (t : Nat → RunRow) (a : Nat) (w : Word) : RunRow :=
  let x := w.toNat
  let target := bits x 11 0
  let always := bits x 28 25 == 0 && bits x 24 23 == 0
  let never := bits x 28 25 == 0 && bits x 24 23 == 1
  let next := t (a + 1)
  let way (taken : RunRow) : RunRow := if always then taken else if never then next else taken.both next
  match bits x 31 29 with
  | 0 | 5 => next.after 1
  | 1 => (way (t target)).after 1
  | 2 => (((List.range (2 ^ (bits x 24 23 + 1))).map fun g => t (target ||| g)).foldl RunRow.both {}).after 1
  | 3 => (way (if inService target then next.after 15 else RunRow.call (t target) next)).after 1
  | 4 => (way { run := 0, ret := some 0 }).after 1
  | 6 => ((t target).both next).after 1
  | _ => let y := way (t target); { run := 0, ret := none, tail := maxOpt y.ret y.tail }

/-- The rows of the region, improved until nothing changes. DEDUCED, log entry 80. -/
def runTable (word : Nat → Word) : Nat → Array RunRow → Array RunRow
  | 0, t => t
  | n + 1, t =>
    let u := ((List.range 0x400).map fun i => runRow (fun a => if inCustomer a then t.getD (a - 0xC00) {} else {}) (0xC00 + i) (word (0xC00 + i))).toArray
    if u == t then t else runTable word n u

/-- The row of an address. -/
def rowAt (t : Array RunRow) (a : Nat) : RunRow := if inCustomer a then t.getD (a - 0xC00) {} else {}

/-- Whether a run after word `w` at `a` exceeds 64 words: after a SAFE word, or after the return of a routine whose last safe point lies in it. -/
def runsOver (t : Array RunRow) (w : Word) (a : Nat) : Bool :=
  let x := w.toNat
  let target := bits x 11 0
  if bits x 31 29 == 7 then decide (64 < (rowAt t target).run) || decide (64 < (rowAt t (a + 1)).run)
  else if bits x 31 29 == 3 && inCustomer target then decide (64 < (addOpt (rowAt t target).tail (some (rowAt t (a + 1)).run)).getD 0)
  else false

/-- The targets that word `w` may go to by itself, and the words that may follow it, before any safe point (R294). -/
def wordTargets (w : Word) : List Nat :=
  let x := w.toNat
  let target := bits x 11 0
  let never := bits x 28 25 == 0 && bits x 24 23 == 1
  match bits x 31 29 with
  | 1 | 3 => if never then [] else [target]
  | 2 => (List.range (2 ^ (bits x 24 23 + 1))).map fun g => target ||| g
  | 6 => [target]
  | _ => []

/-- The words that may follow word `w` at `a` on a path with no safe point so far. -/
def unsafeNext (t : Array RunRow) (w : Word) (a : Nat) : List Nat :=
  let x := w.toNat
  let always := bits x 28 25 == 0 && bits x 24 23 == 0
  let target := bits x 11 0
  (wordTargets w ++ match bits x 31 29 with
    | 1 | 4 => if always then [] else [a + 1]
    | 3 => if always && inCustomer target && (rowAt t target).ret.isNone then [] else [a + 1]
    | 2 | 7 => []
    | _ => [a + 1]).filter inCustomer

/-- The addresses that paths from `todo` reach by `next`. -/
def reached (next : Nat → List Nat) : Nat → List Nat → List Nat → List Nat
  | 0, _, seen => seen
  | _, [], seen => seen
  | f + 1, a :: r, seen => if seen.contains a then reached next f r seen else reached next f (next a ++ r) (a :: seen)

/-- The first microaddress at which the paths of a region fail R300: a run from a hook, from the word after a SAFE word or from a return exceeds 64 words,
which every loop without a safe point does; or a word goes to an earlier address on a path without one. A RET goes on from its CALL. DEDUCED, log
entry 80. -/
def pathsBad (word : Nat → Word) : Option Nat :=
  let t := runTable word 65536 (List.replicate 0x400 ({} : RunRow)).toArray
  let back := (reached (fun a => unsafeNext t (word a) a) 0x8000 [0xC00, 0xC01, 0xC02, 0xC03] []).filter fun a => (wordTargets (word a)).any (· ≤ a)
  match (List.range 4).find? fun h => decide (64 < (rowAt t (0xC00 + h)).run) with
  | some h => some (0xC00 + h)
  | none => ((List.range 0x400).map (· + 0xC00)).find? fun a => runsOver t (word a) a || back.contains a

/-- The word of the region that an image leaves at an address (R313). -/
def imageWord (img : List Byte) (a : Nat) : Word :=
  if microBase img ≤ a then (microWords img).getD (a - microBase img) 0x80000000#32 else 0x80000000#32

/-- The first address of a customer image that fails a check of R308, or 0 when the header does; none when it is accepted. DEDUCED, log entry 80. -/
def imageBad (img : List Byte) : Option Nat :=
  if !imageHeaderOk 2 img then some 0
  else
    let ms := microWords img
    let ns := nanoWords img
    match (ms.zip (List.range ms.length)).find? fun e => !microOk (nanoBase img) (nanoCount img) e.1 with
    | some e => some (microBase img + e.2)
    | none =>
      match (List.range 4).find? fun h => (imageWord img (0xC00 + h)).toNat / 2 ^ 23 != 0x40 with
      | some h => some (0xC00 + h)
      | none =>
        match (ns.zip (List.range ns.length)).find? fun e => !nanoOk e.1 with
        | some e => some (nanoBase img + e.2)
        | none => pathsBad (imageWord img)

end Sys2Proof.Machine
end

