-- ==== Sys2Proof/Machine/Slates.lean ====
section
/-! DEFINITION. Reading slates and quoting them (R412, R413, R519 to R522). -/

namespace Sys2Proof.Machine

/-- What GET_SLATE returns beside the slate (R412). -/
def State.slateRes (s : State) (n : Option Nat) : Res :=
  { r0 := n.getD 0 + s.slateOldest * 2 ^ 32, r1 := s.slateNewest + flag n.isNone * 2 ^ 32 }

/-- A slate returned, or none found (R412). -/
def State.giveSlate (s : State) (t : Nat) : Option Slate → State
  | none => s.endWith t (s.slateRes none)
  | some x => (s.sendBytes t x.bytes).endWith t (s.slateRes (some x.number))

/-- The retained slate of a number. -/
def State.slateOf (s : State) (n : Nat) : Option Slate := s.nor.slates.find? (·.number == n)

/-- GET_SLATE READ (R412). -/
def execGetSlateRead (tag : TagNo) (s : State) : Out :=
  s.manage tag 0x25 0 [] [] false false true [] fun s => s.giveSlate tag (s.slateOf (s.cmd tag).pkt.p2.toNat)

/-- GET_SLATE NEWEST (R412). -/
def execGetSlateNewest (tag : TagNo) (s : State) : Out :=
  s.manage tag 0x25 1 [] [] false false true [] fun s => s.giveSlate tag (s.slateOf s.slateNewest)

/-- GET_SLATE OLDEST_UNEXPORTED (R412). -/
def execGetSlateOldestUnexported (tag : TagNo) (s : State) : Out :=
  s.manage tag 0x25 2 [] [] false false true [] fun s =>
    s.giveSlate tag ((s.slateOf s.slateUnexported).bind fun x => if x.exported then none else some x)

/-- Every retained slate up to `n` marked exported (R412, R520). DEDUCED, log entry 53. -/
def State.markSlates (s : State) (n : Nat) : State :=
  let mark := fun (x : Slate) => if x.number ≤ n then { x with exported := true } else x
  { s with nor := { s.nor with slates := s.nor.slates.map mark } }

/-- GET_SLATE MARK_EXPORTED carried out. -/
def State.markExported (s : State) (t n : Nat) : State :=
  let hit := s.nor.slates.filter (·.number ≤ n)
  let top := hit.foldl (fun a x => Nat.max a x.number) 0
  let u := s.markSlates n
  u.endWith t (u.slateRes (if hit.isEmpty then none else some top))

/-- GET_SLATE MARK_EXPORTED (R412). -/
def execGetSlateMarkExported (tag : TagNo) (s : State) : Out :=
  s.simple tag 0x25 3 [] fun s => s.markExported tag (s.cmd tag).pkt.p2.toNat

/-- The entries a quote lists: the present boot's slate, then the late list (R521). -/
def State.quoteEntries (s : State) (omitLate : Bool) : List SlateEntry :=
  (match s.sec.slate with | some x => x.entries | none => []) ++ (if omitLate then [] else s.nor.late)

/-- A quote without its signature (R521, R522). -/
def State.quoteBody (s : State) (nonce : List Byte) (omitLate : Bool) : List Byte :=
  let es := s.quoteEntries omitLate
  let x := s.sec.slate.getD {}
  let head := leBytes 4 0x544F5551 ++ leBytes 2 1 ++ leBytes 2 es.length ++ leBytes 4 s.nor.bootCount ++ leBytes 4 s.time.pcc
    ++ leBytes 4 s.time.oph ++ leBytes 2 s.time.ops ++ leBytes 1 (flag omitLate) ++ leBytes 1 0 ++ leBytes 4 dikKeyId
    ++ leBytes 4 s.nor.svnMin ++ leBytes 4 s.slateUnexported
  padTo 64 head ++ padTo 32 nonce ++ digestBytes (Config.sm3 x.bytes) ++ es.flatMap SlateEntry.bytes

/-- A quote and the state that has signed it. -/
def State.quote (s : State) (nonce : List Byte) (omitLate : Bool) : List Byte × State :=
  let (sig, s) := s.draw
  (s.quoteBody nonce omitLate ++ dikSignature sig (s.quoteBody nonce omitLate), s)

/-- ATTEST_QUOTE with the 32-byte nonce fetched from PARAM1 (R413, R521). -/
def State.attest (s : State) (t : Nat) (nonce : List Byte) : State :=
  let (q, u) := s.quote nonce false
  if (s.cmd t).pkt.p5.toNat < q.length then s.endWith t { r0 := q.length, r1 := 1 }
  else (u.sendBytes t q).endWith t { r0 := q.length }

/-- ATTEST_QUOTE (R413). -/
def execAttestQuote (tag : TagNo) (nonce : List Byte) (s : State) : Out :=
  if nonce.length == 32 then s.manage tag 0x26 0 [] [] false false true [] fun s => s.attest tag nonce else .next s

end Sys2Proof.Machine
end

