-- ==== Sys2Proof/Machine/Firmware.lean ====
section
/-! DEFINITION. Firmware images, slots and activation (R415, R416, R442, R443, R515, R528 to R532). -/

namespace Sys2Proof.Machine

/-! ### Images (R515, R529) -/

/-- A part written over an image. -/
def overlay (img : List Byte) (ofs : Nat) (part : List Byte) : List Byte :=
  img.take ofs ++ part ++ img.drop (ofs + part.length)

/-- The staged image of `len` bytes: later parts replace earlier ones (R415). -/
def assemble (len : Nat) (parts : List (Nat × List Byte)) : List Byte :=
  (parts.foldl (fun img p => overlay img p.1 p.2) (List.replicate len 0)).take len

/-- Every 4,096-byte piece of an image of `len` bytes has been staged. -/
def staged (len : Nat) (parts : List (Nat × List Byte)) : Bool :=
  (List.range ((len + 4095) / 4096)).all fun i => parts.any fun p => p.1 ≤ i * 4096 && i * 4096 < p.1 + p.2.length

/-- A manifest entry (R515). -/
structure Comp where
  id : Nat
  ofs : Nat
  len : Nat
  version : Nat
  digest : List Byte
  rsvd : Bool
deriving DecidableEq, Repr

/-- Manifest entry `i` of an image. -/
def compAt (img : List Byte) (i : Nat) : Comp :=
  let b := 64 + 64 * i
  { id := field img b 2, ofs := field img (b + 4) 4, len := field img (b + 8) 4, version := field img (b + 12) 12
    digest := (img.drop (b + 32)).take 32, rsvd := field img (b + 2) 2 == 0 && field img (b + 24) 8 == 0 }

/-- The manifest of an image. -/
def compsOf (img : List Byte) : List Comp := (List.range (field img 6 2)).map (compAt img)

/-- The components an image must hold: FIDDLEHEAD, STAGE2, TSQ_PATCH, TSQ_VENDOR and SRV_PROGRAM. -/
def compIds : List Nat := [2, 4, 5, 6, 7]

/-- Header and manifest are legal, for an image of `len` bytes (R515). -/
def imageLegal (img : List Byte) (len : Nat) : Bool :=
  let cs := compsOf img
  let il := field img 20 4
  field img 0 4 == 0x5746484F && field img 4 2 == 1 && 4 ≤ field img 6 2 && field img 6 2 ≤ 16 && field img 16 4 ≤ 127
    && il == len && il % 4096 == 0 && il ≤ 0x4000000 && 1 ≤ field img 24 4 && field img 24 4 ≤ 4 && field img 28 1 < 16
    && field img 29 35 == 0 && (compIds.all fun i => (cs.filter (·.id == i)).length == 1)
    && cs.all fun c => compIds.contains c.id && c.ofs % 64 == 0 && c.ofs + c.len ≤ il && c.rsvd

/-- Cause of R529 for which an image fails its verification, in order. DEDUCED, log entry 52. -/
def State.imageFault (s : State) (img : List Byte) : Option Nat :=
  let m := 64 + 64 * field img 6 2
  let key := field img 24 4
  if !sm2Ok (identityBytes (7 + key) 64) (img.take m) ((img.drop m).take 64) then some 7
  else if s.nor.revoked.getLsbD (key - 1) then some 8
  else if !(compsOf img).all (fun c => digestBytes (Config.sm3 ((img.drop c.ofs).take c.len)) == c.digest) then some 9
  else if field img 16 4 < s.nor.svnMin then some 10
  else none

/-- What a slot's record holds of an image. -/
def slotOf (img : List Byte) : FwSlot :=
  { st := .valid, version := field img 8 8, svn := field img 16 4, keyId := field img 24 4, revoke := BitVec.ofNat 4 (field img 28 1)
    manifest := Config.sm3 (img.take (64 + 64 * field img 6 2))
    comps := (compsOf img).map fun c => { comp := c.id, version := c.version, digest := Config.sm3 ((img.drop c.ofs).take c.len) } }

/-! ### FW_DOWNLOAD (R415, R529) -/

/-- FW_DOWNLOAD and FW_ACTIVATE execute one at a time, in acceptance order (R529). -/
def State.fwTurn (s : State) (t : Nat) : Bool :=
  (s.mgt.orphans.all fun c => c.pkt.opc != 0x27) && s.cmds.all fun c => !((s.tag c.1).st == .accepted && (c.2.pkt.opc == 0x27 || c.2.pkt.opc == 0x28) && c.2.order < (s.cmd t).order)

/-- ACTIVATION_PENDING. -/
def State.pendingCode (s : State) : Bool × Nat := (s.activationPending, 0x0013)

/-- A part enters the staging area at an image offset, in whole words, which clears the POISON bits of the words it covers (R415, R464). -/
def State.stagePart (s : State) (o : Nat) (data : List Byte) : State :=
  { s with sec := { s.sec with staging := s.sec.staging ++ [(o, data)]
                               stagingMarks := s.sec.stagingMarks.filter fun w => !(o ≤ w * 8 && w * 8 < o + data.length) } }

/-- FW_DOWNLOAD PART (R415). -/
def execFwDownloadPart (tag : TagNo) (data : List Byte) (s : State) : Out :=
  if s.fwTurn tag then
    s.manage tag 0x27 0 [] data true false false [s.pendingCode] fun s =>
      (s.stagePart (s.cmd tag).pkt.p2.toNat data).endWith tag {}
  else .next s

/-- The management firmware reads a poisoned word of the staged image: the task ends (R463). -/
def State.stagedPoison (s : State) (t n : Nat) : State := ((s.bump 5 0 (aBuf 0x14) n).raisePoison).endWith t { status := 0x0401 }

/-- COMMIT of the staged image of `len` bytes: read, checked and verified, it makes the slot that is not running WRITING (steps 1 to 3 of R529, R463). -/
def State.commitImage (s : State) (t len : Nat) : State :=
  let img := assemble len s.sec.staging
  let poisoned := (s.sec.stagingMarks.filter fun w => w * 8 < len).length
  if poisoned != 0 then s.stagedPoison t poisoned
  else if !(staged len s.sec.staging && imageLegal img len) then s.endWith t (badField 40)
  else match s.imageFault img with
  | some k => (s.authFailed (s.cmd t).ep k).endWith t { status := 0x0501, r0 := k }
  | none => (s.updSlot (1 - s.sec.slot) fun _ => { st := .writing }).setPhase t .executing

/-- The image is written and has been read back: the slot becomes VALID (step 4 of R529). -/
def State.slotWritten (s : State) (len : Nat) : State := s.updSlot (1 - s.sec.slot) fun _ => slotOf (assemble len s.sec.staging)

/-- The slot is VALID and the command completes. -/
def State.commitEnd (s : State) (t len : Nat) : State := (s.slotWritten len).endWith t {}

/-- A COMMIT that has begun to write its slot. -/
def State.committing (s : State) (t : Nat) : Bool := s.at_ t .executing && (s.cmd t).pkt.opc == 0x27 && !s.hungCommand t

/-- FW_DOWNLOAD COMMIT: presented again once the image is written and read back, it ends, also where a reset has discarded the command (R415, R440, R529). DEDUCED, log entry 52. -/
def execFwDownloadCommit (tag : TagNo) (s : State) : Out :=
  match s.orphan tag 0x27 1 with
  | some c => .next ((s.adopt c).slotWritten c.pkt.p2.toNat)
  | none =>
  if s.committing tag then .next (s.commitEnd tag (s.cmd tag).pkt.p2.toNat)
  else if s.fwTurn tag then s.simple tag 0x27 1 [s.pendingCode] fun s => s.commitImage tag (s.cmd tag).pkt.p2.toNat else .next s

/-- FW_DOWNLOAD DISCARD (R415). -/
def execFwDownloadDiscard (tag : TagNo) (s : State) : Out :=
  if s.fwTurn tag then
    s.simple tag 0x27 2 [s.pendingCode] fun s => { s with sec := { s.sec with staging := [], stagingMarks := [] } }.endWith tag {}
  else .next s

/-! ### FW_ACTIVATE (R416, R442, R531, R532) -/

/-- The slot that FW_ACTIVATE names. -/
def State.slotNamed (s : State) (t : Nat) : Nat := bits (s.cmd t).pkt.p2.toNat 0 0

/-- FW_ACTIVATE NEXT_RESET: PENDING is set, or cleared when the running slot is named (R531). -/
def execFwActivateNextReset (tag : TagNo) (s : State) : Out :=
  let n := s.slotNamed tag
  if s.fwTurn tag then
    s.simple tag 0x28 0 (if n == s.sec.slot then [] else [s.pendingCode]) fun s =>
      { s with nor := { s.nor with pendingSlot := if n == s.sec.slot then none else some n } }.endWith tag {}
  else .next s

/-- FW_ACTIVATE IMMEDIATE: step 1 of R442; POWER_STATE unless the module is in PS0 (R416). -/
def execFwActivateImmediate (tag : TagNo) (s : State) : Out :=
  let n := s.slotNamed tag
  if s.fwTurn tag then
    s.simple tag 0x28 1 [s.pendingCode, (s.pwr.pstate != 0 || s.pwr.transit, 0x0010)] fun s =>
      { s with nor := { s.nor with pendingSlot := some n }
               mgt := { s.mgt with activation := some { cmd := some tag.val, ep := (s.cmd tag).ep, slot := n, oldSlot := s.sec.slot } } }.setPhase tag .executing
  else .next s

/-- The handover record is written to region 8: its place, its last bytes and what memory shows of the word that they fall in are free values (R442,
R459, R464). DESIGN CHOICE, log entry 99. DEDUCED, log entry 71. -/
def State.writeHandover (s : State) : State :=
  let (a, s) := s.draw
  let (n, s) := s.draw
  let (x, s) := s.draw
  let (f, s) := s.draw
  let o := a % 0x158000000
  s.bufWrite (0xEA8000000 + o) ((leBytes 8 (x % 2 ^ 64)).take (1 + n % (8 - o % 8))) (BitVec.ofNat 72 f)

/-- The running firmware has brought every task to a handover point and has written the handover record (step 3 of R442). -/
def execActivationHandover (s : State) : Out :=
  match s.mgt.activation with
  | none => .next s
  | some a => guarded (a.step == 1) s { s.writeHandover with mgt := { s.mgt with activation := some { a with step := 3 } } }

/-- A command that may have been discarded meanwhile ends. -/
def State.endOpt (s : State) (t : Option Nat) (r : Res) : State :=
  match t with
  | none => s
  | some t => s.endWith t r

/-- The activation ends, and the command `t` with it. -/
def State.endActivation (s : State) (t : Option Nat) (r : Res) : State :=
  { s with mgt := { s.mgt with activation := none } }.endOpt t r

/-- The boot count incremented and stored; it saturates (R512, R12). DEDUCED, log entry 53. -/
def State.nextBoot (s : State) : State :=
  if s.nor.bootSat then s
  else { s with nor := { s.nor with bootCount := Nat.min (2 ^ 32 - 1) (s.nor.bootCount + 1)
                                    bootSat := decide (2 ^ 32 ≤ s.nor.bootCount + 1) } }

/-- FW_MANIFEST of a slot's image (R517). -/
def FwSlot.manifestEntry (x : FwSlot) : SlateEntry :=
  { comp := 0x0003, version := x.version % 2 ^ 64 + x.svn * 2 ^ 64, digest := x.manifest }

/-- Entry of a component of a slot's image; one not recorded is an image loaded at manufacture. -/
def FwSlot.compEntry (x : FwSlot) (c : Nat) : SlateEntry :=
  match x.comps.find? (·.comp == c) with
  | some e => e
  | none => { comp := c, digest := BitVec.ofNat 256 (leNat ((List.range 32).map fun i => Config.identity 12 (c * 32 + i))) }

/-- Cause of R529 for which SEC's verification of a slot fails, in order: `sigOk` and `compsOk` say that its signature and its components verify. -/
def State.slotFault (s : State) (slot : Nat) (sigOk compsOk : Bool) : Nat :=
  let x := s.fwSlot slot
  if !sigOk then 7 else if s.nor.revoked.getLsbD (x.keyId - 1) then 8 else if !compsOk then 9 else if x.svn < s.nor.svnMin then 10 else 0

/-- The entries of an IMMEDIATE activation: the image measured, the rest carried (R532). -/
def State.activationEntries (s : State) (slot : Nat) : List SlateEntry :=
  let x := s.fwSlot slot
  let fresh := x.manifestEntry :: compIds.map x.compEntry
  let old := s.sec.entries.filter fun e => !(fresh.map (·.comp)).contains e.comp
  (old.map fun e => { e with flags := e.flags ||| 2#16 }) ++ fresh

/-- The slot runs from now on and is the one to boot, with a slate of CAUSE 3 (R532). -/
def State.runSlot (s : State) (slot : Nat) (slateOk : Bool) : State :=
  let s := { s with nor := { s.nor with active := slot, pendingSlot := none }, sec := { s.sec with slot := slot, fallback := false } }
  let s := s.nextBoot
  (s.signSlate 3 (s.activationEntries slot)).writeSlate slateOk

/-- The new firmware is verified and measured and starts, or fails with a cause of R529, which withdraws the selection of step 1 (step 4 of R442,
R532). DEDUCED, log entry 53. -/
def State.newFirmware (s : State) (a : Activation) (cause : Nat) (slateOk : Bool) : State :=
  if cause == 0 then
    { s.runSlot a.slot slateOk with mgt := { s.mgt with activation := some { a with step := 4 } } }
  else
    let s := { s with nor := { s.nor with pendingSlot := none } }
    (s.authFailed a.ep cause).endActivation a.cmd { status := 0x0501, r0 := cause }

/-- The new firmware's start, once SEC has verified the slot as stage 0 would: whether its signature and its components verify (R529, R532). -/
def execActivationNewFwStart (found : SlotCheck) (slateOk : Bool) (s : State) : Out :=
  match s.mgt.activation with
  | none => .next s
  | some a => guarded (a.step == 3) s (s.newFirmware a (s.slotFault a.slot found.sigOk found.compsOk) slateOk)

/-- An image as a replacement of its region (R311, R313). DEDUCED, log entry 52. -/
def swapOf (region : Nat) (cmd : Option Nat) (img : List Byte) : SwapImage :=
  { cmd := cmd, region := region, version := field img 16 4, hooks := BitVec.ofNat 4 (field img 14 1), mbase := microBase img, micro := microWords img
    nbase := nanoBase img, nano := nanoWords img }

/-- A replacement of a store region becomes pending, behind one already under way (R314). DEDUCED, log entry 52. -/
def State.putSwap (s : State) (x : SwapImage) : State :=
  if s.store.swap.isSome then { s with store := { s.store with swapNext := some x } }
  else { s with store := { s.store with swap := some x } }

/-- The new firmware posts the completion of FW_ACTIVATE; its vendor image is to be installed (steps 5 and 6 of R442). -/
def State.activationDone (s : State) (a : Activation) (vendor : List Byte) : State :=
  let v := (s.fwSlot a.slot).version
  let s := (s.endActivation a.cmd { r0 := v }).notice 0xFFFF 8 v
  if imageHeaderOk 1 vendor then s.putSwap (swapOf 1 none vendor) else s

/-- The activation is done; `vendor` is the vendor image that the new firmware carries, verified with it (R312, R442). DEDUCED, log entry 52. -/
def execActivationDone (vendor : List Byte) (s : State) : Out :=
  match s.mgt.activation with
  | none => .next s
  | some a => guarded (a.step == 4) s (s.activationDone a vendor)

/-- The new firmware has not posted its completion in 3.0 s: the previous slot takes over (R532). DEDUCED, log entry 53. -/
def State.takeover (s : State) (a : Activation) (slateOk : Bool) : State :=
  ((s.runSlot a.oldSlot slateOk).endActivation a.cmd { status := 0x0401, r0 := 11 }).raise 15 0 4 a.slot

/-- The activation's time has run out (R532). -/
def execActivationTimeout (slateOk : Bool) (s : State) : Out :=
  match s.mgt.activation with
  | none => .next s
  | some a => guarded (3 ≤ a.step) s (s.takeover a slateOk)

end Sys2Proof.Machine
end

