-- ==== Sys2Proof/Machine/Vault.lean ====
section
/-! DEFINITION. The spore vault: its bound, its erase passes and channels, the dump and the replay (R496 to R503, R605, R606, R614, R617). -/

namespace Sys2Proof.Machine

/-! ### Areas and images (R497, R498) -/

/-- Blocks of one area, over all channels. -/
def areaBlocks : Nat := 8192

/-- Area 0 is A, 1 is B. -/
def State.area (s : State) (n : Nat) : Area := if n == 0 then s.nor.areaA else s.nor.areaB
/-- `s` with `f` applied to an area. -/
def State.updArea (s : State) (n : Nat) (f : Area → Area) : State :=
  { s with nor := if n == 0 then { s.nor with areaA := f s.nor.areaA } else { s.nor with areaB := f s.nor.areaB } }

/-- The image can be selected for replay: its header has a good copy and it carries no REPLAYED mark (R502). -/
def Image.awaits (i : Image) : Bool := i.headerGood && !i.replayed
/-- The area holds an image that awaits replay. -/
def Area.awaits (a : Area) : Bool := match a.image with | some i => i.awaits | none => false
/-- An unreplayed image exists (R606). -/
def State.unreplayed (s : State) : Bool := s.nor.areaA.awaits || s.nor.areaB.awaits

/-- SEQ of an area's image; 0 without one. -/
def Area.seq (a : Area) : Nat := match a.image with | some i => i.seq | none => 0

/-- The area with the highest SEQ among those that await replay (R502). -/
def State.selectArea (s : State) : Option Nat :=
  match s.nor.areaA.awaits, s.nor.areaB.awaits with
  | true, true => some (if s.nor.areaA.seq < s.nor.areaB.seq then 1 else 0)
  | true, false => some 0
  | false, true => some 1
  | false, false => none

/-- The next area at a start: images go to A and B in turn (R498). DEDUCED, log entry 73. -/
def State.firstArea (s : State) : Nat := if s.nor.areaB.seq < s.nor.areaA.seq then 1 else 0

/-- Number of good channels. -/
def State.goodChannels (s : State) : Nat := ((List.range 8).filter s.vlt.goodCh.getLsbD).length

/-! ### The vault bound (R496) -/

/-- cap_term from the erased and good blocks of the next area, 4 MiB each (R496). -/
def capTerm (blocks : Nat) : Nat := (blocks * 4 - 1024) / 256
/-- rate_term (R496). -/
def rateTerm (eBound good : Nat) : Nat := eBound * good / 8
/-- The vault bound in units of 256 MiB (R496). -/
def vaultBound (blocks eBound good : Nat) : Nat := Nat.min (capTerm blocks) (Nat.min (rateTerm eBound good) 96)

/-- Blocks of the next area that count: those the pass under way has erased so far, or those of a finished pass (R498). DEDUCED, log entry 73. -/
def State.erasedBlocks (s : State) (sofar : Nat) : Nat :=
  let a := s.area s.vlt.nextArea
  if s.vlt.erasing == some s.vlt.nextArea then Nat.min sofar (areaBlocks - a.retired) else a.erased

/-- Every 10 ms VLT computes the vault bound; `erased` is the number of good blocks that an erase pass under way has erased so far (R496). -/
def execVaultBoundUpdate (erased : Nat) (s : State) : Out :=
  guarded s.vlt.released s <|
    let n := s.erasedBlocks erased
    let e := s.mns.bank.eBound
    { s with vlt := { s.vlt with capTerm := Nat.min 255 (capTerm n), rateTerm := rateTerm e s.goodChannels, bound := vaultBound n e s.goodChannels } }

/-! ### Erase passes, blocks and channels (R498, R499) -/

/-- An erase pass of an area begins: none of its blocks counts until the pass has erased it (R498). -/
def State.beginErase (s : State) (n : Nat) : State :=
  let s := s.updArea n fun a => { a with erased := 0, image := none }
  { s with vlt := { s.vlt with erasing := some n, passRetired := [] } }

/-- No pass runs and one is due: the other area's, unless it holds an image that awaits replay (R498, R605). -/
def State.eraseNext (s : State) : State :=
  let o := 1 - s.vlt.nextArea
  if s.vlt.erasing.isNone && s.vlt.eraseOther && !(s.area o).awaits then
    { s with vlt := { s.vlt with eraseOther := false } }.beginErase o
  else s

/-- The passes of a power-on or of a replay's end: the next area first, then the other (R498). An image that awaits replay is never erased. -/
def State.eraseBoth (s : State) : State :=
  let s := { s with vlt := { s.vlt with eraseOther := true } }
  if (s.area s.vlt.nextArea).awaits then s.eraseNext else s.beginErase s.vlt.nextArea

/-- An erase pass completes: the area's good blocks count, and the other area's pass follows (R498). -/
def execVaultEraseDone (s : State) : Out :=
  match s.vlt.erasing with
  | none => .next s
  | some n =>
    guarded s.vlt.released s <|
      let s := s.updArea n fun a => { a with erased := areaBlocks - a.retired }
      { s with vlt := { s.vlt with erasing := none, passRetired := [] } }.eraseNext

/-! ### The dump (R500, R501, R606, R617) -/

/-- The SERIAL that the image's HDA table gives an MU: of the HDA accepted now or, before this start's discovery, last accepted at the port (R500). DEDUCED, log entry 73. -/
def State.dumpSerial (s : State) (v : Nat) : List Byte :=
  let h := s.hda (v / 2)
  if h.usable || h.st == .releasing then (s.desc (v / 2)).serial
  else if s.ready || s.start.phase == .service || s.start.phase == .tables then []
  else sget s.nor.serials (v / 2) []

/-- The zone record goes into the image: its state differs from the journal, or it carries an undelivered deferred error (R500). -/
def Zone.dumped (x : Zone) : Bool :=
  x.st != x.journal.st || x.wp != x.journal.wp || x.gen != x.journal.gen || x.kdom != x.journal.kdom || x.deferred.isSome

/-- The zone records of the image. -/
def State.dumpZones (s : State) : Sparse Zone :=
  s.mus.flatMap fun m => (m.2.zones.filter fun z => z.2.dumped).map fun z => (m.1 * 2 ^ 17 + z.1, z.2)

/-- The dirty sectors in manifest order, ascending by volume and LBA. -/
def State.dumpSectors (s : State) : List (Nat × Sector) := s.bca.index.map fun e => (e.1, e.2.sector.getD {})

/-- Dirty sectors of conventional zones; while no format has been read, those in staging. DEDUCED, log entry 73. -/
def State.dumpConv (s : State) : List Nat :=
  (s.bca.index.filter fun e => if s.zoneCount (dvol e.1) == 0 then e.2.staged else s.isConv (dvol e.1) (zoneOf (dlba e.1))).map (·.1)

/-- The image as the dump starts: its manifest is fixed from the preserved dirty index (R500). DEDUCED, log entry 73. -/
def State.newImage (s : State) : Image :=
  { seq := Nat.max s.vlt.seq (Nat.max s.nor.areaA.seq s.nor.areaB.seq) + 1, time := s.time, dirty := s.bca.index.length, goodMask := s.vlt.goodCh
    serials := ((List.range 32).map fun v => (v, s.dumpSerial v)).filter fun e => decide (e.2 ≠ [])
    sectors := s.dumpSectors, conv := s.dumpConv, zones := s.dumpZones }

/-- VLT acts on the power-fail signal: no image while one awaits replay (R606), a dump-skipped record without a good channel (R617), else one
image to the next area (R500). -/
def State.startDump (s : State) : State :=
  if s.unreplayed then s
  else if s.goodChannels == 0 then
    { s with nor := { s.nor with dumpSkipped := some { dirty := s.bca.index.length, time := s.time } } }
  else
    let i := s.newImage
    let s := s.updArea s.vlt.nextArea fun a => { a with erased := 0, image := some i }
    let s := s.bump 5 0 (aBuf 0x14) (i.sectors.foldl (fun n e => n + e.2.poisoned) 0)
    { s with vlt := { s.vlt with dumping := true, erasing := none, seq := i.seq } }

/-- The image as far as the dump has come: 1 the header, 2 the metadata too, 3 every data page and the seal. -/
def Image.written (i : Image) (progress : Nat) : Image :=
  { i with headerGood := 1 ≤ progress, metaGood := 2 ≤ progress, sealGood := 3 ≤ progress }

/-- The dump ends with the image written so far. -/
def State.closeImage (s : State) (progress : Nat) : State :=
  let s := s.updArea s.vlt.nextArea fun a => { a with image := a.image.map fun i => i.written progress }
  { s with vlt := { s.vlt with dumping := false, nextArea := 1 - s.vlt.nextArea } }

/-- A feed is present. -/
def State.feedPresent (s : State) : Bool := s.mns.feedA.present || s.mns.feedB.present

/-- MNS releases the power-fail signal and holds every island but the always-on island in reset for 10 ms (R77, R615). -/
def State.holdRestart (s : State) : State :=
  let resetting := s.start.resetting
  let s := { s with mns := { s.mns with powerFail := false, pwrgd := true } }.resetIslands
  { s with thp := { s.thp with shutdown := false }
           start := { s.start with phase := .inReset, resetting := resetting, cold := true, dumpRestart := true, cause := 0 } }

/-- The dump ends: a thermal shutdown that waited takes effect (R49), and with a feed present the module is held for its restart (R77). DEDUCED, log entry 74. -/
def State.dumpEnd (s : State) (progress : Nat) : State :=
  let s := s.closeImage progress
  match s.thp.shutdownPending with
  | some n =>
    let s := s.thermalShutdown n
    if s.feedPresent then
      { s with mns := { s.mns with powerFail := false, pwrgd := true }, start := { s.start with cold := true } }
    else s
  | none => if s.feedPresent then s.holdRestart else s

/-- Both seal pages are written (R501, step 6). -/
def execVaultDumpDone (s : State) : Out := guarded s.vlt.dumping s (s.dumpEnd 3)

/-! ### Channels that fail -/

/-- A channel is failed: one event, and it leaves GOOD_CH; a dump without a good channel left ends as far as it has come (R499). -/
def State.failChannel (s : State) (c progress : Nat) : State :=
  let s := { s with vlt := { s.vlt with goodCh := s.vlt.goodCh &&& ~~~(1#8 <<< c) } }.raise 7 0 5 c
  if s.vlt.dumping && s.goodChannels == 0 then s.dumpEnd (Nat.min progress 2) else s

/-- A channel does not answer an operation; `progress` says how far a dump under way has come: 0 nothing whole, 1 the header, 2 the metadata too (R499). -/
def execVaultChannelFailed (channel progress : Nat) (s : State) : Out :=
  guarded (channel < 8 && s.vlt.released && s.vlt.goodCh.getLsbD channel) s (s.failChannel channel progress)

/-- A block of an area fails an erase or a program and is retired; the 65th that a channel retires in one erase pass fails the channel (R499). -/
def execVaultBlockRetire (area channel : Nat) (s : State) : Out :=
  guarded (area < 2 && channel < 8 && s.vlt.released && s.vlt.goodCh.getLsbD channel && (s.area area).retired < areaBlocks) s <|
    let s := (s.updArea area fun a => { a with retired := a.retired + 1, erased := a.erased - 1 }).bump 7 0 0x0107001C
    if s.vlt.erasing == some area then
      let n := sget s.vlt.passRetired channel 0 + 1
      let s := { s with vlt := { s.vlt with passRetired := sset s.vlt.passRetired channel n 0 } }
      if 64 < n then s.failChannel channel 0 else s
    else s

/-- VLT is released: it tests its channels, takes the next area, and starts the erase passes given (R441, R498, R499). DEDUCED, log entry 74. -/
def State.releaseVlt (s : State) (channels : BitVec 8) : State :=
  let s := { s with vlt := { s.vlt with released := true, goodCh := channels, nextArea := s.firstArea } }
  (List.range 8).foldl (fun s c => if channels.getLsbD c then s else s.raise 7 0 5 c) s

/-! ### Replay (R502, R503, R605, R616) -/

/-- An event that carries the stamp of an image header or of a dump-skipped record (R549). DEDUCED, log entry 73. -/
def State.raiseStamped (s : State) (k a : Nat) (t : OpTime) : State := s.offer { msg := mkMsg 7 0 k a, stamp := some t }

/-- The zones that journals show open receive their deferred errors when the metadata is lost (R503). -/
def State.loseOpen (s : State) : List OpenZone → State
  | [] => s
  | z :: r => (s.deferErrorAs false z.vol z.zone (z.zone * 65536 + z.wp) (z.cap - z.wp) 3).loseOpen r

/-- All was lost: deferred errors, one VAULT_INVALID event, RESULT 3 and the number of dirty sectors lost (R503, R617). -/
def State.allLost (s : State) (dirty : Nat) (t : OpTime) (zs : List OpenZone) : State :=
  let s := (s.loseOpen zs).raiseStamped 4 dirty t
  { s with vlt := { s.vlt with result := 3, sealed := false, lost := Nat.min (2 ^ 32 - 1) dirty } }

/-- Before VLT selects an image, a dump-skipped record is acted on and cleared (R617). -/
def State.skippedDump (s : State) (zs : List OpenZone) : State :=
  match s.nor.dumpSkipped with
  | none => s
  | some d => { s.allLost d.dirty d.time zs with nor := { (s.allLost d.dirty d.time zs).nor with dumpSkipped := none } }

/-- The image under replay. -/
def State.replayImage (s : State) : Image := (s.vlt.selected.bind fun n => (s.area n).image).getD {}

/-- The MU's data and zone records are dropped: no HDA accepted, another SERIAL, or a format record that names another (R503). -/
def State.muGone (s : State) (i : Image) (foreign : List Nat) (v : Nat) : Bool :=
  let h := s.hda (v / 2)
  !h.usable || (s.desc (v / 2)).serial != sget i.serials v [] || foreign.contains v

/-- A zone record of the image restored: kept under R616, or dropped but for its deferred error. -/
def State.restoreZone (s : State) (gone : Bool) (k : Nat) (x : Zone) : State :=
  s.updZone (k / 2 ^ 17) (k % 2 ^ 17) fun y =>
    if gone then { y with deferred := x.deferred, st := if x.deferred.isSome then x.st else y.st }
    else { x with pend := none, handed := 0, inSch := false, lastCommit := 0, kept := true }

/-- The zone records of the image restored in turn. -/
def State.restoreZones (s : State) (i : Image) (foreign : List Nat) : Sparse Zone → State
  | [] => s
  | (k, x) :: r => (s.restoreZone (s.muGone i foreign (k / 2 ^ 17)) k x).restoreZones i foreign r

/-- A sector installed as DIRTY with class 1, or in staging for a conventional zone (R502). -/
def State.installDirty (s : State) (conv : Bool) (k : Nat) (d : Sector) : State :=
  if conv then s.placeStaged (dvol k) (dlba k) d 0 else s.placeLineAs 1 (dvol k) (dlba k) d 0

/-- Sectors installed in turn. -/
def State.installAll (s : State) (conv : List Nat) : List (Nat × Sector) → State
  | [] => s
  | (k, d) :: r => (s.installDirty (conv.contains k) k d).installAll conv r

/-- Zones of the keys listed, as volume × 2¹⁷ + zone, without repeats. -/
def zonesOfKeys (ks : List Nat) : List Nat := (ks.map fun k => dvol k * 2 ^ 17 + zoneOf (dlba k)).eraseDups

/-- Deferred errors for lost sectors, zone by zone, over the range that R381 gives; the write pointer is that of the image's zone record. -/
def State.loseKeys (s : State) (i : Image) (cause : Nat) (ks : List Nat) : List Nat → State
  | [] => s
  | z :: r =>
    let v := z / 2 ^ 17
    let own := ks.filter fun k => dvol k * 2 ^ 17 + zoneOf (dlba k) == z
    let lo := dlba (own.headD 0)
    let conv := i.conv.contains (own.headD 0)
    let count := if conv then dlba (own.getLastD 0) + 1 - lo else z % 2 ^ 17 * 65536 + (sget i.zones z {}).wp - lo
    (s.deferErrorAs conv v (z % 2 ^ 17) lo count cause).loseKeys i cause ks r

/-- MGT enters service mode (R304, R603 step 11). -/
def State.enterService (s : State) : State :=
  { s with start := { s.start with phase := .service }, store := { s.store with service := true } }.emit (.uart 11)

/-- A dumped sector passes its own checks: its SCRC matches and its LTAG names the volume and LBA of its slot (R469, R503). -/
def slotOk (k : Nat) (x : Sector) : Bool := crc32c (x.data ++ x.hmeta) == x.scrc && dkey x.vol x.lba == k

/-- The replay of an image whose metadata checks: a sector is lost when its page fails or it fails its own checks, and a restored sector of an
ERASED key domain is dropped (R502, R503, R537). DEDUCED, log entry 73. -/
def State.replayGood (s : State) (i : Image) (found : ReplayIn) : State :=
  let fails (e : Nat × Sector) : Bool := found.bad.contains e.1 || !slotOk e.1 e.2
  let bad := (i.sectors.filter fails).map (·.1)
  let rest := i.sectors.filter fun e => !fails e
  let dropped := (rest.filter fun e => s.muGone i found.foreign (dvol e.1)).map (·.1)
  let left := rest.filter fun e => !s.muGone i found.foreign (dvol e.1)
  let erased := (left.filter fun e => (s.kd e.2.kdom).st == .erased).map (·.1)
  let kept := left.filter fun e => (s.kd e.2.kdom).st != .erased
  let s := (s.restoreZones i found.foreign i.zones).installAll i.conv kept
  let s := ((s.loseKeys i 3 bad (zonesOfKeys bad)).loseKeys i 2 dropped (zonesOfKeys dropped)).loseKeys i 4 erased (zonesOfKeys erased)
  let s := s.raiseStamped 1 i.dirty i.time
  let s := if found.sealOk then s else s.raiseStamped 3 i.seq i.time
  let s := if bad.isEmpty then s else s.raiseStamped 4 bad.length i.time
  let lost := bad.length + dropped.length
  let s := { s with vlt := { s.vlt with result := if lost == 0 then 1 else 2, sealed := found.sealOk, lost := Nat.min (2 ^ 32 - 1) lost } }
  s.raise 7 0 2 kept.length

/-- The replay of an image both of whose metadata copies fail (R503). -/
def State.replayBad (s : State) (i : Image) (found : ReplayIn) : State :=
  let s := s.raiseStamped 1 i.dirty i.time
  let s := if found.sealOk then s else s.raiseStamped 3 i.seq i.time
  let s := s.allLost i.dirty i.time found.openZones
  { s with vlt := { s.vlt with sealed := found.sealOk } }.raise 7 0 2 0

/-- The end of a replay: the REPLAYED mark, the count, and the erases of both areas; a pass of the next area that still runs is that area's (R498,
R502, R603, R605). DEDUCED, log entry 73. -/
def State.replayEnd (s : State) : State :=
  let n := s.vlt.selected.getD 0
  let seq := s.replayImage.seq
  let s := s.updArea n fun a => { a with image := a.image.map fun i => { i with replayed := true } }
  let s := { s with vlt := { s.vlt with selected := none, replaying := false, seq := seq } }.bump 7 0 0x01070018
  (if s.vlt.erasing.isSome then { s with vlt := { s.vlt with eraseOther := true } } else s.eraseBoth).enterService

/-- Replay starts once step 9 is done and the vault bound suffices or the bank has left CHARGING (R605). -/
def execReplayStart (s : State) : Out :=
  guarded (s.start.phase == .tables && s.vlt.selected.isSome && !s.vlt.replaying && !s.mns.powerFail
      && ((s.replayImage.dirty + 65535) / 65536 ≤ s.vlt.bound || s.mns.bank.st != .charging)) s
    ({ s with vlt := { s.vlt with replaying := true } }.emit (.uart 10))

/-- Replay ends (R502, R503). -/
def execReplayDone (found : ReplayIn) (s : State) : Out :=
  guarded (s.vlt.replaying && !s.mns.powerFail) s <|
    let i := s.replayImage
    (if found.metaOk && i.metaGood then s.replayGood i { found with sealOk := found.sealOk && i.sealGood }
     else s.replayBad i { found with sealOk := found.sealOk && i.sealGood }).replayEnd

/-! ### Lines installed again from the preserved dirty index (R585, R612) -/

/-- The dirty sectors that lay in lines. -/
def State.lineSectors (s : State) : List (Nat × Sector) := (s.bca.index.filter fun e => !e.2.staged).map fun e => (e.1, e.2.sector.getD {})

/-- The dirty lines installed from the preserved dirty index (R585, R612). -/
def State.reinstall (s : State) : State := s.installAll [] s.lineSectors

end Sys2Proof.Machine
end

