-- ==== Sys2Proof/Machine/Mains.lean ====
section
/-! DEFINITION. Mains feeds, the power-fail signal, the hold-up bank with its energy and health test, and the CALREF connector (R66, R75 to R99). -/

namespace Sys2Proof.Machine

/-- MNS counters. -/
def aMns (ofs : Nat) : Nat := 0x01140000 + ofs

/-! ### The power-fail signal (R30, R76 to R78, R501) -/

/-- Whether the signal now asserted is to start a dump: VLT writes an image (R500, R606, R617). DEDUCED, log entry 74. -/
def State.willDump (s : State) : Bool := !s.unreplayed && (!(s.vlt.released || s.thp.shutdown) || s.goodChannels != 0)

/-- OPH, OPS, PCC and the counter store as NOR keeps them (R9, R18). -/
def State.saveTime (s : State) : State := { s with nor := { s.nor with ctr := s.ctr, time := s.time } }

/-- A health test in progress is abandoned (R85). DESIGN CHOICE, log entry 100. -/
def Bank.abandon (b : Bank) : Bank :=
  if b.st == .testing then { b with st := b.beforeTest, eBound := if b.beforeTest == .failed then 0 else b.eBound } else b

/-- MNS asserts the power-fail signal for a case of R76, 1 to 3; while it is asserted nothing further happens. Whether the save
of the counters and the operating time to NOR completes is a free value; where it does not, they resume from the hourly save (R18). DESIGN CHOICE, log
entry 108. DEDUCED, log entry 102. -/
def State.assertPowerFail (s : State) (case : Nat) : State :=
  if s.mns.powerFail then s
  else
    let s := (s.raise 20 0 3 case).bump 20 0 (aMns 0x30)
    let s := if s.willDump then s.bump 7 0 0x01070014 else s
    let s := { s with mns := { s.mns with powerFail := true, pwrgd := false, bank := s.mns.bank.abandon } }
    let (n, s) := s.draw
    let s := if n % 2 == 0 then s.saveTime else s
    if s.vlt.released || s.thp.shutdown then s.startDump else s

/-! ### Feeds (R75, R79, R82) -/

/-- A feed by number: 0 A, 1 B. -/
def Mns.feed (m : Mns) (f : Nat) : Feed := if f == 0 then m.feedA else m.feedB
/-- `s` with `g` applied to a feed. -/
def State.updFeed (s : State) (f : Nat) (g : Feed → Feed) : State :=
  { s with mns := if f == 0 then { s.mns with feedA := g s.mns.feedA } else { s.mns with feedB := g s.mns.feedB } }

/-- A feed becomes present: one FEED_RESTORED event, and the ledger capacity may rise (R75, R79). The feed that powers an unpowered module comes
with POWER_ON. -/
def execFeedPresent (feed : Nat) (s : State) : Out :=
  guarded (feed < 2 && s.mns.busUp && !(s.mns.feed feed).present) s
    ((s.updFeed feed fun x => { x with present := true }).raise 20 0 2 feed).settleLedger

/-- A feed is lost; the loss that leaves no feed present asserts the power-fail signal (R75, R76). -/
def execFeedLost (feed : Nat) (s : State) : Out :=
  unheld (feed < 2 && s.mns.busUp && (s.mns.feed feed).present) s <|
    let s := ((s.updFeed feed fun x => { x with present := false, freq := 0 }).raise 20 0 1 feed).bump 20 0 (aMns (0x28 + 4 * feed))
    let s := s.settleLedger
    if s.feedPresent then s else s.assertPowerFail 1

/-- The stages of the feeds that are present are marked (R93). DEDUCED, log entry 89. -/
def State.markStages (s : State) : State :=
  { s with mns := { s.mns with feedA := { s.mns.feedA with stageFault := s.mns.feedA.stageFault || s.mns.feedA.present }
                               feedB := { s.mns.feedB with stageFault := s.mns.feedB.stageFault || s.mns.feedB.present } } }

/-- The hold-up converter has supplied the bus for 2 ms with a feed present (R76). -/
def execInputStageFault (s : State) : Out :=
  unheld (s.mns.busUp && s.mns.converterOn && s.feedPresent && !s.mns.powerFail) s (s.markStages.assertPowerFail 2)

/-- The 12 V bus has stayed below 11.4 V for 20 µs (R76). -/
def execBusCollapse (s : State) : Out := unheld (s.mns.busUp && !s.mns.powerFail) s (s.assertPowerFail 3)

/-- The bus falls below 11.6 V and the hold-up converter joins it (R76). DEDUCED, log entry 89. -/
def execHoldupConverterJoin (s : State) : Out :=
  guarded (s.mns.busUp && !s.mns.converterOn) s { s with mns := { s.mns with converterOn := true } }

/-! ### Energy of the bank (R84, R88) -/

/-- E_USABLE in whole joules from the bank voltage in 10 mV, the capacitance in mF and the ESR in mΩ (R84). -/
def usableEnergy (v cap esr : Nat) : Nat :=
  let f := 1600 + esr
  if v ≤ f then 0 else 46 * cap * (v * v - f * f) / 10 ^ 9

/-- The energy bound in units of 256 MiB (R88). -/
def energyBound (e : Nat) : Nat := if e ≤ 160 then 0 else Nat.min 96 ((e - 160) * 1000 / 20135)

/-- The bank after a reading of its voltage and temperature: charged, it leaves CHARGING (R84, R88, R96). DEDUCED, log entry 6. DESIGN CHOICE, log entry 100. -/
def Bank.update (b : Bank) (v : Nat) (t : Int) : Bank :=
  let e := Nat.min 65535 (usableEnergy v b.capMF b.esrMO)
  let st := if b.st == .charging && 5000 ≤ v then .ready else b.st
  { b with vBank := v, temp := t, st := st, eUsable := e, eBound := if st == .failed then 0 else energyBound e }

/-- A feed's figures; FREQ reads 0 while it is absent (R94). -/
def Feed.measure (x : Feed) (v f p : Nat) : Feed := { x with vrms := v, freq := if x.present then f else 0, pin := p }

/-- MNS takes its measurements and computes E_USABLE and the energy bound (R84, R88); the converter leaves the bus when it is back at 11.6 V. DEDUCED, log entry 89. -/
def execEUsableUpdate (m : Measured) (s : State) : Out :=
  guarded s.mns.busUp s
    { s with mns := { s.mns with
        feedA := s.mns.feedA.measure m.vrmsA m.freqA m.pinA, feedB := s.mns.feedB.measure m.vrmsB m.freqB m.pinB
        shareA := m.shareA, busV := m.busV, busI := m.busI, converterOn := s.mns.converterOn && m.busV < 11600
        bank := s.mns.bank.update m.vBank m.temp } }

/-! ### The health test (R85 to R87) -/

/-- A test is due: after the first full charge, after 24 operating hours, after 10 °C, or on request (R85). DESIGN CHOICE, log entry 100. -/
def State.testDue (s : State) : Bool :=
  let b := s.mns.bank
  !b.tested || 86400 ≤ b.sinceTest || 10 < (b.temp - b.lastTestTemp).natAbs || !b.hostRequests.isEmpty

/-- A test that is due starts: the charger runs, the bank is full, no power fails (R85, R86). DESIGN CHOICE, log entry 100. -/
def execHoldupTestStart (s : State) : Out :=
  let b := s.mns.bank
  guarded (s.mns.busUp && s.testDue && b.st != .testing && !s.mns.chargePaused && 5000 ≤ b.vBank && !s.mns.powerFail) s
    { s with mns := { s.mns with bank := { b with st := .testing, beforeTest := b.st } } }

/-- ESR in mΩ from V0 and V0s in 10 mV at 5.0 A (R86). DEDUCED, log entry 75. -/
def testEsr (v0 v0s : Nat) : Nat := Nat.min 4095 ((v0 - v0s) * 2)
/-- Capacitance in mF from V0s and V1 in 10 mV (R86). DEDUCED, log entry 75. -/
def testCap (v0s v1 : Nat) : Nat := Nat.min 65535 (500000 / (v0s - v1))

/-- The bank after a test (R86, R87). DEDUCED, log entry 75. -/
def Bank.afterTest (b : Bank) (cap esr oph : Nat) (failed : Bool) : Bank :=
  { b with capMF := cap, esrMO := esr, testOph := oph, tested := true, lastTestTemp := b.temp, sinceTest := 0, hostRequests := []
           worn := cap < 2400 || 600 < esr, st := if failed then .failed else .ready
           eBound := if failed then 0 else b.eBound }

/-- The test ends: capacitance, ESR, WORN and FAILED, its events, and the commands that asked for it (R86, R87, R422). DEDUCED, log entry 22. -/
def State.testDone (s : State) (cap esr : Nat) (cellOver : Bool) : State :=
  let b := s.mns.bank
  let zero := energyBound (usableEnergy 5000 cap esr) == 0
  let failed := cellOver || zero
  let n := b.afterTest cap esr s.time.oph failed
  let s := { s with mns := { s.mns with bank := n }, nor := { s.nor with capMF := cap, esrMO := esr } }
  let s := s.raise 20 0 4 cap
  let s := if n.worn && !b.worn then s.raise 20 0 5 cap else s
  let s := if failed && b.beforeTest != .failed then s.raise 20 0 6 (flag cellOver + 2 * flag zero) else s
  let s := if failed then s.latentFail 20 0 6 0 else s.latentPass 6
  s.endAll { r0 := cap + esr * 2 ^ 16 } b.hostRequests

/-- The measurements of a health test in 10 mV; `cellOver` says that a cell has exceeded 2.6 V (R86, R87). -/
def execHoldupTestDone (v0 v0s v1 : Nat) (cellOver : Bool) (s : State) : Out :=
  guarded (s.mns.bank.st == .testing && v0s ≤ v0 && v1 < v0s) s (s.testDone (testCap v0s v1) (testEsr v0 v0s) cellOver)

/-! ### CALREF (R66, R594) -/

/-- CAL_DET has been low for 10 ms (R66). -/
def execCalrefPresent (s : State) : Out :=
  guarded (s.mns.busUp && !s.mns.calref) s { s with mns := { s.mns with calref := true } }

/-- CAL_DET has been high for 10 ms; a CALIBRATE CALREF under way ends with CALREF_ABSENT and changes nothing (R66, R594). -/
def execCalrefGone (s : State) : Out :=
  guarded s.mns.calref s <|
    let t := { s with mns := { s.mns with calref := false }, cal := { s.cal with calrefCmd := none, busy := s.cal.busy && s.cal.calrefCmd.isNone } }
    match s.cal.calrefCmd with
    | some c => t.complete c (conflict 0x000E)
    | none => t

end Sys2Proof.Machine
end

