-- ==== Sys2Proof/Machine/ConfigSpace.lean ====
section
/-! DEFINITION. What an endpoint's configuration space holds: the header of R323, the places of its capabilities (R324), and the fields that the
module's own rules fix (R318, R320, R328, R329, R332). Registers that only PCI Express itself lays down are not held. PRESUMED, log entry 98. -/

namespace Sys2Proof.Machine

/-- BAR0 with one of its DWs written: the low 26 bits are wired, 64 MiB (R323). -/
def bar0Written (bar : Nat) (upper : Bool) (v : Nat) : Nat := if upper then bar % 2 ^ 32 + v * 2 ^ 32 else bar / 2 ^ 32 * 2 ^ 32 + v / 2 ^ 26 * 2 ^ 26

/-- A DW of the configuration header, 0x00 to 0x3F: IDs, Command and Status, class code, BAR0 as 64-bit non-prefetchable memory, capability pointer
0x40 and Interrupt Pin 0; the other BARs and the expansion ROM read as zero (R323, R324, R325). -/
def Endpoint.header (x : Endpoint) (ofs : Nat) : Nat :=
  match ofs with
  | 0x00 => 0x32161FA7
  | 0x04 => flag x.mse * 2 + flag x.bme * 4 + 0x00100000
  | 0x08 => 0x018000B0
  | 0x10 => x.bar0 % 2 ^ 32 + 4
  | 0x14 => x.bar0 / 2 ^ 32
  | 0x2C => 0x00011FA7
  | 0x34 => 0x40
  | _ => 0

/-- The capabilities by offset, with their identifiers (R324). -/
def capabilities : List (Nat × Nat) :=
  [(0x40, 0x01), (0x50, 0x11), (0x60, 0x10), (0x100, 0x01), (0x150, 0x03), (0x160, 0x19), (0x1A0, 0x26), (0x1E0, 0x27), (0x230, 0x2A), (0x270, 0x1E)
   , (0x280, 0x18), (0x290, 0x2E)]

/-- The capability after the one at an offset in the same list, 0 at its end. -/
def capAfter (ofs : Nat) : Nat := ((capabilities.find? fun c => ofs < c.1 && (decide (c.1 < 0x100) == decide (ofs < 0x100))).map (·.1)).getD 0

/-- Most non-posted requests that an endpoint has outstanding (R320). A fetch from host memory is one command of this model, so none stands between
commands. -/
def Endpoint.tagLimit (x : Endpoint) : Nat := if x.tag10 then 768 else 256

/-- A DW of an endpoint's configuration space: the header, each capability's identifier and successor, the D-state, the MSI-X table and pending-bit
places and Table Size, and what R320, R324, R329, R332 and R337 say of the PCI Express, AER, serial number, L1 PM and DOE capabilities, at the places
that PCI Express gives it (R318, R320, R323 to R325, R328, R329, R332, R337). PRESUMED, log entry 98. -/
def State.configDw (s : State) (e ofs : Nat) : Nat :=
  let x := s.ep e
  let full := if s.dual then 8 else 16
  if ofs < 0x40 then x.header ofs
  else match ofs with
  | 0x44 => flag x.d3hot * 3
  | 0x50 => 0x11 + capAfter 0x50 * 2 ^ 8 + (s.vectors - 1) * 2 ^ 16 + flag x.funcMask * 2 ^ 30
  | 0x54 => 0x00300000
  | 0x58 => 0x00302000
  | 0x64 => 2 + 2 ^ 5 + 2 ^ 15 + 2 ^ 28
  | 0x68 => flag x.relaxed * 2 ^ 4 + x.maxPayload * 2 ^ 5 + 2 ^ 8 + x.maxRead * 2 ^ 12 + x.devStatus.toNat * 2 ^ 16
  | 0x6C => 5 + full * 2 ^ 4 + 2 * 2 ^ 10 + 2 * 2 ^ 15
  | 0x70 => flag x.aspmL1 * 2 + (x.speed + x.width * 2 ^ 4) * 2 ^ 16
  | 0x84 => 0xF + 2 ^ 11 + 2 ^ 16 + 2 ^ 17
  | 0x88 => x.timeout + flag x.ltrEnable * 2 ^ 10 + flag x.tag10 * 2 ^ 12
  | 0x8C => 0x3E
  | 0x10C => x.aerSev.toNat
  | 0x118 => 2 ^ 5 + flag x.ecrcGen * 2 ^ 6 + 2 ^ 7 + flag x.ecrcCheck * 2 ^ 8
  | 0x154 => Config.serialNumber % 2 ^ 32
  | 0x158 => Config.serialNumber / 2 ^ 32 % 2 ^ 32
  | 0x274 => 0x14 + 20 * 2 ^ 8 + 1 * 2 ^ 16 + 5 * 2 ^ 19
  | 0x278 => flag x.aspmL12 * 4
  | 0x29C => flag (!x.doeRequest.isEmpty) + flag (!x.doeResponse.isEmpty) * 2 ^ 31
  | 0x2A4 => leNat (x.doeResponse.take 4)
  | 0x104 => x.aerUncorr.toNat
  | 0x110 => x.aerCorr.toNat
  | _ => match capabilities.find? fun c => c.1 == ofs with
    | some c => if ofs < 0x100 then c.2 + capAfter ofs * 2 ^ 8 else c.2 + 2 ^ 16 + capAfter ofs * 2 ^ 20
    | none => 0

end Sys2Proof.Machine
end

