-- ==== Sys2Proof/Machine/HostLink.lean ====
section
/-! DEFINITION. The PCI Express host link: endpoint resets, configuration space, link states, errors, and writes of BAR0
registers (R4 to R11, R318 to R341, R366, R372, R373, R440). -/

namespace Sys2Proof.Machine

/-! ### Resets of an endpoint (R333, R372, R373, R440) -/

/-- The module is powered and out of reset, so that HLK answers (R335). -/
def State.hlkRuns (s : State) : Bool := s.start.phase != .off && s.start.phase != .inReset

/-- Module port and queue numbers of endpoint `e`. -/
def State.ownsPort (s : State) (e m : Nat) : Bool := moduleNo e 0 ≤ m && m < moduleNo e 0 + s.portsPerEp

/-- The Noesh state of an endpoint reset: its commands discarded, its tags free, its ports and queues at their reset
values, its MSI-X table and bindings cleared, its reset epoch advanced (R333, R372, R411). -/
def State.noeshReset (s : State) (e : Nat) : State :=
  let s := s.discardAll (s.cmdsWhere fun c => c.ep == e)
  let s := { s with tags := sdrop s.tags (s.tagOf e), ports := sdrop s.ports (s.ownsPort e), cqs := sdrop s.cqs (s.ownsPort e) }
  s.updEp e fun x => { x with epoch := x.epoch + 1, msix := [], msixPend := [], bindings := [], nonce := none, crstBusy := false }

/-- Configuration space after a reset that leaves sticky fields (R333); the SPDM connection goes with it (R338). PRESUMED, log entry 98. -/
def Endpoint.softReset (x : Endpoint) : Endpoint :=
  { x with bme := false, mse := false, bar0 := 0, d3hot := false, funcMask := false, aspmL1 := false, aspmL12 := false, ltrEnable := false
           relaxed := true, maxPayload := 0, maxRead := 2, tag10 := false, timeout := 0, devStatus := 0
           spdm := {}, doeRequest := [], doeResponse := [] }

/-- The sticky fields at their defaults: AER status, severity and ECRC control. PRESUMED, log entry 98. -/
def Endpoint.unsticky (x : Endpoint) : Endpoint :=
  { x with aerUncorr := 0, aerCorr := 0, aerSev := 0x00462030, ecrcGen := false, ecrcCheck := false }

/-- The link of an endpoint is down. -/
def Endpoint.linkLost (x : Endpoint) : Endpoint := { x with linkUp := false, speed := 0, width := 0, degraded := false, pm := 0, flrBusy := false }

/-- PERST# of an endpoint goes low: every configuration field and the Noesh state (R333); in x16 mode PERST# on HC1 has no
effect (R55). -/
def execPerstAssert (ep : EpNo) (s : State) : Out :=
  unheld (!(s.ep ep).perst) s <|
    let t := s.updEp ep fun x => { x with perst := true }
    if s.epUsed ep && s.hlkRuns then
      (t.noeshReset ep).updEp ep fun x => x.softReset.linkLost.unsticky
    else t

/-- PERST# of an endpoint rises (R57, R333). -/
def execPerstRelease (ep : EpNo) (s : State) : Out := unheld (s.ep ep).perst s (s.updEp ep fun x => { x with perst := false })

/-- A hot reset, or the link goes down (R333). -/
def execHotReset (ep : EpNo) (s : State) : Out :=
  unheld (s.epUsed ep && (s.ep ep).linkUp) s ((s.noeshReset ep).updEp ep fun x => x.softReset.linkLost)

/-- Initiate FLR: sticky fields and link control stay (R333). -/
def execFunctionLevelReset (ep : EpNo) (s : State) : Out :=
  guarded (s.epUsed ep && (s.ep ep).linkUp && !(s.ep ep).flrBusy) s <|
    (s.noeshReset ep).updEp ep fun x => { x.softReset with aspmL1 := x.aspmL1, aspmL12 := x.aspmL12, flrBusy := true }

/-- The function is ready again (R333, R372). -/
def execFunctionLevelResetDone (ep : EpNo) (s : State) : Out :=
  guarded (s.ep ep).flrBusy s (s.updEp ep fun x => { x with flrBusy := false })

/-- A write of 1 to GCTL.CRST: no effect while a controller reset is in progress (R336). -/
def State.controllerReset (s : State) (e : Nat) : State :=
  if (s.ep e).crstBusy then s else (s.noeshReset e).updEp e fun x => { x with crstBusy := true }

/-- A controller reset of an endpoint (R333, R336). -/
def execControllerReset (ep : EpNo) (s : State) : Out := s.barServed ep true (s.controllerReset ep)

/-- HLK has finished or dropped the endpoint's writes to host memory (R372). -/
def execControllerResetDone (ep : EpNo) (s : State) : Out :=
  guarded (s.ep ep).crstBusy s (s.updEp ep fun x => { x with crstBusy := false })

/-! ### Configuration space and link (R320, R322, R325, R328 to R332) -/

/-- The latency that LTR reports in the present power state, in µs (R330). -/
def State.ltrUs (s : State) : Nat := if s.pwr.pstate ≤ 1 then 10 else if s.pwr.pstate ≤ 3 then 1000 else 3000

/-- A Latency Tolerance Reporting message, where the host has enabled them (R330). -/
def State.sendLtr (s : State) (e : Nat) : State :=
  if s.epUsed e && (s.ep e).linkUp && (s.ep e).ltrEnable then s.emit (.ltr e s.ltrUs) else s

/-- A configuration-space write to one field. PRESUMED, log entry 98. -/
def Endpoint.cfgWrite (x : Endpoint) : CfgField → Endpoint
  | .bar0 upper v => { x with bar0 := bar0Written x.bar0 upper v.toNat }
  | .busMaster on => { x with bme := on }
  | .memorySpace on => { x with mse := on }
  | .d3hot on => { x with d3hot := on }
  | .functionMask on => { x with funcMask := on }
  | .aspmL1 on => { x with aspmL1 := on, pm := if on then x.pm else 0 }
  | .aspmL12 on => { x with aspmL12 := on, pm := if !on && x.pm == 2 then 1 else x.pm }
  | .ltrEnable on => { x with ltrEnable := on }
  | .relaxedOrdering on => { x with relaxed := on }
  | .maxPayload c => { x with maxPayload := if c ≤ 2 then c else x.maxPayload }
  | .maxReadRequest c => { x with maxRead := if c ≤ 5 then c else x.maxRead }
  | .tenBitTags on => { x with tag10 := on }
  | .completionTimeout c => { x with timeout := c % 16 }
  | .ecrcGeneration on => { x with ecrcGen := on }
  | .ecrcCheck on => { x with ecrcCheck := on }
  | .aerSeverity m => { x with aerSev := m }
  | .deviceStatus m => { x with devStatus := x.devStatus &&& ~~~(BitVec.ofNat 3 m) }
  | .aerUncorrectable m => { x with aerUncorr := x.aerUncorr &&& ~~~m }
  | .aerCorrectable m => { x with aerCorr := x.aerCorr &&& ~~~m }

/-- In PS4 the link of an endpoint rests in the deepest state that the host has enabled (R331). -/
def Endpoint.rest (x : Endpoint) : Endpoint :=
  if x.linkUp then { x with pm := if x.aspmL1 && x.aspmL12 then 2 else if x.aspmL1 then 1 else 0 } else x

/-- The link of endpoint `e` rests while the module is in PS4 (R331). -/
def State.restLink (s : State) (e : Nat) : State := if s.pwr.pstate == 4 && !s.pwr.transit then s.updEp e Endpoint.rest else s

/-- A configuration-space write: messages that were held are sent, and an LTR message on its enable (R325, R328, R330). -/
def execConfigSpaceWrite (ep : EpNo) (field : CfgField) (s : State) : Out :=
  guarded (s.epUsed ep && (s.ep ep).linkUp && !(s.ep ep).flrBusy) s <|
    let t := (((s.updEp ep fun x => x.cfgWrite field).restLink ep).msixRelease ep).settleWakeN
    match field with
    | .ltrEnable true => t.sendLtr ep
    | _ => t

/-- The link enters L1, or L1.2 where the host has enabled both (R329); in PS4 the deepest that is enabled (R331). -/
def execAspmL1Entry (ep : EpNo) (l12 : Bool) (s : State) : Out :=
  let x := s.ep ep
  guarded (s.epUsed ep && x.linkUp && x.aspmL1 && x.pm == 0) s (s.updEp ep fun x => { x with pm := if (l12 || s.pwr.pstate == 4) && x.aspmL12 then 2 else 1 })

/-- The link returns to L0 (R329). -/
def execAspmL1Exit (ep : EpNo) (s : State) : Out := guarded ((s.ep ep).pm != 0) s (s.updEp ep fun x => { x with pm := 0 }).settleWakeN

/-- Full width of the link mode in force (R320). -/
def State.fullWidth (s : State) : Nat := if s.dual then 8 else 16

/-- Training of an endpoint's link ends at a speed code, 1 to 5, and a width (R322, R341). -/
def State.linkTrained (s : State) (e speed width : Nat) : State :=
  let bad := speed < 5 || width < s.fullWidth
  let t := if (s.ep e).trained then s.bump 1 0 (epCtr e 0x0001000C) else s
  let t := t.updEp e fun x => { x with linkUp := true, speed := speed, width := width, degraded := bad, trained := true, pm := 0 }
  let t := t.restLink e
  (if bad then t.raise 1 0 0x31 (speed + width * 8) else t).settleWakeN

/-- A link training ends (R322, R335). -/
def execLinkTrained (ep : EpNo) (speed width : Nat) (s : State) : Out :=
  guarded (s.hlkRuns && s.epUsed ep && !(s.ep ep).perst && 1 ≤ speed && speed ≤ 5 && [1, 2, 4, 8, 16].contains width
      && width ≤ s.fullWidth) s (s.linkTrained ep speed width)

/-- A correctable error: logged in AER, counted, one event (R332). -/
def execAerCorrectable (ep : EpNo) (aerBit : Nat) (s : State) : Out :=
  guarded (s.epUsed ep && s.hlkRuns && !(s.ep ep).perst && aerBit < 16) s <|
    ((s.updEp ep fun x => { x with aerCorr := x.aerCorr ||| (1#32 <<< aerBit), devStatus := x.devStatus ||| 1 }).bump 1 0 (epCtr ep 0x00010004)).raise 1 0 (0x20 + aerBit)

/-- An uncorrectable error on traffic to the module: the write or TLP is discarded; with an internal error the commands whose
data passed through the failed entry complete with DATA_INTEGRITY (R332). -/
def execBar0WriteDiscard (ep : EpNo) (aerBit address : Nat) (lost : List Loss) (s : State) : Out :=
  guarded (s.epUsed ep && s.hlkRuns && !(s.ep ep).perst && aerBit ≤ 26 && s.ecrcSeen ep aerBit) s <|
    let t := s.aerUncorr ep aerBit address
    if aerBit == 22 then t.endLost lost else t

/-! ### Register writes (R4, R8, R326 to R328, R340, R351, R354, R365, R366, R370, R568) -/

/-- SMB_ALERT_N follows FAULT_SUM of endpoint 0 and the feature SMBUS_ALERT (R349). -/
def State.settleAlert (s : State) : State := { s with alert := (s.ep 0).faultSum != 0 && bit (s.feat0 0x0B) 0 }

/-- FAULT_SUM bits of an endpoint cleared (R340). -/
def State.clearFaultSum (s : State) (e : Nat) (m : Word) : State :=
  (s.updEp e fun x => { x with faultSum := x.faultSum &&& ~~~m }).settleAlert

/-- FAULT_PIN_STAT written: a 1 in bit 0 releases FAULT_N (R568). -/
def State.writeFaultPin (s : State) (w : Word) : State :=
  if w.getLsbD 0 then { s with flt := { s.flt with pin := false } } else s

/-- A DW of a task port page written (R351, R354). -/
def State.writePort (s : State) (e n ofs : Nat) (w : Word) : State :=
  let m := moduleNo e n
  if ofs == 0x80 then s.updPort m fun p => { p with allotErr := p.allotErr && !w.getLsbD 15 }
  else if ofs == 0x88 then s.updPort m fun p => { p with stagedBase := bits w.toNat 13 0 }
  else if ofs == 0x8C then s.writeTagCount e m (bits w.toNat 14 0)
  else if ofs == 0x90 then s.updPort m fun p => { p with cq := bits w.toNat 7 0 }
  else s

/-- A write that needs a disabled queue (R366). -/
def Cq.ifDisabled (c : Cq) (f : Cq → Cq) : Cq := if c.enable then { c with cfgErr := true } else f c

/-- A DW of a completion queue control block written (R365, R366, R368). -/
def State.writeCq (s : State) (e q ofs : Nat) (w : Word) : State :=
  let m := moduleNo e q
  if ofs == 0x00 then s.updCq m fun c => c.ifDisabled fun c => { c with base := c.base / 2 ^ 32 * 2 ^ 32 + w.toNat }
  else if ofs == 0x04 then s.updCq m fun c => c.ifDisabled fun c => { c with base := c.base % 2 ^ 32 + w.toNat * 2 ^ 32 }
  else if ofs == 0x08 then s.updCq m fun c => c.ifDisabled fun c => { c with size := bits w.toNat 16 0 }
  else if ofs == 0x0C then s.writeCqCtl e q w.toNat
  else if ofs == 0x10 then s.updCq m fun c => { c with coalCount := bits w.toNat 7 0, coalTime := bits w.toNat 15 8 }
  else if ofs == 0x14 then s.writeHead e q (bits w.toNat 15 0)
  else if ofs == 0x1C then s.updCq m fun c =>
    { c with headErr := c.headErr && !w.getLsbD 1, cfgErr := c.cfgErr && !w.getLsbD 2, disableRefused := c.disableRefused && !w.getLsbD 3 }
  else s

/-- A DW of an MSI-X table entry. -/
def Msix.write (x : Msix) (ofs : Nat) (w : Word) : Msix :=
  if ofs == 0 then { x with addr := x.addr / 2 ^ 32 * 2 ^ 32 + w.toNat / 4 * 4 }
  else if ofs == 4 then { x with addr := x.addr % 2 ^ 32 + w.toNat * 2 ^ 32 }
  else if ofs == 8 then { x with data := w }
  else { x with mask := w.getLsbD 0 }

/-- One DW written at a BAR0 address; an address without a writable register ignores it (R326, R327). DEDUCED, log entry 84. -/
def State.writeDw (s : State) (e a : Nat) (w : Word) : State :=
  if a == 0x0C then (if w.getLsbD 0 then s.controllerReset e else s)
  else if a == 0x10 then s.clearFaultSum e w
  else if a == 0x24 then s.writeFaultPin w
  else if a == 0x00010100 then s.updEp e fun x => { x with coalOff := w.getLsbD 0 }
  else if 0x00100000 ≤ a && a < 0x00100000 + s.portsPerEp * 0x1000 then s.writePort e ((a - 0x00100000) / 0x1000) (a % 0x1000) w
  else if 0x00200000 ≤ a && a < 0x00200000 + s.portsPerEp * 0x100 then s.writeCq e ((a - 0x00200000) / 0x100) (a % 0x100) w
  else if 0x00300000 ≤ a && a < 0x00300000 + s.vectors * 16 then
    (s.updEp e fun x => { x with msix := supd x.msix ((a - 0x00300000) / 16) {} fun v => v.write (a % 16) w }).msixRelease e
  else s

/-- The DWs of a write in address order. -/
def State.writeDws (s : State) (e a : Nat) : List Word → State
  | [] => s
  | w :: r => (s.writeDw e a w).writeDws e (a + 4) r

/-- The address lies in the TASK window of an implemented port's page (R327, R356). -/
def State.inTask (s : State) (a : Nat) : Bool :=
  0x00100000 ≤ a && a < 0x00100000 + s.portsPerEp * 0x1000 && 0x40 ≤ a % 0x1000 && a % 0x1000 < 0x80

/-- A register write has one of the accepted forms: 1 DW aligned to 4 bytes or 2 DW aligned to 8, and neither in a TASK window, which takes only whole
packets (R326, R356). -/
def State.formOk (s : State) (a : Nat) (ws : List Word) (whole : Bool) : Bool :=
  whole && !s.inTask a && a < 0x04000000 && ((ws.length == 1 && a % 4 == 0) || (ws.length == 2 && a % 8 == 0))

/-- A write of BAR0 registers; `whole` says that exactly the bytes of `words` are enabled (R326). -/
def execRegisterWrite (ep : EpNo) (address : Nat) (words : List Word) (whole : Bool) (s : State) : Out :=
  s.barServed ep true (if s.formOk address words whole then s.writeDws ep address words else s.badAccess ep address)

/-- The host clears bits of FAULT_SUM (R340). -/
def execFaultSumClear (ep : EpNo) (mask : Word) (s : State) : Out := s.barServed ep true (s.clearFaultSum ep mask)

/-- The host writes FAULT_PIN_STAT (R568). -/
def execFaultPinRelease (ep : EpNo) (value : Word) (s : State) : Out := s.barServed ep true (s.writeFaultPin value)

end Sys2Proof.Machine
end

