-- ==== Sys2Proof/Machine/ReadPath.lean ====
section
/-! DEFINITION. The read channel and the decoder pool: sector starts, the clapper, decode attempts, recovery takes and the spare
sub-converters (R177, R178, R182 to R184, R189 to R203, R445, R469, R595). -/

namespace Sys2Proof.Machine

/-! ### Sectors of the take in hand -/

/-- The work on one sector of the take changed. -/
def State.updWork (s : State) (m sector : Nat) (f : SecWork → SecWork) : State :=
  s.updMu m fun x => { x with rch := { x.rch with work := x.rch.work.map fun w => if w.sector == sector then f w else w } }

/-- The work on a sector of the take. -/
def State.workOf (s : State) (m sector : Nat) : Option SecWork := (s.mu m).rch.work.find? fun w => w.sector == sector

/-- The sector has failed in the take (R192). -/
def State.sectorFails (s : State) (m sector : Nat) : State :=
  (s.updWork m sector fun w => { w with finished := true, attempt := none }).updMu m fun x => { x with tsq := { x.tsq with anyFail := x.tsq.desc.isSome } }

/-! ### SECTOR_START: reads (R189, R194, R297, R299) -/

/-- The work on a sector as its read gate opens: the slots that sample it, the samples its slot is to hold, and what earlier takes of step 4 have added
into it. -/
def State.newWork (s : State) (m : Nat) (d : TakeDesc) (sector : Nat) : SecWork :=
  let r := (s.mu m).rch
  let w : SecWork :=
    { sector := sector, opened := true, take := d, deep := (s.mu m).tsq.deep, convs0 := r.slots0, convs1 := r.slots1
      samples := slotSamples (s.spwOf m d) (s.startOf m d sector) }
  { w with taken := (r.kept.find? w.same).elim [] (·.taken) }

/-- The front ends start at the table values (R179). -/
def Rch.tableFronts (r : Rch) : Rch := { r with front0 := entryFront r.entry 0, front1 := entryFront r.entry 1 }

/-- The head of the read engine's queue at its start[s]. -/
def State.startRead (s : State) (m : Nat) (d : TakeDesc) (sector : Nat) : State :=
  if !s.readGateOk m d then
    (s.refuseGate m d sector).updMu m fun x => { x with tsq := { x.tsq with readQ := x.tsq.readQ.drop 1, anyFail := true } }
  else
    let w := s.newWork m d sector
    if w.taken.isEmpty && 6 ≤ s.slotsBusy m then s.readSlip m sector
    else s.updMu m fun x =>
      { x with tsq := { x.tsq with readQ := x.tsq.readQ.drop 1 }, rch := { x.rch.tableFronts with work := x.rch.work ++ [w], gateOpen := true } }

/-! ### Decode attempts (R183, R190 to R193, R200) -/

/-- Local iterations of each pass of an attempt (R183). -/
def passes (g l : Nat) : List Nat :=
  if g ≤ 1 then [l]
  else if g == 2 then [(l + 1) / 2, l - (l + 1) / 2]
  else
    let a := (l + 2) / 3
    let b := (l - a + 1) / 2
    [a, b, l - a - b]

/-- The global iteration in which local iteration `k` lies. -/
def globalOf (ps : List Nat) (k : Nat) : Nat :=
  match ps with
  | [] => 0
  | p :: r => if k ≤ p || r.isEmpty then 1 else 1 + globalOf r (k - p)

/-- The offsets around a centre by rising distance, the positive one first. -/
def around (c : Int) : Nat → List Int
  | 0 => []
  | n + 1 => around c n ++ [c + (n + 1 : Nat), c - (n + 1 : Nat)]

/-- The alignments of R192 in order: the clapper offset, slip search, positional sync at a recovery level of at least 1. -/
def alignments (clap : Option Int) (rlvl : Nat) : List Int :=
  (match clap with | some f => f :: around f 4 | none => []) ++ (if 1 ≤ rlvl then 0 :: around 0 8 else [])

/-- The alignment tried next. -/
def SecWork.next (w : SecWork) (rlvl : Nat) : Option Int := (alignments w.clap rlvl).find? fun o => !w.tried.contains o && -16 ≤ o && o ≤ 16

/-- How an alignment reads a sector (R192). -/
def SecWork.via (w : SecWork) (o : Int) : SyncVia :=
  match w.clap with
  | none => .positional
  | some f => if o == f then .clapper else if (o - f).natAbs ≤ 4 then .slip else .positional

/-- The correction of an alignment as R206 counts it. -/
def SecWork.corr (w : SecWork) (o : Int) : Int :=
  match w.via o with
  | .clapper => 0
  | .slip => o - w.clap.getD 0
  | .positional => o

/-- G and L of an attempt: the deep profile of step 1, the full attempt of step 0, or a screening attempt (R193, R200, R208). -/
def attemptBudget (settings : Nat) (deep full : Bool) : Nat × Nat :=
  if deep then (3, 20) else if full then (bits settings 9 8, bits settings 4 0) else (1, bits settings 14 12)

/-- The next attempt of a sector is asked of LDP, or the sector fails in the take (R192). -/
def State.requestAttempt (s : State) (m sector : Nat) : State :=
  match s.workOf m sector with
  | none => s
  | some w =>
    match w.next w.take.rlvl with
    | none => s.sectorFails m sector
    | some o =>
      let full := w.deep || (w.clap == some o && w.tried.isEmpty)
      let s := s.updWork m sector fun w => { w with tried := w.tried ++ [o], attempt := some (o, full), granted := false }
      { s with ldp := { s.ldp with waiting := s.ldp.waiting ++ [(m, sector)] } }

/-! ### CLAPPER_DECISION (R190) -/

/-- Bits in error at each of the 25 candidate starts from −12 on: `sliced` are the decisions of the equaliser output from the first candidate's first
bit, those not given being 0 (R144, R190). -/
def clapperErrors (sliced : List Bool) : List Nat :=
  (List.range 25).map fun k => ((List.range 48).filter fun i => sliced.getD (k + i) false != clapperBit i).length

/-- The earliest candidate from −12 on whose distance is at most the threshold. -/
def clapperAt (thresh : Nat) : Int → List Nat → Option Int
  | _, [] => none
  | o, x :: r => if x ≤ thresh then some o else clapperAt thresh (o + 1) r

/-- The front-end loops have run over the sector's preamble (R179). -/
def Rch.trained (r : Rch) (t : Sampled) : Rch :=
  { r with front0 := r.front0.train r.entry (t.reader 0), front1 := r.front1.train r.entry (t.reader 1) }

/-- What the slot takes of a sector in this take: the converters' samples under the channel as it stands after the preamble; the neighbours' codewords
where the take subtracts them (R177, R180, R200). -/
def Rch.takes (r : Rch) (w : SecWork) (x : Signal) (variant : Nat) : Sampled :=
  let t : Sampled := { signal := x, convs0 := w.convs0, convs1 := w.convs1, taps0 := r.taps0, taps1 := r.taps1, cancel := if variant == 6 then r.cross else [] }
  let u := r.trained t
  { t with phases := [(u.front0.phase, u.front1.phase)] }

/-- The 72 decisions of the equaliser output from the first candidate's first bit to the last candidate's last (R190). -/
def Rch.clapperBits (r : Rch) (t : Sampled) : List Bool :=
  Config.sliced (entryTarget r.entry) ((List.range 72).map fun i => t.output ((756 + i : Nat) : Int) 0)

/-- Where the clapper of a sector is found in its samples under the threshold in force (R190). -/
def Rch.clapper (r : Rch) (t : Sampled) : Option Int :=
  clapperAt (Nat.min 4 (bits r.settings.toNat 18 16)) (-12) (clapperErrors (r.clapperBits t))

/-- The clapper detector decides for the sector opened last. `signal` holds the sector's samples from start[s] to the last that its slot takes; the row
gives them at once, though those of the payload come later (R177, R179, R190, R191). DESIGN CHOICE, log entry 110. -/
def execClapperDecision (mu : MuNo) (signal : Signal) (s : State) : Out :=
  let m : Nat := mu
  match (s.mu m).rch.work.find? fun w => w.opened && !w.decided with
  | some w =>
    guarded (s.mu m).tsq.desc.isSome s <|
      let t := (s.mu m).rch.takes w signal (s.mu m).tsq.variant
      let f := (s.mu m).rch.clapper t
      let s := (s.updMu m fun x => { x with rch := x.rch.trained t }).updWork m w.sector fun w =>
        { w with decided := true, clap := f, taken := w.taken ++ [t] }
      let s := if f.isNone then s.bump 9 m (aRch m 0x04) else s
      s.requestAttempt m w.sector
  | none => .next s

/-! ### LDP_GRANT (R196, R197) -/

/-- Engines held by an MU, FLOOR and CAP in force, and whether the MU counts in the reservation. -/
def State.ldpHeld (s : State) (m : Nat) : Nat := sget s.ldp.held m 0
/-- FLOOR in force. -/
def State.ldpFloor (s : State) (m : Nat) : Nat := bits (s.feat0 0x05 m) 1 0
/-- CAP in force. -/
def State.ldpCap (s : State) (m : Nat) : Nat := bits (s.feat0 0x05 m) 12 8
/-- The MU is online: its HDA is in HS0 and it is not stopped. -/
def State.online (s : State) (m : Nat) : Bool := (s.hda (m / 2)).hs == 0 && (s.hda (m / 2)).usable && !(s.mu m).stopped
/-- Engines held in all: LDP_STAT.BUSY. -/
def State.ldpBusy (s : State) : Nat := (s.ldp.held.map (·.2)).foldl (· + ·) 0
/-- The reservation of R196. -/
def State.reservation (s : State) : Nat :=
  ((List.range 32).map fun m => if s.online m then s.ldpFloor m - s.ldpHeld m else 0).foldl (· + ·) 0
/-- An attempt of the MU waits. -/
def State.ldpWaits (s : State) (m : Nat) : Bool := s.ldp.waiting.any fun e => e.1 == m

/-- An MU may be granted an engine by rule 1, 2 or 3 of R197. -/
def State.ldpRule (s : State) (rule m : Nat) : Bool :=
  let room := s.reservation + s.ldpBusy + 1 ≤ 64
  s.ldpWaits m && (
    if rule == 1 then s.ldpHeld m < s.ldpFloor m
    else if rule == 2 then s.ldpHeld m < 2 && room
    else s.ldpHeld m < s.ldpCap m && room && (List.range 32).all fun k => !(s.ldpWaits k && s.ldpHeld k < 2))

/-- The MU that receives the next engine: the first rule that applies, round robin within it (R197). -/
def State.ldpChoice (s : State) : Option Nat :=
  let order := (List.range 32).map fun i => (s.ldp.last + 1 + i) % 32
  match order.find? (s.ldpRule 1) with
  | some m => some m
  | none => match order.find? (s.ldpRule 2) with
    | some m => some m
    | none => order.find? (s.ldpRule 3)

/-- The list without its first element that satisfies `p`. -/
def dropFirst {α : Type} (p : α → Bool) : List α → List α
  | [] => []
  | x :: r => if p x then r else x :: dropFirst p r

/-- An engine goes to the MU's oldest attempt. -/
def State.grantEngine (s : State) (m : Nat) : State :=
  match s.ldp.waiting.find? fun e => e.1 == m with
  | none => s
  | some (_, sector) =>
    let s := { s with ldp := { held := supd s.ldp.held m 0 (· + 1), waiting := dropFirst (fun e => e.1 == m) s.ldp.waiting, last := m } }
    s.updWork m sector fun w => { w with granted := true }

/-- A free engine is granted (R197). -/
def execLdpGrant (s : State) : Out :=
  match s.ldpChoice with
  | none => .next s
  | some m => guarded (s.ldpBusy < 64) s (s.grantEngine m)

/-! ### DECODE_ATTEMPT_DONE (R182 to R184, R192, R193) -/

/-- The medium can hold these bytes: a conventional sector that FORMAT has zeroed and nothing has written since holds the stored form of zeros
(R172, R391, R420). -/
def State.zeroedOk (s : State) (m l : Nat) (x : Sector) : Bool :=
  let z := s.storeSector m l (List.replicate 4096 0) (List.replicate 16 0)
  !((s.mu m).zeroed && s.isConv m (zoneOf l) && !(s.mu m).rewritten.contains l) || (x.data == z.data && x.hmeta == z.hmeta)

/-- BUF accepts the sector decoded: its CRC and its location tag check (R148 to R150, R469). -/
def State.accepts (s : State) (m : Nat) (d : TakeDesc) (sector : Nat) (x : Sector) : Bool :=
  match s.lbaAt m d.zone d.track sector with
  | none => false
  | some l => s.zeroedOk m l x && crc32c (x.data ++ x.hmeta) == x.scrc && x.vol == m && x.lba == l && x.zgen == (s.zone m (zoneOf l)).gen

/-- The sector has been read: to its reads, but for a neighbouring track (R192, R200, R481). -/
def State.sectorRead1 (s : State) (m : Nat) (w : SecWork) (o : Int) (globals locals : Nat) (x : Sector) : State :=
  let d := w.take
  let s := s.updWork m w.sector fun w => { w with finished := true, read := true, attempt := none }
  let s := match w.via o with
    | .clapper => s
    | .slip => s.bump 9 m (aRch m 0x08)
    | .positional => s.bump 9 m (aRch m 0x0C)
  if d.type == 8 then s.updCalib m fun k => { k with converged := k.converged + 1 }
  else match (if d.type == 4 then none else s.lbaAt m d.zone d.track w.sector) with
  | none => s
  | some l => s.deliver d.cmd m l { read := true, via := w.via o, corr := w.corr o, globals := globals, locals := locals, step := d.step, data := some { x with marks := [] } }

/-- What an attempt at alignment `o` comes to: its local iterations, and the codeword if it converges (R182, R183). -/
def State.attempt (s : State) (m : Nat) (w : SecWork) (o : Int) (full : Bool) : Nat × Option (BitVec 37120) :=
  let r := (s.mu m).rch
  let (g, l) := attemptBudget r.settings.toNat w.deep full
  decode (softOutput r.entry w.taken.length ((List.range 37120).map fun (k : Nat) => w.slot (16 + o + k).toNat)) (passes g l) 0 fun _ => 0

/-- The sector that a codeword carries at its place (R148, R182). -/
def State.carried (s : State) (m : Nat) (w : SecWork) (word : BitVec 37120) : Sector :=
  sectorOf (Config.ldpcPayload word) (((s.lbaAt m w.take.zone w.take.track w.sector).bind fun l => s.boundKdom m (zoneOf l)).getD 0)

/-- The taps adapt to a payload whose codeword has converged, while its take runs (R180); a neighbouring track's codeword is kept for the cancellation
(R200, step 6). -/
def State.convergedWord (s : State) (m : Nat) (w : SecWork) (word : BitVec 37120) : State :=
  let x := w.taken.getLastD {}
  let s := if w.take.type == 4 then s.updMu m fun y => { y with rch := { y.rch with cross := y.rch.cross ++ [(w.take.track, w.sector, word)] } } else s
  if (s.mu m).tsq.desc.isNone then s
  else s.updMu m fun y => { y with rch := y.rch.learned y.tsq.variant x.signal word }

/-- An attempt on a sector of an MU ends after `locals` local iterations with a codeword, or without converging (R183). DEDUCED, log entry 94. -/
def State.attemptDone (s : State) (m : Nat) (w : SecWork) (o : Int) (full : Bool) (locals : Nat) (word : Option (BitVec 37120)) : State :=
  let s := { s with ldp := { s.ldp with held := supd s.ldp.held m 0 (· - 1) } }
  let (g, l) := attemptBudget (s.mu m).rch.settings.toNat w.deep full
  let globals := globalOf (passes g l) locals
  let s := s.updWork m w.sector fun w => { w with granted := false }
  let again (s : State) : State := (s.bump 9 m (aRch m 0x10)).requestAttempt m w.sector
  match word with
  | none => again s
  | some c =>
    let x := s.carried m w c
    let s := s.convergedWord m w c
    if s.accepts m w.take w.sector x then s.sectorRead1 m w o globals locals x else again (s.bump 9 m (aRch m 0x14))

/-- An uncorrectable byte in the pool's memories: no codeword comes of the attempt, and the commands whose sector it was are lost (R466). -/
def State.poolLost (s : State) (m : Nat) (w : SecWork) : State :=
  let ts := match s.lbaAt m w.take.zone w.take.track w.sector with
    | some l => s.receivers w.take.cmd m l
    | none => w.take.cmd.toList
  s.endAll { status := 0x0401 } (ts.filter s.live)

/-- Engines that the MU holds for attempts of takes that have ended (R184, R204). DEDUCED, log entry 66. -/
def State.strayEngines (s : State) (m : Nat) : Nat := s.ldpHeld m - ((s.mu m).rch.work.filter (·.granted)).length

/-- An attempt granted to the MU for a sector of its take converges or spends its budget after `locals` local iterations, as its samples decode; `memory`
is what the engine's reads met in the pool's memories (R184, R192, R466). The attempt of a take that has ended only frees its engine (R196, R204).
DESIGN CHOICE, log entry 31. -/
def execDecodeAttemptDone (mu : MuNo) (sector locals : Nat) (memory : SramRead) (s : State) : Out :=
  let m : Nat := mu
  let stray := guarded (s.strayEngines m != 0) s { s with ldp := { s.ldp with held := supd s.ldp.held m 0 (· - 1) } }
  match s.workOf m sector with
  | some w =>
    match w.attempt with
    | none => stray
    | some (o, full) =>
      if w.granted then
        let r := s.attempt m w o full
        let a := memory.sram * 2 ^ 32 + memory.word
        guarded (locals == r.1) s <|
          if memory.finding == 2 then (((s.raise 10 0 0x3E a).attemptDone m w o full locals none).poolLost m w)
          else (if memory.finding == 1 then s.raise 10 0 0x3D a else s).attemptDone m w o full locals r.2
      else stray
  | none => stray

/-! ### RECOVERY_TAKE_SUBMIT (R203, R444, R445) -/

/-- MGT submits the next recovery take of the MU's oldest entry to SCH, one at a time, ahead of all its other work; it waits while an activation or a
hang holds that work (R442, R444, R447). -/
def execRecoveryTakeSubmit (mu : MuNo) (s : State) : Out :=
  let m : Nat := mu
  match (s.mu m).sch.recQueue with
  | [] => .next s
  | t :: _ =>
    guarded (s.recoveryDue m && s.coreFree 0) s <|
      s.updMu m fun x => { x with sch := { x.sch with recovery := s.recoveryTake t } }

/-! ### The spare sub-converters (R177, R178, R595) -/

/-- Counters of CAL. -/
def aCal (ofs : Nat) : Nat := 0x01130000 + ofs

/-- One CAL_MEASURE_FAIL of an item, counted (R602). -/
def State.measureFail (s : State) (item : Nat) : State := (s.raise 19 0 2 item).bump 19 0 (aCal 0x1104)

/-- A 100 ms period of converter `c` ends: `ok` says that every correction lies within its range (R595). -/
def execConverterSparePeriod (converter : Nat) (ok : Bool) (s : State) : Out :=
  let m := converter / 2
  guarded (converter < 64 && (s.hda (m / 2)).clk.symRunning && !s.cal.stalled.getLsbD converter) s <|
    if ok then
      let s := s.updMu m fun x =>
        { x with rch := if converter % 2 == 0 then { x.rch with swapDue0 := true } else { x.rch with swapDue1 := true } }
      let s := if s.cal.converterCmds.isEmpty then s else { s with cal := { s.cal with periods := supd s.cal.periods converter 0 (· + 1) } }
      (s.bump 19 0 (aCal 0x1100)).settleConverters
    else
      (({ s with cal := { s.cal with stalled := s.cal.stalled ||| (1#64 <<< converter) } }).measureFail 6).settleConverters

/-- The head passes no preamble, clapper, payload or resync field that is read: the gate is closed, or the sequencer's position lies in a pad (R178). A
raw read takes every symbol. DESIGN CHOICE, log entry 68. -/
def State.swapNow (s : State) (m : Nat) : Bool :=
  let x := s.mu m
  !x.tsq.rawOpen && (!x.rch.gateOpen || (match x.tsq.desc, x.tsq.cyc with
    | some d, some c => !(x.rch.work.any fun w => !w.passed && inFields (s.spwOf m d) (s.startOf m d w.sector) (s.position m d c))
    | _, _ => false))

/-- A due swap takes effect while the read gate is closed or within a pad (R178): the spare takes the slot of the next sub-converter. DESIGN CHOICE, log entry 68. -/
def execConverterSwap (converter : Nat) (s : State) : Out :=
  let m := converter / 2
  let r := (s.mu m).rch
  guarded (converter < 64 && (if converter % 2 == 0 then r.swapDue0 else r.swapDue1) && s.swapNow m) s <|
    s.updMu m fun x =>
      { x with rch :=
          if converter % 2 == 0 then { x.rch with slots0 := swapSlots x.rch.slots0 x.rch.spare0, spare0 := (x.rch.spare0 + 1) % 9, swapDue0 := false }
          else { x.rch with slots1 := swapSlots x.rch.slots1 x.rch.spare1, spare1 := (x.rch.spare1 + 1) % 9, swapDue1 := false } }

end Sys2Proof.Machine
end

