-- ==== Sys2Proof/Machine/UnitRegs.lean ====
section
/-! DEFINITION. The registers of the subsystems that stand in the HDA islands, in the LDP island and in BCA's tag memory, and the values that
the register hub keeps of them while their domain is off (R41 to R43, R174, R175, R210 to R212, R242, R285, R316). -/

namespace Sys2Proof.Machine

/-! ### Fields -/

/-- A register from its fields: lowest bit, width, value. -/
def pack (fs : List (Nat × Nat × Nat)) : Nat := fs.foldl (fun a f => a + f.2.2 % 2 ^ f.2.1 * 2 ^ f.1) 0

/-- A counter register: COUNT[30:0] and SAT[31] (R12). -/
def Ctr.reg (c : Ctr) : Nat := pack [(0, 31, c.count), (31, 1, flag c.sat)]

/-- A bit map of the numbers below `n` that satisfy `p`. -/
def mapBits (n : Nat) (p : Nat → Bool) : Nat := (List.range n).foldl (fun a i => a + flag (p i) * 2 ^ i) 0

/-- Elements of a list that satisfy `p`. -/
def countIf {α : Type} (p : α → Bool) (l : List α) : Nat := (l.filter p).length

/-! ### TSQ, RCH, LDP, WAS (R210, R212, R242, R316) -/

/-- TSQ_STAT.STATE by its code. -/
def tsqCode : TsqState → Nat
  | .stopped => 0
  | .idle => 1
  | .running => 2
  | .held => 3

/-- TSQ registers of an MU. -/
def State.tsqReg (s : State) (m o : Nat) : Nat :=
  let q := (s.mu m).tsq
  let d := q.desc.getD {}
  match o with
  | 0 => pack [(0, 3, tsqCode q.st), (3, 1, flag (0xC00 ≤ q.upc)), (4, 12, q.upc), (16, 4, d.type), (20, 3, d.step), (24, 4, q.stack.length)]
  | 4 => pack [(0, 31, d.track)]
  | _ => 0

/-- TSQ registers of the module. -/
def State.storeReg (s : State) (o : Nat) : Nat :=
  let t := s.store
  match o with
  | 0x800 => pack [(0, 1, flag t.service), (1, 1, flag t.vendorLoaded), (2, 1, flag t.custLoaded), (3, 1, flag t.swap.isSome)
                   , (4, 6, countIf (fun e => e.2.getLsbD 31) t.matchRegs)]
  | 0x804 => t.vendorVer
  | 0x808 => if t.custLoaded then t.custVer else 0
  | 0x810 => t.bind0.toNat
  | 0x814 => t.bind1.toNat
  | 0x818 => t.bind2.toNat
  | 0x81C => t.bind3.toNat
  | _ => 0

/-- RCH_STAT of an MU. -/
def State.rchStat (s : State) (m : Nat) : Nat :=
  let r := (s.mu m).rch
  pack [(0, 4, r.head), (4, 6, r.rz), (10, 4, r.band), (14, 1, flag r.entryValid), (16, 4, r.spare0), (20, 4, r.spare1), (24, 3, s.slotsBusy m)]

/-- LDP registers. -/
def State.ldpReg (s : State) (o : Nat) : Nat :=
  if o == 0 then pack [(0, 7, s.ldpBusy), (8, 6, countIf s.ldpWaits (List.range 32)), (14, 7, s.reservation)]
  else if 0x100 ≤ o && o < 0x180 then
    let m := (o - 0x100) / 4
    pack [(0, 5, s.ldpHeld m), (5, 2, s.ldpFloor m), (7, 5, s.ldpCap m), (12, 1, flag (s.ldpWaits m)), (13, 1, flag (s.online m))]
  else 0

/-- WAS registers of an MU. -/
def State.wasReg (s : State) (m o : Nat) : Nat :=
  let w := (s.mu m).was
  match o with
  | 0 => pack [(0, 4, w.head), (4, 6, w.rz), (10, 4, w.band), (14, 1, flag w.entryValid), (16, 1, flag w.wg), (17, 1, flag w.ae)
               , (18, 1, flag w.writeTake), (19, 1, flag w.inhibit), (24, 5, w.failed)]
  | 4 =>
    let t := sget w.trim w.head 0
    pack [(0, 12, w.mon), (16, 9, toTwos 9 t), (25, 1, flag (t.natAbs == field (s.wasEntry m) 22 1 && w.entryValid))]
  | _ => 0

/-! ### SRV, CLK (R174, R175, R285) -/

/-- SRV_STAT.SPIN by its code. -/
def spinCode : Spin → Nat
  | .stopped => 0
  | .aligning => 1
  | .starting => 2
  | .spunUp => 3
  | .stopping => 4
  | .coasting => 5

/-- SRV_ACT.STATE by its code. -/
def actCode : ActState → Nat
  | .parked => 0
  | .loading => 1
  | .seeking => 2
  | .settling => 3
  | .following => 4
  | .unloading => 5
  | .retracting => 6
  | .tuning => 7

/-- SRV_ACT of an actuator. A PES beyond 128 tracks does not fit its 16 bits, and shows its low 16 bits. DESIGN CHOICE, log entry 107. -/
def Act.reg (a : Act) : Nat :=
  pack [(0, 4, actCode a.st), (4, 4, a.head), (8, 1, flag a.rdSettled), (9, 1, flag a.wrSettled), (10, 1, flag a.throttled), (11, 1, flag a.invalid)
        , (16, 16, toTwos 16 a.pes)]

/-- SRV registers of an HDA. DEDUCED, log entry 83. -/
def State.srvReg (s : State) (h o : Nat) : Nat :=
  let v := (s.hda h).srv
  let a := (s.mu (2 * h)).act
  let b := (s.mu (2 * h + 1)).act
  match o with
  | 0x00 => pack [(0, 3, spinCode v.spin), (3, 1, flag v.retracted), (4, 4, v.retCause), (8, 4, v.fault), (12, 1, flag v.setsValid)
                  , (13, 1, flag (a.pol0.getLsbD 0))]
  | 0x04 => a.reg
  | 0x08 => b.reg
  | 0x0C => pack [(0, 31, a.track)]
  | 0x10 => pack [(0, 31, b.track)]
  | 0x14 => pack [(0, 16, v.bemf), (16, 16, v.phaseI)]
  | 0x18 => pack [(0, 16, toTwos 16 (a.tCoil / 2 ^ 36)), (16, 16, toTwos 16 (b.tCoil / 2 ^ 36))]
  | _ => 0

/-- CLK_STAT.LOCK by its code. -/
def lockCode : Lock → Nat
  | .stopped => 0
  | .acquiring => 1
  | .locked => 2

/-- CLK registers of an HDA. -/
def State.clkReg (s : State) (h o : Nat) : Nat :=
  let c := (s.hda h).clk
  match o with
  | 0 => pack [(0, 2, lockCode c.lock), (4, 4, c.band), (8, 1, flag (s.hda h).gov.following), (9, 1, flag (s.driven h && c.slewing))
               , (10, 1, flag (s.driven h && s.capped h)), (16, 6, c.zoneA), (22, 6, c.zoneB)]
  | 4 => pack [(0, 16, if c.lock == .stopped then 0 else c.meas), (16, 16, if s.driven h then s.speedTarget h else 0)]
  | 8 => c.markCnt.toNat
  | _ => 0

/-! ### What the hub keeps of a domain that is off (R43, R591) -/

/-- BCA_STRANDED: lines that CACHE_CTL DISABLE left behind, counted in the tag memory (R492). -/
def State.strandedReg (s : State) : Nat := pack [(0, 20, countIf (fun l => l.2.stranded) s.bca.lines)]

/-- A register of the CHAN domains, of the LDP domain or of the TAGS domain, by subsystem and offset in its block. -/
def State.unitReg (s : State) (sub o : Nat) : Nat :=
  match sub with
  | 6 => s.strandedReg
  | 8 => s.tsqReg (o / 0x40) (o % 0x40)
  | 9 => if o % 0x40 == 0 then s.rchStat (o / 0x40) else 0
  | 10 => s.ldpReg o
  | 11 => s.wasReg (o / 0x40) (o % 0x40)
  | 12 => s.srvReg (o / 0x40) (o % 0x40)
  | 13 => s.clkReg (o / 0x20) (o % 0x20)
  | _ => 0

/-- The unit's register stands in one of these domains, which is off: the hub shows the value held when its channels were closed. -/
def State.frozen (s : State) (sub o : Nat) : Bool :=
  match sub with
  | 6 => o == 0x2C && !s.pwr.tags.on
  | 8 => o < 0x800 && !(sget s.pwr.chan (o / 0x80) {}).on
  | 9 => o < 0x800 && !(sget s.pwr.chan (o / 0x80) {}).on
  | 10 => !s.pwr.ldp.on
  | 11 => o < 0x800 && !(sget s.pwr.chan (o / 0x80) {}).on
  | 12 => o < 0x400 && !(sget s.pwr.chan (o / 0x40) {}).on
  | 13 => o < 0x200 && !(sget s.pwr.chan (o / 0x20) {}).on
  | _ => false

/-- The registers of these domains, by subsystem and offset. -/
def unitRegs : List (Nat × Nat) :=
  let every (n stride : Nat) (ofs : List Nat) : List Nat := (List.range n).flatMap fun i => ofs.map fun o => i * stride + o
  let of (sub : Nat) (l : List Nat) : List (Nat × Nat) := l.map fun o => (sub, o)
  of 6 [0x2C] ++ of 8 (every 32 0x40 [0, 4]) ++ of 9 (every 32 0x40 [0]) ++ of 10 (0 :: every 32 4 [0x100]) ++ of 11 (every 32 0x40 [0, 4])
    ++ of 12 (every 16 0x40 [0, 4, 8, 0xC, 0x10, 0x14, 0x18]) ++ of 13 (every 16 0x20 [0, 4, 8])

/-- The register hub's copies as the channels of the domains close (R43). -/
def State.mirrors (s : State) : Sparse Nat := unitRegs.foldl (fun m r => sset m (r.1 * 0x10000 + r.2) (s.unitReg r.1 r.2) 0) []

end Sys2Proof.Machine
end

