-- ==== Sys2Proof/Machine/Power.lean ====
section
/-! DEFINITION. The module's power states, wake sources, channel gating and the corrections of the calibration engine
(R64, R330, R417, R582, R585 to R595, R609). -/

namespace Sys2Proof.Machine

/-! ### Reaching a state (R589, R330, R421) -/

/-- A power state is reached: one event, one notice, an LTR message on each link. -/
def State.reachPs (s : State) (n : Nat) : State :=
  let s := { s with pwr := { s.pwr with pstate := n } }
  ((((s.raise 18 0 0x0C n).notice 0xFFFF 9 n).sendLtr 0).sendLtr 1)

/-- The transition ends at its target: its command completes (R417). -/
def State.endPs (s : State) : State :=
  let c := s.pwr.requester
  let s := { s with pwr := { s.pwr with transit := false, step := 0, requester := none, target := s.pwr.pstate } }
  match c with
  | some t => s.complete t {}
  | none => s

/-- State `n` is reached by the step `k`, which ends the transition where `n` is its target. -/
def State.stepPs (s : State) (k n : Nat) : State :=
  let s := { s with pwr := { s.pwr with step := k } }
  let s := if s.pwr.pstate == n then s else s.reachPs n
  if s.pwr.target == n then s.endPs else s

/-- The accepted HDAs. -/
def State.usableHdas (s : State) : List Nat := (List.range 16).filter fun h => (s.hda h).usable

/-- A transition is in progress, or a wake has fired (R587, R590). -/
def State.psBusy (s : State) : Bool := s.pwr.transit || s.pwr.wakeLatched

/-! ### Entry (R586, R588) -/

/-- The HDA coasts or stands after an engine fault or under-speed: only HDA_CTL starts a new spin-up (R275). -/
def State.faultStopped (s : State) (h : Nat) : Bool :=
  let d := s.hda h
  d.onlyCtl && (d.srv.spin == .coasting || d.srv.spin == .stopped)

/-- Every accepted HDA that is shallower than HS `n` and in no transition of its own begins to move there; one that a fault has stopped is not spun up for
it and stands at HS2 with its heads parked (R275, R586). DEDUCED, log entry 42. -/
def State.pushDown (s : State) (n : Nat) : State :=
  s.usableHdas.foldl (fun s h =>
    if (s.hda h).hsTransit || Nat.min n 3 ≤ (s.hda h).hs then s
    else if n == 1 then s.setHs h 1
    else if n == 2 && s.faultStopped h && s.bothParked h then s.setHs h 2
    else if n == 2 && s.faultStopped h then s
    else s.beginHs h (Nat.min n 3) none false) s

/-- The entry to PS `n` begins with its first step. -/
def State.enterPs (s : State) (n : Nat) (cmd : Option Nat) : State :=
  let s := { s with pwr := { s.pwr with transit := true, target := n, requester := cmd, step := 1, gating := true
                                        ret := if n == 4 then s.pwr.pstate else s.pwr.ret } }
  let s := s.pushDown n
  if s.pwr.pstate == 0 then s.stepPs 1 1 else s

/-- What the loss of the CHAN domain leaves of one MU (R591). -/
def Mu.chanLost (m : Mu) : Mu := { m with pa := {}, act := {}, rch := {}, was := {}, tsq := {} }

/-- What the loss of the CHAN domain leaves of one HDA. -/
def Hda.chanLost (d : Hda) : Hda := { d with clk := {}, srv := {} }

/-- Step 7: the CHAN, LDP and TAGS domains are off, buffer SDRAM is in self-refresh, cores 1 to 3 are halted, and the links rest (R331, R585, R588, R592). -/
def State.sleep (s : State) : State :=
  { s with
    bca := { s.bca with lines := [], cut := [] }
    eps := smap s.eps {} Endpoint.rest
    pwr := { s.pwr with
      chan := [], ldp := {}, tags := {}, sdramSelfRefresh := true, coresHalted := true, timerLeft := s.feat1 0x0D, mirror := s.mirrors } }

/-- Work that needs the medium, or a transition that a command asked for, is still to end on an HDA (R588 step 2). -/
def State.hdaWorks (s : State) (h : Nat) : Bool := s.needsMedium (2 * h) || s.needsMedium (2 * h + 1) || (s.hda h).hsCmd.isSome

/-- The condition of step `k` of R588. DEDUCED, log entry 97. -/
def State.entryMay (s : State) (k : Nat) : Bool :=
  let hs := s.usableHdas
  if k == 2 then hs.all fun h => !s.hdaWorks h
  else if k == 3 then hs.all fun h => s.bothParked h
  else if k == 4 then hs.all fun h => 2 ≤ (s.hda h).hs
  else if k == 5 then hs.all fun h => (s.hda h).srv.spin == .stopped
  else if k == 6 then hs.all fun h => (s.hda h).hs == 3
  else k == 7

/-- Step `k` of R588. DEDUCED, log entry 42. -/
def State.entryStep (s : State) (k : Nat) : State :=
  if k == 4 then s.stepPs 4 (Nat.max s.pwr.pstate 2)
  else if k == 6 then s.stepPs 6 3
  else if k == 7 then s.sleep.stepPs 7 4
  else
    let s := { s with pwr := { s.pwr with step := k } }
    if k == 2 then s.pushDown s.pwr.target else s

/-- A step of an entry completes (R588). -/
def execPsEntryStep (s : State) : Out :=
  let k := s.pwr.step + 1
  guarded (s.pwr.transit && s.pwr.pstate < s.pwr.target && 2 ≤ k && !s.mns.powerFail && s.entryMay k) s (s.entryStep k)

/-! ### Exit (R586, R589, R609) -/

/-- Every accepted HDA in HS `n` + 1 and in no transition begins to move to HS `n`. DEDUCED, log entry 42. -/
def State.pullUp (s : State) (n : Nat) : State :=
  s.usableHdas.foldl (fun s h => if (s.hda h).hsTransit || (s.hda h).hs != n + 1 || s.faultStopped h then s else s.beginHs h n none false) s

/-- PS3 is reached, or was left behind: the spindles start (steps 4 and 5 of R589). -/
def State.exitPs3 (s : State) : State :=
  let s := if s.pwr.pstate == 4 then s.stepPs 4 3 else { s with pwr := { s.pwr with step := 4 } }
  if s.pwr.transit then s.pullUp 2 else s

/-- The exit to PS `n` begins. From PS4 its first step returns the link to L0 (R589). -/
def State.exitPs (s : State) (n : Nat) (cmd : Option Nat) : State :=
  let s := { s with pwr := { s.pwr with transit := true, target := n, requester := cmd, step := 0 } }
  if s.pwr.pstate == 4 then
    { s with pwr := { s.pwr with step := 1, timerLeft := 0 }, eps := smap s.eps {} fun x => { x with pm := 0 } }.settleWakeN
  else s.exitPs3

/-- Step 3: the domains are up with nothing of what they held (R43), the coefficient memories are reloaded and the dirty lines are installed again (R257, R585, R592). -/
def State.wakeDomains (s : State) : State :=
  let up : Domain := { on := true, clamped := false, chansOpen := true }
  let s := { s with hdas := smap s.hdas {} Hda.chanLost, mus := smap s.mus {} Mu.chanLost, ldp := {} }
  let s := { s with pwr := { s.pwr with chan := (List.range 16).map fun h => (h, up), ldp := up, tags := up, mirror := [] } }
  let s := s.usableHdas.foldl (fun s h => s.loadSets h ((s.inForce (h + 1)).getD {}).srv) s
  s.reinstall

/-- An HDA that is not yet in HS `n` still moves there. DEDUCED, log entry 45. -/
def State.moving (s : State) (n : Nat) : Bool := s.usableHdas.any fun h => (s.hda h).hsTransit && n < (s.hda h).hs

/-- The condition of step `k` of R589. -/
def State.exitMay (s : State) (k : Nat) : Bool := if k == 5 then !s.moving 2 else if k == 6 then !s.moving 1 else 2 ≤ k && k ≤ 7

/-- Step 7: channel gating ends and every HDA in HS1 is in HS0. -/
def State.endGating (s : State) : State :=
  let s := { s with pwr := { s.pwr with gating := false, gated := 0 } }
  (s.usableHdas.foldl (fun s h => if (s.hda h).hs == 1 && !(s.hda h).hsTransit then s.setHs h 0 else s) s).retargetAll

/-- Step `k` of R589; the heads load once PS2 is reached. DEDUCED, log entry 42. -/
def State.exitStep (s : State) (k : Nat) : State :=
  if k == 2 then { s with pwr := { s.pwr with step := 2, sdramSelfRefresh := false, coresHalted := false } }
  else if k == 3 then { s.wakeDomains with pwr := { s.wakeDomains.pwr with step := 3 } }
  else if k == 4 then s.exitPs3
  else if k == 5 then
    let s := s.stepPs 5 (Nat.min s.pwr.pstate 2)
    if s.pwr.transit then s.pullUp 1 else s
  else if k == 6 then s.stepPs 6 (Nat.min s.pwr.pstate 1)
  else s.endGating.stepPs 7 0

/-- A step of an exit completes (R589). -/
def execPsExitStep (s : State) : Out :=
  let k := s.pwr.step + 1
  guarded (s.pwr.transit && s.pwr.target < s.pwr.pstate && !s.mns.powerFail && s.exitMay k) s (s.exitStep k)

/-- The way from a present state to PS `n` (R417, R586). -/
def State.movePs (s : State) (n : Nat) (cmd : Option Nat) : State :=
  if s.pwr.pstate < n then s.enterPs n cmd else s.exitPs n cmd

/-! ### Wakes (R590) -/

/-- The TIMER period has passed since PS4 was reached. DEDUCED, log entry 45. -/
def execWakeTimer (s : State) : Out :=
  guarded (s.pwr.pstate == 4 && !s.pwr.transit && s.pwr.timerLeft == 0) s (s.fireWake 2)

/-- A wake that fired starts the exit to the state from which PS4 was entered. DEDUCED, log entry 45. -/
def execWake (s : State) : Out :=
  guarded (s.pwr.pstate == 4 && !s.pwr.transit && s.pwr.wakeLatched && !s.mns.powerFail) s <|
    ({ s with pwr := { s.pwr with wakeLatched := false } }.bump 18 0 0x01120110).exitPs s.pwr.ret none

/-- A channel whose sequencer has been IDLE for 1 ms is gated (R585). -/
def execChannelGating (mu : MuNo) (s : State) : Out :=
  guarded (s.pwr.gating && (s.mu mu).tsq.st == .idle && s.pwr.pstate < 4) s
    { s with pwr := { s.pwr with gated := s.pwr.gated ||| (1#32 <<< (mu : Nat)) } }

/-! ### Corrections (R582, R594) -/

/-- The terms of R582 in c1 and c2 at a reading in 1/16 °C, in 10⁻⁶ of the register's unit. DEDUCED, log entry 27. -/
def corrSlope (c : RefCoef) (t : Int) : Int := ((t - 400) * 16 * c.c1 + (t - 400) * (t - 400) * c.c2) / 256

/-- The correction of R582 in the register's unit, within its 16 bits. DEDUCED, log entry 27. -/
def corrOf (c : RefCoef) (t : Int) : Int := clampI (-32768) 32767 ((c.c0 + corrSlope c t) / 1000000)

/-- A correction in force after a second: a sensor that has given no reading changes none. DEDUCED, log entry 27. -/
def State.corrNow (s : State) (source sensor : Nat) (old : Int) : Int :=
  if s.cal.uncompensated then 0
  else if (sget s.thp.sensors sensor {}).valid then corrOf (s.cal.refs.getD source {}) (sget s.thp.sensors sensor {}).temp
  else old

/-- Every second CAL corrects the oscillators and the reference (R582). -/
def execCalCorrection (s : State) : Out :=
  guarded (s.portsRun) s
    { s with cal := { s.cal with oscCorr := s.corrNow 0 15 s.cal.oscCorr, coreCorr := s.corrNow 1 0 s.cal.coreCorr,
                                 vrefCorr := s.corrNow 2 15 s.cal.vrefCorr } }

/-- The item whose correction says that the reference is wrong (R594). -/
def calrefBad (x : CalrefIn) : Option Nat :=
  if 5000 < x.osc.natAbs then some 1 else if 5000 < x.core.natAbs then some 2 else if 500 < x.vref.natAbs then some 3 else none

/-- c0 for which the correction is `m` at the present reading. -/
def State.newCoef (s : State) (source sensor : Nat) (m : Int) : RefCoef :=
  let c := s.cal.refs.getD source {}
  { c with c0 := m * 1000000 - corrSlope c (sget s.thp.sensors sensor {}).temp }

/-- The new module record of a CALIBRATE CALREF that passed, in force at once. -/
def State.calrefStore (s : State) (x : CalrefIn) : State :=
  let refs := [s.newCoef 0 15 x.osc, s.newCoef 1 0 x.core, s.newCoef 2 15 x.vref]
  let old := (s.inForce 0).getD {}
  let s := s.storeRecord { old with recno := 0, serial := identityBytes 0 20, refs := refs, adc := x.adc, calrefLast := x.raw }
  { s with cal := { s.cal with refs := refs, uncompensated := false, oscCorr := x.osc, coreCorr := x.core, vrefCorr := x.vref } }

/-- The measurements of CALIBRATE CALREF finish (R594). DESIGN CHOICE, log entry 28. -/
def execCalrefMeasurementDone (found : CalrefIn) (s : State) : Out :=
  guarded (s.cal.busy && s.mns.calref) s <|
    let c := s.cal.calrefCmd
    let s := { s with cal := { s.cal with busy := false, calrefCmd := none } }
    let finish (r : Res) (s : State) : State := match c with | some t => s.complete t r | none => s
    match calrefBad found with
    | some k => finish { status := 0x0401, r0 := k } (s.measureFail k)
    | none => finish {} ([1, 2, 3, 4, 5].foldl (fun s k => s.raise 19 0 3 k) (s.calrefStore found))

end Sys2Proof.Machine
end

