-- ==== Sys2Proof/Machine/StartUp.lean ====
section
/-! DEFINITION. Starts: from mains to READY, the module reset and its restart, the restarts after a thermal shutdown and after a dump, and the end
of power (R55, R60 to R64, R77, R78, R304, R319, R441, R468, R512 to R519, R530, R539, R553, R580, R603 to R619). -/

namespace Sys2Proof.Machine

/-! ### What every start does (R62, R319, R343, R407, R468, R477, R553, R592) -/

/-- A domain that is up (R592). -/
def domainOn : Domain := { on := true, clamped := false, chansOpen := true }

/-- PCC incremented, saturating (R9, R14). DESIGN CHOICE, log entry 13; DEDUCED, log entry 88. -/
def State.nextPcc (s : State) : State :=
  if s.time.pccSat then s
  else if 2 ^ 32 ≤ s.time.pcc + 1 then
    { s with time := { s.time with pcc := 2 ^ 32 - 1, pccSat := true } }.raise 18 0 0x3F 0x20
  else { s with time := { s.time with pcc := s.time.pcc + 1 } }

/-- The reaction masks from NOR, or the defaults with one event (R553). -/
def State.loadMasks (s : State) (ok : Bool) : State :=
  if ok then { s with flt := { s.flt with masks := s.nor.masks, masksDefaulted := false } }
  else { s with flt := { s.flt with masks := [], masksDefaulted := true } }.raise 17 0 1

/-- The features, the link mode and the owners of volumes from NOR (R319, R343, R406). DEDUCED, log entry 76. -/
def State.loadFeatures (s : State) (linkOk : Bool) : State :=
  let s := { s with feat := s.nor.feat }
  let dual := linkOk && s.feat0 0x01 == 1
  let s := { s with dual := dual, owners := if dual && s.nor.ownersDual then s.nor.owners else [], log := { s.log with floor := s.feat0 0x0C } }
  (if linkOk then s else s.raise 1 0 0x30).settleAlert

/-- A cold fill leaves nothing of region 0 to 8 (R468). DEDUCED, log entry 10. -/
def State.forgetBuffer (s : State) : State :=
  { s.filled true with mus := [], bca := { State.reset.bca with key0 := s.bca.key0, key1 := s.bca.key1 } }

/-- The islands are released: stage 0 and the fill run (R603 step 4, R612 step 1). DEDUCED, log entry 76. -/
def State.release_ (s : State) (x : StartIn) (cause : Nat) (cold : Bool) : State :=
  let s := { s with start := { s.start with phase := .stage0, cause := cause, cold := cold, dumpRestart := false, mrstLow := false } }
  let s := { s with mns := { s.mns with factory := x.factoryLow, pwrgd := !s.mns.powerFail } }
  let s := { s with pwr := { State.reset.pwr with chan := (List.range 16).map fun h => (h, domainOn), ldp := domainOn, tags := domainOn
                                                  store := domainOn, others := domainOn } }
  let s := (if cold then s.forgetBuffer else s).newKey
  let s := { s with buf := { s.buf with fill := if cold then 1 else 2 }, thp := { s.thp with hold := s.nor.hold } }
  ((s.loadMasks x.masksOk).loadFeatures x.linkOk).settleTherm

/-- The erase pass that a reset cut off starts again (R498). -/
def State.eraseAgain (s : State) : State :=
  match s.vlt.erasing with
  | some n => if (s.area n).awaits then { s with vlt := { s.vlt with erasing := none } } else s.beginErase n
  | none => s.eraseNext

/-! ### From mains (R603) -/

/-- What the always-on island takes from NOR when the bus comes up (step 3 of R603). -/
def State.wakeAlwaysOn (s : State) : State :=
  { s with
    time := s.nor.time, ctr := s.nor.ctr, mgt := { s.mgt with scrubBuffer := [] }
    thp := { s.thp with sensors := (s.nor.maxLife.map fun e => (e.1, ({ maxLife := e.2 } : Sensor))).filter fun e => decide (e.2 ≠ {}) }
    mns := { s.mns with busUp := true, bank := { s.mns.bank with capMF := s.nor.capMF, esrMO := s.nor.esrMO } } }

/-- Power is applied from step 3 on: PCC counts, no converter is stalled (R595), VLT tests its channels and erases, and the islands are released for a cold fill. DEDUCED, log entry 88. -/
def State.powerUp (s : State) (x : StartIn) : State :=
  let s := s.nextPcc
  let s := { s with nor := { s.nor with time := s.time }, cal := { s.cal with stalled := 0 } }
  ((s.releaseVlt x.channels).eraseBoth).release_ x 0 true

/-- Mains reaches an unpowered module (R603). DESIGN CHOICE, log entry 31. -/
def execPowerOn (feed : Nat) (found : StartIn) (s : State) : Out :=
  unheld (feed < 2 && s.start.phase == .off && !s.mns.busUp) s <|
    let s := (s.updFeed feed fun x => { x with present := true }).wakeAlwaysOn
    ((s.powerUp found).emit (.uart 3)).emit (.uart 4)

/-! ### Module reset (R61, R441, R612, R619) -/

/-- A module reset: heads retract, buffer SDRAM enters self-refresh, the islands are reset (R441). A dump in progress is not interrupted (R49,
R501), and the wait of R580 and the hold of R615 go on (R551). DEDUCED, log entry 74. -/
def State.moduleReset (s : State) (pin : Bool) : State :=
  let again := s.start.dumpRestart
  let s := (List.range 16).foldl (fun s h => s.retract h 5) s
  let vlt := s.vlt
  let t := s.resetIslands
  { t with pwr := { t.pwr with sdramSelfRefresh := true }
           vlt := if vlt.dumping || t.thp.shutdown then vlt else t.vlt
           start := { t.start with cause := if t.thp.shutdown then 2 else if again then 0 else 1, mrstLow := pin, dumpRestart := again } }

/-- MRST_N has been low for 5 µs, which starts a module reset at any time (R61, R551). -/
def execModuleReset (s : State) : Out := unheld (s.mns.busUp && s.start.phase != .off) s (s.moduleReset true)

/-- VLT is the first island released; a power-fail signal asserted meanwhile starts its dump (R441). -/
def execVltRelease (channels : BitVec 8) (s : State) : Out :=
  guarded (s.start.phase == .inReset && s.start.resetting && !s.vlt.released) s <|
    let s := (s.releaseVlt channels).eraseAgain
    if s.mns.powerFail then s.startDump else s

/-- MRST_N is high: the restart begins, with a cold fill when a replay was abandoned (R612, R619). Where another restart is awaited, that one follows
(R580, R615). DEDUCED, log entry 74. -/
def execModuleRestart (found : StartIn) (s : State) : Out :=
  guarded (s.start.phase == .inReset && s.start.resetting && (s.vlt.released || s.start.dumpRestart)) s <|
    if s.mns.powerFail || s.thp.shutdown || s.start.dumpRestart then { s with start := { s.start with mrstLow := false } }
    else s.release_ found 1 s.start.cold

/-! ### Other restarts (R580, R613, R615) -/

/-- Every sensor that is not failed reads below its release point (R580). DEDUCED, log entry 74. -/
def State.belowRelease (s : State) : Bool :=
  (List.range 16).all fun n =>
    let (_, _, _, rel) := thresholds n
    (s.sensor n).failed || ((s.sensor n).valid && (s.sensor n).temp < sixteenths rel)

/-- After a thermal shutdown the module restarts into thermal hold (R580, R613). -/
def execThermalHoldRestart (found : StartIn) (s : State) : Out :=
  guarded (s.thp.shutdown && s.start.phase == .inReset && !s.mns.powerFail && !s.start.mrstLow && s.belowRelease) s <|
    let s := { s with thp := { s.thp with shutdown := false } }
    ((s.releaseVlt found.channels).eraseAgain).release_ found 2 s.start.cold

/-- The power-fail signal is asserted and no part of a dump remains to be done: VLT has acted on it, and writes nothing (R77, R441, R606, R617). -/
def State.dumpOver (s : State) : Bool := s.mns.powerFail && !s.vlt.dumping && (s.vlt.released || s.thp.shutdown)

/-- A dump has ended, or none was made, with a feed present: the module starts as from step 3 (R77, R615). DEDUCED, log entries 74 and 88. DESIGN CHOICE, log entry 100. -/
def execDumpRestart (found : StartIn) (s : State) : Out :=
  guarded (s.mns.busUp && s.feedPresent && !s.start.mrstLow && ((s.start.dumpRestart && !s.thp.shutdown) || s.dumpOver)) s <|
    let s := if s.mns.powerFail then s.holdRestart else s
    ((s.powerUp found).emit (.uart 3)).emit (.uart 4)

/-- No feed is present and the dump has ended, or the bank is exhausted before it has, at the progress of VAULT_CHANNEL_FAILED: the module is
unpowered (R60, R78, R614). NOR, the fuses, the vault and the pins stay. DEDUCED, log entry 10. -/
def execBusSwitchOff (progress : Nat) (s : State) : Out :=
  unheld (s.mns.busUp && s.mns.powerFail && !s.feedPresent) s <|
    let s := if s.vlt.dumping then s.closeImage (Nat.min progress 2) else s
    { State.reset with pending := s.pending, free := s.free, out := s.out, nor := s.nor, eps := smap s.eps {} fun x => { perst := x.perst } }

/-! ### Fills (R468, R612) -/

/-- The cold fill is complete, and BUF admits other clients (R468). -/
def execColdFillDone (s : State) : Out :=
  guarded (s.buf.fill == 1) s <|
    let t := s.filled true
    { t with buf := { t.buf with fill := 3 } }.emit (.uart 6)

/-- The warm fill is complete: the preserved regions keep their marks, and the dirty lines are installed again (R468, R612). -/
def execWarmFillDone (s : State) : Out :=
  guarded (s.buf.fill == 2) s <|
    let t := s.filled false
    ({ t with buf := { t.buf with fill := 3 } }.reinstall).emit (.uart 6)

/-! ### The boot stages (R512 to R514, R603) -/

/-- BOOT_ROM (R517). -/
def romEntry : SlateEntry :=
  { comp := 0x0001, version := leNat (identityBytes 7 12), digest := BitVec.ofNat 256 (leNat (identityBytes 6 32)) }

/-- A component entered as failed (R514, R517). -/
def SlateEntry.failed (e : SlateEntry) : SlateEntry := { e with flags := e.flags ||| 4#16 }

/-- PENDING becomes ACTIVE (R531). -/
def State.takePending (s : State) : State :=
  match s.nor.pendingSlot with
  | some n => { s with nor := { s.nor with active := n, pendingSlot := none } }
  | none => s

/-- SEC unwraps every ACTIVE domain; those listed have no copy that checks and become LOCKED (R539). DEDUCED, log entry 54. -/
def State.loadKeys (s : State) (lost : List Nat) : State :=
  let hit := (s.nor.kds.filter fun e => e.2.st == .active && lost.contains e.1).map (·.1)
  let s := hit.foldl (fun s k => { s with nor := { s.nor with kds := supd s.nor.kds k {} fun x => { x with st := .locked, good0 := false, good1 := false } } }.raise 15 0 7 k) s
  { s with sec := { s.sec with keyRam := (s.nor.kds.filter fun e => e.2.st == .active).map (·.1) } }

/-- Stage 0 runs a slot: its entries are BOOT_ROM, FW_MANIFEST and FIDDLEHEAD (R513, R514). DEDUCED, log entry 76. -/
def State.runStage0 (s : State) (slot : Nat) (fallback : Bool) : State :=
  let x := s.fwSlot slot
  let bad := if fallback then [(s.fwSlot (1 - slot)).manifestEntry.failed] else []
  { s with sec := { s.sec with slot := slot, fallback := fallback, entries := romEntry :: (bad ++ [x.manifestEntry, x.compEntry 2]) }
           start := { s.start with phase := .fiddlehead } }

/-- Stage 0 ends: the boot count, the slot whose image passes every check, and the keys; `okA` and `okB` say whether signature and components of the
slots' images verify, and `lostKeys` lists domains whose copies both fail (R512, R514, R531, R539). DEDUCED, log entry 76. -/
def execFiddleheadStart (okA okB : Bool) (lostKeys : List Nat) (s : State) : Out :=
  guarded (s.start.phase == .stage0) s <|
    let s := s.nextBoot.takePending
    let ok (n : Nat) : Bool := (s.fwSlot n).st == .valid && s.slotFault n (if n == 0 then okA else okB) true == 0
    let a := s.nor.active
    let s := (s.loadKeys lostKeys).emit (.uart 5)
    if ok a then s.runStage0 a false
    else if ok (1 - a) then s.runStage0 (1 - a) true
    else { s with start := { s.start with phase := .stuck } }.emit (.uart 0)

/-- The entries of stage 1, with those that fail their check marked (R513, R514). -/
def State.stage1Entries (s : State) (failed : List Nat) : List SlateEntry :=
  let x := s.fwSlot s.sec.slot
  [4, 5, 6, 7].map fun c => if failed.contains c then (x.compEntry c).failed else x.compEntry c

/-- The store copies as stage 2 loads them, ROM mode in force and no customer image (R304, R306). DEDUCED, log entry 76. -/
def loadStore (failed : List Nat) (patch vendor : List Byte) : Store :=
  let t : Store := if failed.contains 5 || !imageHeaderOk 3 patch then {}
    else { patch := putWords [] (microBase patch - 0x800) 0x80000000#32 (microWords patch), matchRegs := putWords [] 0 0 (matchValues patch) }
  if failed.contains 6 || !imageHeaderOk 1 vendor then t else t.install (swapOf 1 none vendor)

/-- Stage 2 runs: the log writer starts, the module record is applied, the stores are loaded (R582, R603 step 7, R618). A stage 2 image that fails its
check is not used, nor a microcode image whose header is not legal (R311). `badRecords` lists calibration records of NOR that fail their checks. DEDUCED, log entry 76. -/
def execStage2Start (failed : List Nat) (patch vendor : List Byte) (badRecords : List Nat) (s : State) : Out :=
  guarded (s.start.phase == .fiddlehead && s.buf.fill == 3) s <|
    let s := { s with sec := { s.sec with entries := s.sec.entries ++ s.stage1Entries failed } }.emit (.uart 7)
    if failed.contains 4 then { s with start := { s.start with phase := .stuck } }
    else
      let s := { s with start := { s.start with phase := .stage2 }, store := loadStore failed patch vendor
                        log := { s.log with running := true, startDue := some (s.nor.bootCount, s.start.cause) } }
      let s := (s.failRecords badRecords).applyModuleRecord
      match s.inForce 0 with
      | some r => (s.measure (measured 0x40 r.seq r.bytes)).emit (.uart 8)
      | none => s.emit (.uart 8)

/-- The HDAs accepted so far have their tables loaded and measured; a dump-skipped record is acted on; an image that awaits replay is selected, or
MGT enters service mode (R603 steps 9 and 11, R605, R617). -/
def execHdaTablesLoad (badRecords : List Nat) (openZones : List OpenZone) (s : State) : Out :=
  guarded (s.start.phase == .stage2 && s.hdas.all fun e => e.2.st != .reading) s <|
    let s := (s.failRecords badRecords).emit (.uart 9)
    let s := (List.range 16).foldl (fun s h => if (s.hda h).usable then s.loadHdaTables h else s) s
    let s := s.skippedDump openZones
    let s := { s with vlt := { s.vlt with selected := s.selectArea }, start := { s.start with phase := .tables } }
    if s.vlt.selected.isNone then s.enterService else s

/-- SVN_MIN and the fuses of revoked keys on reaching READY (R527, R530). -/
def State.burnFuses (s : State) : State :=
  let x := s.fwSlot s.sec.slot
  let svn := Nat.max s.nor.svnMin x.svn
  let roll (y : FwSlot) : FwSlot := if y.st == .valid && y.svn < svn then { y with st := .rolledBack } else y
  { s with nor := { s.nor with svnMin := svn, revoked := s.nor.revoked ||| (x.revoke &&& ~~~(1#4 <<< (x.keyId - 1)))
                               slotA := roll s.nor.slotA, slotB := roll s.nor.slotB } }

/-- The slate is signed and written and READY becomes 1; `slateOk` is the NOR write of the slate. From here the module moves from PS3 towards its
target state (R330, R516, R519, R603 steps 12 and 13, R609). -/
def execBootReady (slateOk : Bool) (s : State) : Out :=
  guarded (s.start.phase == .service && !s.mns.powerFail) s <|
    let s := (s.signSlate s.start.cause (s.sec.entries ++ [s.configEntry, s.custodiansEntry, s.makersEntry])).writeSlate slateOk
    let s := s.burnFuses
    let s := { s with start := { s.start with phase := .ready, resetting := false }, pwr := { s.pwr with pstate := 3, target := 3 } }
    let s := (s.sendLtr 0).sendLtr 1
    let s := if s.thp.hold then s else s.exitPs 0 none
    (s.emit (.uart 12)).emit (.uart 13)

end Sys2Proof.Machine
end

