-- ==== Sys2Proof/Machine/FaultLog.lean ====
section
/-! DEFINITION. The fault collector with its reactions, the writer of the continuity log, latent tests, the watch over the management cores and
the operating time (R9, R14, R18, R36, R340, R446, R447, R548 to R567, R618). -/

namespace Sys2Proof.Machine

/-! ### Reactions (R550 to R552) -/

/-- Subsystems that R552 lists. -/
def blockResets (m : BitVec 64) : Bool :=
  [1, 2, 8, 9, 10, 11, 12, 13].contains (msgSub m) || (msgSub m == 14 && msgKind m == 2)

/-- The islands run, so that a source can be reset or core 0 interrupted. -/
def State.islandsRun (s : State) : Bool := s.mns.busUp && s.start.phase != .off && s.start.phase != .inReset

/-- Block and module resets are carried out (R551). DEDUCED, log entry 18. -/
def State.resetsAllowed (s : State) : Bool := s.islandsRun && !s.mns.powerFail && !s.start.resetting && !s.thp.shutdown

/-- The reactions carried out for a message, in the bit order of R550. DESIGN CHOICE, log entry 82. -/
def State.reactionOf (s : State) (m : BitVec 64) : BitVec 5 :=
  if msgSev m == 0 then 0
  else
    let r := s.maskOf (msgSrc m)
    let r := if s.log.running then r else r &&& ~~~(2#5)
    let r := if s.resetsAllowed && blockResets m then r else r &&& ~~~(4#5)
    if s.resetsAllowed then r else r &&& ~~~(8#5)

/-- A TSQ block reset: its routine ends, its registers, return stack and queues are cleared; also what a CLK reset does to the routines. -/
def State.resetTsq (s : State) (m : Nat) : State := (s.failTake m).updMu m fun x => { x with tsq := { st := x.tsq.st } }

/-- An RCH block reset: the table entry is loaded again at the next take. -/
def State.resetRch (s : State) (m : Nat) : State :=
  (s.failTake m).updMu m fun x => { x with rch := { x.rch with work := [], kept := [], gateOpen := false, entryValid := false, front0 := {}, front1 := {}, taps0 := [], taps1 := [] } }

/-- A WAS block reset: WG and AE low, encoder buffers cleared, the attempt in progress fails; TRIM stays. DEDUCED, log entry 17. -/
def State.resetWas (s : State) (m : Nat) : State :=
  s.updMu m fun x =>
    { x with pa := if x.was.wg then x.pa.wgFall else x.pa
             was := { x.was with wg := false, ae := false, writing := none, joined := none, encoded := [], codewords := [], attemptFailed := x.was.attemptFailed || x.inAttempt } }

/-- An LDP block reset: each attempt in progress fails, and its sector in the take. DEDUCED, log entry 17. -/
def State.resetLdp (s : State) : State :=
  let s := (List.range 32).foldl (fun s m => ((s.mu m).rch.work.filter (·.granted)).foldl (fun s w => s.sectorFails m w.sector) s) s
  { s with ldp := { s.ldp with held := [] } }

/-- The core that hung restarts, and its task is abandoned (R552). -/
def State.restartCore (s : State) (core : Nat) : State :=
  let task := sget s.mgt.hungTasks core .none
  let s := { s with mgt := { s.mgt with hung := s.mgt.hung &&& ~~~(1#4 <<< core), hungTasks := sset s.mgt.hungTasks core .none .none } }
  match task with
  | .none => s
  | .command t => s.endWith t { status := 0x0401 }
  | .recovery m =>
    let t := (s.mu m).sch.recQueue.headD 0
    match (s.mu m).sch.recovery <|> (if s.at_ t .recovery then s.recoveryTake t else none) with
    | some d => (s.updMu m fun x => { x with sch := { x.sch with recovery := none } }).takeSpent m d true
    | none => s

/-- BLOCK_RESET of a source (R552). DEDUCED, log entry 17. -/
def State.blockReset (s : State) (m : BitVec 64) : State :=
  let i := msgInst m
  match msgSub m with
  | 1 => (List.range 2).foldl (fun s e => if s.epUsed e then s.controllerReset e else s) s
  | 2 => (List.range 2).foldl (fun s e => if s.epUsed e then s.controllerReset e else s) s
  | 8 => s.resetTsq i
  | 9 => s.resetRch i
  | 10 => s.resetLdp
  | 11 => s.resetWas i
  | 12 => (s.updHda i fun d => { d with srv := { d.srv with resetDue := true } }).settleSrvReset i
  | 13 => ((s.failTake (2 * i)).failTake (2 * i + 1)).stopClocks i
  | 14 => s.restartCore (msgAddr m % 4)
  | _ => s

/-- FAULT_N driven low (R568). -/
def State.driveFault (s : State) (src : Nat) : State :=
  { s with flt := { s.flt with pin := true, firstSrc := if s.flt.pin then s.flt.firstSrc else src } }

/-- The reactions carried out, in the order of R550. DEDUCED, log entries 16 and 18. -/
def State.react (s : State) (m : BitVec 64) (r : BitVec 5) (header : LogRec) : State :=
  let s := if r.getLsbD 0 then s.notice 0xFFFF 6 m.toNat else s
  let s := if r.getLsbD 4 then s.driveFault (msgSrc m) else s
  let s := if r.getLsbD 1 then { s with log := { s.log with nmi := s.log.nmi ++ [{ src := msgSrc m, header := header }] } } else s
  let s := if r.getLsbD 2 then s.blockReset m else s
  if r.getLsbD 3 then s.moduleReset false else s

/-! ### Acceptance (R549, R555) -/

/-- The lowest source that offers a message. DEDUCED, log entry 16. -/
def lowestSrc : List Ev → Nat
  | [] => 0
  | e :: r => if r.isEmpty then msgSrc e.msg else Nat.min (msgSrc e.msg) (lowestSrc r)

/-- FAULT_SUM.SUB of the event's subsystem, at severity ERROR or above, on each endpoint (R340). -/
def State.sumFault (s : State) (m : BitVec 64) : State :=
  if msgSev m < 2 then s
  else
    let put (x : Endpoint) : Endpoint := { x with faultSum := x.faultSum ||| (1#32 <<< msgSub m) }
    ((s.updEp 0 put).updEp 1 put).settleAlert

/-- The header of an event's records (R549, R559, R560). -/
def State.eventHeader (s : State) (e : Ev) (r : BitVec 5) : LogRec :=
  let t := e.stamp.getD s.time
  { oph := t.oph, ops := t.ops, pcc := t.pcc, sev := msgSev e.msg, injected := e.injected, event := msgSub e.msg * 64 + msgKind e.msg, source := msgSrc e.msg
    data := leBytes 8 e.msg.toNat ++ leBytes 1 r.toNat }

/-- The entry of the fault history queue, which overwrites the oldest of 64 (R555). -/
def State.enterHistory (s : State) (h : HistEntry) : State :=
  let full := 64 ≤ s.flt.hist.length
  let s := { s with flt := { s.flt with hist := (if full then s.flt.hist.drop 1 else s.flt.hist) ++ [h], hseq := (s.flt.hseq + 1) % 256 } }
  if full then s.bump 17 0 0x01110004 else s

/-- A message is accepted: stamped, entered, counted, logged, and its reactions follow (R549). -/
def State.accept_ (s : State) (e : Ev) : State :=
  let r := s.reactionOf e.msg
  let h := s.eventHeader e r
  let wanted := s.log.floor ≤ msgSev e.msg || r.getLsbD 1
  let logged := wanted && logCount s.log.queue < 255
  let s := s.enterHistory { msg := e.msg, oph := h.oph, ops := h.ops, logged := logged, injected := e.injected, react := r, hseq := s.flt.hseq }
  let s := (s.bump 17 0 (0x01110100 + msgSub e.msg * 4)).sumFault e.msg
  let s := if wanted then s.logQueue h else s
  s.react e.msg r { h with data := [], cont := true }

/-- FLT accepts one message: the oldest of the lowest source (R549). DEDUCED, log entry 16. -/
def execFaultEventAccept (s : State) : Out :=
  match s.flt.offered.find? fun e => msgSrc e.msg == lowestSrc s.flt.offered with
  | none => .next s
  | some e =>
    unheld s.mns.busUp s
      ({ s with flt := { s.flt with offered := dropFirst (fun x => msgSrc x.msg == lowestSrc s.flt.offered) s.flt.offered
                                    holding := s.flt.holding.filter (· != msgSrc e.msg) } }.accept_ e)

/-! ### The writer of the continuity log (R559 to R567, R618) -/

/-- The markers of the log itself (R561). -/
def LogRec.isMarker (r : LogRec) : Bool := 0x0430 ≤ r.event && r.event ≤ 0x0433 && r.source == 0x400
/-- The record goes to ring H (R562). -/
def LogRec.inH (r : LogRec) : Bool := 2 ≤ r.sev || r.isMarker

/-- The record's 64 bytes with its write index (R559). -/
def LogSlot.bytes (x : LogSlot) : List Byte :=
  let r := x.entry
  let b := leBytes 4 r.oph ++ leBytes 2 (r.ops % 4096 + r.sev % 4 * 4096 + flag r.cont * 16384 + flag r.injected * 32768) ++ leBytes 4 r.pcc
    ++ leBytes 2 r.event ++ leBytes 2 r.source ++ leBytes 2 (x.index % 65536) ++ padTo 44 r.data
  b ++ leBytes 4 (crc32c b).toNat

/-- The records held in a ring, oldest first. -/
def Ring.held (r : Ring) : List LogSlot := r.segs.flatMap (·.recs)

/-- The record of write index `a` was written before that of `b`; the index wraps modulo 2³² (R559). DEDUCED, log entry 20. -/
def writtenBefore (a b : Nat) : Bool := decide ((b + 2 ^ 32 - a) % 2 ^ 32 < 2 ^ 31)

/-- Two lists in write order joined in write order (R565). DEDUCED, log entry 20. -/
def mergeSlots : List LogSlot → List LogSlot → Nat → List LogSlot
  | a, b, 0 => a ++ b
  | [], b, _ => b
  | a, [], _ => a
  | x :: a, y :: b, n + 1 => if writtenBefore x.index y.index then x :: mergeSlots a (y :: b) n else y :: mergeSlots (x :: a) b n

/-- Every record that the page returns, in write order. -/
def State.logHeld (s : State) : List LogSlot :=
  let h := s.nor.ringH.held
  let l := s.nor.ringL.held
  mergeSlots h l (h.length + l.length)

/-- The ring has a slot to program: in its segment, or in an erased one. -/
def Ring.room (r : Ring) : Bool := (r.used < 1024 && !r.segs.isEmpty) || !r.erased.isEmpty

/-- The ring with a slot to program in its last segment (R562). -/
def Ring.ready (r : Ring) : Ring :=
  if r.used < 1024 && !r.segs.isEmpty then r
  else match r.erased with
    | [] => r
    | n :: e => { r with segs := r.segs ++ [{ no := n }], used := 0, erased := e }

/-- The slot in which the next record is programmed (R545). -/
def Ring.slot (r : Ring) : Nat := match r.segs.getLast? with | some g => g.no * 1024 + r.used | none => 0

/-- A record in the last segment. -/
def putLast (x : LogSlot) : List LogSeg → List LogSeg
  | [] => []
  | [g] => [{ g with recs := g.recs ++ [x] }]
  | g :: r => g :: putLast x r

/-- The ring of a record. -/
def State.ring (s : State) (h : Bool) : Ring := if h then s.nor.ringH else s.nor.ringL
/-- `s` with `f` applied to a ring. -/
def State.updRing (s : State) (h : Bool) (f : Ring → Ring) : State :=
  { s with nor := if h then { s.nor with ringH := f s.nor.ringH } else { s.nor with ringL := f s.nor.ringL } }

/-- The record in the next slot of its ring with the next write index (R559). -/
def State.programRecord (s : State) (r : LogRec) : State :=
  let s := s.updRing r.inH fun g => { g.ready with segs := putLast { index := s.nor.windex, entry := r } g.ready.segs, used := g.ready.used + 1 }
  { s with nor := { s.nor with windex := (s.nor.windex + 1) % 2 ^ 32 } }

/-- A program that fails retires the slot (R564). -/
def State.failProgram (s : State) (h : Bool) : State :=
  let slot := (s.ring h).ready.slot
  ((s.updRing h fun g => { g.ready with used := g.ready.used + 1 }).raise 16 0 1 slot).bump 16 0 0x0110001C

/-- No record is held in a ring (R566). -/
def Ring.cleared (r : Ring) : Ring := { r with segs := r.segs.map fun g => { g with recs := [] } }

/-- The CLEARED marker written: what it says is found as it is written, and every earlier record is discarded (R561, R566). DEDUCED, log entry 20. -/
def State.writeCleared (s : State) (r : LogRec) : State :=
  let old := s.logHeld
  let top := old.foldl (fun a x => Nat.max a x.entry.sev) 0
  let last := match old.getLast? with | some x => x.index % 65536 | none => 0
  let r' := { r with cmd := none
                     data := leBytes 1 (leNat (r.data.take 1)) ++ leBytes 1 0 ++ leBytes 2 last ++ leBytes 4 old.length ++ leBytes 1 top
                       ++ List.replicate 3 0 ++ digestBytes (Config.sm3 (old.flatMap LogSlot.bytes)) }
  let s := ((s.updRing true Ring.cleared).updRing false Ring.cleared).programRecord r'
  match r.cmd with
  | some t => s.complete t { r0 := old.length }
  | none => s

/-- A record written. DEDUCED, log entry 20. -/
def State.writeRecord (s : State) (r : LogRec) : State := if r.event == 0x0432 && r.isMarker then s.writeCleared r else s.programRecord r

/-- The record that the writer takes next from the queue, and the queue without it: the first whose ring has room; none past a boundary, and a
CLEARED marker only after every record ahead of it (R562, R566, R618). DEDUCED, log entry 20. -/
def State.nextRecord (s : State) : List LogItem → Bool → Option (LogRec × List LogItem)
  | [], _ => none
  | .boundary :: _, _ => none
  | i :: q, first =>
    let r := match i with | .record r => r | .reserve r => r | .boundary => {}
    let clears := r.event == 0x0432 && r.isMarker
    if (s.ring r.inH).room && (first || !clears) then some (r, q)
    else if clears then none
    else (s.nextRecord q false).map fun x => (x.1, i :: x.2)

/-- The START marker (R561). -/
def State.startMarker (s : State) (boot cause : Nat) : LogRec := s.marker 0x0430 1 (leBytes 4 boot ++ leBytes 1 cause)

/-- The START marker is due now: nothing of the previous boot is ahead of it (R618). DEDUCED, log entry 20. -/
def State.startNow (s : State) : Option LogRec :=
  match s.log.startDue with
  | none => none
  | some (b, c) => if s.log.queue.contains .boundary && s.log.queue.head? != some .boundary then none else some (s.startMarker b c)

/-- The queue without its boundary at the front. -/
def dropBoundary (q : List LogItem) : List LogItem := if q.head? == some .boundary then q.drop 1 else q

/-- One slot is programmed once a core has time for it, and without delay after a power-fail signal; `ok` is false when the program fails (R444, R564,
R565, R618). -/
def execLogRecordWrite (ok : Bool) (s : State) : Out :=
  if s.log.running && s.mns.busUp && (s.mns.powerFail || s.booksMayRun) then
    match s.startNow with
    | some r =>
      guarded (s.ring true).room s <|
        if ok then { s with log := { s.log with startDue := none, queue := dropBoundary s.log.queue } }.programRecord r else s.failProgram true
    | none => match s.nextRecord s.log.queue true with
      | none => .next s
      | some (r, q) => guarded true s (if ok then { s with log := { s.log with queue := q } }.writeRecord r else s.failProgram r.inH)
  else .next s

/-- The oldest segment is gone: its records are overwritten; erased when `ok`, else retired (R562, R564). DEDUCED, log entry 20. -/
def State.eraseOldest (s : State) (h ok : Bool) : State :=
  match (s.ring h).segs with
  | [] => s
  | g :: r =>
    let s := s.updRing h fun x => { x with segs := r, erased := if ok then x.erased ++ [g.no] else x.erased, retired := if ok then x.retired else x.retired + 1 }
    let s := s.bump 16 0 (if h then 0x01100014 else 0x01100018) g.recs.length
    if ok then s else s.raise 16 0 2 g.no

/-- Background work waits behind read recovery, managed commands and bookkeeping: here behind a record that can be written (R444). -/
def State.backgroundMayRun (s : State) : Bool :=
  let record := match s.startNow with | some _ => (s.ring true).room | none => (s.nextRecord s.log.queue true).isSome
  s.coreFree (s.recoveryWork + s.managedWork + flag record)

/-- The erase of the oldest segment of ring H, or of ring L, ends: log compaction is background work (R444, R562). -/
def execLogSegmentErase (ringH ok : Bool) (s : State) : Out :=
  guarded (s.log.running && s.mns.busUp && (s.ring ringH).erased.isEmpty && 2 ≤ (s.ring ringH).segs.length && s.backgroundMayRun) s
    (s.eraseOldest ringH ok)

/-! ### Stall monitors, the management cores, latent tests (R36, R446, R447, R558) -/

/-- The handshake channels into an instance of a subsystem are open, and their stall monitors armed: those into a CHAN domain, the LDP
domain or the tag memory close with the domain, and a subsystem whose own domain is off offers nothing (R37, R591, R592). -/
def State.channelOpen (s : State) (sub inst : Nat) : Bool :=
  if sub == 8 || sub == 9 || sub == 11 then (sget s.pwr.chan (inst / 2) {}).chansOpen
  else if sub == 12 || sub == 13 then (sget s.pwr.chan inst {}).chansOpen
  else if sub == 10 then s.pwr.ldp.chansOpen
  else sub != 6 || s.pwr.tags.chansOpen

/-- An item offered to an instance of a subsystem is not accepted within 1 ms; the channel is named by its sender and class (R36, R37, R547). DESIGN CHOICE, log entry 24. -/
def execHandshakeStall (sub inst sender sinst cls : Nat) (s : State) : Out :=
  guarded (s.islandsRun && inst < instancesOf sub && sinst < instancesOf sender && cls < 4 && s.channelOpen sub inst && s.channelOpen sender sinst) s
    (s.raise sub inst 0x3C (sender + sinst * 32 + cls * 2048))

/-- The task may be in a core's hands: a managed command that has begun or may begin, or a recovery take that is being prepared (R444, R447). DESIGN CHOICE, log entry 82. -/
def State.inHands (s : State) : HungTask → Bool
  | .none => true
  | .command t => s.at_ t .managed || s.at_ t .executing
  | .recovery m => decide (m < 32) && (s.recoveryDue m || (s.mu m).sch.recovery.isSome)

/-- The task in the hung core's hands stays incomplete (R447). DESIGN CHOICE, log entry 82. -/
def State.holdTask (s : State) : HungTask → State
  | .command t => if s.at_ t .managed then s.setPhase t .executing else s
  | _ => s

/-- A core misses its heartbeat with a task in its hands (R447). DESIGN CHOICE, log entry 82. -/
def execMgtHang (core : Nat) (task : HungTask) (s : State) : Out :=
  guarded (core < 4 && s.islandsRun && !s.mgt.hung.getLsbD core && (core == 0 || !s.pwr.coresHalted) && s.inHands task) s <|
    let s := (s.raise 14 0 2 core).holdTask task
    { s with mgt := { s.mgt with hung := s.mgt.hung ||| (1#4 <<< core), hungSeen := s.mgt.hungSeen ||| (1#4 <<< core)
                                 hungTasks := sset s.mgt.hungTasks core task .none } }

/-- MGT_LOAD is published; after 10 s above 90 % one MGT_SATURATED event (R446, R455). -/
def execMgtLoadPublish (load : Nat) (s : State) : Out :=
  guarded (s.islandsRun && load ≤ 100) s <|
    let run := if 90 < load then Nat.min 100 (s.mgt.highRun + 1) else 0
    let rises := run == 100 && s.mgt.highRun < 100
    let s := { s with mgt := { s.mgt with load := load, highRun := run, saturated := run == 100 } }
    if rises then (s.raise 14 0 1 load).bump 14 0 0x010E0008 else s

/-- Whether latent test `t` of this row may run now on an instance of its subsystem: tests 1 and 2 with WG low outside a write take, test 3 on a
PARKED actuator, test 5 of the power-fail signal, test 7 of a vault channel, test 9 of a source port (R558). The other tests run in rows of their own. -/
def State.latentMay (s : State) (t sub inst part : Nat) : Bool :=
  if t == 1 || t == 2 then sub == 11 && inst < 32 && part == inst && !(s.mu inst).was.wg && !(s.mu inst).was.writeTake
  else if t == 3 then sub == 12 && inst < 16 && part < 2 && (s.mu (2 * inst + part)).act.st == .parked
  else if t == 5 then sub == 20 && inst == 0 && part == 0
  else if t == 7 then sub == 7 && inst == 0 && part < 8
  else t == 9 && inst < instancesOf sub && part == inst

/-- A due latent-fault test runs (R558). DEDUCED, log entry 22. -/
def execLatentTest (test sub inst part : Nat) (pass : Bool) (s : State) : Out :=
  guarded (s.islandsRun && s.latentMay test sub inst part) s (if pass then s.latentPass test else s.latentFail sub inst test part)

/-! ### Operating time (R9, R14, R18) -/

/-- The hour boundary: OPH carries or saturates, and what R9 and R18 name is saved. -/
def State.hourTick (s : State) : State :=
  let s := { s with time := { s.time with ops := 0 } }
  let s := if s.time.ophSat then s
    else if 2 ^ 32 ≤ s.time.oph + 1 then { s with time := { s.time with oph := 2 ^ 32 - 1, ophSat := true } }.raise 18 0 0x3F 0x18
    else { s with time := { s.time with oph := s.time.oph + 1 } }
  s.saveTime

/-- A second of the always-on oscillator: OPS, the time since the hold-up bank's last test, and the TIMER wake's count in PS4 (R9, R85, R601).
DESIGN CHOICE, log entries 7 and 13. -/
def execOpsTick (s : State) : Out :=
  guarded s.mns.busUp s <|
    let s := { s with pwr := { s.pwr with timerLeft := s.pwr.timerLeft - 1 }
                      mns := { s.mns with bank := { s.mns.bank with sinceTest := addSat 86400 s.mns.bank.sinceTest 1 } } }
    let s := { s with time := { s.time with up := s.time.up + 1 } }
    if s.time.ops + 1 < 3600 then { s with time := { s.time with ops := s.time.ops + 1 } } else s.hourTick

end Sys2Proof.Machine
end

