-- ==== Sys2Proof/Machine/Regs.lean ====
section
/-! DEFINITION. The registers that can be read of the global region and of the diagnostic window, and the register snapshots that they feed
(R8, R42, R93 to R99, R136, R174, R175, R210 to R212, R242, R285, R316, R340, R455, R475, R505, R541, R563, R568, R570, R601). -/

namespace Sys2Proof.Machine

/-! ### Global registers (R340, R568) -/

/-- The highest of some temperatures in 1/16 °C, in °C as 8 bits; 0 when there is none. -/
def topTemp (l : List Int) : Nat :=
  match l with
  | [] => 0
  | x :: r => toTwos 8 ((r.foldl (fun a t => if a < t then t else a) x) / 16)

/-- THERM_SUM (R340). -/
def State.regThermSum (s : State) : Nat :=
  let module_ := ((List.range 16).filter fun n => (s.sensor n).valid).map fun n => (s.sensor n).temp
  let hda := ((List.range 16).filter fun h => (s.hda h).tempValid).map fun h => (s.hda h).temp
  pack [(0, 8, topTemp module_), (8, 8, topTemp hda), (16, 2, s.thp.level)]

/-- Replay stands from the selection of an image until it ends (R604). -/
def Vlt.inReplay (v : Vlt) : Bool := v.selected.isSome || v.replaying

/-- GSTAT as an endpoint reads it (R340). -/
def State.regGstat (s : State) (e : Nat) : Nat :=
  pack [(0, 1, flag (s.start.phase == .ready)), (1, 3, s.pwr.pstate), (4, 1, flag s.thp.hold), (5, 1, flag s.activating), (6, 1, flag s.factory)
        , (7, 1, s.sec.slot), (8, 1, flag s.mns.powerFail), (9, 1, flag s.vlt.inReplay), (10, 1, flag (s.ep e).crstBusy)
        , (11, 1, flag (s.mgt.hungSeen != 0)), (12, 1, flag s.mgt.saturated), (16, 7, s.mgt.load)]

/-- FAULT_PIN_STAT (R568). -/
def State.regFaultPin (s : State) : Nat := pack [(0, 1, flag s.flt.pin), (16, 11, s.flt.firstSrc)]

/-- A register of the global region at offset `a`, as endpoint `e` reads it. -/
def State.globalReg (s : State) (e a : Nat) : Nat :=
  match a with
  | 0x00 => 0x01B03216
  | 0x04 => pack [(0, 1, flag s.dual), (1, 1, if s.dual then e else 0), (2, 1, flag (((s.savedFeature 1 0).1 == 1) != s.dual))]
  | 0x08 => s.regGstat e
  | 0x10 => (s.ep e).faultSum.toNat
  | 0x14 => s.regThermSum
  | 0x18 => s.time.oph
  | 0x1C => pack [(0, 12, s.time.ops), (12, 1, flag s.time.ophSat), (13, 1, flag s.time.pccSat)]
  | 0x20 => s.time.pcc
  | 0x24 => s.regFaultPin
  | _ => 0

/-! ### ZCX, SCH, MGT (R455) -/

/-- Contexts held in all. -/
def State.allContexts (s : State) : Nat := ((List.range 32).map s.contextsHeld).foldl (· + ·) 0

/-- Live commands at intake that satisfy `p`. -/
def State.intakeWhere (s : State) (p : Cmd → Bool) : Nat :=
  countIf (fun c => (s.tag c.1).st == .accepted && c.2.phase == .intake && p c.2) s.cmds

/-- ZCX registers. -/
def State.zcxReg (s : State) (o : Nat) : Nat :=
  if o == 0 then pack [(0, 16, 40960 - s.allContexts), (16, 16, ((List.range 32).map s.contextLimit).foldl (· + ·) 0)]
  else if o == 4 then pack [(0, 15, s.intakeWhere s.heldByZone), (15, 15, s.intakeWhere s.heldByBarrier), (30, 1, flag (s.barrierActive s.accept))]
  else if 0x100 ≤ o && o < 0x180 then pack [(0, 16, s.contextsHeld ((o - 0x100) / 4)), (16, 16, s.contextLimit ((o - 0x100) / 4))]
  else 0

/-- SCH registers of an MU. -/
def State.schReg (s : State) (m o : Nat) : Nat :=
  let c := (s.mu m).sch
  match o with
  | 0 => pack [(0, 11, c.depth), (11, 11, (s.eligible m).length), (22, 1, flag (s.urgent m)), (23, 1, flag ((s.shownAges m).any (500 ≤ ·)))]
  | 4 => pack [(0, 16, Nat.min 0xFFFF ((s.shownAges m).foldl Nat.max 0))]
  | 8 => pack [(0, 15, c.overflow.length)]
  | _ => 0

/-- MGT registers. -/
def State.mgtReg (s : State) (o : Nat) : Nat :=
  match o with
  | 0 =>
    let recov := ((List.range 32).map fun m => (s.mu m).sch.recQueue.length).foldl (· + ·) 0
    let managed := countIf (fun c => (s.tag c.1).st == .accepted && (c.2.phase == .managed || c.2.phase == .executing)) s.cmds
    pack [(0, 11, recov), (11, 15, managed)]
  | 4 => s.mgt.hungSeen.toNat
  | _ => 0

/-! ### BUF, BCA, VLT (R475, R505) -/

/-- BUF registers. -/
def State.bufReg (s : State) (o : Nat) : Nat :=
  match o with
  | 0 => pack [(0, 2, s.buf.fill), (2, 1, flag s.pwr.sdramSelfRefresh), (3, 1, flag (match s.buf.scrub with | some p => p.cmd.isSome | none => false))
               , (4, 1, flag s.buf.scrub.isSome)]
  | 4 => pack [(0, 20, s.buf.scrubBurst / 1024)]
  | _ => 0

/-- BCA registers. -/
def State.bcaReg (s : State) (o : Nat) : Nat :=
  match o with
  | 0x00 => pack [(0, 1, flag s.bca.enabled), (1, 1, flag s.bca.rekeyBusy), (2, 1, flag s.bca.staleResumed)]
  | 0x04 => pack [(0, 16, s.bca.index.length / 256), (16, 16, s.stagedTotal / 256)]
  | 0x08 => pack [(0, 7, s.cfgLimit), (8, 7, s.mns.bank.eBound), (16, 7, s.vlt.bound), (24, 7, s.effLimit)]
  | 0x0C => s.bca.bypass
  | 0x10 => pack [(0, 32, s.bca.hot.toNat)]
  | 0x14 => s.bca.hot.toNat / 2 ^ 32
  | 0x2C => s.strandedReg
  | _ => 0

/-- VLT_STAT.STATE. DEDUCED, log entry 83. -/
def State.vltState (s : State) : Nat :=
  if s.vlt.dumping then 2 else if s.vlt.inReplay then 3 else if !s.vlt.released then 0 else if s.vlt.goodCh == 0 then 4
  else if s.vlt.erasing.isSome then 0 else 1

/-- VLT registers. -/
def State.vltReg (s : State) (o : Nat) : Nat :=
  match o with
  | 0x00 => pack [(0, 3, s.vltState), (3, 1, s.vlt.nextArea), (4, 8, s.vlt.goodCh.toNat)]
  | 0x04 => pack [(0, 8, Nat.min 255 s.vlt.capTerm), (8, 8, s.vlt.rateTerm), (16, 7, s.vlt.bound)]
  | 0x08 => s.vlt.seq
  | 0x0C => pack [(0, 2, s.vlt.result), (2, 1, flag s.vlt.sealed)]
  | 0x10 => Nat.min (2 ^ 32 - 1) s.vlt.lost
  | _ => 0

/-! ### The ports (R136) -/

/-- THP_PORT_STAT (R136). -/
def State.portStat (s : State) (h : Nat) : Nat :=
  let d := s.hda h
  pack [(0, 4, portCode d.st), (4, 1, flag d.present), (5, 1, flag (s.mu (2 * h)).pa.pflt), (6, 1, flag (s.mu (2 * h + 1)).pa.pflt)
        , (7, 1, flag d.sameSerial), (8, 2, d.descSig), (10, 2, d.hs), (16, 4, d.reject)]

/-- THP_PORT registers. -/
def State.portReg (s : State) (h o : Nat) : Nat :=
  match o with
  | 0 => s.portStat h
  | 4 => pack [(0, 16, toTwos 16 (s.hda h).temp), (16, 1, flag (s.hda h).tempValid)]
  | _ => 0

/-! ### SEC, LOG, FLT, THP, CAL, MNS (R93 to R98, R541, R570, R601) -/

/-- Slot state by its code (R528). -/
def slotCode : SlotState → Nat
  | .empty => 0
  | .valid => 1
  | .rolledBack => 2
  | .writing => 3

/-- Key domains in a state, of 1,024. -/
def State.domainsIn (s : State) (st : KdState) : Nat := countIf (fun k => (s.kd k).st == st) (List.range 1024)

/-- SEC registers. -/
def State.secReg (s : State) (o : Nat) : Nat :=
  let slot (x : FwSlot) : Nat := pack [(0, 2, slotCode x.st), (2, 7, x.svn)]
  match o with
  | 0x00 => pack [(0, 1, s.sec.slot), (1, 1, flag s.sec.fallback), (2, 1, flag s.nor.pendingSlot.isSome), (3, 1, s.nor.pendingSlot.getD 0)
                  , (4, 7, s.nor.svnMin), (11, 4, s.nor.custodians.length), (15, 5, s.nor.makers.length), (20, 4, s.nor.revoked.toNat)
                  , (24, 7, s.nor.late.length), (31, 1, flag (match s.nor.late.getLast? with | some e => e.comp == 0x00FE | none => false))]
  | 0x04 => slot s.nor.slotA
  | 0x08 => slot s.nor.slotB
  | 0x0C => s.slateNewest
  | 0x10 => s.slateUnexported
  | 0x14 => pack [(0, 11, s.domainsIn .active), (16, 11, s.domainsIn .locked)]
  | 0x18 => pack [(0, 11, s.domainsIn .erased), (16, 11, s.domainsIn .empty)]
  | _ => 0

/-- LOG registers. -/
def State.logReg (s : State) (o : Nat) : Nat :=
  match o with
  | 0x0 => pack [(0, 9, logCount s.log.queue), (9, 2, s.log.floor), (11, 1, flag s.nor.ringH.erased.isEmpty), (12, 1, flag s.nor.ringL.erased.isEmpty)]
  | 0x4 => s.nor.ringH.held.length
  | 0x8 => s.nor.ringL.held.length
  | 0xC => s.nor.windex
  | _ => 0

/-- FLT registers. -/
def State.fltReg (s : State) (o : Nat) : Nat :=
  match o with
  | 0x0 => pack [(0, 7, s.flt.hist.length), (7, 1, flag s.flt.pin), (8, 1, flag s.flt.masksDefaulted)]
  | 0xC => s.flt.latent.toNat
  | _ => 0

/-- THP_SENSOR of a module sensor with shutdown threshold `top`: LEVEL is 3 while the last reading is at or above it (R575, R601). DEDUCED, log
entry 48. -/
def Sensor.reg (x : Sensor) (top : Nat) : Nat :=
  pack [(0, 16, toTwos 16 x.temp), (16, 1, flag x.valid), (17, 2, if x.valid && decide (sixteenths top ≤ x.temp) then 3 else x.level), (19, 1, flag x.failed)]

/-- THP registers. -/
def State.thpReg (s : State) (o : Nat) : Nat :=
  if o == 0 then
    pack [(0, 3, s.pwr.target), (3, 1, flag s.pwr.transit), (4, 3, s.pwr.ret), (7, 1, flag s.pwr.wakeLatched), (8, 2, s.pwr.wakeSrc)
          , (10, 1, flag s.nor.hold), (16, 16, mapBits 16 fun n => 2 ≤ (s.sensor n).level)]
  else if o == 4 then pack [(0, 7, s.thp.duty), (7, 1, flag (bit (s.feat0 0x11) 8)), (8, 1, flag s.dutyForced)]
  else if o == 8 then s.thp.wrGate.toNat
  else if o == 0xC then (if bit (s.feat0 0x0D) 2 then s.pwr.timerLeft else 0)
  else if 0x10 ≤ o && o < 0x28 then let f := s.fan ((o - 0x10) / 4); pack [(0, 16, f.rpm), (16, 1, flag f.stall)]
  else if 0x40 ≤ o && o < 0x80 then (s.sensor ((o - 0x40) / 4)).reg (thresholds ((o - 0x40) / 4)).2.2.1
  else if 0x80 ≤ o && o < 0x100 then
    let x := s.sensor ((o - 0x80) / 4)
    pack [(0, 16, toTwos 16 x.maxPon), (16, 16, toTwos 16 x.maxLife)]
  else 0

/-- CAL registers, from 0x1000 of its block on. -/
def State.calReg (s : State) (o : Nat) : Nat :=
  if o == 0 then
    pack [(0, 1, flag s.mns.calref), (1, 1, flag (s.cal.busy || !s.cal.converterCmds.isEmpty)), (2, 1, flag s.cal.uncompensated), (16, 16, s.cal.foreign.toNat)]
  else if o == 4 then pack [(0, 16, toTwos 16 s.cal.oscCorr), (16, 16, toTwos 16 s.cal.vrefCorr)]
  else if o == 8 then pack [(0, 32, s.cal.stalled.toNat)]
  else if o == 0xC then s.cal.stalled.toNat / 2 ^ 32
  else if 0x40 ≤ o && o < 0x84 then sget s.cal.seqs ((o - 0x40) / 4) 0
  else 0

/-- MNS_HOLDUP_STAT.STATE by its code. -/
def bankCode : BankState → Nat
  | .charging => 0
  | .ready => 1
  | .testing => 2
  | .failed => 3

/-- A feed's VRMS and FREQ. -/
def Feed.reg (f : Feed) : Nat := pack [(0, 16, f.vrms), (16, 16, if f.present then f.freq else 0)]

/-- MNS registers. DESIGN CHOICE, log entry 100. -/
def State.mnsReg (s : State) (o : Nat) : Nat :=
  let m := s.mns
  let b := m.bank
  match o with
  | 0x00 => pack [(0, 1, flag m.feedA.present), (1, 1, flag m.feedB.present), (2, 1, flag m.powerFail), (3, 1, flag (m.feedA.present != m.feedB.present))
                  , (4, 1, flag m.feedA.stageFault), (5, 1, flag m.feedB.stageFault), (8, 8, m.shareA)]
  | 0x04 => m.feedA.reg
  | 0x08 => m.feedB.reg
  | 0x0C => pack [(0, 16, m.feedA.pin), (16, 16, m.feedB.pin)]
  | 0x10 => pack [(0, 16, m.busV), (16, 16, m.busI)]
  | 0x14 => pack [(0, 16, b.eUsable), (16, 8, b.eBound), (24, 2, bankCode b.st), (26, 1, flag b.worn), (27, 1, flag m.chargePaused)]
  | 0x18 => pack [(0, 16, b.capMF), (16, 12, b.esrMO)]
  | 0x1C => pack [(0, 16, b.vBank), (16, 8, toTwos 8 b.temp)]
  | 0x20 => b.testOph
  | 0x24 => if m.busUp then pack [(0, 16, s.ledgerMA / 100), (16, 16, s.capacityMA / 100)] else 0
  | _ => 0

/-! ### The window (R8) -/

/-- A register of subsystem `sub`'s block at offset `o`, but for counters. -/
def State.blockReg (s : State) (sub o : Nat) : Nat :=
  match sub with
  | 3 => s.zcxReg o
  | 4 => if o < 0x400 then s.schReg (o / 0x20) (o % 0x20) else 0
  | 5 => s.bufReg o
  | 6 => s.bcaReg o
  | 7 => s.vltReg o
  | 8 => if o < 0x800 then s.tsqReg (o / 0x40) (o % 0x40) else s.storeReg o
  | 9 => if o < 0x800 && o % 0x40 == 0 then s.rchStat (o / 0x40) else 0
  | 10 => s.ldpReg o
  | 11 => if o < 0x800 then s.wasReg (o / 0x40) (o % 0x40) else 0
  | 12 => if o < 0x400 then s.srvReg (o / 0x40) (o % 0x40) else 0
  | 13 => if o < 0x200 then s.clkReg (o / 0x20) (o % 0x20) else 0
  | 14 => s.mgtReg o
  | 15 => s.secReg o
  | 16 => s.logReg o
  | 17 => s.fltReg o
  | 18 => s.thpReg o
  | 19 => if o < 0x100 then s.portReg (o / 0x10) (o % 0x10) else if 0x1000 ≤ o then s.calReg (o - 0x1000) else 0
  | 20 => s.mnsReg o
  | _ => 0

/-- A read of one DW of the global region or the diagnostic window: counters from the counter store, and zero where no register stands (R8, R18). DESIGN CHOICE, log entry 24. -/
def State.regRead (s : State) (e a : Nat) : Word :=
  BitVec.ofNat 32 <|
    if a < 0x10000 then s.globalReg e a
    else if isCounter a then (s.counter a).reg
    else
      let sub := a / 0x10000 % 0x100
      if s.frozen sub (a % 0x10000) then sget s.pwr.mirror (sub * 0x10000 + a % 0x10000) 0 else s.blockReg sub (a % 0x10000)

/-! ### What a host read of BAR0 returns (R8, R328, R341, R351, R365, R370) -/

/-- Host-link and interrupt registers of endpoint `e`. -/
def State.linkReg (s : State) (e a : Nat) : Nat :=
  let x := s.ep e
  if a == 0x00010000 then pack [(0, 3, x.speed), (3, 5, x.width), (8, 1, flag x.degraded), (9, 2, x.pm)]
  else if a == 0x00010100 then flag x.coalOff
  else if isCounter a then (s.counter (epCtr e a)).reg
  else 0

/-- Registers of a task port's page. PORT_CLAIM is the row that claims; TASK is write-only. -/
def State.taskPortReg (s : State) (e n o : Nat) : Nat :=
  let p := s.port (moduleNo e n)
  let c := s.counter (epCtr e (0x00100084 + n * 0x1000))
  match o with
  | 0x80 => pack [(0, 15, p.free.length), (15, 1, flag p.allotErr)
                  , (16, 15, s.busy (moduleNo e n))]
  | 0x84 => pack [(0, 14, p.lastTag), (16, 4, p.lastReason), (24, 7, c.count), (31, 1, flag c.sat)]
  | 0x88 => p.stagedBase
  | 0x8C => p.count
  | 0x90 => p.cq
  | _ => 0

/-- Registers of a completion queue's control block. -/
def Cq.reg (c : Cq) (o : Nat) : Nat :=
  match o with
  | 0x00 => c.base % 2 ^ 32
  | 0x04 => c.base / 2 ^ 32
  | 0x08 => c.size
  | 0x0C => pack [(0, 1, flag c.enable), (1, 1, flag c.event), (2, 1, flag c.errImm), (16, 9, c.vector)]
  | 0x10 => pack [(0, 8, c.coalCount), (8, 8, c.coalTime)]
  | 0x14 => c.head
  | 0x18 => pack [(0, 16, c.tail), (16, 1, flag c.phase)]
  | 0x1C => pack [(0, 1, flag (c.enable && c.full)), (1, 1, flag c.headErr), (2, 1, flag c.cfgErr), (3, 1, flag c.disableRefused)
                  , (16, 15, c.waiting.length)]
  | 0x20 => c.seq
  | _ => 0

/-- A DW of an MSI-X table entry as read. -/
def Msix.reg (x : Msix) (o : Nat) : Nat :=
  match o with
  | 0 => x.addr % 2 ^ 32
  | 4 => x.addr / 2 ^ 32
  | 8 => x.data.toNat
  | _ => flag x.mask

/-- One DW of endpoint `e`'s BAR0 as a host read returns it; zero where no register stands (R8). DEDUCED, log entry 25. -/
def State.barRead (s : State) (e a : Nat) : Word :=
  if a < 0x10000 || (0x01000000 ≤ a && a < 0x02000000) then s.regRead e a
  else BitVec.ofNat 32 <|
    if a < 0x20000 then s.linkReg e a
    else if 0x00100000 ≤ a && a < 0x00100000 + s.portsPerEp * 0x1000 then s.taskPortReg e ((a - 0x00100000) / 0x1000) (a % 0x1000)
    else if 0x00200000 ≤ a && a < 0x00200000 + s.portsPerEp * 0x100 then (s.cq (moduleNo e ((a - 0x00200000) / 0x100))).reg (a % 0x100)
    else if 0x00300000 ≤ a && a < 0x00300000 + s.vectors * 16 then (sget (s.ep e).msix ((a - 0x00300000) / 16) {}).reg (a % 16)
    else if 0x00302000 ≤ a && a < 0x00302000 + s.vectors / 8 then
      mapBits 32 fun i => sget (s.ep e).msixPend ((a - 0x00302000) / 4 * 32 + i) false
    else 0

/-- How a read of BAR0 is answered (R325, R326). -/
inductive BarAnswer where
  | data (ws : List Word)
  | completerAbort
  | unsupported
deriving DecidableEq, Repr

/-- A read of `n` DW at an address has one of the accepted forms: 1 DW, an aligned pair, or in the diagnostic window up to 16 DW within 64 bytes
(R326). -/
def readFormOk (a n : Nat) : Bool :=
  (n == 1 && a % 4 == 0) || (n == 2 && a % 8 == 0)
  || (0x01000000 ≤ a && a < 0x02000000 && a % 4 == 0 && 1 ≤ n && n ≤ 16 && (a + 4 * n - 4) / 64 == a / 64)

/-- The answer to a host read of `n` DW of endpoint `e`'s BAR0 (R325, R326). DEDUCED, log entry 25. -/
def State.barAnswer (s : State) (e a n : Nat) : BarAnswer :=
  if !(s.ep e).mse then .unsupported
  else if readFormOk a n then .data ((List.range n).map fun i => s.barRead e (a + 4 * i)) else .completerAbort

/-! ### Register snapshots (R563) -/

/-- First register and number of DW of a source's block. DEDUCED, log entry 23. -/
def snapshotBlock (src : Nat) : Nat × Nat :=
  let sub := src / 64
  let base := diag sub 0
  if sub == 4 || sub == 13 then (base + src % 64 * 0x20, 8)
  else if sub == 8 || sub == 9 || sub == 11 || sub == 12 then (base + src % 64 * 0x40, 16)
  else if sub == 19 then (base + 0x1000, 44)
  else (base, 44)

/-- Snapshot records of a source with a header: eleven DW each, zero past the end. -/
def State.snapshotRecords (s : State) (src : Nat) (header : LogRec) : List LogRec :=
  let (base, n) := snapshotBlock src
  (List.range ((n + 10) / 11)).map fun i =>
    { header with data := (List.range 11).flatMap fun j => leBytes 4 (if 11 * i + j < n then (s.regRead 0 (base + (11 * i + j) * 4)).toNat else 0) }

/-- The firmware copies the oldest snapshot that is due into the log's queue, at non-maskable priority: only an activation holds it (R442, R550, R563). -/
def execNmiSnapshot (s : State) : Out :=
  match s.log.nmi with
  | [] => .next s
  | p :: r =>
    guarded (s.log.running && !s.activationRuns) s
      ((s.snapshotRecords p.src p.header).foldl (fun s x => s.logQueue x) { s with log := { s.log with nmi := r } })

end Sys2Proof.Machine
end

