-- ==== Sys2Proof/Machine/WritePath.lean ====
section
/-! DEFINITION. The write path: encoding, the spans of a sector, the assist monitor, the cuts of the encoder and of the assist, and
SECTOR_START of both directions (R213, R214, R220 to R222, R224 to R227, R233 to R236, R239). -/

namespace Sys2Proof.Machine

/-! ### SECTOR_ENCODE (R213, R214) -/

/-- The destage track of a write take holds the sector. -/
def State.handedSector (s : State) (m : Nat) (d : TakeDesc) (sector : Nat) : Option Sector :=
  match s.lbaAt m d.zone d.track sector with
  | none => none
  | some l => if s.isDirty (dkey m l) then (sget s.bca.index (dkey m l) {}).sector else none

/-- The sector passes the encoder's check: its CRC matches and no word of it is poisoned (R214, R463). -/
def encodes (x : Sector) : Bool := !x.poison && crc32c (x.data ++ x.hmeta) == x.scrc

/-- The write gate cut at encode: WG never rises for the sector nor for a later one of the attempt, and the sector before it is
written to its end; each poisoned word fetched is counted (R214, R222, R236, R463). -/
def State.crcCut (s : State) (m lba sector poisoned : Nat) : State :=
  let s := s.bump 5 0 (aBuf 0x14) poisoned
  let s := s.updMu m fun x =>
    { x with tsq := { x.tsq with writeQ := x.tsq.writeQ.takeWhile (· != sector), attemptEnding := true }
             was := { x.was with crcCut := true, attemptFailed := true } }
  ((s.raise 11 m 3 lba).bump 11 m (aWas m 0x10)).bump 11 m (aWas m 0x08)

/-- The posted sector that WAS fetches next: the first, once the sector before it has started (R213). -/
def Mu.toEncode (x : Mu) : Option Nat := if x.was.encoded.isEmpty then x.tsq.writeQ.head? else none

/-- A sector stands encoded in one of the two buffers. -/
def State.encoded (s : State) (m sector : Nat) (word : BitVec 37120) : State :=
  s.updMu m fun x =>
    { x with was := { x.was with encoded := x.was.encoded ++ [sector], codewords := (x.was.codewords.filter fun e => some e.1 == x.was.writing || some e.1 == x.was.joined) ++ [(sector, word)] } }

/-- The burst holds bytes of the sector. -/
def State.holdsSector (s : State) (x : Sector) (b : BurstRead) : Bool := s.holderOf b.burst b.holds == .sector (dkey x.vol x.lba)

/-- A sector as fetched is encoded, or cuts the attempt (R213, R214). -/
def State.encodeOrCut (s : State) (m : Nat) (d : TakeDesc) (k : Nat) (x : Sector) : State :=
  if encodes x then s.encoded m k (codewordOf x) else s.crcCut m (s.takeLba m d k).1 k x.poisoned

/-- WAS fetches, checks and encodes the next posted sector, its bursts decoded first (R213, R214, R462, R463). A SYSTEM_WRITE sector holds the module's own
data, which no rule states: a free codeword (log entry 3). -/
def execSectorEncode (fetch : EncodeIn) (s : State) : Out :=
  let m : Nat := fetch.mu
  match (s.mu m).tsq.desc, (s.mu m).toEncode with
  | some d, some k =>
    if d.type == 7 then let (n, s) := s.draw; .next (s.encoded m k (BitVec.ofNat 37120 n))
    else match s.handedSector m d k with
    | none => .next s
    | some x =>
      guarded (fetch.reads.all fun b => burstOk b && s.holdsSector x b) s <|
        let t := s.readBursts fetch.reads
        t.encodeOrCut m d k ((t.handedSector m d k).getD x)
  | _, _ => .next s

/-! ### SECTOR_START: writes (R213, R215, R220 to R222, R224, R239) -/

/-- The head of the write poster's queue at its first WG edge. What a trigger that forbids that edge makes of the sector R224 does not say: it slips to the
next revolution, as one that is not encoded in time (R239). DEDUCED, log entry 66. -/
def State.startWrite (s : State) (m : Nat) (d : TakeDesc) (sector : Nat) : State :=
  let x := s.mu m
  if x.was.wgCut || x.was.astCut || s.mns.powerFail then
    (s.spanEnd m false).updMu m fun x => { x with tsq := { x.tsq with writeQ := [] } }
  else if !x.was.encoded.contains sector || x.was.inhibit then (s.spanEnd m false).writeSlip m sector
  else
    let joins := s.joins m d sector
    let t := if joins then s.updMu m fun x => { x with was := x.was.padDone } else s.spanEnd m (s.bridged m)
    (t.spanBegins m).updMu m fun y =>
      { y with tsq := { y.tsq with writeQ := y.tsq.writeQ.drop 1 }
               was := { y.was with writing := some sector, joined := if joins then x.was.writing else none, encoded := y.was.encoded.filter (· != sector) } }

/-- Symbol `n` of the track as the span being written holds it: the sector being written, the one before it in the span, and the encoded one that is to
join it (R215, R220). -/
def State.spanSymbol (s : State) (m : Nat) (d : TakeDesc) (n : Nat) : Option Bool :=
  let x := s.mu m
  let of (k : Nat) : Option Bool := (x.was.codewords.find? fun e => e.1 == k).bind fun e => symbolAt (s.spwOf m d) (s.startOf m d k) e.2 n
  (x.was.writing.toList ++ x.was.joined.toList ++ x.was.encoded).findSome? of

/-- The delay at symbol `n` of the track while a sector is written, in 1/64 symbol: none where no transition is written there (R215). -/
def State.writtenDelay (s : State) (m n : Nat) : Option Int :=
  let x := s.mu m
  match x.tsq.desc, x.was.writing with
  | some d, some k => if (symbolAt (s.spwOf m d) (s.startOf m d k) 0 n).isSome then writeDelay (s.wasEntry m) (s.spanSymbol m d) n else none
  | _, _ => none

/-- A sector's position arrives (R189, R213, R220). -/
def execSectorStart (mu : MuNo) (s : State) : Out :=
  let m : Nat := mu
  match (s.mu m).tsq.desc with
  | none => .next s
  | some d =>
    match (s.mu m).tsq.readQ with
    | k :: _ => .next (s.startRead m d k)
    | [] =>
      match (s.mu m).tsq.writeQ with
      | k :: _ => .next (s.startWrite m d k)
      | [] => .next s

/-! ### The assist (R225 to R227, R233, R234) -/

/-- An assist cut: AE falls, WG stays to the end of the sector, the attempt fails (R222, R227, R234, R236). -/
def State.cutAssist (s : State) (m : Nat) : State :=
  (s.updMu m fun x =>
    { x with was := { x.was with ae := false, astCut := true, attemptFailed := x.was.attemptFailed || x.inAttempt } }).bump 11 m (aWas m 0x0C)

/-- A valid monitor reading (R225, R226). -/
def State.monitor (s : State) (m mon : Nat) : State :=
  let s := s.updMu m fun x =>
    { x with was := { x.was with mon := mon, readings := x.was.readings ++ [mon] }, pa := { x.pa with regs := sset x.pa.regs 7 (BitVec.ofNat 16 mon) 0 } }
  if field (s.wasEntry m) 16 2 < mon then (s.cutAssist m).raise 11 m 6 mon else s

/-- The one monitor frame of a data segment ends with `mon`; a reading whose parity fails is none (R112, R225). -/
def execAssistMonitorRead (mu : MuNo) (mon : Nat) (parityOk : Bool) (s : State) : Out :=
  let r := s.updMu mu fun x => { x with was := { x.was with monRead := true } }
  let t := if parityOk then r.monitor mu mon else r.raise 11 mu 5 7
  detected ((s.mu mu).was.writing.isSome && (s.mu mu).was.wg && (s.mu mu).was.ae && !(s.mu mu).was.monRead && mon < 4096) (s.stopsIn t) s t

/-- AE has been high with WG low for 2 µs (R233). -/
def State.noGateCut (s : State) (m : Nat) : State := (s.cutAssist m).raise 11 m 8 0

/-- The timer of R233 runs out. -/
def execAstCutNogate (mu : MuNo) (s : State) : Out := unheld ((s.mu mu).was.ae && !(s.mu mu).was.wg) s (s.noGateCut mu)

end Sys2Proof.Machine
end

