-- ==== Sys2Proof/Machine/Mgmt.lean ====
section
/-! DEFINITION. IDENTIFY, features, log pages, POWER_STATE, HDA_CTL, CLEAR_THERMAL_HOLD, COUNTER_CTL and FAULT_CTL
(R404 to R410, R417 to R419, R425, R426, R555, R556, R566, R567, R581). -/

namespace Sys2Proof.Machine

/-! ### IDENTIFY (R404, R405) -/

/-- The order code, padded with spaces. -/
def orderCode : List Byte := [0x44#8, 0x53#8, 0x2D#8, 0x33#8, 0x32#8, 0x31#8, 0x36#8, 0x2D#8, 0x58#8] ++ List.replicate 7 0x20#8

/-- The version that IDENTIFY shows of a slot. -/
def FwSlot.shown (x : FwSlot) : Nat := if x.st == .empty then 0 else x.version

/-- The 4,096 bytes of IDENTIFY MODULE through endpoint `e` (R2, R404). DEDUCED, log entry 77. -/
def State.identifyModule (s : State) (e : Nat) : List Byte :=
  padTo 4096 <|
    leBytes 2 0x3216 ++ leBytes 1 0xB0 ++ leBytes 1 0x01 ++ identityBytes 0 20 ++ orderCode
    ++ leBytes 8 (s.fwSlot s.sec.slot).version ++ leBytes 8 s.nor.slotA.shown ++ leBytes 8 s.nor.slotB.shown ++ leBytes 4 s.nor.svnMin
    ++ leBytes 1 (flag s.dual + 2 * ((s.savedFeature 1 0).1.toNat % 2)) ++ leBytes 1 e ++ leBytes 2 s.portsPerEp ++ leBytes 2 s.portsPerEp
    ++ leBytes 2 s.vectors ++ leBytes 2 (if s.dual then 8192 else 16384) ++ leBytes 2 16384 ++ leBytes 4 40960 ++ leBytes 2 1024
    ++ leBytes 1 32 ++ leBytes 1 64 ++ leBytes 8 68719476736 ++ leBytes 8 51539607552 ++ leBytes 1 s.cfgLimit ++ leBytes 1 s.effLimit
    ++ leBytes 2 1024 ++ leBytes 1 s.nor.custodians.length ++ leBytes 1 s.nor.makers.length ++ leBytes 2 0 ++ leBytes 4 16777216
    ++ leBytes 2 (mapBits 16 fun h => (s.hda h).hereForData) ++ leBytes 2 0x11

/-- STATE of a volume as IDENTIFY shows it. DEDUCED, log entry 77. -/
def State.volState (s : State) (v : Nat) : Nat :=
  let d := s.hda (v / 2)
  if !d.hereForData then 6
  else if d.st == .releasing then 4
  else if d.notSpunUp then 1
  else if (s.mu v).stopped then 2
  else if (s.mu v).act.st == .tuning then 3
  else if !(s.mu v).formatted then 5
  else 0

/-- Zones of a volume in a state. -/
def State.zonesIn (s : State) (v : Nat) (st : ZState) : Nat := countIf (fun (e : Nat × Zone) => e.2.st == st) (s.mu v).zones

/-- The 4,096 bytes of IDENTIFY VOLUME (R405). -/
def State.identifyVolume (s : State) (v : Nat) : List Byte :=
  let x := s.mu v
  let d := s.desc (v / 2)
  let here := (s.hda (v / 2)).hereForData
  let own (n : Nat) : Nat := if here then n else 0
  padTo 4096 <|
    leBytes 8 (own ((x.fmt.zones.map (·.cap)).foldl (· + ·) 0)) ++ leBytes 4 (own (s.zoneCount v)) ++ leBytes 4 (own (s.convCount v))
    ++ leBytes 2 4096 ++ leBytes 2 (own (if x.hasMeta then 16 else 0)) ++ leBytes 4 65536 ++ leBytes 1 v ++ leBytes 1 (v / 2) ++ leBytes 1 (v % 2)
    ++ leBytes 1 (own (if v % 2 == 0 then d.headsA else d.headsB)) ++ leBytes 1 (s.volState v) ++ leBytes 1 ((s.owner v).getD 0xFF)
    ++ leBytes 2 (own x.defaultKdom) ++ leBytes 4 (s.contextLimit v) ++ leBytes 4 (s.contextsHeld v) ++ leBytes 4 (s.zonesIn v .readOnly)
    ++ leBytes 4 (s.zonesIn v .offline) ++ (if here then padTo 20 d.serial ++ padTo 16 (d.raw.drop 24) else [])

/-- IDENTIFY MODULE (R404). -/
def execIdentifyModule (tag : TagNo) (s : State) : Out :=
  s.manage tag 0x20 0 [] [] false false true [] fun s => (s.sendBytes tag (s.identifyModule (s.cmd tag).ep)).endWith tag {}

/-- IDENTIFY VOLUME, from either endpoint (R405). -/
def execIdentifyVolume (tag : TagNo) (s : State) : Out :=
  s.manage tag 0x20 1 [] [] false false true [] fun s => (s.sendBytes tag (s.identifyVolume (s.cmd tag).pkt.vol)).endWith tag {}

/-! ### Features (R406, R407) -/

/-- FID of a feature packet. -/
def fidOf (p : Packet) : Nat := bits p.p0.toNat 15 8
/-- Index of a feature packet: the volume for an MU-scoped feature. -/
def featIdxOf (p : Packet) : Nat := if featVolume (fidOf p) then p.vol else bits p.p0.toNat 23 16

/-- The value words as GET_FEATURE returns them. -/
def featRes (v : Word × Word × Word × Word) : Res :=
  { r0 := v.1.toNat + v.2.1.toNat * 2 ^ 32, r1 := v.2.2.1.toNat + v.2.2.2.toNat * 2 ^ 32 }

/-- GET adds the effective limit to DIRTY_LIMIT (R407). DEDUCED, log entry 78. -/
def State.featShown (s : State) (fid : Nat) (v : Word × Word × Word × Word) : Word × Word × Word × Word :=
  if fid == 0x07 then (v.1, BitVec.ofNat 32 (s.effLimit % 128), v.2.2) else v

/-- The value in force: LINK_MODE takes its stored value only at a start (R319, R406). -/
def State.featCurrent (s : State) (fid idx : Nat) : Word × Word × Word × Word :=
  if fid == 0x01 then (BitVec.ofNat 32 (flag s.dual), 0, 0, 0) else s.feature fid idx

/-- A GET_FEATURE of the value that `f` gives. -/
def State.getFeature (s : State) (t sub : Nat) (f : State → Nat → Nat → Word × Word × Word × Word) : Out :=
  s.simple t 0x21 sub [s.ownScoped t] fun s =>
    let p := (s.cmd t).pkt
    s.endWith t (featRes (s.featShown (fidOf p) (f s (fidOf p) (featIdxOf p))))

/-- GET_FEATURE CURRENT (R406). -/
def execGetFeatureCurrent (tag : TagNo) (s : State) : Out := s.getFeature tag 0 State.featCurrent
/-- GET_FEATURE SAVED (R406). -/
def execGetFeatureSaved (tag : TagNo) (s : State) : Out := s.getFeature tag 1 State.savedFeature
/-- GET_FEATURE DEFAULT (R406). -/
def execGetFeatureDefault (tag : TagNo) (s : State) : Out := s.getFeature tag 2 fun _ fid _ => featDefault fid

/-- A feature stored in NOR and, but for LINK_MODE, in force at once (R319, R406). -/
def State.putFeature (s : State) (fid idx : Nat) (v : Word × Word × Word × Word) : State :=
  let k := featKey fid idx
  let s := { s with nor := { s.nor with feat := sset s.nor.feat k v (featDefault fid) } }
  if fid == 0x01 then s else { s with feat := sset s.feat k v (featDefault fid) }

/-- A new floor of the log: the FLOOR marker goes ahead of every record queued under it (R561, R567). DEDUCED, log entry 19. -/
def State.setFloor (s : State) (floor slot : Nat) : State :=
  if floor == s.log.floor then s
  else
    let s := s.logMark (s.marker 0x0433 1 (leBytes 1 s.log.floor ++ leBytes 1 floor ++ leBytes 1 slot))
    { s with log := { s.log with floor := floor } }

/-- SET_FEATURE carried out: stored, in force, measured; a CONTEXT_LIMIT whose sum another command has meanwhile brought above the pool fails (R406, R431,
R517, R518). -/
def State.setFeature (s : State) (t slot : Nat) : State :=
  let p := (s.cmd t).pkt
  let fid := fidOf p
  if fid == 0x08 && 40960 < s.limitSum p.vol p.p2.toNat then s.endWith t (badField 40)
  else
  let s := s.putFeature fid (featIdxOf p) (p.p2, p.p3, p.p4, p.p5)
  let s := if fid == 0x0B then s.settleAlert else if fid == 0x0C then s.setFloor (bits p.p2.toNat 1 0) slot else s
  (s.late s.configEntry).endWith t {}

/-- SET_FEATURE (R406, R407). A change of LOG_SEV_FLOOR waits for a place for its marker (R564). -/
def execSetFeature (tag : TagNo) (token : List Byte) (s : State) : Out :=
  let fid := fidOf (s.cmd tag).pkt
  if fid == 0x0C && !s.canMark 0x0433 then .next s
  else s.manage tag 0x22 0 token [] false (fid == 0x0A || fid == 0x0C) false [s.ownScoped tag] fun s => s.setFeature tag (field token 5 1)

/-! ### Log pages (R408 to R410) -/

/-- An entry of the fault history (R555). -/
def HistEntry.bytes (h : HistEntry) : List Byte :=
  leBytes 8 h.msg.toNat ++ leBytes 4 h.oph ++ leBytes 2 (h.ops % 4096 + flag h.logged * 4096 + flag h.injected * 8192) ++ leBytes 1 h.react.toNat
    ++ leBytes 1 h.hseq

/-- An entry of TSQ_MESSAGES (R409). -/
def TsqMsg.bytes (m : TsqMsg) : List Byte :=
  leBytes 4 m.value.toNat ++ leBytes 1 m.mu ++ leBytes 3 0 ++ leBytes 4 m.oph ++ leBytes 2 m.ops ++ leBytes 2 0

/-- A trip record (R581). -/
def Trip.bytes (x : Trip) : List Byte :=
  let b := padTo 124 (leBytes 2 1 ++ leBytes 1 x.sensor ++ leBytes 1 0 ++ leBytes 4 x.tripNo ++ leBytes 4 x.pcc ++ leBytes 4 x.oph ++ leBytes 2 x.ops
    ++ leBytes 2 0 ++ (List.range 16).flatMap fun i => leBytes 2 (toTwos 16 (x.readings.getD i 0)))
  b ++ leBytes 4 (crc32c b).toNat

/-- The content of page `lid` with its volume and index (R408). DEDUCED, log entry 78. -/
def State.logPage (s : State) (lid vol idx : Nat) : List Byte :=
  match lid with
  | 1 => padTo 1024 (s.flt.hist.flatMap HistEntry.bytes)
  | 2 => s.logHeld.flatMap LogSlot.bytes
  | 3 => s.store.msgs.flatMap TsqMsg.bytes
  | 4 => if vol < 32 then sget s.mgt.scrubMedia vol [] else s.mgt.scrubBuffer
  | 5 => certificate
  | 6 => s.nor.trips.flatMap Trip.bytes
  | 7 => sget s.mgt.capture (vol / 2) []
  | 8 => match s.inForce idx with | some r => r.bytes | none => []
  | 9 => match (s.hda idx).desc with | some d => d.raw | none => []
  | _ => []

/-- GET_LOG carried out: the page from the offset on, as far as LEN reaches; TSQ_MESSAGES loses the entries written (R408, R409). DEDUCED, log entry 78. -/
def State.getLog (s : State) (t : Nat) : State :=
  let p := (s.cmd t).pkt
  let page := s.logPage (fidOf p) p.vol (bits p.p0.toNat 23 16)
  let out := (page.drop p.p2.toNat).take p.p5.toNat
  let s := s.sendBytes t out
  let s := if fidOf p == 3 then { s with store := { s.store with msgs := s.store.msgs.drop (out.length / 16) } } else s
  s.endWith t { r0 := page.length, r1 := out.length }

/-- GET_LOG (R408). -/
def execGetLog (tag : TagNo) (s : State) : Out := s.manage tag 0x23 0 [] [] false false true [s.ownScoped tag] fun s => s.getLog tag

/-- CLEAR_LOG carried out; the continuity log is cleared when its CLEARED marker is written (R410, R566). -/
def State.clearLog (s : State) (t slot : Nat) : State :=
  let p := (s.cmd t).pkt
  match fidOf p with
  | 1 => { s with flt := { s.flt with hist := [] } }.endWith t {}
  | 2 => (s.logMark { s.marker 0x0432 3 (leBytes 1 slot) with cmd := some t }).setPhase t .executing
  | 3 => { s with store := { s.store with msgs := [] } }.endWith t {}
  | _ =>
    let m := if p.vol < 32 then { s.mgt with scrubMedia := sset s.mgt.scrubMedia p.vol [] [] } else { s.mgt with scrubBuffer := [] }
    { s with mgt := m }.endWith t {}

/-- CLEAR_LOG (R410); a clear of the continuity log waits for a place for its marker (R564). -/
def execClearLog (tag : TagNo) (token : List Byte) (s : State) : Out :=
  let lid := fidOf (s.cmd tag).pkt
  if lid == 2 && !s.canMark 0x0432 then .next s
  else s.manage tag 0x24 0 token [] false (lid == 2) false [s.ownScoped tag] fun s => s.clearLog tag (field token 5 1)

/-! ### POWER_STATE (R417, R587) -/

/-- POWER_STATE SET (R417). -/
def execPowerStateSet (tag : TagNo) (s : State) : Out :=
  let n := bits (s.cmd tag).pkt.p2.toNat 2 0
  s.simple tag 0x29 0 [(s.thp.hold && decide (n ≤ 2), 0x0009), (s.psBusy, 0x0010)] fun s =>
    if n == s.pwr.pstate then s.endWith tag {} else (s.setPhase tag .executing).movePs n (some tag)

/-- POWER_STATE GET (R417). -/
def execPowerStateGet (tag : TagNo) (s : State) : Out := s.simple tag 0x29 1 [] fun s => s.endWith tag { r0 := s.pwr.pstate }

/-! ### HDA_CTL (R134, R257, R418, R577, R586) -/

/-- The HDA that an HDA_CTL packet names. -/
def State.hdaArg (s : State) (t : Nat) : Nat := bits (s.cmd t).pkt.p2.toNat 3 0

/-- The deepest state that holds for HDAs: the module's own, or the one an entry under way leads to. -/
def State.depth (s : State) : Nat := Nat.min 3 (if s.pwr.transit then Nat.max s.pwr.pstate s.pwr.target else s.pwr.pstate)

/-- A way to HS `n` takes a spin-up. -/
def Hda.needsSpin (d : Hda) (n : Nat) : Bool := decide (n < 3) && (d.hs == 3 || d.srv.spin == .stopped || d.srv.spin == .coasting)

/-- The last valid reading lies outside the descriptor's spin-up temperatures (R418, R577). -/
def State.spinCold (s : State) (h : Nat) : Bool :=
  match (s.hda h).lastTemp with
  | none => false
  | some t => decide (t < (s.desc h).tSpinMin * 16) || decide ((s.desc h).tSpinMax * 16 < t)

/-- The codes of an HDA_CTL that moves an HDA to HS `n`, in order (R257, R418). DEDUCED, log entry 44. -/
def State.hsCodes (s : State) (h n : Nat) : List (Bool × Nat) :=
  [(!(s.hda h).usable, 0x000D), (decide (n < s.depth), 0x0010), ((s.hda h).needsSpin n && (s.thp.hold || s.spinCold h), 0x0009),
   (decide (n < 2) && !s.bothLoaded h && !(s.hda h).srv.setsValid, 0x0008)]

/-- HDA_CTL SET_HS carried out. Between HS0 and HS1 no step is made (R586). DEDUCED, log entry 44. -/
def State.setHsCtl (s : State) (t h n : Nat) : State :=
  if (s.hda h).hs < 2 && n < 2 then (s.setHs h n).endWith t {} else (s.setPhase t .executing).beginHs h n (some t) false

/-- HDA_CTL SET_HS (R418). -/
def execHdaCtlSetHs (tag : TagNo) (s : State) : Out :=
  let h := s.hdaArg tag
  let n := bits (s.cmd tag).pkt.p3.toNat 1 0
  if (s.hda h).hsTransit then .next s else s.simple tag 0x2A 1 (s.hsCodes h n) fun s => s.setHsCtl tag h n

/-- The release begins (R134). DEDUCED, log entry 44. -/
def State.beginRelease (s : State) (t h : Nat) : State :=
  (s.setPhase t .executing).setPort h fun d => { d with st := .releasing, releaseOrder := s.accept, releaseCmd := some t }

/-- HDA_CTL RELEASE (R134, R418). -/
def execHdaCtlRelease (tag : TagNo) (s : State) : Out :=
  let h := s.hdaArg tag
  if (s.hda h).hsTransit then .next s
  else s.simple tag 0x2A 2 [(!(s.hda h).usable, 0x000D), ((s.mu (2 * h)).stopped || (s.mu (2 * h + 1)).stopped, 0x0008)] fun s => s.beginRelease tag h

/-- HDA_CTL RESTART (R47, R275, R418). DEDUCED, log entry 43. -/
def execHdaCtlRestart (tag : TagNo) (s : State) : Out :=
  let h := s.hdaArg tag
  let n := if s.depth == 0 then 0 else 1
  if (s.hda h).hsTransit then .next s
  else s.simple tag 0x2A 3 (s.hsCodes h n) fun s => (s.setPhase tag .executing).beginHs h n (some tag) true

/-- HDA_CTL GET (R418). -/
def execHdaCtlGet (tag : TagNo) (s : State) : Out := s.simple tag 0x2A 4 [] fun s => s.endWith tag { r0 := s.portStat (s.hdaArg tag) }

/-! ### CLEAR_THERMAL_HOLD (R419, R580) -/

/-- CLEAR_THERMAL_HOLD (R419). -/
def execClearThermalHold (tag : TagNo) (s : State) : Out :=
  s.simple tag 0x30 0 [(s.thp.hold && !s.belowRelease, 0x0009)] fun s =>
    ({ s with thp := { s.thp with hold := false }, nor := { s.nor with hold := false } }.settleTherm).endWith tag {}

/-! ### COUNTER_CTL (R16, R425) -/

/-- Where the counter at a BAR0 offset stands in the store: the module's own from the diagnostic window on. DESIGN CHOICE, log entry 14. -/
def ctrKey (e a : Nat) : Nat := if a < 0x01000000 then epCtr e a else a

/-- The counter is one of endpoint `e`'s BAR0. -/
def ctrOf (e k : Nat) : Bool := (epCtr e 0 ≤ k && k < epCtr e 0x01000000) || (0x01000000 ≤ k && k < 0x04000000)

/-- COUNTER_CTL CLEAR_RANGE (R425). -/
def execCounterCtlClearRange (tag : TagNo) (s : State) : Out :=
  s.simple tag 0x31 1 [] fun s =>
    let c := s.cmd tag
    let ks := (s.countersIn c.pkt.p2.toNat c.pkt.p3.toNat).map (ctrKey c.ep)
    { s with ctr := sdrop s.ctr fun k => ks.contains k }.endWith tag {}

/-- COUNTER_CTL CLEAR_ALL (R425). DEDUCED, log entry 79. -/
def execCounterCtlClearAll (tag : TagNo) (s : State) : Out :=
  s.simple tag 0x31 2 [] fun s => { s with ctr := sdrop s.ctr (ctrOf (s.cmd tag).ep) }.endWith tag {}

/-- COUNTER_CTL CLEAR_TIME, in factory mode (R425). -/
def execCounterCtlClearTime (tag : TagNo) (s : State) : Out :=
  s.simple tag 0x31 3 [(!s.factory, 0x000C)] fun s => { s with time := { up := s.time.up } }.endWith tag {}

/-! ### FAULT_CTL (R426, R550, R553, R556) -/

/-- The sources that a FAULT_CTL packet names (R426). -/
def srcsOf (p : Packet) : List Nat :=
  let sub := bits p.p2.toNat 4 0
  let inst := bits p.p2.toNat 13 8
  if inst == 0x3F then (List.range (instancesOf sub)).map (· + sub * 64) else [sub * 64 + inst]

/-- The masks of the sources set to `m`. -/
def putMasks (m : BitVec 5) (ms : Sparse (BitVec 5)) : List Nat → Sparse (BitVec 5)
  | [] => ms
  | k :: r => putMasks m (sset ms k m (defaultMask (k / 64))) r

/-- FAULT_CTL SET_MASK: in force, stored and measured (R426, R518, R553). -/
def execFaultCtlSetMask (tag : TagNo) (s : State) : Out :=
  s.simple tag 0x32 1 [] fun s =>
    let p := (s.cmd tag).pkt
    let m := BitVec.ofNat 5 p.p3.toNat
    let s := { s with flt := { s.flt with masks := putMasks m s.flt.masks (srcsOf p) }, nor := { s.nor with masks := putMasks m s.nor.masks (srcsOf p) } }
    (s.late s.configEntry).endWith tag {}

/-- FAULT_CTL GET_MASK (R426). -/
def execFaultCtlGetMask (tag : TagNo) (s : State) : Out :=
  s.simple tag 0x32 2 [] fun s => s.endWith tag { r0 := (s.maskOf ((srcsOf (s.cmd tag).pkt).headD 0)).toNat }

/-- FAULT_CTL RESTORE_DEFAULTS (R426). -/
def execFaultCtlRestoreDefaults (tag : TagNo) (s : State) : Out :=
  s.simple tag 0x32 3 [] fun s =>
    let s := { s with flt := { s.flt with masks := [] }, nor := { s.nor with masks := [] } }
    (s.late s.configEntry).endWith tag {}

/-- The detector that PATH forces, with the stop it works; the event carries the ADDR given (R556). DEDUCED, log entry 79. -/
def State.forcePath (s : State) (sub inst kind addr : Nat) : State :=
  if sub == 11 && kind ≤ 2 then (s.cutGate inst).raise 11 inst kind addr
  else if sub == 11 && kind == 3 then s.crcCut inst addr ((s.mu inst).tsq.writeQ.headD 0) 0
  else if sub == 11 then (s.cutAssist inst).raise 11 inst 8 addr
  else if sub == 12 && kind == 1 then s.engineFault inst 1 (addr / 16)
  else if sub == 12 then (s.raise 12 inst 3 addr).retract inst 3
  else s.loseLock inst addr false false

/-- The events of source `src` and kind `kind` offered since `old` of them stood carry INJECTED (R556). DEDUCED, log entry 79. -/
def State.markInjected (s : State) (old src kind : Nat) : State :=
  let mark (e : Ev) : Ev := if msgSrc e.msg == src && msgKind e.msg == kind then { e with injected := true } else e
  { s with flt := { s.flt with offered := s.flt.offered.take old ++ (s.flt.offered.drop old).map mark } }

/-- FAULT_CTL INJECT carried out (R556). -/
def State.inject (s : State) (p : Packet) : State :=
  let sub := bits p.p2.toNat 4 0
  let inst := bits p.p2.toNat 13 8
  let kind := bits p.p3.toNat 5 0
  let addr := p.p4.toNat + bits p.p5.toNat 7 0 * 2 ^ 32
  if bit p.p3.toNat 8 then (s.forcePath sub inst kind addr).markInjected s.flt.offered.length (sub * 64 + inst) kind
  else s.offer { msg := mkMsg sub inst kind addr, injected := true }

/-- FAULT_CTL INJECT, in factory mode (R556). DEDUCED, log entry 79. -/
def execFaultCtlInject (tag : TagNo) (s : State) : Out :=
  s.simple tag 0x32 4 [(!s.factory, 0x000C)] fun s => (s.inject (s.cmd tag).pkt).endWith tag {}

end Sys2Proof.Machine
end

