-- ==== Sys2Proof/Machine/Spdm.lean ====
section
/-! DEFINITION. The Data Object Exchange mailboxes and the SPDM responder (R337, R338, R511, R521, R523, R524).
The message layouts are those of the standards the specification names (PRESUMED, log entry 30). -/

namespace Sys2Proof.Machine

/-! ### Who serves, and whose turn it is -/

/-- Management firmware runs, in every power state (R350). DEDUCED, log entries 35 and 59. -/
def State.mgmtServes (s : State) : Bool :=
  (s.start.phase == .stage2 || s.start.phase == .tables || s.start.phase == .service || s.start.phase == .ready) && s.mgt.hung != 15#4

/-- Connection state of a requester: endpoint 0 or 1, or 2 for MCTP (R338, R347). -/
def State.spdmOf (s : State) (conn : Nat) : Spdm := if conn < 2 then (s.ep conn).spdm else s.sec.spdmMctp

/-- Connection state of a requester changed. -/
def State.updSpdm (s : State) (conn : Nat) (f : Spdm → Spdm) : State :=
  if conn < 2 then s.updEp conn fun x => { x with spdm := f x.spdm }
  else { s with sec := { s.sec with spdmMctp := f s.sec.spdmMctp } }

/-- Requests of the two endpoints are served in order of arrival (R338). -/
def State.doeTurn (s : State) (e : Nat) : Bool := (s.ep (1 - e)).doeRequest.isEmpty || !(s.ep e).doeSecond

/-- An answer leaves: for an endpoint it becomes the data object that is ready, and the request is done (R337). -/
def State.answer (s : State) (conn : Nat) (bs : List Byte) : State :=
  let s := if conn < 2 then s.updEp conn fun x => { x with doeRequest := [], doeResponse := bs } else s
  s.emit (.answer conn bs)

/-- A management message over SMBus (R350): where PS4 holds and the SMBUS source is enabled, it fires the wake and is
answered when it is presented after the wake. -/
def State.mctp (s : State) (f : State → State) : State :=
  if s.pwr.wakeable && bit (s.feat0 0x0D) 1 then s.fireWake 1 else f s

/-- The header is powered and the management core answers (R60, R350). -/
def State.mctpOk (s : State) : Bool := s.mgmtServes

/-! ### Data Object Exchange (R337) -/

/-- The DOE Discovery answer: protocol `i`, and the index of the next. PRESUMED, log entry 30. -/
def doeDiscovery (i : Nat) : List Byte :=
  if i == 0 then leBytes 2 0x0001 ++ leBytes 1 0 ++ leBytes 1 1
  else if i == 1 then leBytes 2 0x0001 ++ leBytes 1 1 ++ leBytes 1 0
  else leBytes 2 0xFFFF ++ leBytes 2 0

/-- A data object is written and Go set: `kind` is its type (0 DOE Discovery, 1 CMA/SPDM) and `bytes` what follows its
header. Discovery is answered; an SPDM request waits in the mailbox for the responder; any other type is discarded (R337). DEDUCED, log entry 59. -/
def execDoeRequest (ep : EpNo) (kind : Nat) (bytes : List Byte) (s : State) : Out :=
  guarded (s.epUsed ep && s.hlkRuns && (s.ep ep).linkUp && (s.ep ep).doeRequest.isEmpty && !bytes.isEmpty && bytes.length ≤ 8184) s <|
    if kind == 0 then s.answer ep (doeDiscovery (field bytes 0 1))
    else if kind == 1 then
      let other := (s.ep (1 - ep)).doeRequest
      (s.updEp (1 - ep) fun x => { x with doeSecond := false }).updEp ep fun x =>
        { x with doeRequest := bytes, doeResponse := [], doeSecond := !other.isEmpty }
    else s

/-- DOE Abort: both mailboxes are empty and the request is discarded (R337). -/
def execDoeAbort (ep : EpNo) (s : State) : Out :=
  guarded (s.epUsed ep && s.hlkRuns && (s.ep ep).linkUp) s (s.updEp ep fun x => { x with doeRequest := [], doeResponse := [] })

/-! ### Messages -/

/-- Longest SPDM message of a transport: a data object of 8 KiB without its header, or the MCTP transmission unit (R337, R347). -/
def spdmUnit (conn : Nat) : Nat := if conn < 2 then 8184 else 64

/-- Header of a response of SPDM 1.2. PRESUMED, log entry 30. -/
def spdmHead (code a b : Nat) : List Byte := leBytes 1 0x12 ++ leBytes 1 code ++ leBytes 1 a ++ leBytes 1 b

/-- ERROR with its code and data. PRESUMED, log entry 30. -/
def spdmError (code data : Nat) : List Byte := spdmHead 0x7F code data

/-- Request code of a request. PRESUMED, log entry 30. -/
def spdmCode (req : List Byte) : Nat := field req 1 1

/-- The requests R523 serves. -/
def spdmServed : List Nat := [0x84, 0xE1, 0xE3, 0x81, 0x82, 0x83, 0xE0, 0x86, 0xFF]

/-- A response goes out: whole, or as a long response whose parts CHUNK_GET fetches (R337, R523). -/
def State.respond (s : State) (conn : Nat) (r : List Byte) : State :=
  if r.length ≤ spdmUnit conn then s.answer conn r
  else
    let h := ((s.spdmOf conn).handle + 1) % 256
    (s.updSpdm conn fun x => { x with chunk := r, chunkSeq := 0, handle := h }).answer conn (spdmError 0x0F 0 ++ leBytes 1 h)

/-- A request of a code is served for a requester. An endpoint's request is the one in its mailbox, in its turn; one over
MCTP follows R350. DEDUCED, log entry 59. -/
def State.spdmServe (s : State) (conn : Nat) (codeOk : Bool) (req : List Byte) (f : State → State) : Out :=
  guarded (s.mgmtServes && codeOk && !req.isEmpty && (if conn < 2 then (s.ep conn).doeRequest == req && s.doeTurn conn else true)) s <|
    if conn < 2 then f s else s.mctp f

/-- What a request meets before its own meaning: the version, the connection's stage, the length. `stage` counts GET_VERSION,
GET_CAPABILITIES and NEGOTIATE_ALGORITHMS. -/
def Spdm.refusal (x : Spdm) (stage min : Nat) (req : List Byte) : Option Nat :=
  if field req 0 1 != 0x12 then some 0x41
  else if (1 ≤ stage && !x.version) || (2 ≤ stage && !x.caps) || (3 ≤ stage && !x.algs) then some 0x04
  else if req.length < min then some 0x01
  else none

/-- A request of the table of R523 other than GET_VERSION: a new request ends a long and a deferred response. DEDUCED, log entry 59. -/
def State.spdmAsk (s : State) (conn code stage min : Nat) (req : List Byte) (f : State → State) : Out :=
  s.spdmServe conn (spdmCode req == code) req fun s =>
    let s := s.updSpdm conn fun x => { x with chunk := [], deferred := none }
    match (s.spdmOf conn).refusal stage min req with
    | some k => s.answer conn (spdmError k 0)
    | none => f s

/-! ### The certificate chain and the measurements (R511, R521, R524) -/

/-- The root certificate: the first DER structure of the chain. DEDUCED, log entry 59. -/
def rootCert : List Byte :=
  certChain.take (4 + field certChain 2 1 * 256 + field certChain 3 1)

/-- The chain of slot 0 as SPDM frames it. -/
def spdmChain : List Byte :=
  leBytes 2 (4 + 32 + certChain.length) ++ leBytes 2 0 ++ digestBytes (Config.sm3 rootCert) ++ certChain

/-- DMTFSpecMeasurementValueType of a component (R524). -/
def measureType (comp : Nat) : Nat :=
  if comp == 0x0001 then 0
  else if 0x0002 ≤ comp && comp ≤ 0x0008 then 1
  else if 0x0020 ≤ comp && comp ≤ 0x002F then 2
  else 3

/-- One measurement block. -/
def measureBlock (i : Nat) (e : SlateEntry) : List Byte :=
  leBytes 1 i ++ leBytes 1 1 ++ leBytes 2 35 ++ leBytes 1 (measureType e.comp) ++ leBytes 2 32 ++ digestBytes e.digest

/-- Blocks `i` and on of a list of entries. -/
def measureBlocks (i : Nat) : List SlateEntry → List Byte
  | [] => []
  | e :: r => measureBlock i e ++ measureBlocks (i + 1) r

/-- The list that a quote lists, whose entry i is measurement i (R524). -/
def State.measurements (s : State) : List SlateEntry := s.quoteEntries false

/-- The blocks that an index asks for: their number and bytes; none for an index without a measurement (R524). -/
def State.measuredBlocks (s : State) (i : Nat) : Option (Nat × List Byte) :=
  let es := s.measurements
  if i == 0 then some (0, [])
  else if i == 0xFF then some (es.length, measureBlocks 1 es)
  else if i ≤ 160 then es[i - 1]?.map fun e => (1, measureBlock i e)
  else none

/-! ### The rows (R523) -/

/-- GET_VERSION: VERSION listing 1.2; the connection state is reset. -/
def execSpdmGetVersion (conn : Fin 3) (request : List Byte) (s : State) : Out :=
  s.spdmServe conn (spdmCode request == 0x84) request fun s =>
    (s.updSpdm conn fun x => { version := true, handle := x.handle }).answer conn
      (leBytes 1 0x10 ++ leBytes 1 0x04 ++ leBytes 3 0 ++ leBytes 1 1 ++ leBytes 2 0x1200)

/-- GET_CAPABILITIES: CERT_CAP, CHAL_CAP, MEAS_CAP with signature, CHUNK_CAP; CTExponent 20. -/
def execSpdmGetCapabilities (conn : Fin 3) (request : List Byte) (s : State) : Out :=
  s.spdmAsk conn 0xE1 1 4 request fun s =>
    (s.updSpdm conn fun x => { x with caps := true, algs := false }).answer conn
      (spdmHead 0x61 0 0 ++ leBytes 1 0 ++ leBytes 1 20 ++ leBytes 2 0 ++ leBytes 4 0x00020016
        ++ leBytes 4 (spdmUnit conn) ++ leBytes 4 8192)

/-- NEGOTIATE_ALGORITHMS: SM2, SM3 and the DMTF measurements, of what the request offers; InvalidRequest where it offers none. -/
def execSpdmNegotiateAlgorithms (conn : Fin 3) (request : List Byte) (s : State) : Out :=
  s.spdmAsk conn 0xE3 2 32 request fun s =>
    let dmtf := bit (field request 6 1) 0
    let sm2 := bit (field request 8 4) 9
    let sm3 := bit (field request 12 4) 6
    if !dmtf && !sm2 && !sm3 then s.answer conn (spdmError 0x01 0)
    else
      (s.updSpdm conn fun x => { x with algs := sm2 && sm3 }).answer conn
        (spdmHead 0x63 0 0 ++ leBytes 2 36 ++ leBytes 1 (flag dmtf) ++ leBytes 1 0 ++ leBytes 4 (flag dmtf * 0x80)
          ++ leBytes 4 (flag sm2 * 0x200) ++ leBytes 4 (flag sm3 * 0x40) ++ leBytes 16 0)

/-- GET_DIGESTS: slot 0 only. -/
def execSpdmGetDigests (conn : Fin 3) (request : List Byte) (s : State) : Out :=
  s.spdmAsk conn 0x81 3 4 request fun s => s.respond conn (spdmHead 0x01 0 1 ++ digestBytes (Config.sm3 spdmChain))

/-- GET_CERTIFICATE: the chain of R511, from the offset on, in slot 0. -/
def execSpdmGetCertificate (conn : Fin 3) (request : List Byte) (s : State) : Out :=
  s.spdmAsk conn 0x82 3 8 request fun s =>
    let ofs := field request 4 2
    if field request 2 1 % 16 != 0 || spdmChain.length ≤ ofs then s.answer conn (spdmError 0x01 0)
    else
      let part := (spdmChain.drop ofs).take (field request 6 2)
      s.respond conn (spdmHead 0x02 0 0 ++ leBytes 2 part.length ++ leBytes 2 (spdmChain.length - ofs - part.length) ++ part)

/-- A response that signing delays is deferred with ResponseNotReady, or goes out. DEDUCED, log entry 59. -/
def State.respondOrDefer (s : State) (conn code : Nat) (ready : Bool) (r : List Byte) : State :=
  if ready then s.respond conn r
  else
    (s.updSpdm conn fun x => { x with deferred := some r }).answer conn
      (spdmError 0x42 0 ++ leBytes 1 20 ++ leBytes 1 code ++ leBytes 1 0 ++ leBytes 1 1)

/-- CHALLENGE: CHALLENGE_AUTH signed with the DIK; the summary covers all measurements, or there is none. -/
def execSpdmChallenge (conn : Fin 3) (request : List Byte) (ready : Bool) (s : State) : Out :=
  s.spdmAsk conn 0x83 3 36 request fun s =>
    let kind := field request 3 1
    if field request 2 1 % 16 != 0 || (kind != 0 && kind != 0xFF) then s.answer conn (spdmError 0x01 0)
    else
      let sum := if kind == 0 then [] else digestBytes (Config.sm3 (measureBlocks 1 s.measurements))
      let (nonce, s) := s.draw
      let (sig, s) := s.draw
      s.respondOrDefer conn 0x83 ready <|
        spdmHead 0x03 0 1 ++ digestBytes (Config.sm3 spdmChain) ++ leBytes 32 nonce ++ sum ++ leBytes 2 0 ++ leBytes 64 sig

/-- GET_MEASUREMENTS: the blocks of R524, signed where requested. -/
def execSpdmGetMeasurements (conn : Fin 3) (request : List Byte) (ready : Bool) (s : State) : Out :=
  let signed := bit (field request 2 1) 0
  s.spdmAsk conn 0xE0 3 (if signed then 37 else 4) request fun s =>
    let i := field request 3 1
    match s.measuredBlocks i with
    | none => s.answer conn (spdmError 0x01 0)
    | some (n, blocks) =>
      if signed && field request 36 1 % 16 != 0 then s.answer conn (spdmError 0x01 0)
      else
        let total := if i == 0 then s.measurements.length else 0
        let (nonce, s) := s.draw
        let body := spdmHead 0x60 total 0 ++ leBytes 1 n ++ leBytes 3 blocks.length ++ blocks ++ leBytes 32 nonce ++ leBytes 2 0
        if signed then
          let (sig, s) := s.draw
          s.respondOrDefer conn 0xE0 ready (body ++ leBytes 64 sig)
        else s.respondOrDefer conn 0xE0 ready body

/-- The next part of a long response: its bytes, and the connection after it. -/
def Spdm.part (x : Spdm) (unit : Nat) : List Byte × Spdm :=
  let room := if x.chunkSeq == 0 then unit - 16 else unit - 12
  let part := x.chunk.take room
  let rest := x.chunk.drop room
  (spdmHead 0x06 (flag rest.isEmpty) x.handle ++ leBytes 2 x.chunkSeq ++ leBytes 2 0 ++ leBytes 4 part.length
      ++ (if x.chunkSeq == 0 then leBytes 4 x.chunk.length else []) ++ part,
   { x with chunk := rest, chunkSeq := x.chunkSeq + 1 })

/-- CHUNK_GET: the next part of a response longer than the transfer unit. -/
def execSpdmChunkGet (conn : Fin 3) (request : List Byte) (s : State) : Out :=
  s.spdmServe conn (spdmCode request == 0x86) request fun s =>
    let x := s.spdmOf conn
    match x.refusal 3 6 request with
    | some k => s.answer conn (spdmError k 0)
    | none =>
      if x.chunk.isEmpty then s.answer conn (spdmError 0x04 0)
      else if field request 3 1 != x.handle || field request 4 2 != x.chunkSeq then s.answer conn (spdmError 0x01 0)
      else (s.updSpdm conn fun x => (x.part (spdmUnit conn)).2).answer conn (x.part (spdmUnit conn)).1

/-- RESPOND_IF_READY: the response deferred with ResponseNotReady. -/
def execSpdmRespondIfReady (conn : Fin 3) (request : List Byte) (s : State) : Out :=
  s.spdmServe conn (spdmCode request == 0xFF) request fun s =>
    let x := s.spdmOf conn
    match x.refusal 3 4 request with
    | some k => s.answer conn (spdmError k 0)
    | none =>
      match x.deferred with
      | none => s.answer conn (spdmError 0x04 0)
      | some r =>
        if field request 2 1 != field r 1 1 + 0x80 || field request 3 1 != 0 then s.answer conn (spdmError 0x01 0)
        else (s.updSpdm conn fun x => { x with deferred := none }).respond conn r

/-- Every other request: ERROR UnsupportedRequest, counted in SEC_SPDM_ERR_CNT. -/
def execSpdmUnsupported (conn : Fin 3) (request : List Byte) (s : State) : Out :=
  s.spdmServe conn (!spdmServed.contains (spdmCode request)) request fun s =>
    (s.bump 15 0 0x010F002C).answer conn (spdmError 0x07 (spdmCode request))

end Sys2Proof.Machine
end

