-- ==== Sys2Proof/Machine/Mctp.lean ====
section
/-! DEFINITION. MCTP over SMBus: the control messages, the Ohmith management messages and the alert (R347 to R350, R522).
The layouts of the control messages are those of the standard the specification names (PRESUMED, log entry 30). -/

namespace Sys2Proof.Machine

/-! ### MCTP control (R347) -/

/-- A management message is answered, or fires the wake (R350). DEDUCED, log entry 58. -/
def State.mctpServe (s : State) (f : State → State) : Out := guarded s.mctpOk s (s.mctp f)

/-- A control answer: message type 0, instance, command, completion code and the rest. PRESUMED, log entry 30. -/
def mctpAnswer (inst cmd code : Nat) (rest : List Byte) : List Byte :=
  leBytes 1 0 ++ leBytes 1 (inst % 32) ++ leBytes 1 cmd ++ leBytes 1 code ++ rest

/-- Set Endpoint ID: operations 0 Set and 1 Force take an ID from 1 to 0xFE; the rest is invalid data. PRESUMED, log entry 60. -/
def execMctpSetEndpointId (inst op eid : Nat) (s : State) : Out :=
  s.mctpServe fun s =>
    if op ≤ 1 && 1 ≤ eid && eid ≤ 0xFE then
      { s with mctpEid := eid }.answer 2 (mctpAnswer inst 1 0 (leBytes 1 0 ++ leBytes 1 eid ++ leBytes 1 0))
    else s.answer 2 (mctpAnswer inst 1 2 [])

/-- Get Endpoint ID: the ID, a simple endpoint with a dynamic ID, no medium-specific information. -/
def execMctpGetEndpointId (inst : Nat) (s : State) : Out :=
  s.mctpServe fun s => s.answer 2 (mctpAnswer inst 2 0 (leBytes 1 s.mctpEid ++ leBytes 2 0))

/-- The message types of R347, and the base specification's number. -/
def mctpTypes : List Nat := [0x00, 0x05, 0x7E, 0xFF]

/-- Get MCTP Version Support: one version of a supported type, whose number the specification does not state; code 0x80 for
any other type. PRESUMED, log entry 60. -/
def execMctpGetVersionSupport (inst msgType : Nat) (s : State) : Out :=
  s.mctpServe fun s =>
    if mctpTypes.contains msgType then
      let (v, s) := s.draw
      s.answer 2 (mctpAnswer inst 4 0 (leBytes 1 1 ++ leBytes 4 v))
    else s.answer 2 (mctpAnswer inst 4 0x80 [])

/-- Get Message Type Support: SPDM and vendor-defined PCI, beside control (R347). PRESUMED, log entry 60. -/
def execMctpGetMessageTypeSupport (inst : Nat) (s : State) : Out :=
  s.mctpServe fun s => s.answer 2 (mctpAnswer inst 5 0 (leBytes 1 2 ++ leBytes 1 0x05 ++ leBytes 1 0x7E))

/-! ### Ohmith management messages (R348, R522) -/

/-- Every DW of a register read lies in the global region or in the read-only diagnostic windows (R348). -/
def ohmithRange (addr count : Nat) : Bool :=
  addr % 4 == 0 && 1 ≤ count && count ≤ 16
    && (addr + 4 * count ≤ 0x10000 || (0x01000000 ≤ addr && addr + 4 * count ≤ 0x02000000))

/-- `count` DW from an address, read as through endpoint 0. DEDUCED, log entry 58. -/
def State.readWords (s : State) (addr count : Nat) : List Word := (List.range count).map fun i => s.regRead 0 (addr + 4 * i)

/-- A register read of 1 to 16 DW; another address is refused with code 1 (R348). DEDUCED, log entry 58. -/
def execOhmithRegisterRead (addr count : Nat) (s : State) : Out :=
  s.mctpServe fun s => if ohmithRange addr count then s.emit (.words 2 (s.readWords addr count)) else s.emit (.refused 1)

/-- The packet whose fields are checked: ATTEST_QUOTE carries its nonce in bytes 24 to 55 (R522). -/
def ohmithChecked (p : Packet) : Packet := if p.opc == 0x26 then { p with dptr := 0, mptr := 0, p2 := 0, p3 := 0, p4 := 0, p5 := 4096#32 } else p

/-- The opcodes that a message may carry (R348). -/
def ohmithOpcodes : List Nat := [0x20, 0x21, 0x23, 0x25, 0x26]

/-- Why a packet is not carried out: its opcode, its check word, its fields. DEDUCED, log entry 58. -/
def State.ohmithBad (s : State) (p : Packet) (bs : List Byte) : Option Res :=
  if !ohmithOpcodes.contains p.opc then some { status := 0x0100 }
  else if crc32c (bs.take 60) != BitVec.ofNat 32 (field bs 60 4) then some { status := 0x0102 }
  else s.staticBad 0 (ohmithChecked p)

/-- A slate over MCTP (R412). -/
def State.ohmithSlate (s : State) : Option Slate → Res × List Byte
  | none => (s.slateRes none, [])
  | some x => (s.slateRes (some x.number), x.bytes)

/-- GET_LOG over MCTP: at most 4 KiB of the page from the offset on (R348, R408). -/
def State.ohmithLog (s : State) (p : Packet) : Res × List Byte × State :=
  let page := s.logPage (fidOf p) p.vol (bits p.p0.toNat 23 16)
  let out := (page.drop p.p2.toNat).take (Nat.min p.p5.toNat 4096)
  let s := if fidOf p == 3 then { s with store := { s.store with msgs := s.store.msgs.drop (out.length / 16) } } else s
  ({ r0 := page.length, r1 := out.length }, out, s)

/-- GET_SLATE MARK_EXPORTED over MCTP (R412, R520). -/
def State.ohmithMark (s : State) (n : Nat) : Res × List Byte × State :=
  let hit := s.nor.slates.filter (·.number ≤ n)
  let top := hit.foldl (fun a x => Nat.max a x.number) 0
  let u := s.markSlates n
  (u.slateRes (if hit.isEmpty then none else some top), [], u)

/-- What a permitted packet does: its result, its data and the state after it (R348). -/
def State.ohmithRun (s : State) (p : Packet) (nonce : List Byte) : Res × List Byte × State :=
  let get (f : Nat → Nat → Word × Word × Word × Word) : Res × List Byte × State :=
    (featRes (s.featShown (fidOf p) (f (fidOf p) (featIdxOf p))), [], s)
  let slate (x : Option Slate) : Res × List Byte × State := let (r, d) := s.ohmithSlate x; (r, d, s)
  match p.opc with
  | 0x20 => ({}, if p.sub == 0 then s.identifyModule 0 else s.identifyVolume p.vol, s)
  | 0x21 => if p.sub == 0 then get s.featCurrent else if p.sub == 1 then get s.savedFeature else get fun fid _ => featDefault fid
  | 0x23 => s.ohmithLog p
  | 0x25 =>
    if p.sub == 0 then slate (s.slateOf p.p2.toNat)
    else if p.sub == 1 then slate (s.slateOf s.slateNewest)
    else if p.sub == 2 then slate ((s.slateOf s.slateUnexported).bind fun x => if x.exported then none else some x)
    else s.ohmithMark p.p2.toNat
  | _ => let (q, u) := s.quote nonce true; ({ r0 := q.length }, q, u)

/-- The 32-byte completion entry of an answer: no queue, so PHASE and SEQ are 0 (R348, R373). PRESUMED, log entry 30. -/
def ohmithEntry (p : Packet) (r : Res) : List Byte :=
  leBytes 2 (p.tag % 16384 + flag r.defer * 16384) ++ leBytes 2 r.status ++ leBytes 2 r.state ++ leBytes 2 0
    ++ leBytes 8 r.r0 ++ leBytes 8 r.r1 ++ leBytes 4 r.r2 ++ leBytes 4 0

/-- A task packet in a management message: a completion entry and at most 4 KiB of data, without port, tag, queue or
ownership (R348, R522). DEDUCED, log entry 58. -/
def execOhmithTaskPacket (bytes : List Byte) (s : State) : Out :=
  guarded (s.mctpOk && bytes.length == 64 && !s.activating) s <| s.mctp fun s =>
    let p := parsePacket bytes
    match s.ohmithBad p bytes with
    | some r => s.answer 2 (ohmithEntry p r)
    | none =>
      let (r, d, u) := s.ohmithRun p ((bytes.drop 24).take 32)
      u.answer 2 (ohmithEntry p r ++ d)

/-- The Alert Response Address is read while the alert is asserted: the module's own address, 0x32 (R347, R349). DEDUCED, log entry 58. -/
def execSmbusAlertResponse (s : State) : Out := guarded s.alert s (s.emit (.answer 2 (leBytes 1 0x32)))

end Sys2Proof.Machine
end

