-- ==== Sys2Proof/Machine/Wedge.lean ====
section
/-! DEFINITION. SERVO_WEDGE_SAMPLE: one servo sample of an HDA, from demodulation to the write gate and the report of sectors on
the medium (R223, R224, R235, R244, R245, R249 to R254, R258, R260 to R264, R279 to R281). -/

namespace Sys2Proof.Machine

/-! ### Position and validity (R248 to R250) -/

/-- The actuator runs the loops of R251. -/
def Act.runs (a : Act) : Bool := a.st == .settling || a.st == .following || a.st == .tuning
/-- The actuator is on the medium and positions: samples may be valid. -/
def Act.positions (a : Act) : Bool := a.runs || a.st == .seeking
/-- Track of a position. -/
def trackOf (p : Int) : Nat := ((p + 2048) / 4096).toNat

/-- The measured position of an actuator's controlled point, when a reader is valid. At the first sample of a load nothing predicts a track, and any
track identity is taken: R249 and R271 name none. The jog table is indexed by the track predicted, before a position has been formed: R248 says only
"indexed as FRIC". DEDUCED, log entry 69. -/
def State.measured (s : State) (m : Nat) (i : ActIn) (wedge f0 f1 : Nat) : Option Int :=
  let v := (s.hda (m / 2)).srv
  let a := (s.mu m).act
  let band := v.bandInUse
  let first := a.st == .loading && a.acquired == 0
  let predicted := a.pos + a.vEst
  let near (t : Nat) : Bool := first || nearTrack predicted a.vEst t
  let bm := v.w (actSet (m % 2) band + 0x012)
  let j (k : Nat) : Int := if a.writer then v.jog (m % 2) band a.head (trackOf predicted) k else 0
  meanPos (readerValid i.r0 wedge bm near) (readerValid i.r1 wedge bm near) (readerPos i.r0 f0 - j 0) (readerPos i.r1 f1 - j 1)

/-- The sample of an actuator that positions: position, PES, the runs of invalid and settled samples (R248, R250, R263). -/
def Act.placed (a : Act) (wedge : Nat) (p : Option Int) (v : Int) : Act :=
  let pos := p.getD (a.pos + a.vEst)
  let pes := (pos - (a.target + a.inj)).tdiv 16
  let ok := p.isSome
  let rd := if ok && pes.natAbs ≤ bits a.pol1.toNat 7 0 then a.rdRun + 1 else 0
  let wr := if ok && pes.natAbs ≤ bits a.pol1.toNat 23 16 then a.wrRun + 1 else 0
  { a with pos := pos, track := trackOf pos, pes := pes, invalid := !ok, invalidRun := if ok then 0 else a.invalidRun + 1, vEst := v
           wedge := wedge, rdRun := rd, wrRun := wr }

/-- An actuator that LOADING or UNLOADING positions: it seeks or settles on the medium (R271, R272). -/
def Act.guided (a : Act) : Bool := a.ramp == .seek || a.ramp == .settle

/-- A load has acquired position: it seeks to its target, or enters settling at once within SHORT_TRK (R262, R271). -/
def Act.acquires (a : Act) (short : Nat) : Act :=
  { a with ramp := if (a.target - a.pos).natAbs ≤ short * 4096 then .settle else .seek, rdRun := 0, wrRun := 0 }

/-- The sample of an actuator taken into its state, and the jitter of a seek counted down (R264). A load acquires its position after eight valid
samples in a row; each sample of a load or unload is marked not valid (R250, R271). The velocity estimate is a free value: no rule states the filter of
VEL_ALPHA (log entry 3). DEDUCED, log entry 70. -/
def Act.sampled (a : Act) (wedge : Nat) (p : Option Int) (v : Int) (short : Nat) : Act :=
  let a : Act := { a with seek := a.seek.map fun r => { r with jitter := r.jitter - 1 } }
  if a.positions then a.placed wedge p v
  else if a.guided then { a.placed wedge p v with invalid := true, invalidRun := a.invalidRun }
  else if a.st == .loading && a.ramp == .move then
    let n := if p.isSome then a.acquired + 1 else 0
    let b := { a with pos := p.getD (a.pos + a.vEst), track := trackOf (p.getD (a.pos + a.vEst)), invalid := true, acquired := n, vEst := v, wedge := wedge }
    if n == 8 then b.acquires short else b
  else { a with invalid := true, wedge := wedge }

/-- Settle (R263): the flags of an actuator in R251's states; read settle passes SETTLING to FOLLOWING. -/
def Act.settle (a : Act) : Act :=
  if a.runs then
    let rd := a.rdSettled || bits a.pol1.toNat 15 8 ≤ a.rdRun
    let wr := a.wrSettled || bits a.pol1.toNat 31 24 ≤ a.wrRun
    { a with rdSettled := rd, wrSettled := wr, st := if a.st == .settling && rd then .following else a.st }
  else a

/-! ### Commands (R251, R252, R260, R262) -/

/-- The loops or the seek law of one actuator under a set; a load or an unload on the medium runs them too (R251, R262, R271, R272). -/
def actOut (v : Srv) (act band wedge : Nat) (a : Act) (inj : Nat → Int) : LoopOut :=
  if a.runs || a.ramp == .settle then followLoop v act band wedge a.track a (a.target + a.inj - a.pos) inj
  else if a.st == .seeking || a.ramp == .seek then
    let lim := v.w (actSet act band + 0x00E)
    let e := (satQ (a.target - a.pos + v.rro act a.head wedge 0)).1
    { e := e, uV0 := (satQ (clampI (-(lim : Int)) lim (v.seekLaw act band (a.target - a.pos) a.vEst) + v.fric act band a.track + a.vEst.sign * v.setWord act band 0x009)).1 }
  else {}

/-- The sections of a cascade at the passage from a seek to SETTLING (R262). -/
def settleHist (n : Nat) (e u : Int) : List BiqHist := List.replicate n { x1 := e, x2 := e, y1 := u, y2 := u }

/-- What the drivers of an actuator are given, with the squares of the VCM current of the present 1 ms (R253, R265). On the ramp the VCM follows the
back-EMF velocity, and no rule states its current: a free value within the descriptor's limit (log entry 3). The drive of a retract, of the resistance
measurement and of the last drive of an unload stays as it is. -/
def Act.driven (a : Act) (d : ActDesc) (free : Nat) : Act :=
  let ramp : Int := ((free % (2 * d.vcmImax * 32768 + 1) : Nat) : Int) - (d.vcmImax * 32768 : Nat)
  let cur := if a.st == .retracting || a.ramp == .measure || a.ramp == .forced then a.drvV
    else if a.ramp == .move || a.ramp == .home then ramp else vcmDrive d a.uV
  { a with drvV := cur, drvM := maDrive d a.uM, sqSum := a.sqSum + cur.natAbs * cur.natAbs, sqN := a.sqN + 1 }

/-- The measured VCM current differs from the command by more than a tenth of full scale (R276, kind 4). -/
def Act.compared (a : Act) (measured : Int) : Act :=
  { a with diffRun := if a.positions && 3276 < (measured - a.drvV.tdiv 3000).natAbs then a.diffRun + 1 else 0 }

/-- An actuator with its new commands: `o` and `old` are its loops under the new and the old set, `term`, `u` and `uOld` its
coupled commands; at the end of its seek an unload moves onto the ramp, and a load settles; `bump` says that the sets are switched in this sample. -/
def Act.commanded (a : Act) (v : Srv) (act band : Nat) (o old : LoopOut) (u uOld : Int) (cpl : List BiqHist) (bump : Bool) : Act :=
  let shift := v.w (actSet act band + 0x011) % 8
  if a.runs || a.ramp == .settle then
    let (uv, bv) := bumped u (a.bumpV + if bump then uOld - u else 0) shift
    let (um, bm) := bumped o.uM (a.bumpM + if bump then old.uM - o.uM else 0) shift
    { a with uV0 := o.uV0, uV := uv, uM := um, bumpV := bv, bumpM := bm, vcmHist := o.vcm, maHist := o.ma, modelHist := o.model, cplHist := cpl }
  else if a.st == .seeking || a.ramp == .seek then
    let near := (a.target - a.pos).natAbs ≤ v.w (actSet act band + 0x010) * 4096
    { a with uV0 := o.uV0, uV := u, uM := 0, bumpV := 0, bumpM := 0, maHist := [], modelHist := {}, cplHist := cpl
             st := if a.st == .seeking && near then .settling else a.st
             ramp := if a.ramp == .seek && near then (if a.st == .unloading then .home else .settle) else a.ramp
             vcmHist := if near then settleHist (bits (v.w (actSet act band + 1)) 3 0) o.e u else a.vcmHist }
  else { a with uV0 := 0, uV := 0, uM := 0, bumpV := 0, bumpM := 0 }

/-! ### Injection and capture (R279 to R281) -/

/-- The product of two polynomials over the field of two elements, modulo the polynomial `g` of degree 15 (R280). -/
def polyMul (g : Nat) (a b : Nat) : Nat :=
  (List.range 15).foldr (fun i r =>
    let r := r * 2
    let r := if r.testBit 15 then r ^^^ g else r
    if b.testBit i then r ^^^ a else r) 0

/-- `x` to the power `n` modulo `g`, from bit `k` of `n` down. -/
def polyPow (g n : Nat) : Nat → Nat
  | 0 => 1
  | k + 1 =>
    let r := polyPow g (n / 2) k
    let q := polyMul g r r
    if n % 2 == 1 then polyMul g q 2 else q

/-- The taps make the register run through a maximal-length sequence: its polynomial has order 2¹⁵ − 1, which is 7 × 31 × 151 (R280). -/
def maximalTaps (t : BitVec 15) : Bool :=
  let g := 2 * t.toNat + 1
  t.getLsbD 14 && polyPow g 32767 16 == 1 && polyPow g 4681 16 != 1 && polyPow g 1057 16 != 1 && polyPow g 217 16 != 1

/-- The taps of the generator: those of a maximal-length sequence, which no rule names (R280; log entry 3). -/
def prbsTaps : BitVec 15 := if maximalTaps Config.prbsTaps then Config.prbsTaps else 0x6000#15

/-- One step of the PRBS register (R280). -/
def prbsStep (x : BitVec 15) : BitVec 15 :=
  let y := x &&& prbsTaps
  (x <<< 1) ||| BitVec.ofNat 15 (((List.range 15).filter fun k => y.getLsbD k).length % 2)

/-- The sine of an angle of at most a quarter turn, in 1/65,536 of a turn, in units of 2⁻⁶⁰, by its power series. -/
def sineQuarter (t : Nat) : Int :=
  let x : Int := (3622009729038561421 * (t : Int)) / 32768
  let y : Int := x * x / 2 ^ 60
  let term (k : Int) (r : Int) : Int := 2 ^ 60 - y * r / (k * 2 ^ 60)
  x * term 6 (term 20 (term 42 (term 72 (term 110 (term 156 (term 210 (term 272 (term 342 (2 ^ 60))))))))) / 2 ^ 60

/-- The sine of a phase in 1/65,536 of a turn at an amplitude: its integer part, and by a free choice one more, since no rule states its rounding
(R280; log entry 3). -/
def sineOf (a phase : Nat) : Int :=
  let r := phase % 32768
  let t := if r ≤ 16384 then r else 32768 - r
  let sign : Int := if phase % 65536 < 32768 then 1 else -1
  if t == 0 then 0 else if t == 16384 then sign * a
  else sign * (a * sineQuarter t / 2 ^ 60 + if Config.sineUp a phase then 1 else 0)

/-- The generator's value of this sample and the injection afterwards (R280): a sine of F × f_s ÷ 65,536 with continuous phase, or ±A by the sequence,
each bit held for its samples. -/
def Tune.inject (t : Tune) : Int × Tune :=
  if !t.injecting then (0, t)
  else
    let p := if t.mode == 1 && t.count % t.prbsHold == 0 then prbsStep t.prbs else t.prbs
    let v : Int := if t.mode == 1 then (if p.getLsbD 0 then t.a else -(t.a : Int)) else sineOf t.a t.phase
    (v, { t with prbs := p, phase := (t.phase + t.f) % 65536, count := t.count + 1 })

/-- Injection starts at a wedge 0 sample (R280). -/
def Tune.begin (t : Tune) (wedge : Nat) : Tune := if wedge == 0 && !t.injecting then { t with injecting := true, count := 0, phase := 0 } else t

/-- One sample of a capture: `sig` gives the signal of each code (R281). -/
def Tune.capture (t : Tune) (sig : Nat → Int) (ok switched : Bool) (sats : Nat) : Tune :=
  if !t.capturing || 16384 ≤ t.taken then t
  else
    let t := { t with invalid := t.invalid + flag (!ok), saturated := t.saturated + sats, bandSwitch := t.bandSwitch || switched }
    if t.skip == 0 then { t with data := (t.chans.map fun c => (satQ (sig c)).1) :: t.data, taken := t.taken + 1, skip := t.d - 1 }
    else { t with skip := t.skip - 1 }

/-! ### The write gate and sectors on the medium (R223, R224, R235) -/

/-- A sample exceeds the write-inhibit threshold (R223). -/
def offTrack (settings : Nat) (conv : Bool) (pes : Int) : Bool :=
  if conv then decide ((bits settings 31 24 : Int) < pes.natAbs)
  else decide (pes < -(bits settings 15 8 : Int)) || decide ((bits settings 23 16 : Int) < pes)

/-- The take whose track is under the head, for its kind of band; the system area is unshingled (R171). With no take in hand the pair of a shingled
band judges the sample. DEDUCED, log entry 67. -/
def Mu.convTake (x : Mu) : Bool :=
  match x.tsq.desc.orElse fun _ => x.was.closing with
  | some d => d.conv || d.type == 7
  | none => false

/-- The first sample after their last pad decides the sectors that wait for it (R235); a budget that waited for them is settled (R238). -/
def State.decideSectors (s : State) (m : Nat) (good : Bool) : State :=
  let w := (s.mu m).was
  let d := (w.closing.orElse fun _ => (s.mu m).tsq.desc).getD {}
  let lbas := if good && d.type == 2 then w.awaiting.filterMap fun k => s.lbaAt m d.zone d.track k else []
  let s := s.updMu m fun x =>
    { x with was := { x.was with awaiting := [], onMedium := if good && x.was.closing.isNone then x.was.onMedium ++ x.was.awaiting else x.was.onMedium
                                 closing := none } }
  let s := s.report m d.zone lbas
  if w.closing.isSome && d.type == 2 then s.settleBudget m d.zone d.track else s

/-- A write attempt lies between its first WG rise and its last WG fall (R224). -/
def Mu.gateUsed (x : Mu) : Bool :=
  x.was.rose && (x.was.wg || x.was.writing.isSome || (x.inAttempt && !x.was.wgCut && !x.was.crcCut && !x.was.astCut && !x.was.slipped))

/-- The LBA of the sector being written, or of the one whose turn is next. -/
def State.writingLba (s : State) (m : Nat) : Nat × State :=
  let x := s.mu m
  s.takeLba m (x.tsq.desc.getD {}) (x.was.writing.getD (x.tsq.writeQ.headD x.tsq.locSector))

/-- The cut of a servo loss (kind 2) or of an excursion (kind 1), with its event (R224). -/
def State.servoCut (s : State) (m kind : Nat) : State :=
  let (l, s) := s.writingLba m
  (s.cutGate m).raise 11 m kind l

/-- The sector being written has not ended before the data segment of this wedge. -/
def State.goesOn (s : State) (m wedge : Nat) : Bool :=
  match (s.mu m).tsq.desc, (s.mu m).was.writing with
  | some d, some k => decide (s.startOf m d k / s.spwOf m d ≤ wedge) && decide (wedge ≤ endWedge (s.spwOf m d) (s.startOf m d k))
  | _, _ => false

/-- The sector being written has a span that begins in this wedge with a resync field (R145, R220). -/
def State.continues (s : State) (m wedge : Nat) : Bool :=
  s.goesOn m wedge && (match (s.mu m).tsq.desc, (s.mu m).was.writing with
    | some d, some k => decide (s.startOf m d k / s.spwOf m d < wedge)
    | _, _ => false)

/-- The gates as a wedge's servo field has passed: a sector that ended before it has had its last pad symbol, and WG is low over the field under one
that goes on; it rises again at its place in the data segment (R139, R220, R222). -/
def State.segmentEnds (s : State) (m wedge : Nat) : State :=
  let x := s.mu m
  let s := if x.was.writing.isSome && !s.goesOn m wedge then s.spanEnd m (s.bridged m)
    else if s.continues m wedge && x.was.wg then s.wedgeGap m (x.tsq.desc.getD {}) else s
  s.updMu m fun x => { x with was := { x.was with monRead := false }, tsq := { x.tsq with wedge := wedge } }

/-- A sample reaches WAS. -/
def State.wasSample (s : State) (m wedge : Nat) (valid : Bool) (pes : Int) : State :=
  let used := (s.mu m).gateUsed
  let on := s.continues m wedge
  let s := s.segmentEnds m wedge
  let x := s.mu m
  let off := offTrack x.was.settings.toNat x.convTake pes
  let good := valid && !off
  let s := s.updMu m fun x => { x with was := { x.was with inhibit := !good } }
  let cut := !good && used && ((s.mu m).gateUsed || on)
  let s := s.decideSectors m good
  if cut then s.servoCut m (if valid then 1 else 2) else s

/-! ### Replaced sets and the switch of bands (R258, R260) -/

/-- Replacements installed in coefficient memory. DEDUCED, log entry 81. -/
def Srv.installed (v : Srv) : Srv :=
  if v.replacements.isEmpty then v
  else
    let coef := v.replacements.foldl (fun c r => (r.2.zip (List.range r.2.length)).foldl (fun c e => sset c (r.1 + e.2) e.1 0) c) v.coef
    let u := { v with coef := coef, replacements := [] }
    { u with setsValid := u.firstInvalid.isNone }

/-- The engine from this sample on: at wedge 0 replacements take effect, and `due`, a band decided in the revolution before (R161, R258, R260). -/
def Srv.atWedge (v : Srv) (wedge band : Nat) (due : Bool) : Srv :=
  if wedge == 0 then let u := v.installed; if due then { u with bandInUse := band } else u else v

/-! ### The sample -/

/-- The actuator of an MU after its sample has been demodulated; a sample that fails R249 counts in every state (R250, R273, R286). DEDUCED, log
entry 70. -/
def State.demodulate (s : State) (m : Nat) (i : ActIn) (wedge : Nat) : State :=
  let (f0, s) := s.draw
  let (f1, s) := s.draw
  let (v, s) := s.draw
  let p := s.measured m i wedge f0 f1
  let e := (s.hda (m / 2)).srv
  let short := e.w (actSet (m % 2) e.bandInUse + 0x00F)
  let s := s.updMu m fun x => { x with act := x.act.sampled wedge p (ofTwos 32 v) short }
  if p.isNone then s.bump 12 (m / 2) (aSrv (m / 2) (0x1C + m % 2 * 4)) else s

/-- The signals of R281 on the captured actuator. DEDUCED, log entry 70. -/
def signalOf (a : Act) (o : LoopOut) (term inj current speedErr amp other : Int) (code : Nat) : Int :=
  match code with
  | 0x00 => a.pos - (a.target + a.inj)
  | 0x01 => o.e
  | 0x02 => o.xv0
  | 0x03 => o.xv
  | 0x04 => o.uV0
  | 0x05 => a.uV
  | 0x06 => term
  | 0x07 => a.uM
  | 0x08 => o.yMM
  | 0x09 => inj
  | 0x0A => current
  | 0x0B => speedErr
  | 0x0C => amp
  | _ => other

/-- The spindle part of a sample (R254, R260): the engine afterwards, the speed error and the amplitude. A spin-up starts with the reference and
the integrator as the run before left them: no rule gives their start. DESIGN CHOICE, log entry 104. -/
def Srv.spinSample (v old : Srv) (mark polePairs spImax target step : Nat) (speed inj : Int) (locked switched : Bool) : Srv × Int × Int :=
  if v.spin == .spunUp || (v.spin == .starting && locked) then
    let ref := moveRef v.speedRef (target * 65536) step
    let err := ((ref / 65536 : Nat) : Int) + inj - speed
    let (amp, integ) := spinLoop v v.bandInUse mark locked err
    let was := (spinLoop old old.bandInUse mark locked err).1
    let (out, b) := bumped amp (v.bumpSpin + if switched then was - amp else 0) 4
    ({ v with speedRef := ref, integ := integ, bumpSpin := b, spinAmp := out, phaseI := phaseMA out spImax
              elecAngle := (mark * polePairs + v.commOfs) % 32768 }, err, out)
  else (v, 0, v.spinAmp)

/-- The injection of this sample: the generator runs, and its value at point TG stands with the target of its actuator (R279, R280). -/
def State.injectSample (s : State) (h wedge : Nat) : State × Int :=
  let put (s : State) (a : Nat) (x : Int) : State := s.updMu (2 * h + a) fun y => { y with act := { y.act with inj := x } }
  match (s.hda h).srv.tune with
  | none => (put (put s 0 0) 1 0, 0)
  | some t =>
    let (x, t) := (t.begin wedge).inject
    let s := s.updHda h fun d => { d with srv := { d.srv with tune := some t } }
    let tg (a : Nat) : Int := if t.point == 5 && t.act == a then x else 0
    (put (put s 0 (tg 0)) 1 (tg 1), x)

/-- The step of the speed reference in this sample: 200 rpm per second while any head is loaded; with every head unloaded the current limits set the
rate, which is a free value of at most 1 rpm a sample (R159, R261; log entry 3). -/
def State.refStepOf (s : State) (h free : Nat) : Nat := if s.bothParked h then free % 65537 else refStep (s.hda h).clk.meas

/-- The commands of both actuators and of the spindle, and the sample of a capture (steps 3 to 5 of R244). -/
def State.command (s : State) (h : Nat) (i : WedgeIn) (gen : Int) : State :=
  let d := s.hda h
  let old := d.srv
  let due := d.clk.servoBandDue == 1
  let v := old.atWedge i.wedge d.clk.band due
  let bandSwitch := i.wedge == 0 && due
  let switched := i.wedge == 0 && (due || !old.replacements.isEmpty)
  let (f, s) := s.draw
  let (ra, s) := s.draw
  let (rb, s) := s.draw
  let tune := v.tune
  let inj (act k : Nat) : Int := match tune with | some t => if t.point == k && (t.act == act || k == 6) then gen else 0 | none => 0
  let a := (s.mu (2 * h)).act
  let b := (s.mu (2 * h + 1)).act
  let oa := actOut v 0 v.bandInUse i.wedge a (inj 0)
  let ob := actOut v 1 v.bandInUse i.wedge b (inj 1)
  let pa := actOut old 0 old.bandInUse i.wedge a (inj 0)
  let pb := actOut old 1 old.bandInUse i.wedge b (inj 1)
  let (ta, ua, ha, ca) := coupling v 0 v.bandInUse a.cplHist oa.uV0 ob.uV0
  let (tb, ub, hb, cb) := coupling v 1 v.bandInUse b.cplHist ob.uV0 oa.uV0
  let xa := (coupling old 0 old.bandInUse a.cplHist pa.uV0 pb.uV0).2.1
  let xb := (coupling old 1 old.bandInUse b.cplHist pb.uV0 pa.uV0).2.1
  let na := ((a.compared i.a.current).commanded v 0 v.bandInUse oa pa ua xa ha switched).driven (s.desc h).actA ra
  let nb := ((b.compared i.b.current).commanded v 1 v.bandInUse ob pb ub xb hb switched).driven (s.desc h).actB rb
  let desc := s.desc h
  let (v, err, amp) := v.spinSample old (wedgeMark i.wedge) desc.polePairs desc.spImax (s.speedTarget h) (s.refStepOf h f) i.speed (inj 0 6)
    (d.clk.lock == .locked) switched
  let tune := tune.map fun t =>
    let (x, o, tm, i', other, sats) := if t.act == 0 then (na, oa, ta, i.a, ob.uV0, oa.sats + ca) else (nb, ob, tb, i.b, oa.uV0, ob.sats + cb)
    t.capture (signalOf x o tm gen i'.current err amp other) (!x.invalid) bandSwitch sats
  let s := s.updHda h fun d =>
    { d with srv := { v with tune := tune }, clk := { d.clk with servoBandDue := if i.wedge == 0 then d.clk.servoBandDue - 1 else d.clk.servoBandDue } }
  (s.updMu (2 * h) fun x => { x with act := na.settle }).updMu (2 * h + 1) fun x => { x with act := nb.settle }

/-- A 32nd invalid sample in a row is an engine fault of kind POS_LOST (R250). -/
def State.posLost (s : State) (m : Nat) : State :=
  let a := (s.mu m).act
  if a.positions && a.invalid && a.invalidRun == 32 then s.engineFault (m / 2) 3 (m % 2) else s

/-- A sample may be taken: CLK is locked, or a head is loaded (R244, R245). -/
def State.samples (s : State) (h : Nat) : Bool :=
  (s.hda h).clk.lock == .locked || s.unparked (2 * h) || s.unparked (2 * h + 1)

/-- The eighth sample in a row whose measured current differs from the command is an engine fault of kind VCM_DRIVER (R276). -/
def State.vcmFault (s : State) (m : Nat) : State :=
  let a := (s.mu m).act
  if a.positions && a.diffRun == 8 then s.engineFault (m / 2) 4 (m % 2) else s

/-- One servo wedge (R244): demodulation, the write gate, the loops. -/
def State.wedgeSample (s : State) (h : Nat) (i : WedgeIn) : State :=
  let (s, gen) := s.injectSample h i.wedge
  let s := (s.demodulate (2 * h) i.a i.wedge).demodulate (2 * h + 1) i.b i.wedge
  let arrive (s : State) (m : Nat) : State :=
    let a := (s.mu m).act
    s.wasSample m i.wedge (a.positions && !a.invalid) a.pes
  let s := (arrive (arrive s (2 * h)) (2 * h + 1)).command h i gen
  (((((s.posLost (2 * h)).posLost (2 * h + 1)).vcmFault (2 * h)).vcmFault (2 * h + 1)).settleRelease h)

/-- Each wedge SRV demodulates, forms PES, runs the loops and sends the commands (R244). -/
def execServoWedgeSample (h : HdaNo) (sample : WedgeIn) (s : State) : Out :=
  let t := s.wedgeSample h sample
  detected (s.samples h && sample.wedge < 640) (s.stopsIn t) s t

end Sys2Proof.Machine
end

