-- ==== Sys2Proof/Machine/MgmtUnits.lean ====
section
/-! DEFINITION. CALIBRATE, MICROCODE_LOAD and SERVO_TUNE (R85, R185, R186, R257, R258, R278 to R281, R293 to R296, R300, R305, R308,
R311 to R314, R422 to R424, R594 to R597). -/

namespace Sys2Proof.Machine

/-! ### CALIBRATE HOLDUP_TEST, CALREF, CONVERTER (R85, R422, R594, R595) -/

/-- CALIBRATE HOLDUP_TEST: the request waits for the next test (R85, R422). DEDUCED, log entry 75. -/
def execCalibrateHoldupTest (tag : TagNo) (s : State) : Out :=
  s.simple tag 0x2B 1 [] fun s =>
    { s with mns := { s.mns with bank := { s.mns.bank with hostRequests := s.mns.bank.hostRequests ++ [tag.val] } } }.setPhase tag .executing

/-- CALIBRATE CALREF: the measurements begin, one command at a time (R422, R594). -/
def execCalibrateCalref (tag : TagNo) (token : List Byte) (s : State) : Out :=
  if s.cal.busy then .next s
  else s.manage tag 0x2B 2 token [] false true false [(!s.mns.calref, 0x000E)] fun s =>
    { s with cal := { s.cal with busy := true, calrefCmd := some tag.val } }.setPhase tag .executing

/-- Stalled converters are tried once more, and the nine periods of every converter are counted from now on (R595). -/
def State.calConverters (s : State) (t : Nat) : State :=
  let retry : BitVec 64 := (List.range 64).foldl (fun a c => if s.convWaited c then a &&& ~~~(1#64 <<< c) else a) s.cal.stalled
  ({ s with cal := { s.cal with stalled := retry, periods := [], converterCmds := s.cal.converterCmds ++ [t] } }.setPhase t .executing).settleConverters

/-- CALIBRATE CONVERTER (R422, R595). -/
def execCalibrateConverter (tag : TagNo) (s : State) : Out :=
  if s.asleep then .next s else s.simple tag 0x2B 5 [s.ps4Code] fun s => s.calConverters tag

/-! ### CALIBRATE CHANNEL (R180, R186, R596) -/

/-- The written tracks of a zone (R596). DESIGN CHOICE, log entry 28. -/
def State.writtenTracks (s : State) (v z : Nat) (m : ZoneMap) : List Nat :=
  (List.range m.btrk).filterMap fun i => if s.holdsData v z (m.firstTrack + i) then some (m.firstTrack + i) else none

/-- The calibration takes of a head and rate zone: at most four written tracks, of the zones in their order. DESIGN CHOICE, log entry 28. -/
def State.calTakes (s : State) (v key : Nat) : List TakeDesc :=
  (((s.mu v).fmt.zones.zip (List.range (s.zoneCount v))).flatMap fun e =>
    if e.1.head * 64 + e.1.rz == key then
      (s.writtenTracks v e.2 e.1).map fun k => s.descOver v e.2 8 0 k 0 (List.range (s.spt v e.2)) none
    else []).take 4

/-- The rate zones of an MU, as head × 64 + rate zone. -/
def State.rateKeys (s : State) (v : Nat) : List Nat := (s.mu v).fmt.rateZones.map (·.1)

/-- CALIBRATE CHANNEL begins: its takes become eligible (R434, R596). -/
def State.beginChannel (s : State) (t v : Nat) : State :=
  let plan := (s.rateKeys v).flatMap fun k => s.calTakes v k
  (s.updMu v fun m => { m with sch := { m.sch with calib := some { cmd := some t, plan := plan, band := (s.hda (v / 2)).clk.band } } }).setPhase t .executing

/-- A channel entry with VGA0 to OFS1, EQ0, EQ1 and NP from the 168 adapted bytes, and ECRC recomputed (R186, R596). -/
def adaptedEntry (e a : List Byte) : List Byte :=
  let x := padTo 256 e
  let b := x.take 4 ++ a.take 8 ++ (x.drop 12).take 20 ++ (a.drop 8).take 160 ++ (x.drop 192).take 60
  b ++ leBytes 4 (crc32c b).toNat

/-- The entries of the zones with at least 512 converged codewords changed (R596). DESIGN CHOICE, log entry 68. -/
def adaptTable (band : Nat) (adapted : List (Nat × List Byte)) : List Nat → Sparse (List Byte) → Sparse (List Byte)
  | [], m => m
  | k :: r, m =>
    let m := match adapted.find? (·.1 == k) with
      | some a => supd m (k * 12 + band) [] fun e => adaptedEntry e a.2
      | none => m
    adaptTable band adapted r m

/-- CALIBRATE CHANNEL ends: tables, trims and counts (R596). -/
def State.channelEnd (s : State) (v : Nat) (k : CalWork) (adapted : List (Nat × List Byte)) : Res × State :=
  let done := (s.rateKeys v).filter fun z => 512 ≤ sget k.counts z 0
  let s := s.updMu v fun m => { m with
    chanTable := adaptTable k.band adapted done m.chanTable
    entryMarks := sdrop m.entryMarks fun n => n % 2 == 0 && done.any fun z => n / 2 == z * 12 + k.band
    sch := { m.sch with calib := none } }
  ({ r0 := done.length + ((s.rateKeys v).length - done.length) * 2 ^ 32 }, s.takeTrims v)

/-- Adapted values within the ranges of R186: VGA0 and VGA1 at most 1,023, OFS0 and OFS1 from −512 to 511. -/
def adaptedOk (a : List Byte) : Bool :=
  a.length == 168 && field a 0 2 ≤ 1023 && field a 2 2 ≤ 1023
    && [4, 6].all fun i => (-512 : Int) ≤ ofTwos 16 (field a i 2) && ofTwos 16 (field a i 2) ≤ 511

/-- Every take of the calibration has ended, and `adapted` has the values of each zone whose entry changes. DESIGN CHOICE, log entry 28. -/
def State.channelDone (s : State) (v : Nat) (k : CalWork) (adapted : List (Nat × List Byte)) : Bool :=
  k.plan.length ≤ k.pos && ((s.mu v).tsq.desc.all fun d => d.type != 8)
    && (s.rateKeys v).all fun z => sget k.counts z 0 < 512 || adapted.any fun a => a.1 == z && adaptedOk a.2

/-- CALIBRATE CHANNEL: it begins, and presented again with the adapted values after its last take, it ends, also where a reset has discarded the command
(R422, R440, R596). -/
def execCalibrateChannel (tag : TagNo) (token : List Byte) (adapted : List (Nat × List Byte)) (s : State) : Out :=
  let v := (s.cmd tag).pkt.vol
  match s.orphan tag 0x2B 3 with
  | some c =>
    match (s.mu c.pkt.vol).sch.calib with
    | none => .next (s.adopt c)
    | some k => guarded (k.cmd.isNone && s.channelDone c.pkt.vol k adapted) s ((s.adopt c).channelEnd c.pkt.vol k adapted).2
  | none =>
  if s.at_ tag .executing then
    match (s.mu v).sch.calib with
    | none => .next s
    | some k => guarded (k.cmd == some tag.val && !s.hungCommand tag && s.channelDone v k adapted) s
        (let (r, s) := s.channelEnd v k adapted; s.endWith tag r)
  else if (s.mu v).sch.calib.isSome then .next s
  else s.manage tag 0x2B 3 token [] false true false [s.ownScoped tag, s.absentCode tag, s.stoppedCode tag] fun s => s.beginChannel tag v

/-! ### CALIBRATE STORE (R597, R599) -/

/-- The record written: trims taken in, replacements included, and the HDA's record no longer foreign (R597). DESIGN CHOICE, log entry 28. -/
def State.storeHda (s : State) (h : Nat) : State :=
  let s := (s.takeTrims (2 * h)).takeTrims (2 * h + 1)
  let s := s.storeRecord { s.hdaRecord h with srv := (s.hda h).srv.installed.coef }
  { s with cal := { s.cal with foreign := putBit16 s.cal.foreign h false } }

/-- CALIBRATE STORE; a port that has never held a record receives its first in factory mode (R422, R597, R599). -/
def execCalibrateStore (tag : TagNo) (token : List Byte) (s : State) : Out :=
  let h := (s.cmd tag).pkt.vol / 2
  let first := !s.nor.cal.any fun r => r.recno == h + 1
  if s.asleep then .next s
  else s.manage tag 0x2B 4 token [] false true false [s.ownScoped tag, (first && !s.factory, 0x000C), s.absentCode tag, s.ps4Code]
    fun s => (s.storeHda h).endWith tag {}

/-! ### Customer images (R311, R312) -/

/-- Custodian key whose KEY_ID an image names (R510, R312). -/
def State.custodianById (s : State) (id : Nat) : Option (List Byte) :=
  (s.nor.custodians.map (·.2)).find? fun k => leNat ((digestBytes (Config.sm3 k)).take 4) == id

/-- The signature of a customer image verifies (R311, R312). -/
def State.imageSigned (s : State) (img : List Byte) : Bool :=
  let body := img.take (img.length - 64)
  match s.custodianById (field img 20 4) with
  | none => false
  | some k => sm2Ok k body (img.drop (img.length - 64))

/-! ### MICROCODE_LOAD (R305, R312 to R314, R423) -/

/-- Some hook is bound. -/
def State.hooksBound (s : State) : Bool := s.store.bind0 != 0 || s.store.bind1 != 0 || s.store.bind2 != 0 || s.store.bind3 != 0

/-- MICROCODE_IN_USE of LOAD and CLEAR (R312, R423). -/
def State.inUseCode (s : State) : Bool × Nat := (s.hooksBound || s.store.swap.isSome, 0x000B)

/-- A refused image: the address of the word that fails, a free value where no word does, and a free value for the check (R312). DEDUCED, log entry 80. -/
def State.refuseImage (s : State) (t a : Nat) : State :=
  let (f, s) := s.draw
  let (k, s) := s.draw
  s.endWith t { status := 0x0101, r0 := if a == 0 then f % 2 ^ 64 else a, r1 := k % 2 ^ 64 }

/-- LOAD carried out: verified, checked, and pending (R312 to R314). -/
def State.loadImage (s : State) (t : Nat) (img : List Byte) : State :=
  if !s.imageSigned img then (s.authFailed (s.cmd t).ep 6).endWith t { status := 0x0501, r0 := 6 }
  else match imageBad img with
  | some a => s.refuseImage t a
  | none =>
    (s.setPhase t .executing).putSwap (swapOf 2 (some t) img)

/-- MICROCODE_LOAD LOAD (R312). DEDUCED, log entry 41. -/
def execMicrocodeLoadLoad (tag : TagNo) (data : List Byte) (s : State) : Out :=
  s.manage tag 0x2C 1 [] data true false false [s.inUseCode] fun s => s.loadImage tag data

/-- MICROCODE_LOAD CLEAR (R313). -/
def execMicrocodeLoadClear (tag : TagNo) (s : State) : Out :=
  s.simple tag 0x2C 2 [s.inUseCode] fun s => (s.setPhase tag .executing).putSwap { cmd := some tag.val, clear := true, mbase := 0xC00, nbase := 0x600 }

/-- The bindings of the hooks of a mask changed by `f`. -/
def Store.updBinds (x : Store) (hooks : Nat) (f : BitVec 32 → BitVec 32) : Store :=
  { x with bind0 := if bit hooks 0 then f x.bind0 else x.bind0, bind1 := if bit hooks 1 then f x.bind1 else x.bind1
           bind2 := if bit hooks 2 then f x.bind2 else x.bind2, bind3 := if bit hooks 3 then f x.bind3 else x.bind3 }

/-- MICROCODE_LOAD BIND (R313, R423). -/
def execMicrocodeLoadBind (tag : TagNo) (s : State) : Out :=
  let p := (s.cmd tag).pkt
  let hooks := bits p.p2.toNat 3 0
  s.simple tag 0x2C 3 [(s.store.swap.isSome, 0x000B)] fun s =>
    if (BitVec.ofNat 4 hooks &&& ~~~s.store.custHooks) != 0 then s.endWith tag (badField 40)
    else { s with store := s.store.updBinds hooks fun b => b ||| p.p3 }.endWith tag {}

/-- MICROCODE_LOAD UNBIND (R313). -/
def execMicrocodeLoadUnbind (tag : TagNo) (s : State) : Out :=
  let p := (s.cmd tag).pkt
  s.simple tag 0x2C 4 [] fun s => { s with store := s.store.updBinds (bits p.p2.toNat 3 0) fun b => b &&& ~~~p.p3 }.endWith tag {}

/-- MICROCODE_LOAD ROM_MODE, in factory mode (R305). -/
def execMicrocodeLoadRomMode (tag : TagNo) (s : State) : Out :=
  s.simple tag 0x2C 5 [(!s.factory, 0x000C)] fun s => { s with store := { s.store with service := false } }.endWith tag {}

/-! ### SERVO_TUNE (R257, R258, R278 to R281, R424) -/

/-- The MU has work, so that its queue is not empty; a take of the module's own is none, and the start of TUNING stops it (R278, R301). -/
def State.queued (s : State) (m : Nat) : Bool :=
  let x := s.mu m
  !(x.sch.queue.isEmpty && x.sch.overflow.isEmpty && x.sch.destage.isEmpty && x.sch.recQueue.isEmpty && x.sch.recWaiting.isEmpty)
    || x.sch.recovery.isSome || x.sch.slipNext.isSome || x.sch.calib.isSome || x.tsq.desc.any fun d => d.type != 6 && d.type != 7

/-- A queue holds up START at an injection point (R424). DEDUCED, log entry 81. -/
def State.tuneQueued (s : State) (v point : Nat) : Bool := s.queued v || (point == 6 && s.queued (v / 2 * 2 + 1 - v % 2))

/-- START cannot run: MU_STOPPED (R424). DEDUCED, log entry 81. -/
def State.tuneBlocked (s : State) (v point : Nat) : Bool :=
  (s.mu v).act.st != .following || s.tuneQueued v point || (s.hda (v / 2)).srv.tune.isSome

/-- The injection and capture that a START packet describes (R424). -/
def tuneOf (t v : Nat) (p : Packet) : Tune :=
  let p2 := p.p2.toNat
  { cmd := some t, act := v % 2, point := bits p2 2 0, mode := bits p2 4 4, prbsHold := bits p2 11 8 + 1, f := bits p.p3.toNat 15 0
    a := bits p.p3.toNat 31 16, d := bits p.p5.toNat 7 0 + 1, settle := bits p.p5.toNat 31 16
    chans := (List.range 4).map fun i => bits p.p4.toNat (8 * i + 7) (8 * i) }

/-- START carried out; the start of TUNING is a STOP of the sequencer (R278, R301, R424). -/
def State.tuneStart (s : State) (t v : Nat) (p : Packet) : State :=
  let x := tuneOf t v p
  if s.tuneBlocked v x.point then s.endWith t { status := 0x0200, state := 0x0008, r0 := flag (s.tuneQueued v x.point) }
  else
    let s := s.updHda (v / 2) fun d => { d with srv := { d.srv with tune := some x } }
    ((s.updMu v fun m => { m with act := { m.act with st := .tuning } }).stopTsq v).setPhase t .executing

/-- SERVO_TUNE START (R424). -/
def execServoTuneStart (tag : TagNo) (s : State) : Out :=
  s.simple tag 0x2F 1 [s.ownScoped tag, s.absentCode tag] fun s => s.tuneStart tag (s.cmd tag).pkt.vol (s.cmd tag).pkt

/-- STOP ends a capture of the volume's actuator (R424). DEDUCED, log entry 81. -/
def State.tuneStop (s : State) (t v : Nat) : State :=
  match (s.hda (v / 2)).srv.tune with
  | none => s.endWith t {}
  | some x => if x.act == v % 2 then (s.endTune (v / 2) true).endWith t {} else s.endWith t {}

/-- SERVO_TUNE STOP (R424). -/
def execServoTuneStop (tag : TagNo) (s : State) : Out :=
  s.simple tag 0x2F 2 [s.ownScoped tag] fun s => s.tuneStop tag (s.cmd tag).pkt.vol

/-- The words of an image. -/
def wordsOf (bs : List Byte) : List Nat := (List.range (bs.length / 2)).map fun i => field bs (2 * i) 2

/-- The table a KIND of 2 to 5 names, by its number in R255. -/
def tableNo (kind act head : Nat) : Nat :=
  if kind == 2 then 0 else if kind == 3 then 1 + act else if kind == 4 then 3 + act * 10 + head else 23 + act * 10 + head

/-- The first word in error of an image; none when it is valid (R257, R424). -/
def imageWordBad (kind act band : Nat) (ws : List Nat) : Option Nat :=
  if kind == 0 then actSetBad act band ws else if kind == 1 then spinSetBad band ws else none

/-- The words that an image replaces; a table's check word goes with it (R255, R424). -/
def replacementsOf (kind act band head : Nat) (ws : List Nat) : List (Nat × List (BitVec 16)) :=
  let img := ws.map (BitVec.ofNat 16)
  if kind == 0 then [(actSet act band, img)]
  else if kind == 1 then [(0x3000 + band * 0x20, img)]
  else
    let t := tableNo kind act head
    let c := crcWords ws
    [((tableAt t).1, img), (0xC400 + 2 * t, [BitVec.ofNat 16 c, BitVec.ofNat 16 (c / 65536)])]

/-- REPLACE carried out: held until the next wedge 0 sample, and measured (R257, R258, R424). DEDUCED, log entry 81. -/
def State.tuneReplace (s : State) (t : Nat) (data : List Byte) : State :=
  let p := (s.cmd t).pkt
  let p2 := p.p2.toNat
  let h := p.vol / 2
  let ws := wordsOf data
  match imageWordBad (bits p2 3 0) (p.vol % 2) (bits p2 11 8) ws with
  | some w => s.endWith t { status := 0x0101, r0 := 0xFFFE + w * 2 ^ 32 }
  | none =>
    let s := s.updHda h fun d =>
      { d with srv := { d.srv with replacements := d.srv.replacements ++ replacementsOf (bits p2 3 0) (p.vol % 2) (bits p2 11 8) (bits p2 19 16) ws } }
    let after := (s.updHda h fun d => { d with srv := d.srv.installed }).srvEntry h
    (s.late after).endWith t {}

/-- SERVO_TUNE REPLACE (R258, R424). -/
def execServoTuneReplace (tag : TagNo) (token data : List Byte) (s : State) : Out :=
  if s.asleep then .next s
  else s.manage tag 0x2F 3 token data true true false [s.ownScoped tag, s.ps4Code] fun s => s.tuneReplace tag data

end Sys2Proof.Machine
end

