-- ==== Sys2Proof/Machine/Dispatch.lean ====
section
/-! DEFINITION. The commands and their meanings: one arm per row of the opcode table, in the table's order. -/

namespace Sys2Proof.Machine

/-- The effect of a command on everything but the queue. -/
def exec (i : Instr) (s : State) : Host.Outcome State Fault Refusal :=
  match i with
  | .powerOn feed found => Sys2Proof.Machine.execPowerOn feed found s
  | .feedPresent feed => Sys2Proof.Machine.execFeedPresent feed s
  | .feedLost feed => Sys2Proof.Machine.execFeedLost feed s
  | .inputStageFault => Sys2Proof.Machine.execInputStageFault s
  | .busCollapse => Sys2Proof.Machine.execBusCollapse s
  | .holdupConverterJoin => Sys2Proof.Machine.execHoldupConverterJoin s
  | .spinupAdmit => Sys2Proof.Machine.execSpinupAdmit s
  | .spinupAllocationRun h => Sys2Proof.Machine.execSpinupAllocationRun h s
  | .eUsableUpdate m => Sys2Proof.Machine.execEUsableUpdate m s
  | .holdupTestStart => Sys2Proof.Machine.execHoldupTestStart s
  | .holdupTestDone v0 v0s v1 cellOver => Sys2Proof.Machine.execHoldupTestDone v0 v0s v1 cellOver s
  | .fanOvercurrent fan => Sys2Proof.Machine.execFanOvercurrent fan s
  | .fanStall fan rpm => Sys2Proof.Machine.execFanStall fan rpm s
  | .fanDutyUpdate => Sys2Proof.Machine.execFanDutyUpdate s
  | .calrefPresent => Sys2Proof.Machine.execCalrefPresent s
  | .calrefGone => Sys2Proof.Machine.execCalrefGone s
  | .moduleReset => Sys2Proof.Machine.execModuleReset s
  | .vltRelease channels => Sys2Proof.Machine.execVltRelease channels s
  | .moduleRestart found => Sys2Proof.Machine.execModuleRestart found s
  | .perstAssert ep => Sys2Proof.Machine.execPerstAssert ep s
  | .perstRelease ep => Sys2Proof.Machine.execPerstRelease ep s
  | .hotReset ep => Sys2Proof.Machine.execHotReset ep s
  | .functionLevelReset ep => Sys2Proof.Machine.execFunctionLevelReset ep s
  | .controllerReset ep => Sys2Proof.Machine.execControllerReset ep s
  | .controllerResetDone ep => Sys2Proof.Machine.execControllerResetDone ep s
  | .coldFillDone => Sys2Proof.Machine.execColdFillDone s
  | .warmFillDone => Sys2Proof.Machine.execWarmFillDone s
  | .fiddleheadStart okA okB lostKeys => Sys2Proof.Machine.execFiddleheadStart okA okB lostKeys s
  | .stage2Start failed patch vendor badRecords => Sys2Proof.Machine.execStage2Start failed patch vendor badRecords s
  | .hdaTablesLoad badRecords openZones => Sys2Proof.Machine.execHdaTablesLoad badRecords openZones s
  | .replayStart => Sys2Proof.Machine.execReplayStart s
  | .replayDone found => Sys2Proof.Machine.execReplayDone found s
  | .bootReady slateOk => Sys2Proof.Machine.execBootReady slateOk s
  | .thermalHoldRestart found => Sys2Proof.Machine.execThermalHoldRestart found s
  | .vaultDumpDone => Sys2Proof.Machine.execVaultDumpDone s
  | .dumpRestart found => Sys2Proof.Machine.execDumpRestart found s
  | .busSwitchOff progress => Sys2Proof.Machine.execBusSwitchOff progress s
  | .vaultBoundUpdate erased => Sys2Proof.Machine.execVaultBoundUpdate erased s
  | .vaultEraseDone => Sys2Proof.Machine.execVaultEraseDone s
  | .vaultBlockRetire area channel => Sys2Proof.Machine.execVaultBlockRetire area channel s
  | .vaultChannelFailed channel progress => Sys2Proof.Machine.execVaultChannelFailed channel progress s
  | .hdaInserted h => Sys2Proof.Machine.execHdaInserted h s
  | .hdaAccepted h found => Sys2Proof.Machine.execHdaAccepted h found s
  | .hdaRejected h found => Sys2Proof.Machine.execHdaRejected h found s
  | .hdaRemoved h => Sys2Proof.Machine.execHdaRemoved h s
  | .hdaReleased h => Sys2Proof.Machine.execHdaReleased h s
  | .preampFault mu stat => Sys2Proof.Machine.execPreampFault mu stat s
  | .preampFrameEnd mu frame => Sys2Proof.Machine.execPreampFrameEnd mu frame s
  | .hdaTempRead h reading => Sys2Proof.Machine.execHdaTempRead h reading s
  | .clkIndexEdge h marks speed edgesOk bemf => Sys2Proof.Machine.execClkIndexEdge h marks speed edgesOk bemf s
  | .symbolClockSettled h => Sys2Proof.Machine.execSymbolClockSettled h s
  | .clkLockLost h case lateA lateB => Sys2Proof.Machine.execClkLockLost h case lateA lateB s
  | .kChangeDone mu => Sys2Proof.Machine.execKChangeDone mu s
  | .servoWedgeSample h sample => Sys2Proof.Machine.execServoWedgeSample h sample s
  | .srvEngineFault h kind act => Sys2Proof.Machine.execSrvEngineFault h kind act s
  | .seekStart mu => Sys2Proof.Machine.execSeekStart mu s
  | .coilModelUpdate hda act ms => Sys2Proof.Machine.execCoilModelUpdate hda act ms s
  | .spinupCommutate h => Sys2Proof.Machine.execSpinupCommutate h s
  | .spunUp h => Sys2Proof.Machine.execSpunUp h s
  | .spinupFail h => Sys2Proof.Machine.execSpinupFail h s
  | .spindleUnderspeed h rpm => Sys2Proof.Machine.execSpindleUnderspeed h rpm s
  | .spindleStopped h => Sys2Proof.Machine.execSpindleStopped h s
  | .headLoadStart mu => Sys2Proof.Machine.execHeadLoadStart mu s
  | .headLoaded mu copy0 records journal copy1 convKdom => Sys2Proof.Machine.execHeadLoaded mu copy0 records journal copy1 convKdom s
  | .headLoadFail mu => Sys2Proof.Machine.execHeadLoadFail mu s
  | .headUnload mu => Sys2Proof.Machine.execHeadUnload mu s
  | .headParked mu => Sys2Proof.Machine.execHeadParked mu s
  | .headUnloadFail mu => Sys2Proof.Machine.execHeadUnloadFail mu s
  | .emergencyRetract h => Sys2Proof.Machine.execEmergencyRetract h s
  | .retractParked h => Sys2Proof.Machine.execRetractParked h s
  | .captureStart h => Sys2Proof.Machine.execCaptureStart h s
  | .captureDone h => Sys2Proof.Machine.execCaptureDone h s
  | .latentTestDue mu => Sys2Proof.Machine.execLatentTestDue mu s
  | .takeIssue mu clock angle => Sys2Proof.Machine.execTakeIssue mu clock angle s
  | .tablesReady mu found => Sys2Proof.Machine.execTablesReady mu found s
  | .tsqCycle mu inputs => Sys2Proof.Machine.execTsqCycle mu inputs s
  | .tsqSafeViolation mu => Sys2Proof.Machine.execTsqSafeViolation mu s
  | .microcodeSwapInstall copiesOk => Sys2Proof.Machine.execMicrocodeSwapInstall copiesOk s
  | .sectorStart mu => Sys2Proof.Machine.execSectorStart mu s
  | .clapperDecision mu signal => Sys2Proof.Machine.execClapperDecision mu signal s
  | .sectorEncode fetch => Sys2Proof.Machine.execSectorEncode fetch s
  | .assistMonitorRead mu mon parityOk => Sys2Proof.Machine.execAssistMonitorRead mu mon parityOk s
  | .astCutNogate mu => Sys2Proof.Machine.execAstCutNogate mu s
  | .recoveryTakeSubmit mu => Sys2Proof.Machine.execRecoveryTakeSubmit mu s
  | .ldpGrant => Sys2Proof.Machine.execLdpGrant s
  | .decodeAttemptDone mu sector locals memory => Sys2Proof.Machine.execDecodeAttemptDone mu sector locals memory s
  | .converterSwap converter => Sys2Proof.Machine.execConverterSwap converter s
  | .converterSparePeriod converter ok => Sys2Proof.Machine.execConverterSparePeriod converter ok s
  | .portClaim ep port => Sys2Proof.Machine.execPortClaim ep port s
  | .taskPacket ep port bytes => Sys2Proof.Machine.execTaskPacket ep port bytes s
  | .portTagCountWrite ep port value => Sys2Proof.Machine.execPortTagCountWrite ep port value s
  | .cqEnable ep queue ctl => Sys2Proof.Machine.execCqEnable ep queue ctl s
  | .cqDisable ep queue ctl => Sys2Proof.Machine.execCqDisable ep queue ctl s
  | .cqHeadWrite ep queue value => Sys2Proof.Machine.execCqHeadWrite ep queue value s
  | .faultSumClear ep mask => Sys2Proof.Machine.execFaultSumClear ep mask s
  | .faultPinRelease ep value => Sys2Proof.Machine.execFaultPinRelease ep value s
  | .registerWrite ep address words whole => Sys2Proof.Machine.execRegisterWrite ep address words whole s
  | .intake tag => Sys2Proof.Machine.execIntake tag s
  | .overflowToSch mu => Sys2Proof.Machine.execOverflowToSch mu s
  | .dirtyBudgetGrant => Sys2Proof.Machine.execDirtyBudgetGrant s
  | .hostDataFetchDone tag sectors metas => Sys2Proof.Machine.execHostDataFetchDone tag sectors metas s
  | .writeCommit tag => Sys2Proof.Machine.execWriteCommit tag s
  | .destageHandover mu zone offset now => Sys2Proof.Machine.execDestageHandover mu zone offset now s
  | .flushComplete tag => Sys2Proof.Machine.execFlushComplete tag s
  | .readEgressDone egress => Sys2Proof.Machine.execReadEgressDone egress s
  | .hostMemoryError tag address aerBit => Sys2Proof.Machine.execHostMemoryError tag address aerBit s
  | .cqPost ep queue => Sys2Proof.Machine.execCqPost ep queue s
  | .coalesceTimer ep queue => Sys2Proof.Machine.execCoalesceTimer ep queue s
  | .eventNoticePost ep queue => Sys2Proof.Machine.execEventNoticePost ep queue s
  | .cacheFillComplete frame => Sys2Proof.Machine.execCacheFillComplete frame s
  | .rekeyPassDone => Sys2Proof.Machine.execRekeyPassDone s
  | .cacheConflictWindow => Sys2Proof.Machine.execCacheConflictWindow s
  | .bufScrubStep hmeta words holds => Sys2Proof.Machine.execBufScrubStep hmeta words holds s
  | .sramScrub sub inst sram word uncorrectable lost => Sys2Proof.Machine.execSramScrub sub inst sram word uncorrectable lost s
  | .activationHandover => Sys2Proof.Machine.execActivationHandover s
  | .activationNewFwStart found slateOk => Sys2Proof.Machine.execActivationNewFwStart found slateOk s
  | .activationDone vendor => Sys2Proof.Machine.execActivationDone vendor s
  | .activationTimeout slateOk => Sys2Proof.Machine.execActivationTimeout slateOk s
  | .faultEventAccept => Sys2Proof.Machine.execFaultEventAccept s
  | .nmiSnapshot => Sys2Proof.Machine.execNmiSnapshot s
  | .logRecordWrite ok => Sys2Proof.Machine.execLogRecordWrite ok s
  | .logSegmentErase ringH ok => Sys2Proof.Machine.execLogSegmentErase ringH ok s
  | .handshakeStall sub inst sender sinst cls => Sys2Proof.Machine.execHandshakeStall sub inst sender sinst cls s
  | .mgtHang core task => Sys2Proof.Machine.execMgtHang core task s
  | .mgtLoadPublish load => Sys2Proof.Machine.execMgtLoadPublish load s
  | .latentTest test sub inst part pass => Sys2Proof.Machine.execLatentTest test sub inst part pass s
  | .opsTick => Sys2Proof.Machine.execOpsTick s
  | .sensorReading n reading => Sys2Proof.Machine.execSensorReading n reading s
  | .sensorCompare => Sys2Proof.Machine.execSensorCompare s
  | .psEntryStep => Sys2Proof.Machine.execPsEntryStep s
  | .psExitStep => Sys2Proof.Machine.execPsExitStep s
  | .wakeTimer => Sys2Proof.Machine.execWakeTimer s
  | .wake => Sys2Proof.Machine.execWake s
  | .channelGating mu => Sys2Proof.Machine.execChannelGating mu s
  | .governorEval h busy => Sys2Proof.Machine.execGovernorEval h busy s
  | .speedTargetReached h => Sys2Proof.Machine.execSpeedTargetReached h s
  | .calCorrection => Sys2Proof.Machine.execCalCorrection s
  | .linkTrained ep speed width => Sys2Proof.Machine.execLinkTrained ep speed width s
  | .aspmL1Entry ep l12 => Sys2Proof.Machine.execAspmL1Entry ep l12 s
  | .aerCorrectable ep aerBit => Sys2Proof.Machine.execAerCorrectable ep aerBit s
  | .bar0WriteDiscard ep aerBit address lost => Sys2Proof.Machine.execBar0WriteDiscard ep aerBit address lost s
  | .doeRequest ep kind bytes => Sys2Proof.Machine.execDoeRequest ep kind bytes s
  | .doeAbort ep => Sys2Proof.Machine.execDoeAbort ep s
  | .spdmGetVersion conn request => Sys2Proof.Machine.execSpdmGetVersion conn request s
  | .spdmGetCapabilities conn request => Sys2Proof.Machine.execSpdmGetCapabilities conn request s
  | .spdmNegotiateAlgorithms conn request => Sys2Proof.Machine.execSpdmNegotiateAlgorithms conn request s
  | .spdmGetDigests conn request => Sys2Proof.Machine.execSpdmGetDigests conn request s
  | .spdmGetCertificate conn request => Sys2Proof.Machine.execSpdmGetCertificate conn request s
  | .spdmChallenge conn request ready => Sys2Proof.Machine.execSpdmChallenge conn request ready s
  | .spdmGetMeasurements conn request ready => Sys2Proof.Machine.execSpdmGetMeasurements conn request ready s
  | .spdmChunkGet conn request => Sys2Proof.Machine.execSpdmChunkGet conn request s
  | .spdmRespondIfReady conn request => Sys2Proof.Machine.execSpdmRespondIfReady conn request s
  | .spdmUnsupported conn request => Sys2Proof.Machine.execSpdmUnsupported conn request s
  | .mctpSetEndpointId inst op eid => Sys2Proof.Machine.execMctpSetEndpointId inst op eid s
  | .mctpGetEndpointId inst => Sys2Proof.Machine.execMctpGetEndpointId inst s
  | .mctpGetVersionSupport inst msgType => Sys2Proof.Machine.execMctpGetVersionSupport inst msgType s
  | .mctpGetMessageTypeSupport inst => Sys2Proof.Machine.execMctpGetMessageTypeSupport inst s
  | .ohmithRegisterRead addr count => Sys2Proof.Machine.execOhmithRegisterRead addr count s
  | .ohmithTaskPacket bytes => Sys2Proof.Machine.execOhmithTaskPacket bytes s
  | .smbusAlertResponse => Sys2Proof.Machine.execSmbusAlertResponse s
  | .read tag => Sys2Proof.Machine.execRead tag s
  | .write tag => Sys2Proof.Machine.execWrite tag s
  | .zoneAppend tag => Sys2Proof.Machine.execZoneAppend tag s
  | .verify tag => Sys2Proof.Machine.execVerify tag s
  | .flush tag => Sys2Proof.Machine.execFlush tag s
  | .zoneMgmtOpen tag => Sys2Proof.Machine.execZoneMgmtOpen tag s
  | .zoneMgmtClose tag => Sys2Proof.Machine.execZoneMgmtClose tag s
  | .zoneMgmtFinish tag => Sys2Proof.Machine.execZoneMgmtFinish tag s
  | .zoneMgmtReset tag => Sys2Proof.Machine.execZoneMgmtReset tag s
  | .zoneReport tag => Sys2Proof.Machine.execZoneReport tag s
  | .abort tag => Sys2Proof.Machine.execAbort tag s
  | .cacheCtlDisable tag => Sys2Proof.Machine.execCacheCtlDisable tag s
  | .cacheCtlEnable tag => Sys2Proof.Machine.execCacheCtlEnable tag s
  | .cacheCtlFlushRange tag => Sys2Proof.Machine.execCacheCtlFlushRange tag s
  | .cacheCtlInvalidateRange tag token => Sys2Proof.Machine.execCacheCtlInvalidateRange tag token s
  | .cacheCtlRekey tag => Sys2Proof.Machine.execCacheCtlRekey tag s
  | .scrubMedia tag => Sys2Proof.Machine.execScrubMedia tag s
  | .scrubBuffer tag => Sys2Proof.Machine.execScrubBuffer tag s
  | .identifyModule tag => Sys2Proof.Machine.execIdentifyModule tag s
  | .identifyVolume tag => Sys2Proof.Machine.execIdentifyVolume tag s
  | .getFeatureCurrent tag => Sys2Proof.Machine.execGetFeatureCurrent tag s
  | .getFeatureSaved tag => Sys2Proof.Machine.execGetFeatureSaved tag s
  | .getFeatureDefault tag => Sys2Proof.Machine.execGetFeatureDefault tag s
  | .setFeature tag token => Sys2Proof.Machine.execSetFeature tag token s
  | .getLog tag => Sys2Proof.Machine.execGetLog tag s
  | .clearLog tag token => Sys2Proof.Machine.execClearLog tag token s
  | .getSlateRead tag => Sys2Proof.Machine.execGetSlateRead tag s
  | .getSlateNewest tag => Sys2Proof.Machine.execGetSlateNewest tag s
  | .getSlateOldestUnexported tag => Sys2Proof.Machine.execGetSlateOldestUnexported tag s
  | .getSlateMarkExported tag => Sys2Proof.Machine.execGetSlateMarkExported tag s
  | .attestQuote tag nonce => Sys2Proof.Machine.execAttestQuote tag nonce s
  | .fwDownloadPart tag data => Sys2Proof.Machine.execFwDownloadPart tag data s
  | .fwDownloadCommit tag => Sys2Proof.Machine.execFwDownloadCommit tag s
  | .fwDownloadDiscard tag => Sys2Proof.Machine.execFwDownloadDiscard tag s
  | .fwActivateNextReset tag => Sys2Proof.Machine.execFwActivateNextReset tag s
  | .fwActivateImmediate tag => Sys2Proof.Machine.execFwActivateImmediate tag s
  | .powerStateSet tag => Sys2Proof.Machine.execPowerStateSet tag s
  | .powerStateGet tag => Sys2Proof.Machine.execPowerStateGet tag s
  | .hdaCtlSetHs tag => Sys2Proof.Machine.execHdaCtlSetHs tag s
  | .hdaCtlRelease tag => Sys2Proof.Machine.execHdaCtlRelease tag s
  | .hdaCtlRestart tag => Sys2Proof.Machine.execHdaCtlRestart tag s
  | .hdaCtlGet tag => Sys2Proof.Machine.execHdaCtlGet tag s
  | .calibrateHoldupTest tag => Sys2Proof.Machine.execCalibrateHoldupTest tag s
  | .calibrateCalref tag token => Sys2Proof.Machine.execCalibrateCalref tag token s
  | .calibrateChannel tag token adapted => Sys2Proof.Machine.execCalibrateChannel tag token adapted s
  | .calibrateStore tag token => Sys2Proof.Machine.execCalibrateStore tag token s
  | .calibrateConverter tag => Sys2Proof.Machine.execCalibrateConverter tag s
  | .microcodeLoadLoad tag data => Sys2Proof.Machine.execMicrocodeLoadLoad tag data s
  | .microcodeLoadClear tag => Sys2Proof.Machine.execMicrocodeLoadClear tag s
  | .microcodeLoadBind tag => Sys2Proof.Machine.execMicrocodeLoadBind tag s
  | .microcodeLoadUnbind tag => Sys2Proof.Machine.execMicrocodeLoadUnbind tag s
  | .microcodeLoadRomMode tag => Sys2Proof.Machine.execMicrocodeLoadRomMode tag s
  | .keyMgmtCreate tag token => Sys2Proof.Machine.execKeyMgmtCreate tag token s
  | .keyMgmtLock tag => Sys2Proof.Machine.execKeyMgmtLock tag s
  | .keyMgmtUnlock tag token => Sys2Proof.Machine.execKeyMgmtUnlock tag token s
  | .keyMgmtErase tag token => Sys2Proof.Machine.execKeyMgmtErase tag token s
  | .keyMgmtEnrolCustodian tag token data => Sys2Proof.Machine.execKeyMgmtEnrolCustodian tag token data s
  | .keyMgmtRemoveCustodian tag token => Sys2Proof.Machine.execKeyMgmtRemoveCustodian tag token s
  | .keyMgmtEnrolMakerKey tag token data => Sys2Proof.Machine.execKeyMgmtEnrolMakerKey tag token data s
  | .keyMgmtRemoveMakerKey tag token => Sys2Proof.Machine.execKeyMgmtRemoveMakerKey tag token s
  | .keyMgmtStatus tag => Sys2Proof.Machine.execKeyMgmtStatus tag s
  | .authNonce tag => Sys2Proof.Machine.execAuthNonce tag s
  | .servoTuneStart tag => Sys2Proof.Machine.execServoTuneStart tag s
  | .servoTuneStop tag => Sys2Proof.Machine.execServoTuneStop tag s
  | .servoTuneReplace tag token data => Sys2Proof.Machine.execServoTuneReplace tag token data s
  | .clearThermalHold tag => Sys2Proof.Machine.execClearThermalHold tag s
  | .counterCtlClearRange tag => Sys2Proof.Machine.execCounterCtlClearRange tag s
  | .counterCtlClearAll tag => Sys2Proof.Machine.execCounterCtlClearAll tag s
  | .counterCtlClearTime tag => Sys2Proof.Machine.execCounterCtlClearTime tag s
  | .faultCtlSetMask tag => Sys2Proof.Machine.execFaultCtlSetMask tag s
  | .faultCtlGetMask tag => Sys2Proof.Machine.execFaultCtlGetMask tag s
  | .faultCtlRestoreDefaults tag => Sys2Proof.Machine.execFaultCtlRestoreDefaults tag s
  | .faultCtlInject tag => Sys2Proof.Machine.execFaultCtlInject tag s
  | .volumeCtlFormat tag token rateZones zones => Sys2Proof.Machine.execVolumeCtlFormat tag token rateZones zones s
  | .volumeCtlRelease tag => Sys2Proof.Machine.execVolumeCtlRelease tag s
  | .volumeCtlTakeover tag => Sys2Proof.Machine.execVolumeCtlTakeover tag s
  | .volumeCtlSetDefaultKdom tag => Sys2Proof.Machine.execVolumeCtlSetDefaultKdom tag s
  | .eventArmBind tag => Sys2Proof.Machine.execEventArmBind tag s
  | .eventArmUnbind tag => Sys2Proof.Machine.execEventArmUnbind tag s
  | .configSpaceWrite ep field => Sys2Proof.Machine.execConfigSpaceWrite ep field s
  | .aspmL1Exit ep => Sys2Proof.Machine.execAspmL1Exit ep s
  | .functionLevelResetDone ep => Sys2Proof.Machine.execFunctionLevelResetDone ep s
  | .fanStallEnd fan rpm => Sys2Proof.Machine.execFanStallEnd fan rpm s
  | .fanCurrentLimitExit fan => Sys2Proof.Machine.execFanCurrentLimitExit fan s
  | .backEmfDetected h rpm => Sys2Proof.Machine.execBackEmfDetected h rpm s
  | .segmentListFetched tag dataList metaList => Sys2Proof.Machine.execSegmentListFetched tag dataList metaList s
  | .calrefMeasurementDone found => Sys2Proof.Machine.execCalrefMeasurementDone found s

end Sys2Proof.Machine
end

