-- ==== Sys2Proof/Safety.lean ====
section
/-! DEFINITION. What counts as a safe run, and the terms in which statements speak of a step: which parts of the state it
leaves unchanged, how a command completes, which event is offered, and the canonical form of the state's stores. -/

namespace Sys2Proof.Machine

/-- The state in which `n` steps leave the module, where each of them answers a next state. -/
def runs : Nat → State → State → Prop
  | 0, s, t => s = t
  | n + 1, s, t => ∃ u, step s = .next u ∧ runs n u t

/-- Every step of the next `n` answers a next state. -/
def safeFor (n : Nat) (s : State) : Prop := ∃ t, runs n s t

/-! ### Frames -/

/-- The parts of the state, one for each field. -/
inductive Part where
  | pending | free | out | nor | ctr | time | flt | log | thp | pwr | mns | cal | start | hdas | mus | store | ldp | eps | dual | feat
  | owners | mctpEid | alert | ports | tags | cqs | cmds | accept | mgt | buf | bca | vlt | sec
deriving DecidableEq, Repr

/-- Two states agree on a part. -/
def Part.same (s t : State) : Part → Prop
  | .pending => t.pending = s.pending
  | .free => t.free = s.free
  | .out => t.out = s.out
  | .nor => t.nor = s.nor
  | .ctr => t.ctr = s.ctr
  | .time => t.time = s.time
  | .flt => t.flt = s.flt
  | .log => t.log = s.log
  | .thp => t.thp = s.thp
  | .pwr => t.pwr = s.pwr
  | .mns => t.mns = s.mns
  | .cal => t.cal = s.cal
  | .start => t.start = s.start
  | .hdas => t.hdas = s.hdas
  | .mus => t.mus = s.mus
  | .store => t.store = s.store
  | .ldp => t.ldp = s.ldp
  | .eps => t.eps = s.eps
  | .dual => t.dual = s.dual
  | .feat => t.feat = s.feat
  | .owners => t.owners = s.owners
  | .mctpEid => t.mctpEid = s.mctpEid
  | .alert => t.alert = s.alert
  | .ports => t.ports = s.ports
  | .tags => t.tags = s.tags
  | .cqs => t.cqs = s.cqs
  | .cmds => t.cmds = s.cmds
  | .accept => t.accept = s.accept
  | .mgt => t.mgt = s.mgt
  | .buf => t.buf = s.buf
  | .bca => t.bca = s.bca
  | .vlt => t.vlt = s.vlt
  | .sec => t.sec = s.sec

/-- `t` differs from `s` in the parts listed at most. -/
def unchangedBut (ps : List Part) (s t : State) : Prop := ∀ p : Part, p ∉ ps → p.same s t

/-! ### What a step has done -/

/-- The entry of a completion (R371). -/
def doneEntry (n port : Nat) (r : Res) : Entry :=
  { tag := n, defer := r.defer, status := r.status, state := r.state, port := port, r0 := r.r0, r1 := r.r1, r2 := r.r2 }

/-- From `s` to `t` the command of tag `n` has completed with `r`: its tag is POSTED, its record is released, and its entry is the
newest that waits for the completion queue its packet names (R38, R352, R379). -/
def completes (s t : State) (n : Nat) (r : Res) : Prop :=
  (t.tag n).st = .posted ∧ t.cmd n = {} ∧
  (t.cq (moduleNo (s.cmd n).ep (s.cmd n).pkt.cqid)).waiting.getLast? = some (doneEntry n (s.cmd n).port r)

/-- An event with message `m` waits at its source's port (R543, R548). -/
def offered (t : State) (m : BitVec 64) : Prop := m ∈ t.flt.offered.map (·.msg)

/-- The newest thing that has left the module. -/
def lastOut (t : State) (o : Output) : Prop := t.out.head? = some o

/-! ### The canonical form of the state's stores -/

/-- The state's stores of tags, commands, queues, endpoints, HDAs, media units and counters are in canonical form, and so is the
copy of the counters in NOR. -/
def State.canonical (s : State) : Bool :=
  swf {} s.tags && swf {} s.cmds && swf {} s.cqs && swf {} s.eps && swf {} s.hdas && swf {} s.mus && swf {} s.ctr && swf {} s.nor.ctr

end Sys2Proof.Machine
end

