-- ==== Sys2Proof/WellFormed.lean ====
section
/-! DEFINITION. Which commands are well formed: every operand stands in the range the specification gives it. -/

namespace Sys2Proof

/-- A custodian token as presented: 160 bytes, or none (R525). -/
def tokenLen (token : List Byte) : Bool := token.isEmpty || token.length == 160

/-- The operands of a command lie in their ranges. A command outside them has no effect in the state machine either, or the
effect the specification gives an illegal value (log entry 2). -/
def Instr.wf : Instr → Bool
  | .powerOn feed _ => feed < 2
  | .feedPresent feed => feed < 2
  | .feedLost feed => feed < 2
  | .inputStageFault => true
  | .busCollapse => true
  | .holdupConverterJoin => true
  | .spinupAdmit => true
  | .spinupAllocationRun _ => true
  | .eUsableUpdate m => m.shareA ≤ 100
  | .holdupTestStart => true
  | .holdupTestDone v0 v0s v1 _ => v1 < v0s && v0s ≤ v0
  | .fanOvercurrent fan => fan < 6
  | .fanStall fan rpm => fan < 6 && rpm < 300
  | .fanDutyUpdate => true
  | .calrefPresent => true
  | .calrefGone => true
  | .moduleReset => true
  | .vltRelease _ => true
  | .moduleRestart _ => true
  | .perstAssert _ => true
  | .perstRelease _ => true
  | .hotReset _ => true
  | .functionLevelReset _ => true
  | .controllerReset _ => true
  | .controllerResetDone _ => true
  | .coldFillDone => true
  | .warmFillDone => true
  | .fiddleheadStart _ _ lost => lost.all (· < 1024)
  | .stage2Start failed _ _ bad => failed.all (fun c => 4 ≤ c && c ≤ 7) && bad.all (· ≤ 16)
  | .hdaTablesLoad bad zones => bad.all (· ≤ 16) && zones.all (·.vol < 32)
  | .replayStart => true
  | .replayDone found => found.foreign.all (· < 32) && found.openZones.all (·.vol < 32)
  | .bootReady _ => true
  | .thermalHoldRestart _ => true
  | .vaultDumpDone => true
  | .dumpRestart _ => true
  | .busSwitchOff progress => progress ≤ 2
  | .vaultBoundUpdate _ => true
  | .vaultEraseDone => true
  | .vaultBlockRetire area channel => area < 2 && channel < 8
  | .vaultChannelFailed channel progress => channel < 8 && progress ≤ 3
  | .hdaInserted _ => true
  | .hdaAccepted _ _ => true
  | .hdaRejected _ _ => true
  | .hdaRemoved _ => true
  | .hdaReleased _ => true
  | .preampFault _ stat => stat < 1024
  | .preampFrameEnd _ frame => frame.cycles ≤ 26
  | .hdaTempRead _ _ => true
  | .clkIndexEdge _ _ _ _ _ => true
  | .symbolClockSettled _ => true
  | .clkLockLost _ case _ _ => 1 ≤ case && case ≤ 3
  | .kChangeDone _ => true
  | .servoWedgeSample _ sample => sample.wedge < 640
  | .srvEngineFault _ kind act => 1 ≤ kind && kind ≤ 7 && act < 2
  | .seekStart _ => true
  | .coilModelUpdate _ _ _ => true
  | .spinupCommutate _ => true
  | .spunUp _ => true
  | .spinupFail _ => true
  | .spindleUnderspeed _ rpm => rpm < 4500
  | .spindleStopped _ => true
  | .headLoadStart _ => true
  | .headLoaded _ _ _ _ _ kdom => kdom < 1024
  | .headLoadFail _ => true
  | .headUnload _ => true
  | .headParked _ => true
  | .headUnloadFail _ => true
  | .emergencyRetract _ => true
  | .retractParked _ => true
  | .captureStart _ => true
  | .captureDone _ => true
  | .latentTestDue _ => true
  | .takeIssue _ _ angle => angle < 32768
  | .tablesReady _ found => found.reads.all fun b => b.words.length == 8
  | .tsqCycle _ x => x.micro ≤ 2 && x.nano ≤ 2
  | .tsqSafeViolation _ => true
  | .microcodeSwapInstall _ => true
  | .sectorStart _ => true
  | .clapperDecision _ _ => true
  | .sectorEncode fetch => fetch.reads.all fun b => b.words.length == 8
  | .assistMonitorRead _ mon _ => mon < 4096
  | .astCutNogate _ => true
  | .recoveryTakeSubmit _ => true
  | .ldpGrant => true
  | .decodeAttemptDone _ _ locals memory => 1 ≤ locals && memory.finding ≤ 2
  | .converterSwap converter => converter < 64
  | .converterSparePeriod converter _ => converter < 64
  | .portClaim _ port => port < 256
  | .taskPacket _ port bytes => port < 256 && bytes.length ≤ 64
  | .portTagCountWrite _ port value => port < 256 && value < 2 ^ 32
  | .cqEnable _ queue ctl => queue < 256 && ctl.getLsbD 0
  | .cqDisable _ queue ctl => queue < 256 && !ctl.getLsbD 0
  | .cqHeadWrite _ queue value => queue < 256 && value < 2 ^ 32
  | .faultSumClear _ _ => true
  | .faultPinRelease _ _ => true
  | .registerWrite _ address words _ => address < 2 ^ 26 && !words.isEmpty
  | .intake _ => true
  | .overflowToSch _ => true
  | .dirtyBudgetGrant => true
  | .hostDataFetchDone _ _ _ => true
  | .writeCommit _ => true
  | .destageHandover _ _ _ _ => true
  | .flushComplete _ => true
  | .readEgressDone egress => egress.reads.all fun b => b.words.length == 8
  | .hostMemoryError _ address aerBit => address < 2 ^ 64 && aerBit ≤ 26
  | .cqPost _ queue => queue < 256
  | .coalesceTimer _ queue => queue < 256
  | .eventNoticePost _ queue => queue < 256
  | .cacheFillComplete frame => frame < 2 ^ 22
  | .rekeyPassDone => true
  | .cacheConflictWindow => true
  | .bufScrubStep hmeta words _ => hmeta.source < 2 ^ 30 && words.length == 8
  | .sramScrub sub inst _ word _ _ => 1 ≤ sub && sub ≤ 20 && inst < 32 && word < 2 ^ 32
  | .activationHandover => true
  | .activationNewFwStart _ _ => true
  | .activationDone _ => true
  | .activationTimeout _ => true
  | .faultEventAccept => true
  | .nmiSnapshot => true
  | .logRecordWrite _ => true
  | .logSegmentErase _ _ => true
  | .handshakeStall sub inst sender sinst cls => 1 ≤ sub && sub ≤ 20 && inst < 32 && 1 ≤ sender && sender ≤ 20 && sinst < 32 && cls < 4
  | .mgtHang core _ => core < 4
  | .mgtLoadPublish load => load ≤ 100
  | .latentTest test sub inst _ _ => 1 ≤ test && test ≤ 9 && 1 ≤ sub && sub ≤ 20 && inst < 32
  | .opsTick => true
  | .sensorReading n _ => n < 16
  | .sensorCompare => true
  | .psEntryStep => true
  | .psExitStep => true
  | .wakeTimer => true
  | .wake => true
  | .channelGating _ => true
  | .governorEval _ busy => busy ≤ 100
  | .speedTargetReached _ => true
  | .calCorrection => true
  | .linkTrained _ speed width => 1 ≤ speed && speed ≤ 5 && [1, 2, 4, 8, 16].contains width
  | .aspmL1Entry _ _ => true
  | .aerCorrectable _ aerBit => aerBit < 16
  | .bar0WriteDiscard _ aerBit address _ => aerBit ≤ 26 && address < 2 ^ 26
  | .doeRequest _ _ bytes => !bytes.isEmpty && bytes.length ≤ 8184
  | .doeAbort _ => true
  | .spdmGetVersion _ request => !request.isEmpty && request.length ≤ 8184
  | .spdmGetCapabilities _ request => !request.isEmpty && request.length ≤ 8184
  | .spdmNegotiateAlgorithms _ request => !request.isEmpty && request.length ≤ 8184
  | .spdmGetDigests _ request => !request.isEmpty && request.length ≤ 8184
  | .spdmGetCertificate _ request => !request.isEmpty && request.length ≤ 8184
  | .spdmChallenge _ request _ => !request.isEmpty && request.length ≤ 8184
  | .spdmGetMeasurements _ request _ => !request.isEmpty && request.length ≤ 8184
  | .spdmChunkGet _ request => !request.isEmpty && request.length ≤ 8184
  | .spdmRespondIfReady _ request => !request.isEmpty && request.length ≤ 8184
  | .spdmUnsupported _ request => !request.isEmpty && request.length ≤ 8184
  | .mctpSetEndpointId inst op eid => inst < 32 && op < 4 && eid < 256
  | .mctpGetEndpointId inst => inst < 32
  | .mctpGetVersionSupport inst msgType => inst < 32 && msgType < 256
  | .mctpGetMessageTypeSupport inst => inst < 32
  | .ohmithRegisterRead addr count => addr < 2 ^ 32 && count < 2 ^ 32
  | .ohmithTaskPacket bytes => bytes.length == 64
  | .smbusAlertResponse => true
  | .read _ => true
  | .write _ => true
  | .zoneAppend _ => true
  | .verify _ => true
  | .flush _ => true
  | .zoneMgmtOpen _ => true
  | .zoneMgmtClose _ => true
  | .zoneMgmtFinish _ => true
  | .zoneMgmtReset _ => true
  | .zoneReport _ => true
  | .abort _ => true
  | .cacheCtlDisable _ => true
  | .cacheCtlEnable _ => true
  | .cacheCtlFlushRange _ => true
  | .cacheCtlInvalidateRange _ token => tokenLen token
  | .cacheCtlRekey _ => true
  | .scrubMedia _ => true
  | .scrubBuffer _ => true
  | .identifyModule _ => true
  | .identifyVolume _ => true
  | .getFeatureCurrent _ => true
  | .getFeatureSaved _ => true
  | .getFeatureDefault _ => true
  | .setFeature _ token => tokenLen token
  | .getLog _ => true
  | .clearLog _ token => tokenLen token
  | .getSlateRead _ => true
  | .getSlateNewest _ => true
  | .getSlateOldestUnexported _ => true
  | .getSlateMarkExported _ => true
  | .attestQuote _ nonce => nonce.length == 32
  | .fwDownloadPart _ data => data.length ≤ 0x1000000
  | .fwDownloadCommit _ => true
  | .fwDownloadDiscard _ => true
  | .fwActivateNextReset _ => true
  | .fwActivateImmediate _ => true
  | .powerStateSet _ => true
  | .powerStateGet _ => true
  | .hdaCtlSetHs _ => true
  | .hdaCtlRelease _ => true
  | .hdaCtlRestart _ => true
  | .hdaCtlGet _ => true
  | .calibrateHoldupTest _ => true
  | .calibrateCalref _ token => tokenLen token
  | .calibrateChannel _ token adapted => tokenLen token && adapted.all (fun x => x.2.length == 168)
  | .calibrateStore _ token => tokenLen token
  | .calibrateConverter _ => true
  | .microcodeLoadLoad _ data => data.length ≤ 0x1000000
  | .microcodeLoadClear _ => true
  | .microcodeLoadBind _ => true
  | .microcodeLoadUnbind _ => true
  | .microcodeLoadRomMode _ => true
  | .keyMgmtCreate _ token => tokenLen token
  | .keyMgmtLock _ => true
  | .keyMgmtUnlock _ token => tokenLen token
  | .keyMgmtErase _ token => tokenLen token
  | .keyMgmtEnrolCustodian _ token data => tokenLen token && data.length ≤ 0x1000000
  | .keyMgmtRemoveCustodian _ token => tokenLen token
  | .keyMgmtEnrolMakerKey _ token data => tokenLen token && data.length ≤ 0x1000000
  | .keyMgmtRemoveMakerKey _ token => tokenLen token
  | .keyMgmtStatus _ => true
  | .authNonce _ => true
  | .servoTuneStart _ => true
  | .servoTuneStop _ => true
  | .servoTuneReplace _ token data => tokenLen token && data.length ≤ 0x1000000
  | .clearThermalHold _ => true
  | .counterCtlClearRange _ => true
  | .counterCtlClearAll _ => true
  | .counterCtlClearTime _ => true
  | .faultCtlSetMask _ => true
  | .faultCtlGetMask _ => true
  | .faultCtlRestoreDefaults _ => true
  | .faultCtlInject _ => true
  | .volumeCtlFormat _ token _ _ => tokenLen token
  | .volumeCtlRelease _ => true
  | .volumeCtlTakeover _ => true
  | .volumeCtlSetDefaultKdom _ => true
  | .eventArmBind _ => true
  | .eventArmUnbind _ => true
  | .configSpaceWrite _ _ => true
  | .aspmL1Exit _ => true
  | .functionLevelResetDone _ => true
  | .fanStallEnd fan rpm => fan < 6 && 300 ≤ rpm && rpm ≤ 20000
  | .fanCurrentLimitExit fan => fan < 6
  | .backEmfDetected _ _ => true
  | .segmentListFetched _ _ _ => true
  | .calrefMeasurementDone _ => true

end Sys2Proof
end

