-- ==== Sys2Proof/Certificates/Slice0/Obligations.lean ====
section
/-! DEFINITION. The statements for the provers. A statement of a command's effect says that `exec` answers a next state on the states and operands that
meet the conditions, what that state holds, and what the command leaves unchanged. -/

open Sys2Proof Sys2Proof.Machine

/-- A feed that appears raises FEED_RESTORED and settles the charger; a feed lost raises FEED_LOST, is counted, and asserts the power-fail
signal (case 1) exactly when no other feed is present; an input stage fault (case 2) and a bus collapse (case 3) assert it. Asserting it
drops PWRGD, is counted, returns a bank under test to its state before the test, saves the counters and the operating time to NOR where the
save completes, which a free value says (log entry 108), and starts a dump where VLT is released or a thermal shutdown is in force, no
unreplayed image stands and a channel is good. Each clause names the parts of the state that change; the others do not. A command that
offers an event finds room in its source's buffer (R548; FaultControlAndAcceptance states the hold). -/
def Obligations.FeedsAndPowerFail : Prop :=
  (∀ (f : Nat) (s : State), f < 2 → s.mns.busUp = true → (s.mns.feed f).present = false → s.eventRoom = true →
    ∃ t, exec (.feedPresent f) s = .next t ∧
      (t.mns.feed f).present = true ∧
      offered t (mkMsg 20 0 2 f) ∧
      t.mns.chargePaused = decide (t.capacityMA < t.loadMA + 5000) ∧
      t.mns = { s.mns with feedA := t.mns.feedA, feedB := t.mns.feedB, chargePaused := t.mns.chargePaused } ∧
      unchangedBut [.ctr, .flt, .mns] s t) ∧
  (∀ (f : Nat) (s : State), f < 2 → s.mns.busUp = true → (s.mns.feed f).present = true → (s.mns.feed (1 - f)).present = true →
    ∃ t, exec (.feedLost f) s = .next t ∧
      (t.mns.feed f).present = false ∧ (t.mns.feed f).freq = 0 ∧
      offered t (mkMsg 20 0 1 f) ∧
      t.counter (aMns (0x28 + 4 * f)) = Ctr.add 31 1 (s.counter (aMns (0x28 + 4 * f))) ∧
      t.mns.chargePaused = decide (t.capacityMA < t.loadMA + 5000) ∧
      t.mns = { s.mns with feedA := t.mns.feedA, feedB := t.mns.feedB, chargePaused := t.mns.chargePaused } ∧
      unchangedBut [.mns, .flt, .ctr] s t) ∧
  (∀ (f : Nat) (s : State), f < 2 → s.mns.busUp = true → (s.mns.feed f).present = true → (s.mns.feed (1 - f)).present = false →
    s.mns.powerFail = false →
    ∃ t, exec (.feedLost f) s = .next t ∧
      (t.mns.feed f).present = false ∧
      offered t (mkMsg 20 0 1 f) ∧
      t.counter (aMns (0x28 + 4 * f)) = Ctr.add 31 1 (s.counter (aMns (0x28 + 4 * f))) ∧
      t.mns.powerFail = true ∧
      t.mns.pwrgd = false ∧
      offered t (mkMsg 20 0 3 1) ∧
      t.counter (aMns 0x30) = Ctr.add 31 1 (s.counter (aMns 0x30)) ∧
      (t.nor = { (if Config.free s.free % 2 = 0 then { s.nor with ctr := t.ctr, time := s.time } else s.nor) with
          dumpSkipped := t.nor.dumpSkipped, areaA := t.nor.areaA, areaB := t.nor.areaB }) ∧
      t.vlt.dumping = (s.vlt.dumping || (s.vlt.released || s.thp.shutdown) && !s.unreplayed && s.goodChannels != 0) ∧
      (t.mns.bank.st = (if s.mns.bank.st = .testing then s.mns.bank.beforeTest else s.mns.bank.st)) ∧
      t.free = s.free + 1 ∧
      t.vlt = { s.vlt with dumping := t.vlt.dumping, erasing := t.vlt.erasing, seq := t.vlt.seq } ∧
      t.flt = { s.flt with offered := t.flt.offered } ∧
      t.mns = { s.mns with
          feedA := t.mns.feedA, feedB := t.mns.feedB, chargePaused := t.mns.chargePaused, powerFail := t.mns.powerFail, pwrgd :=
          t.mns.pwrgd, bank := t.mns.bank } ∧
      unchangedBut [.free, .nor, .ctr, .flt, .mns, .vlt] s t) ∧
  (∀ (s : State), s.mns.busUp = true → s.mns.converterOn = true → s.feedPresent = true → s.mns.powerFail = false →
    ∃ t, exec .inputStageFault s = .next t ∧
      t.mns.powerFail = true ∧
      t.mns.pwrgd = false ∧
      offered t (mkMsg 20 0 3 2) ∧
      t.counter (aMns 0x30) = Ctr.add 31 1 (s.counter (aMns 0x30)) ∧
      (t.nor = { (if Config.free s.free % 2 = 0 then { s.nor with ctr := t.ctr, time := s.time } else s.nor) with
          dumpSkipped := t.nor.dumpSkipped, areaA := t.nor.areaA, areaB := t.nor.areaB }) ∧
      t.vlt.dumping = (s.vlt.dumping || (s.vlt.released || s.thp.shutdown) && !s.unreplayed && s.goodChannels != 0) ∧
      (t.mns.bank.st = (if s.mns.bank.st = .testing then s.mns.bank.beforeTest else s.mns.bank.st)) ∧
      t.free = s.free + 1 ∧
      t.vlt = { s.vlt with dumping := t.vlt.dumping, erasing := t.vlt.erasing, seq := t.vlt.seq } ∧
      t.flt = { s.flt with offered := t.flt.offered } ∧
      t.mns.feedA.stageFault = (s.mns.feedA.stageFault || s.mns.feedA.present) ∧
      t.mns.feedB.stageFault = (s.mns.feedB.stageFault || s.mns.feedB.present) ∧
      t.mns = { s.mns with
          feedA := t.mns.feedA, feedB := t.mns.feedB, powerFail := t.mns.powerFail, pwrgd := t.mns.pwrgd, bank := t.mns.bank } ∧
      unchangedBut [.free, .nor, .ctr, .flt, .mns, .vlt] s t) ∧
  (∀ (s : State), s.mns.busUp = true → s.mns.powerFail = false →
    ∃ t, exec .busCollapse s = .next t ∧
      t.mns.powerFail = true ∧
      t.mns.pwrgd = false ∧
      offered t (mkMsg 20 0 3 3) ∧
      t.counter (aMns 0x30) = Ctr.add 31 1 (s.counter (aMns 0x30)) ∧
      (t.nor = { (if Config.free s.free % 2 = 0 then { s.nor with ctr := t.ctr, time := s.time } else s.nor) with
          dumpSkipped := t.nor.dumpSkipped, areaA := t.nor.areaA, areaB := t.nor.areaB }) ∧
      t.vlt.dumping = (s.vlt.dumping || (s.vlt.released || s.thp.shutdown) && !s.unreplayed && s.goodChannels != 0) ∧
      (t.mns.bank.st = (if s.mns.bank.st = .testing then s.mns.bank.beforeTest else s.mns.bank.st)) ∧
      t.free = s.free + 1 ∧
      t.vlt = { s.vlt with dumping := t.vlt.dumping, erasing := t.vlt.erasing, seq := t.vlt.seq } ∧
      t.flt = { s.flt with offered := t.flt.offered } ∧
      t.mns = { s.mns with powerFail := t.mns.powerFail, pwrgd := t.mns.pwrgd, bank := t.mns.bank } ∧
      unchangedBut [.free, .nor, .ctr, .flt, .mns, .vlt] s t)

/-- The converter joins the bus; a measurement computes E_USABLE and the bound of R84 and R88, and a bank at 50.0 V leaves CHARGING
(DEDUCED, log entry 6); a due test starts on a full bank; a test that ends sets capacitance and ESR of R86, WORN and FAILED of R87 (a failed
bank has E_BOUND 0), and returns the bank to READY or FAILED; CALREF is connected and disconnected, which ends a CALIBRATE CALREF that waits
with CALREF_ABSENT. A command that offers an event finds room in its source's buffer (R548; FaultControlAndAcceptance states the hold). -/
def Obligations.HoldupAndCalref : Prop :=
  (∀ (s : State), s.mns.busUp = true → s.mns.converterOn = false →
    exec .holdupConverterJoin s = .next ({ s with mns := { s.mns with converterOn := true } })) ∧
  (∀ (m : Measured) (s : State), s.mns.busUp = true →
    ∃ t, exec (.eUsableUpdate m) s = .next t ∧
      t.mns.bank.vBank = m.vBank ∧ t.mns.bank.temp = m.temp ∧
      t.mns.bank.eUsable = Nat.min 65535 (usableEnergy m.vBank s.mns.bank.capMF s.mns.bank.esrMO) ∧
      (t.mns.bank.st = (if s.mns.bank.st = .charging ∧ 5000 ≤ m.vBank then .ready else s.mns.bank.st)) ∧
      (t.mns.bank.eBound = (if s.mns.bank.st = .failed then 0 else energyBound t.mns.bank.eUsable)) ∧
      t.mns.converterOn = (s.mns.converterOn && decide (m.busV < 11600)) ∧
      t.mns.busV = m.busV ∧ t.mns.busI = m.busI ∧ t.mns.shareA = m.shareA ∧
      (t.mns.feedA = { s.mns.feedA with vrms := m.vrmsA, freq := if s.mns.feedA.present then m.freqA else 0, pin := m.pinA }) ∧
      (t.mns.feedB = { s.mns.feedB with vrms := m.vrmsB, freq := if s.mns.feedB.present then m.freqB else 0, pin := m.pinB }) ∧
      t.mns = { s.mns with
          feedA := t.mns.feedA, feedB := t.mns.feedB, shareA := t.mns.shareA, busV := t.mns.busV, busI := t.mns.busI, converterOn :=
          t.mns.converterOn, bank := t.mns.bank } ∧
      unchangedBut [.mns] s t) ∧
  (∀ (s : State), s.mns.busUp = true → s.testDue = true → s.mns.bank.st ≠ .testing → s.mns.chargePaused = false → 5000 ≤ s.mns.bank.vBank
    → s.mns.powerFail = false →
    exec .holdupTestStart s = .next ({ s with
        mns := { s.mns with
          bank := { s.mns.bank with st := .testing, beforeTest := s.mns.bank.st } } })) ∧
  (∀ (v0 v0s v1 : Nat) (cellOver : Bool) (s : State), s.mns.bank.st = .testing → v0s ≤ v0 → v1 < v0s → s.eventRoom = true →
    ∃ t, exec (.holdupTestDone v0 v0s v1 cellOver) s = .next t ∧
      t.mns.bank.capMF = Nat.min 65535 (500000 / (v0s - v1)) ∧ t.nor.capMF = t.mns.bank.capMF ∧
      t.mns.bank.esrMO = Nat.min 4095 ((v0 - v0s) * 2) ∧ t.nor.esrMO = t.mns.bank.esrMO ∧
      (t.mns.bank.worn = decide (t.mns.bank.capMF < 2400 ∨ 600 < t.mns.bank.esrMO)) ∧
      (t.mns.bank.st = (if cellOver || energyBound (usableEnergy 5000 t.mns.bank.capMF t.mns.bank.esrMO) == 0 then .failed else .ready)) ∧
      (t.mns.bank.eBound = (if t.mns.bank.st = .failed then 0 else s.mns.bank.eBound)) ∧
      offered t (mkMsg 20 0 4 t.mns.bank.capMF) ∧
      t.mns.bank.tested = true ∧ t.mns.bank.testOph = s.time.oph ∧ t.mns.bank.sinceTest = 0 ∧ t.mns.bank.hostRequests = [] ∧
      t.mns = { s.mns with bank := t.mns.bank } ∧
      t.nor = { s.nor with capMF := t.nor.capMF, esrMO := t.nor.esrMO } ∧
      (s.mns.bank.hostRequests = [] → unchangedBut [.mns, .nor, .flt, .ctr] s t) ∧
      unchangedBut [.free, .nor, .ctr, .flt, .log, .pwr, .mns, .cal, .hdas, .mus, .store, .tags, .cqs, .cmds, .mgt, .buf, .bca] s t) ∧
  (∀ (s : State), s.mns.busUp = true → s.mns.calref = false →
    exec .calrefPresent s = .next ({ s with mns := { s.mns with calref := true } })) ∧
  (∀ (s : State), s.mns.calref = true →
    ∃ t, exec .calrefGone s = .next t ∧
      t.mns = { s.mns with calref := false } ∧
      t.cal = { s.cal with calrefCmd := none, busy := s.cal.busy && s.cal.calrefCmd.isNone } ∧
      (∀ n, s.cal.calrefCmd = some n → s.live n = true → completes s t n (conflict 0x000E)) ∧
      (s.cal.calrefCmd = none → unchangedBut [.mns, .cal] s t) ∧
      unchangedBut [.mns, .cal, .tags, .cqs, .cmds] s t)

/-- The lowest waiting HDA is admitted when no power failure is in force, the concurrency, the charger and the ledger allow it (R81, R82):
its allocation is its spin-up current, its spindle aligns with half of SP_IMAX. Commutation makes it STARTING, open loop, with a phase
current that the spec leaves open (a free value up to SP_IMAX); the back-EMF speed is kept, and one above the overspeed limit is engine
fault 7. The allocation becomes the running current. A STARTING spindle that is locked within 2 rpm of its target becomes SPUN_UP; an HDA
with no transition goes from HS3 to HS2, and a transition to HS2 ends there. A spin-up that fails coasts with the bridge open and no
current, with one event, and ends a transition, whose command answers MEDIA_UNIT_OFFLINE. A command that offers an event finds room in its
source's buffer (R548; FaultControlAndAcceptance states the hold). A speed below 4,500 rpm with an actuator not parked raises
SPINDLE_UNDERSPEED. It, a power failure or a thermal shutdown, and an engine fault (kinds 1 to 7, with its event, code and counter) each
make the actuators that are not parked retract, with one event if there is one, RETRACTED and RET_CAUSE 3; 1, or 4 in a thermal shutdown;
and 2; the causes 2 and 3 stop both media units (R47). A retract that ends leaves the actuators that were RETRACTING parked. A spindle that
has stopped has no current, back-EMF 0 and no allocation; in HS3 its HP5 goes off. An HDA in a transition, or with takes in progress, may
change in more than the clauses name. -/
def Obligations.SpindleStartsAndEnds : Prop :=
  (∀ (h : Nat) (r : List Nat) (s : State), s.mns.waiting = h :: r → s.mns.powerFail = false → s.spinningUp < s.feat0 0x09 →
    s.mns.chargePaused = false → s.ledgerMA + (s.desc h).iSpinup ≤ s.capacityMA →
    ∃ t, exec .spinupAdmit s = .next t ∧
      t.mns.waiting = r ∧
      sget t.mns.alloc h .zero = .spinUp (s.desc h).iSpinup ∧
      (∀ n, n ≠ h → sget t.mns.alloc n .zero = sget s.mns.alloc n .zero) ∧
      t.hda h = { s.hda h with
          onlyCtl := false, clk := { (s.hda h).clk with slewing := (t.hda h).clk.slewing }, srv := { (s.hda h).srv with
            spin := .aligning, retracted := false, commDone := false, bridge := .driven, phaseI := (s.desc h).spImax / 2 } } ∧
      (t.hda h).clk.slewing = !(s.hda h).clk.within2 (t.speedTarget h) ∧
      (∀ n, n ≠ h → t.hda n = s.hda n) ∧
      t.mns.chargePaused = decide (t.capacityMA < t.loadMA + 5000) ∧
      t.mns = { s.mns with waiting := t.mns.waiting, alloc := t.mns.alloc, chargePaused := t.mns.chargePaused } ∧
      unchangedBut [.mns, .hdas] s t) ∧
  (∀ (h : HdaNo) (s : State), (s.hda h).srv.spin = .aligning →
    ∃ t, exec (.spinupCommutate h) s = .next t ∧
      t.hda h = { s.hda h with srv := { (s.hda h).srv with spin := .starting, phaseI := Config.free s.free % ((s.desc h).spImax + 1) } } ∧
      t.free = s.free + 1 ∧
      (∀ n, n ≠ (h : Nat) → t.hda n = s.hda n) ∧
      unchangedBut [.free, .hdas] s t) ∧
  (∀ (h : HdaNo) (rpm : Nat) (s : State), (s.hda h).srv.spin = .starting → ((s.hda h).desc = none ∨ rpm ≤ (s.desc h).spdMax + 150) →
    ∃ t, exec (.backEmfDetected h rpm) s = .next t ∧
      t.hda h = { s.hda h with srv := { (s.hda h).srv with bemf := rpm, phaseI := Config.free s.free % ((s.desc h).spImax + 1) } } ∧
      t.free = s.free + 1 ∧
      (∀ n, n ≠ (h : Nat) → t.hda n = s.hda n) ∧
      unchangedBut [.free, .hdas] s t) ∧
  (∀ (h : HdaNo) (rpm : Nat) (s : State), (s.hda h).srv.spin = .starting → (s.hda h).desc.isSome = true → (s.desc h).spdMax + 150 < rpm →
    (s.hda h).srv.fault ≠ 7 → s.eventRoom = true →
    ∃ t, exec (.backEmfDetected h rpm) s = .next t ∧
      (t.hda h).srv.bemf = rpm ∧ (t.hda h).srv.fault = 7 ∧
      offered t (mkMsg 12 h 1 7) ∧
      ((s.mu (2 * h)).tsq.desc = none → (s.mu (2 * h + 1)).tsq.desc = none → (∀ n, n ≠ (h : Nat) → t.hda n = s.hda n) ∧ ∀ m, m / 2 ≠ (h :
        Nat) → t.mu m = s.mu m) ∧
      unchangedBut [.free, .out, .ctr, .flt, .log, .pwr, .mns, .cal, .hdas, .mus, .store, .ldp, .tags, .cqs, .cmds, .mgt, .buf, .bca] s t) ∧
  (∀ (h : HdaNo) (s : State), (sget s.mns.alloc h .zero).spinning = true →
    ∃ t, exec (.spinupAllocationRun h) s = .next t ∧
      sget t.mns.alloc h .zero = .run (s.desc h).iRun ∧
      (∀ n, n ≠ (h : Nat) → sget t.mns.alloc n .zero = sget s.mns.alloc n .zero) ∧
      t.mns.chargePaused = decide (t.capacityMA < t.loadMA + 5000) ∧
      t.mns = { s.mns with alloc := t.mns.alloc, chargePaused := t.mns.chargePaused } ∧
      unchangedBut [.mns] s t) ∧
  (∀ (h : HdaNo) (s : State), (s.hda h).srv.spin = .starting → (s.hda h).clk.lock = .locked → (s.hda h).clk.within2 (s.speedTarget h) =
    true → (s.hda h).hsTransit = false →
    ∃ t, exec (.spunUp h) s = .next t ∧
      sget t.mns.alloc h .zero = .run (s.desc h).iRun ∧
      (∀ n, n ≠ (h : Nat) → sget t.mns.alloc n .zero = sget s.mns.alloc n .zero) ∧
      t.mns.chargePaused = decide (t.capacityMA < t.loadMA + 5000) ∧
      t.mns = { s.mns with alloc := t.mns.alloc, chargePaused := t.mns.chargePaused } ∧
      (t.hda h).srv = { (s.hda h).srv with spin := .spunUp } ∧
      ((t.hda h).hs = (if (s.hda h).hs = 3 then 2 else (s.hda h).hs)) ∧
      (∀ n, n ≠ (h : Nat) → t.hda n = s.hda n) ∧
      unchangedBut [.mns, .hdas, .cal, .cqs, .cmds, .tags] s t) ∧
  (∀ (h : HdaNo) (s : State), (s.hda h).srv.spin = .starting → (s.hda h).clk.lock = .locked → (s.hda h).clk.within2 (s.speedTarget h) =
    true → (s.hda h).hsTransit = true → (s.hda h).hs = 3 → (s.hda h).hsTarget = 2 → (s.hda h).hsRestart = false →
    ∃ t, exec (.spunUp h) s = .next t ∧
      sget t.mns.alloc h .zero = .run (s.desc h).iRun ∧
      (∀ n, n ≠ (h : Nat) → sget t.mns.alloc n .zero = sget s.mns.alloc n .zero) ∧
      (t.hda h).srv.spin = .spunUp ∧ (t.hda h).hs = 2 ∧ (t.hda h).hsTransit = false ∧
      (∀ n, (s.hda h).hsCmd = some n → s.live n = true → (t.tag n).st = .posted ∧ t.cmd n = {}) ∧
      (∀ n, n ≠ (h : Nat) → t.hda n = s.hda n) ∧
      (∀ m, m / 2 ≠ (h : Nat) → t.mu m = s.mu m) ∧
      unchangedBut [.free, .pwr, .mns, .cal, .hdas, .mus, .tags, .cqs, .cmds] s t) ∧
  (∀ (h : HdaNo) (s : State), ((s.hda h).srv.spin = .aligning ∨ (s.hda h).srv.spin = .starting) → s.eventRoom = true →
    ∃ t, exec (.spinupFail h) s = .next t ∧
      (t.hda h).srv = { (s.hda h).srv with spin := .coasting, bridge := .open_, phaseI := 0, spinAmp := 0 } ∧
      (t.hda h).hsTransit = false ∧
      offered t (mkMsg 12 h 4 0) ∧
      (∀ n, n ≠ (h : Nat) → t.hda n = s.hda n) ∧
      (∀ n, (s.hda h).hsTransit = true → (s.hda h).hsCmd = some n → s.live n = true → completes s t n { status := 0x0302 }) ∧
      ((s.hda h).hsTransit = false → unchangedBut [.hdas, .flt, .ctr] s t) ∧
      unchangedBut [.ctr, .flt, .mns, .hdas, .tags, .cqs, .cmds] s t) ∧
  (∀ (h : HdaNo) (rpm : Nat) (s : State), rpm < 4500 → s.bothParked h = false → (sget s.pwr.port h {}).on = true →
    ∃ t, exec (.spindleUnderspeed h rpm) s = .next t ∧
      offered t (mkMsg 12 h 3 rpm) ∧
      offered t (mkMsg 12 h 2 (3 + flag ((s.mu (2 * h)).act.st != .parked) * 16 + flag ((s.mu (2 * h + 1)).act.st != .parked) * 32)) ∧
      (t.hda h).srv.retracted = true ∧ (t.hda h).srv.retCause = 3 ∧ (t.hda h).srv.bemf = rpm ∧
      (∀ m, m / 2 = (h : Nat) → (t.mu m).stopped = true) ∧
      (∀ m, m / 2 = (h : Nat) → (s.mu m).act.st ≠ .parked → (t.mu m).act.st = .retracting) ∧
      ((s.mu (2 * h)).tsq.desc = none → (s.mu (2 * h + 1)).tsq.desc = none → (∀ n, n ≠ (h : Nat) → t.hda n = s.hda n) ∧ ∀ m, m / 2 ≠ (h :
        Nat) → t.mu m = s.mu m) ∧
      unchangedBut [.free, .out, .ctr, .flt, .log, .pwr, .mns, .cal, .hdas, .mus, .store, .ldp, .tags, .cqs, .cmds, .mgt, .buf, .bca] s t) ∧
  (∀ (h : HdaNo) (s : State), (s.mns.powerFail = true ∨ s.thp.shutdown = true) → (s.unparked (2 * h) = true ∨ s.unparked (2 * h + 1) =
    true) → (sget s.pwr.port h {}).on = true →
    ∃ t, exec (.emergencyRetract h) s = .next t ∧
      (offered t (mkMsg 12 h 2 ((if s.mns.powerFail then 1 else 4) + flag ((s.mu (2 * h)).act.st != .parked) * 16 + flag ((s.mu (2 * h +
        1)).act.st != .parked) * 32))) ∧
      ((t.hda h).srv.retracted = true ∧ (t.hda h).srv.retCause = (if s.mns.powerFail then 1 else 4)) ∧
      ((t.hda h).srv.spin = (if (s.hda h).srv.spin = .stopped then .stopped else .coasting) ∧ (t.hda h).srv.bridge = .open_ ∧ (t.hda
        h).srv.phaseI = 0) ∧
      (∀ m, m / 2 = (h : Nat) → (s.mu m).act.st ≠ .parked → (t.mu m).act.st = .retracting) ∧
      ((s.mu (2 * h)).tsq.desc = none → (s.mu (2 * h + 1)).tsq.desc = none → (∀ n, n ≠ (h : Nat) → t.hda n = s.hda n) ∧ ∀ m, m / 2 ≠ (h :
        Nat) → t.mu m = s.mu m) ∧
      unchangedBut [.free, .out, .ctr, .flt, .log, .pwr, .mns, .cal, .hdas, .mus, .store, .ldp, .tags, .cqs, .cmds, .mgt, .buf, .bca] s t) ∧
  (∀ (h : HdaNo) (kind act : Nat) (s : State), 1 ≤ kind → kind ≤ 7 → act < 2 → (sget s.pwr.port h {}).on = true →
    ∃ t, exec (.srvEngineFault h kind act) s = .next t ∧
      offered t (mkMsg 12 h 1 (kind + act * 16)) ∧
      (t.hda h).srv.fault = kind ∧ (t.hda h).srv.retracted = true ∧ (t.hda h).srv.retCause = 2 ∧
      t.counter (aSrv h 0x34) = Ctr.add 31 1 (s.counter (aSrv h 0x34)) ∧
      (∀ m, m / 2 = (h : Nat) → (t.mu m).stopped = true) ∧
      (s.bothParked h = false → offered t (mkMsg 12 h 2 (2 + flag ((s.mu (2 * h)).act.st != .parked) * 16 + flag ((s.mu (2 * h +
        1)).act.st != .parked) * 32))) ∧
      (∀ m, m / 2 = (h : Nat) → (s.mu m).act.st ≠ .parked → (t.mu m).act.st = .retracting) ∧
      ((s.mu (2 * h)).tsq.desc = none → (s.mu (2 * h + 1)).tsq.desc = none → (∀ n, n ≠ (h : Nat) → t.hda n = s.hda n) ∧ ∀ m, m / 2 ≠ (h :
        Nat) → t.mu m = s.mu m) ∧
      unchangedBut [.free, .out, .ctr, .flt, .log, .pwr, .mns, .cal, .hdas, .mus, .store, .ldp, .tags, .cqs, .cmds, .mgt, .buf, .bca] s t) ∧
  (∀ (h : HdaNo) (s : State), ((s.mu (2 * h)).act.st = .retracting ∨ (s.mu (2 * h + 1)).act.st = .retracting) → (s.hda h).hsTransit =
    false → (s.hda h).srv.resetDue = false → (s.hda h).st ≠ .releasing →
    ∃ t, exec (.retractParked h) s = .next t ∧
      (∀ m, m / 2 = (h : Nat) → t.mu m = (if (s.mu m).act.st = .retracting then { s.mu m with
          act := { (s.mu m).act with st := .parked, ramp := .rest, acquired := 0, drvV := 0, drvM := 0 } } else s.mu m)) ∧
      ((t.hda h).srv = (if (s.hda h).srv.retCause = 2 ∨ (s.hda h).srv.retCause = 3 then (s.hda h).srv.coasts else (s.hda h).srv)) ∧
      (∀ n, n ≠ (h : Nat) → t.hda n = s.hda n) ∧
      (∀ m, m / 2 ≠ (h : Nat) → t.mu m = s.mu m) ∧
      unchangedBut [.hdas, .mus] s t) ∧
  (∀ (h : HdaNo) (s : State), ((s.hda h).srv.spin = .stopping ∨ (s.hda h).srv.spin = .coasting) → (s.hda h).hsTransit = false →
    ∃ t, exec (.spindleStopped h) s = .next t ∧
      (t.hda h).srv = { (s.hda h).srv with spin := .stopped, bridge := .open_, phaseI := 0, spinAmp := 0, bemf := 0 } ∧
      sget t.mns.alloc h .zero = .zero ∧
      (∀ n, n ≠ (h : Nat) → sget t.mns.alloc n .zero = sget s.mns.alloc n .zero) ∧
      (sget t.pwr.port h {}).on = ((sget s.pwr.port h {}).on && (s.hda h).hs != 3) ∧
      (∀ n, n ≠ (h : Nat) → t.hda n = s.hda n) ∧
      (∀ m, m / 2 ≠ (h : Nat) → t.mu m = s.mu m) ∧
      ((s.hda h).hs ≠ 3 → unchangedBut [.hdas, .mns] s t) ∧
      unchangedBut [.hdas, .mns, .mus, .pwr] s t)

/-- An actuator that may load starts to load at the outermost track, with 50 mA for the measurement of the coil. At its first read settle
after the seek from the ramp it is FOLLOWING, its hour of load is kept, its heater is on and its load counted; the format it reads at its
first load is in force exactly when the first copy that checks names the HDA and the actuator and the records pass the checks (their layout
is log entry 109). A failed load goes back to the ramp, stops the media unit, raises its event and ends a transition. An unload that is due
starts with the seek to the outermost track and the heater off; it ends PARKED. One that fails raises its event and drives the actuator home
with RET_I. Other actuators and HDAs stay as they are where no take runs. A command that offers an event finds room in its source's buffer
(R548; FaultControlAndAcceptance states the hold). -/
def Obligations.HeadsLoadAndUnload : Prop :=
  (∀ (m : MuNo) (s : State), s.mayLoad m = true →
    ∃ t, exec (.headLoadStart m) s = .next t ∧
      (t.mu m).act.st = .loading ∧ (t.mu m).act.ramp = .measure ∧ (t.mu m).act.drvV = milliamps 50 ∧ (t.mu m).act.acquired = 0 ∧ (t.mu
        m).act.target = 0 ∧ (t.mu m).act.rdSettled = false ∧ (t.mu m).act.wrSettled = false ∧
      t.mu m = { s.mu m with act := (t.mu m).act } ∧
      (∀ n, n ≠ (m : Nat) → t.mu n = s.mu n) ∧
      unchangedBut [.mus] s t) ∧
  (∀ (m : MuNo) (b0 : List Byte) (f : FmtRecords) (js : List JournalEntry) (b1 : List Byte) (k : Nat) (s : State), (s.mu m).act.st =
    .loading → (s.mu m).act.ramp = .settle → bits (s.mu m).act.pol1.toNat 15 8 ≤ (s.mu m).act.rdRun → s.eventRoom = true →
    ∃ t, exec (.headLoaded m b0 f js b1 k) s = .next t ∧
      (t.mu m).act.st = .following ∧ (t.mu m).act.ramp = .rest ∧ (t.mu m).act.rdSettled = true ∧ (t.mu m).act.loadedOph = s.time.oph ∧
      (t.mu m).recovered = true ∧
      (t.mu m).pa = (s.mu m).pa.loaded ∧
      t.counter (aSrv ((m : Nat) / 2) (0x28 + (m : Nat) % 2 * 4)) = Ctr.add 31 1 (s.counter (aSrv ((m : Nat) / 2) (0x28 + (m : Nat) % 2 *
        4))) ∧
      ((s.mu m).recovered = false → (t.mu m).formatted = (s.copyNames m (([b0, b1].find? copyChecks).getD []) && (checkedFormat (s.headsOf
        m) f).isSome)) ∧
      ((s.mu m).recovered = true → (t.mu m).formatted = (s.mu m).formatted ∧ (t.mu m).fmt = (s.mu m).fmt ∧ (t.mu m).zones = (s.mu
        m).zones) ∧
      (∀ n, n / 2 ≠ (m : Nat) / 2 → t.mu n = s.mu n) ∧
      (∀ n, n ≠ (m : Nat) / 2 → t.hda n = s.hda n) ∧
      unchangedBut [.free, .ctr, .flt, .pwr, .mns, .cal, .hdas, .mus, .tags, .cqs, .cmds] s t) ∧
  (∀ (m : MuNo) (s : State), (s.mu m).act.st = .loading → (s.mu m).tsq.desc = none → s.eventRoom = true →
    ∃ t, exec (.headLoadFail m) s = .next t ∧
      (t.mu m).act = (s.mu m).act.unloads ∧ (t.mu m).act.st = .unloading ∧ (t.mu m).stopped = true ∧
      offered t (mkMsg 12 ((m : Nat) / 2) 5 ((m : Nat) % 2)) ∧
      (t.hda ((m : Nat) / 2)).hsTransit = false ∧
      (∀ n, n ≠ (m : Nat) → t.mu n = s.mu n) ∧
      (∀ n, n ≠ (m : Nat) / 2 → t.hda n = s.hda n) ∧
      (∀ n, (s.hda ((m : Nat) / 2)).hsTransit = true → (s.hda ((m : Nat) / 2)).hsCmd = some n → s.live n = true → completes s t n
        { status := 0x0302 }) ∧
      unchangedBut [.mus, .hdas, .mns, .cmds, .tags, .cqs, .flt, .ctr] s t) ∧
  (∀ (m : MuNo) (s : State), s.mayUnload m = true →
    ∃ t, exec (.headUnload m) s = .next t ∧
      (t.mu m).act = { (s.mu m).act with
          st := .unloading, ramp := .seek, target := 0, offset := 0, rdSettled := false, wrSettled := false, seek := none } ∧
      (t.mu m).pa = (s.mu m).pa.heaterOff ∧
      t.mu m = { s.mu m with act := (t.mu m).act, pa := (t.mu m).pa } ∧
      (∀ n, n ≠ (m : Nat) → t.mu n = s.mu n) ∧
      unchangedBut [.mus] s t) ∧
  (∀ (m : MuNo) (s : State), (s.mu m).act.st = .unloading → ((s.mu m).act.ramp = .home ∨ (s.mu m).act.ramp = .forced) → (s.hda ((m : Nat)
    / 2)).hsTransit = false → (s.hda ((m : Nat) / 2)).srv.resetDue = false → (s.hda ((m : Nat) / 2)).st ≠ .releasing →
    ∃ t, exec (.headParked m) s = .next t ∧
      (t.mu m).act = { (s.mu m).act with st := .parked, ramp := .rest, acquired := 0, drvV := 0, drvM := 0 } ∧
      t.mu m = { s.mu m with act := (t.mu m).act } ∧
      (∀ n, n ≠ (m : Nat) → t.mu n = s.mu n) ∧
      unchangedBut [.mus] s t) ∧
  (∀ (m : MuNo) (s : State), (s.mu m).act.st = .unloading → (s.mu m).act.ramp ≠ .forced → s.eventRoom = true →
    ∃ t, exec (.headUnloadFail m) s = .next t ∧
      (t.mu m).act = { (s.mu m).act with ramp := .forced, uV0 := 0, uV := 0, uM := 0, drvM := 0, drvV := milliamps (s.actDesc m).retI } ∧
      t.mu m = { s.mu m with act := (t.mu m).act } ∧
      (∀ n, n ≠ (m : Nat) → t.mu n = s.mu n) ∧
      offered t (mkMsg 12 ((m : Nat) / 2) 6 ((m : Nat) % 2)) ∧
      unchangedBut [.mus, .flt, .ctr] s t)

/-- A seek whose delay has passed starts: its target is the centre of the track plus the offset, and both settle flags clear (R262, R263).
The 1 ms update moves t_coil as R265 has it for a descriptor with a coil time constant (with none the spec gives no value: a free value),
and R266 decides the throttle, whose beginning raises one event and is counted; of an actuator that measures its coil it drives the next
millisecond of R271 step 1, and the resistance found is a free value (log entry 107). A capture starts at a wedge 0 sample after SETTLE
samples, and ends with 16,384 samples: its page is kept, its command completes and the actuator settles again. A load of 720 hours is
reported once. A command that offers an event finds room in its source's buffer (R548; FaultControlAndAcceptance states the hold). -/
def Obligations.SeekCoilCapture : Prop :=
  (∀ (m : MuNo) (r : SeekReq) (s : State), (s.mu m).act.seek = some r → r.jitter = 0 → (s.mu m).act.canSeek = true → (s.mu
    m).act.throttled = false → (s.hda ((m : Nat) / 2)).srv.lfsr.isSome = true →
    ∃ t, exec (.seekStart m) s = .next t ∧
      (t.mu m).act.seek = none ∧ (t.mu m).act.head = r.head ∧
      (t.mu m).act.target = (r.track * 4096 : Nat) + (s.mu m).act.offset ∧
      (t.mu m).act.rdSettled = false ∧ (t.mu m).act.wrSettled = false ∧
      ((t.mu m).act.st = .settling ∨ (t.mu m).act.st = .seeking) ∧
      t.mu m = { s.mu m with act := (t.mu m).act } ∧
      (∀ n, n ≠ (m : Nat) → t.mu n = s.mu n) ∧
      unchangedBut [.mus] s t) ∧
  (∀ (h : HdaNo) (a : Fin 2) (ms : Nat) (s : State), (sget s.pwr.port h {}).on = true → (s.actDesc (2 * h + a)).coilTau ≠ 0 → s.eventRoom
    = true →
    ∃ t, exec (.coilModelUpdate h a ms) s = .next t ∧
      (t.mu (2 * h + a)).act.tCoil = coilNext (s.actDesc (2 * h + a)) (s.coilBase h) (s.mu (2 * h + a)).act.tCoil ms ∧
      (t.mu (2 * h + a)).act.throttled = throttleNext (s.actDesc (2 * h + a)) (bits (s.mu (2 * h + a)).act.pol0.toNat 15 8) (t.mu (2 * h +
        a)).act.tCoil (s.mu (2 * h + a)).act.kept.rms (s.mu (2 * h + a)).act.throttled ∧
      ((t.mu (2 * h + a)).act.throttled = true → (s.mu (2 * h + a)).act.throttled = false → offered t (mkMsg 12 h 7 a) ∧ t.counter (aSrv h
        0x30) = Ctr.add 31 1 (s.counter (aSrv h 0x30))) ∧
      t.mu (2 * h + a) = { s.mu (2 * h + a) with
          act := { (s.mu (2 * h + a)).act.kept with
            tCoil := (t.mu (2 * h + a)).act.tCoil, throttled := (t.mu (2 * h + a)).act.throttled }.measures (Config.free s.free) } ∧
      (∀ m : Nat, m ≠ 2 * h + a → t.mu m = s.mu m) ∧
      t.free = s.free + 1 ∧
      unchangedBut [.free, .mus, .flt, .ctr] s t) ∧
  (∀ (h : HdaNo) (a : Fin 2) (ms : Nat) (s : State), (sget s.pwr.port h {}).on = true → (s.actDesc (2 * h + a)).coilTau = 0 → s.eventRoom
    = true →
    ∃ t, exec (.coilModelUpdate h a ms) s = .next t ∧
      (t.mu (2 * h + a)).act.tCoil = Config.free s.free ∧
      t.free = s.free + 2 ∧
      t.mu (2 * h + a) = { s.mu (2 * h + a) with
          act := { (s.mu (2 * h + a)).act.kept with
            tCoil := (t.mu (2 * h + a)).act.tCoil, throttled := (t.mu (2 * h + a)).act.throttled }.measures (Config.free (s.free + 1)) } ∧
      (∀ m : Nat, m ≠ 2 * h + a → t.mu m = s.mu m) ∧
      unchangedBut [.free, .ctr, .flt, .mus] s t) ∧
  (∀ (h : HdaNo) (u : Tune) (s : State), (s.hda h).srv.tune = some u → u.injecting = true → u.capturing = false → u.settle ≤ u.count →
    (s.mu (2 * h + u.act)).act.beforeZero = true →
    ∃ t, exec (.captureStart h) s = .next t ∧
      (t.hda h).srv.tune = some { u with
          capturing := true, skip := 0, data := [], taken := 0, invalid := 0, saturated := 0, bandSwitch := false, band := (s.hda
          h).clk.band, speed := (s.hda h).clk.meas, markCnt := (s.hda h).clk.markCnt } ∧
      t.hda h = { s.hda h with srv := { (s.hda h).srv with tune := (t.hda h).srv.tune } } ∧
      (∀ n, n ≠ (h : Nat) → t.hda n = s.hda n) ∧
      unchangedBut [.hdas] s t) ∧
  (∀ (h : HdaNo) (u : Tune) (s : State), (s.hda h).srv.tune = some u → u.capturing = true → u.taken = 16384 →
    ∃ t, exec (.captureDone h) s = .next t ∧
      (t.hda h).srv.tune = none ∧
      sget t.mgt.capture h [] = u.page false ∧
      t.hda h = { s.hda h with srv := { (s.hda h).srv with tune := none } } ∧
      (∀ n, n ≠ (h : Nat) → t.hda n = s.hda n) ∧
      (∀ n, u.cmd = some n → s.live n = true → completes s t n { r0 := u.markCnt.toNat, r1 := u.flags false }) ∧
      ((s.mu (2 * h + u.act)).act.st = .tuning → (t.mu (2 * h + u.act)).act.st = .settling) ∧
      (∀ m, m ≠ 2 * h + u.act → t.mu m = s.mu m) ∧
      unchangedBut [.hdas, .mus, .tags, .cqs, .cmds, .mgt] s t) ∧
  (∀ (m : MuNo) (s : State), (s.mu m).act.loaded = true → (s.mu m).act.loadedOph + 720 ≤ s.time.oph → (s.mu m).act.lateReported = false →
    s.eventRoom = true →
    ∃ t, exec (.latentTestDue m) s = .next t ∧
      t.mu m = { s.mu m with act := { (s.mu m).act with lateReported := true } } ∧
      (∀ n, n ≠ (m : Nat) → t.mu n = s.mu n) ∧
      offered t (mkMsg 12 ((m : Nat) / 2) 0x0A ((m : Nat) % 2)) ∧
      unchangedBut [.ctr, .flt, .mus] s t)

/-- A reading below the shutdown threshold, or while a shutdown is in force or pending, is kept with its maxima, gives the level of R575,
raises the event of a rise, which is counted, and settles THERM_SUM.LEVEL. A conversion that does not complete fails the sensor with one
LATENT_TEST_FAIL of test 8. A reading at the threshold runs the thermal shutdown (log entry 8: as one step): the trip is recorded in NOR
with HOLD, the islands are in reset with cause 2, the tables of tags, commands, queues and HDAs are empty, and the SDRAM is in self-refresh;
while a dump runs it marks the shutdown as pending. A comparison counts the successive differences above 15 °C of a pair that reads, and the
third fails both sensors, each with its event; a sensor that is failed stays so until it reads again and agrees. A command that offers an
event finds room in its source's buffer (R548; FaultControlAndAcceptance states the hold). -/
def Obligations.SensorReadings : Prop :=
  (∀ (n : Nat) (v : Int) (s : State), n < 16 → s.mns.busUp = true → (v < sixteenths (thresholds n).2.2.1 ∨ s.thp.shutdown = true ∨
    s.thp.shutdownPending.isSome = true) → s.eventRoom = true →
    ∃ t, exec (.sensorReading n (some v)) s = .next t ∧
      (t.sensor n).temp = v ∧ (t.sensor n).valid = true ∧
      (t.sensor n).level = nextLevel n (s.sensor n).level v ∧
      (t.sensor n).failed = ((s.sensor n).failed && !s.agrees n v) ∧
      (t.sensor n).maxPon = max (s.sensor n).maxPon v ∧ (t.sensor n).maxLife = max (s.sensor n).maxLife v ∧
      (∀ k, k ≠ n → t.sensor k = s.sensor k) ∧
      ((s.sensor n).level = 0 → nextLevel n 0 v = 1 → offered t (mkMsg 18 0 9 n) ∧ t.counter 0x01120100 = Ctr.add 31 1 (s.counter
        0x01120100)) ∧
      ((s.sensor n).level < 2 → nextLevel n (s.sensor n).level v = 2 → offered t (mkMsg 18 0 0x0A n) ∧ t.counter 0x01120104 = Ctr.add 31 1
        (s.counter 0x01120104)) ∧
      t.thp.level = t.thermLevel ∧
      t.thp = { s.thp with sensors := t.thp.sensors, level := t.thp.level } ∧
      t.nor = { s.nor with maxLife := t.nor.maxLife } ∧
      (∀ h, t.hda h = { s.hda h with clk := { (s.hda h).clk with slewing := (t.hda h).clk.slewing } }) ∧
      unchangedBut [.thp, .nor, .flt, .ctr, .hdas, .cqs] s t) ∧
  (∀ (n : Nat) (s : State), n < 16 → s.mns.busUp = true → s.eventRoom = true →
    ∃ t, exec (.sensorReading n none) s = .next t ∧
      (t.sensor n) = { s.sensor n with failed := true } ∧
      (∀ k, k ≠ n → t.sensor k = s.sensor k) ∧
      ((s.sensor n).failed = false → offered t (mkMsg 18 0 0x3B (8 + n * 256)) ∧ t.flt.latent = s.flt.latent ||| 0x80#9) ∧
      t.thp.level = t.thermLevel ∧
      t.thp = { s.thp with sensors := t.thp.sensors, level := t.thp.level } ∧
      (∀ h, t.hda h = { s.hda h with clk := { (s.hda h).clk with slewing := (t.hda h).clk.slewing } }) ∧
      unchangedBut [.thp, .flt, .ctr, .hdas, .cqs] s t) ∧
  (∀ (n : Nat) (v : Int) (s : State), n < 16 → s.mns.busUp = true → sixteenths (thresholds n).2.2.1 ≤ v → s.thp.shutdown = false →
    s.thp.shutdownPending = none → s.vlt.dumping = false →
    ∃ t, exec (.sensorReading n (some v)) s = .next t ∧
      t.thp.shutdown = true ∧ t.nor.hold = true ∧ t.start.phase = .inReset ∧ t.start.cause = 2 ∧
      offered t (mkMsg 18 0 0x0B n) ∧
      (t.nor.trips.getLast?.map (fun x => (x.sensor, x.tripNo, x.pcc, x.oph, x.ops)) = some (n, s.nor.tripNo + 1, s.time.pcc, s.time.oph,
        s.time.ops)) ∧
      t.tags = [] ∧ t.cmds = [] ∧ t.cqs = [] ∧ t.hdas = [] ∧
      t.nor.tripNo = s.nor.tripNo + 1 ∧ t.pwr.sdramSelfRefresh = true ∧ t.thp.duty = 100 ∧
      unchangedBut [.free, .out, .nor, .ctr, .flt, .log, .thp, .pwr, .mns, .cal, .start, .hdas, .mus, .store, .ldp, .eps, .dual, .feat,
        .owners, .mctpEid, .ports, .tags, .cqs, .cmds, .accept, .mgt, .buf, .bca, .vlt, .sec] s t) ∧
  (∀ (n : Nat) (v : Int) (s : State), n < 16 → s.mns.busUp = true → sixteenths (thresholds n).2.2.1 ≤ v → s.thp.shutdown = false →
    s.thp.shutdownPending = none → s.vlt.dumping = true →
    ∃ t, exec (.sensorReading n (some v)) s = .next t ∧
      t.thp.shutdownPending = some n ∧
      t.thp.shutdown = false ∧
      (t.sensor n).temp = v ∧ (t.sensor n).valid = true ∧
      (∀ k, k ≠ n → t.sensor k = s.sensor k) ∧
      t.nor = { s.nor with maxLife := t.nor.maxLife } ∧
      (∀ h, t.hda h = { s.hda h with clk := { (s.hda h).clk with slewing := (t.hda h).clk.slewing } }) ∧
      unchangedBut [.thp, .nor, .flt, .ctr, .hdas, .cqs] s t) ∧
  (∀ (s : State), s.mns.busUp = true → s.eventRoom = true →
    ∃ t, exec .sensorCompare s = .next t ∧
      (∀ p, p < 10 → p % 2 = 0 → ((s.sensor p).valid && (s.sensor (p + 1)).valid) = false → t.sensor p = s.sensor p ∧ t.sensor (p + 1) =
        s.sensor (p + 1)) ∧
      (∀ p, p < 10 → p % 2 = 0 → (s.sensor p).valid = true → (s.sensor (p + 1)).valid = true → ((s.sensor p).temp - (s.sensor (p +
        1)).temp).natAbs ≤ 240 → t.sensor p = { s.sensor p with diffs := 0 } ∧ t.sensor (p + 1) = { s.sensor (p + 1) with diffs := 0 }) ∧
      (∀ p, p < 10 → p % 2 = 0 → (s.sensor p).valid = true → (s.sensor (p + 1)).valid = true → 240 < ((s.sensor p).temp - (s.sensor (p +
        1)).temp).natAbs → t.sensor p = { s.sensor p with
          diffs := Nat.min 3 ((s.sensor p).diffs + 1), failed := (s.sensor p).failed || decide (2 ≤ (s.sensor p).diffs) } ∧ t.sensor (p +
          1) = { s.sensor (p + 1) with
            diffs := Nat.min 3 ((s.sensor (p + 1)).diffs + 1), failed := (s.sensor (p + 1)).failed || decide (2 ≤ (s.sensor p).diffs) }) ∧
      (∀ p, p < 10 → p % 2 = 0 → (s.sensor p).valid = true → (s.sensor (p + 1)).valid = true → 240 < ((s.sensor p).temp - (s.sensor (p +
        1)).temp).natAbs → 2 ≤ (s.sensor p).diffs → ((s.sensor p).failed = false → offered t (mkMsg 18 0 0x3B (8 + p * 256))) ∧ ((s.sensor
        (p + 1)).failed = false → offered t (mkMsg 18 0 0x3B (8 + (p + 1) * 256)))) ∧
      (∀ p, 10 ≤ p → t.sensor p = s.sensor p) ∧
      t.thp.level = t.thermLevel ∧
      t.thp = { s.thp with sensors := t.thp.sensors, level := t.thp.level } ∧
      (∀ h, t.hda h = { s.hda h with clk := { (s.hda h).clk with slewing := (t.hda h).clk.slewing } }) ∧
      unchangedBut [.thp, .flt, .ctr, .hdas, .cqs] s t)

/-- A reading of an HDA sensor is kept, gives the level of R575 and the write gate of R578; one that is not acknowledged clears VALID with
one event. The corrections of oscillator, core reference and voltage reference are those of R582 with the present reading of sensors 15 and
0, zero without a module record. A sequencer idle in a gating state is gated. A command that offers an event finds room in its source's
buffer (R548; FaultControlAndAcceptance states the hold). A header that enters current limit or stalls is marked with one event, a stall is
counted; it leaves again without one. Once a second the speeds of the six headers are taken (log entry 101), and the duty is 100 % where
R583 forces it, the fixed duty where that mode is set, and otherwise falls by at most 2 points a second. A command that offers an event
finds room in its source's buffer (R548; FaultControlAndAcceptance states the hold). -/
def Obligations.HdaTemperatureAndFans : Prop :=
  (∀ (h : HdaNo) (v : Int) (s : State), (sget s.pwr.port h {}).on = true → s.eventRoom = true →
    ∃ t, exec (.hdaTempRead h (some v)) s = .next t ∧
      t.hda h = { s.hda h with temp := v, tempValid := true, lastTemp := some v, tempLevel := (t.hda h).tempLevel } ∧
      ((t.hda h).tempLevel = (if ((s.desc h).tWrMax - 3) * 16 ≤ v then 1 else if v ≤ ((s.desc h).tWrMax - 8) * 16 then 0 else (s.hda
        h).tempLevel)) ∧
      t.thp.wrGate.getLsbD h = gateAfter (s.desc h) (s.thp.wrGate.getLsbD h) v ∧
      (∀ k, k < 16 → k ≠ (h : Nat) → t.thp.wrGate.getLsbD k = s.thp.wrGate.getLsbD k) ∧
      (∀ k, k ≠ (h : Nat) → t.hda k = s.hda k) ∧
      t.thp.level = t.thermLevel ∧
      ((s.hda h).tempLevel = 0 → (t.hda h).tempLevel = 1 → offered t (mkMsg 18 0 9 (16 + h))) ∧
      t.thp = { s.thp with sensors := t.thp.sensors, level := t.thp.level, wrGate := t.thp.wrGate } ∧
      unchangedBut [.nor, .ctr, .flt, .thp, .hdas, .cqs] s t) ∧
  (∀ (h : HdaNo) (s : State), (sget s.pwr.port h {}).on = true → s.eventRoom = true →
    ∃ t, exec (.hdaTempRead h none) s = .next t ∧
      t.hda h = { s.hda h with tempValid := false } ∧
      (∀ k, k ≠ (h : Nat) → t.hda k = s.hda k) ∧
      offered t (mkMsg 18 0 6 h) ∧
      unchangedBut [.hdas, .flt, .ctr] s t) ∧
  (∀ (s : State), s.portsRun = true →
    ∃ t, exec .calCorrection s = .next t ∧
      (s.cal.uncompensated = true → t.cal.oscCorr = 0 ∧ t.cal.coreCorr = 0 ∧ t.cal.vrefCorr = 0) ∧
      (s.cal.uncompensated = false → (s.sensor 15).valid = true → t.cal.oscCorr = corrOf (s.cal.refs.getD 0 {}) (s.sensor 15).temp ∧
        t.cal.vrefCorr = corrOf (s.cal.refs.getD 2 {}) (s.sensor 15).temp) ∧
      (s.cal.uncompensated = false → (s.sensor 15).valid = false → t.cal.oscCorr = s.cal.oscCorr ∧ t.cal.vrefCorr = s.cal.vrefCorr) ∧
      (s.cal.uncompensated = false → (s.sensor 0).valid = true → t.cal.coreCorr = corrOf (s.cal.refs.getD 1 {}) (s.sensor 0).temp) ∧
      t.cal = { s.cal with oscCorr := t.cal.oscCorr, coreCorr := t.cal.coreCorr, vrefCorr := t.cal.vrefCorr } ∧
      unchangedBut [.cal] s t) ∧
  (∀ (m : MuNo) (s : State), s.pwr.gating = true → (s.mu m).tsq.st = .idle → s.pwr.pstate < 4 →
    exec (.channelGating m) s = .next ({ s with pwr := { s.pwr with gated := s.pwr.gated ||| (1#32 <<< (m : Nat)) } })) ∧
  (∀ (f : Nat) (s : State), f < 6 → s.mns.busUp = true → (s.fan f).currentLimit = false → s.eventRoom = true →
    ∃ t, exec (.fanOvercurrent f) s = .next t ∧
      t.fan f = { s.fan f with currentLimit := true } ∧
      (∀ k, k ≠ f → t.fan k = s.fan k) ∧
      t.thp = { s.thp with fans := t.thp.fans } ∧
      offered t (mkMsg 18 0 7 f) ∧
      unchangedBut [.ctr, .flt, .thp] s t) ∧
  (∀ (f : Nat) (s : State), f < 6 → (s.fan f).currentLimit = true →
    ∃ t, exec (.fanCurrentLimitExit f) s = .next t ∧
      t.fan f = { s.fan f with currentLimit := false } ∧
      (∀ k, k ≠ f → t.fan k = s.fan k) ∧
      t.thp = { s.thp with fans := t.thp.fans } ∧
      unchangedBut [.thp] s t) ∧
  (∀ (f rpm : Nat) (s : State), f < 6 → s.mns.busUp = true → rpm < 300 → 20 ≤ s.thp.duty → (s.fan f).stall = false → s.eventRoom = true →
    ∃ t, exec (.fanStall f rpm) s = .next t ∧
      t.fan f = { s.fan f with stall := true, rpm := rpm } ∧
      (∀ k, k ≠ f → t.fan k = s.fan k) ∧
      t.thp = { s.thp with fans := t.thp.fans } ∧
      offered t (mkMsg 18 0 8 f) ∧
      t.counter 0x0112010C = Ctr.add 31 1 (s.counter 0x0112010C) ∧
      unchangedBut [.ctr, .flt, .thp] s t) ∧
  (∀ (f rpm : Nat) (s : State), f < 6 → 300 ≤ rpm → rpm ≤ 20000 → (s.fan f).stall = true →
    ∃ t, exec (.fanStallEnd f rpm) s = .next t ∧
      t.fan f = { s.fan f with stall := false, rpm := rpm } ∧
      (∀ k, k ≠ f → t.fan k = s.fan k) ∧
      t.thp = { s.thp with fans := t.thp.fans } ∧
      unchangedBut [.thp] s t) ∧
  (∀ (s : State), s.mns.busUp = true →
    ∃ t, exec .fanDutyUpdate s = .next t ∧
      (∀ f, f < 6 → t.fan f = { s.fan f with rpm := Config.free (s.free + f) % 20001 }) ∧
      t.free = s.free + 6 ∧
      (s.dutyForced = true → t.thp.duty = 100) ∧
      (s.dutyForced = false → bit (s.feat0 0x11) 8 = true → t.thp.duty = bits (s.feat0 0x11) 22 16) ∧
      (s.dutyForced = false → bit (s.feat0 0x11) 8 = false → s.thp.duty ≤ t.thp.duty + 2) ∧
      t.thp = { s.thp with duty := t.thp.duty, fans := t.thp.fans } ∧
      unchangedBut [.free, .thp] s t)

/-- The bound and its terms are those of R496; an erase pass that ends counts the good blocks of its area and the other area follows; a
retired block leaves its area and is counted, and the 65th of a channel in one pass fails the channel; a failed channel leaves GOOD_CH with
one event. A command that offers an event finds room in its source's buffer (R548; FaultControlAndAcceptance states the hold). A dump that
completes leaves its image with header, metadata and seal good, and the other area is next; with a feed present the power-fail signal is
released and the module is held for its restart. Replay starts once the image can be written again or the bank has left CHARGING. Replay
ends with RESULT 1 when every sector of the image is restored, 2 when one is bad or its media unit is gone, 3 when header or metadata are
bad; it is counted once, the image is REPLAYED or its area under erasure, and MGT is in service mode. A command that offers an event finds
room in its source's buffer (R548; FaultControlAndAcceptance states the hold). -/
def Obligations.VaultDumpAndReplay : Prop :=
  (∀ (n : Nat) (s : State), s.vlt.released = true →
    exec (.vaultBoundUpdate n) s = .next ({ s with
        vlt := { s.vlt with
      capTerm := Nat.min 255 ((s.erasedBlocks n * 4 - 1024) / 256), rateTerm := s.mns.bank.eBound *
        s.goodChannels / 8,
      bound := Nat.min ((s.erasedBlocks n * 4 - 1024) / 256) (Nat.min (s.mns.bank.eBound * s.goodChannels / 8)
        96) } })) ∧
  (∀ (a : Nat) (s : State), a < 2 → s.vlt.erasing = some a → s.vlt.released = true → s.vlt.eraseOther = false →
    ∃ t, exec .vaultEraseDone s = .next t ∧
      t.area a = { s.area a with erased := 8192 - (s.area a).retired } ∧
      t.area (1 - a) = s.area (1 - a) ∧
      t.vlt = { s.vlt with erasing := none, passRetired := [] } ∧
      unchangedBut [.nor, .vlt] s t) ∧
  (∀ (a : Nat) (s : State), a < 2 → s.vlt.erasing = some a → a = s.vlt.nextArea → s.vlt.released = true → s.vlt.eraseOther = true →
    (s.area (1 - a)).awaits = false →
    ∃ t, exec .vaultEraseDone s = .next t ∧
      (t.area a) = { s.area a with erased := 8192 - (s.area a).retired } ∧
      t.area (1 - a) = { s.area (1 - a) with erased := 0, image := none } ∧
      t.vlt = { s.vlt with erasing := some (1 - a), eraseOther := false, passRetired := [] } ∧
      unchangedBut [.nor, .vlt] s t) ∧
  (∀ (a c : Nat) (s : State), a < 2 → c < 8 → s.vlt.released = true → s.vlt.goodCh.getLsbD c = true → (s.area a).retired < 8192 →
    s.vlt.erasing ≠ some a → s.eventRoom = true →
    ∃ t, exec (.vaultBlockRetire a c) s = .next t ∧
      t.area a = { s.area a with retired := (s.area a).retired + 1, erased := (s.area a).erased - 1 } ∧
      t.area (1 - a) = s.area (1 - a) ∧
      t.counter 0x0107001C = Ctr.add 31 1 (s.counter 0x0107001C) ∧
      unchangedBut [.nor, .flt, .ctr] s t) ∧
  (∀ (a c : Nat) (s : State), a < 2 → c < 8 → s.vlt.released = true → s.vlt.goodCh.getLsbD c = true → (s.area a).retired < 8192 →
    s.vlt.erasing = some a → s.vlt.dumping = false → s.eventRoom = true →
    ∃ t, exec (.vaultBlockRetire a c) s = .next t ∧
      (t.area a).retired = (s.area a).retired + 1 ∧
      sget t.vlt.passRetired c 0 = sget s.vlt.passRetired c 0 + 1 ∧
      t.vlt.goodCh.getLsbD c = decide (sget s.vlt.passRetired c 0 + 1 ≤ 64) ∧
      (64 ≤ sget s.vlt.passRetired c 0 → offered t (mkMsg 7 0 5 c)) ∧
      unchangedBut [.nor, .flt, .ctr, .vlt] s t) ∧
  (∀ (c p : Nat) (s : State), c < 8 → s.vlt.released = true → s.vlt.goodCh.getLsbD c = true → s.vlt.dumping = false → s.eventRoom = true →
    ∃ t, exec (.vaultChannelFailed c p) s = .next t ∧
      t.vlt = { s.vlt with goodCh := s.vlt.goodCh &&& ~~~(1#8 <<< c) } ∧
      offered t (mkMsg 7 0 5 c) ∧
      unchangedBut [.flt, .ctr, .vlt] s t) ∧
  (∀ (s : State), s.vlt.dumping = true → s.thp.shutdownPending = none → s.feedPresent = false → s.vlt.nextArea < 2 →
    ∃ t, exec .vaultDumpDone s = .next t ∧
      t.vlt = { s.vlt with dumping := false, nextArea := 1 - s.vlt.nextArea } ∧
      ((t.area s.vlt.nextArea).image = (s.area s.vlt.nextArea).image.map (fun i =>
        { i with headerGood := true, metaGood := true, sealGood := true })) ∧
      t.area (1 - s.vlt.nextArea) = s.area (1 - s.vlt.nextArea) ∧
      unchangedBut [.nor, .vlt] s t) ∧
  (∀ (s : State), s.vlt.dumping = true → s.thp.shutdownPending = none → s.feedPresent = true → s.vlt.nextArea < 2 →
    ∃ t, exec .vaultDumpDone s = .next t ∧
      t.mns.powerFail = false ∧ t.start.dumpRestart = true ∧ t.start.phase = .inReset ∧
      ((t.area s.vlt.nextArea).image = (s.area s.vlt.nextArea).image.map (fun i =>
        { i with headerGood := true, metaGood := true, sealGood := true })) ∧
      t.area (1 - s.vlt.nextArea) = s.area (1 - s.vlt.nextArea) ∧
      t.vlt.dumping = false ∧
      t.nor = { s.nor with areaA := t.nor.areaA, areaB := t.nor.areaB } ∧
      unchangedBut [.nor, .log, .thp, .pwr, .mns, .cal, .start, .hdas, .mus, .store, .ldp, .eps, .dual, .feat, .owners, .mctpEid, .alert,
        .ports, .tags, .cqs, .cmds, .accept, .mgt, .buf, .bca, .vlt, .sec] s t) ∧
  (∀ (s : State), s.start.phase = .tables → s.vlt.selected.isSome = true → s.vlt.replaying = false → s.mns.powerFail = false →
    ((s.replayImage.dirty + 65535) / 65536 ≤ s.vlt.bound ∨ s.mns.bank.st ≠ .charging) →
    exec .replayStart s = .next ({ s with vlt := { s.vlt with replaying := true }, out := .uart 10 :: s.out })) ∧
  (∀ (found : ReplayIn) (s : State), s.vlt.replaying = true → s.mns.powerFail = false → s.eventRoom = true →
    ∃ t, exec (.replayDone found) s = .next t ∧
      t.vlt.replaying = false ∧ t.vlt.selected = none ∧ t.start.phase = .service ∧ t.store.service = true ∧ t.out = .uart 11 :: s.out ∧
      t.counter 0x01070018 = Ctr.add 31 1 (s.counter 0x01070018) ∧
      ((found.metaOk = false ∨ s.replayImage.metaGood = false) → t.vlt.result = 3 ∧ offered t (mkMsg 7 0 2 0)) ∧
      (found.metaOk = true → s.replayImage.metaGood = true → (s.replayImage.sectors.all fun e => !found.bad.contains e.1 && slotOk e.1 e.2
        && !s.muGone s.replayImage found.foreign (dvol e.1)) = true → t.vlt.result = 1 ∧ t.vlt.lost = 0 ∧ ((s.replayImage.sectors.all fun
        e => (s.kd e.2.kdom).st != .erased) = true → offered t (mkMsg 7 0 2 s.replayImage.sectors.length))) ∧
      (found.metaOk = true → s.replayImage.metaGood = true → (s.replayImage.sectors.any fun e => found.bad.contains e.1 || !slotOk e.1 e.2
        || s.muGone s.replayImage found.foreign (dvol e.1)) = true → t.vlt.result = 2) ∧
      (∀ a, s.vlt.selected = some a → a < 2 → s.vlt.erasing.isSome = true → t.vlt.erasing = s.vlt.erasing ∧ t.vlt.eraseOther = true ∧
        (t.area a).image = (s.area a).image.map (fun i => { i with replayed := true })) ∧
      (s.vlt.selected = some (1 - s.vlt.nextArea) → s.vlt.nextArea < 2 → s.vlt.erasing = none → (s.area s.vlt.nextArea).awaits = false →
        t.vlt.erasing = some s.vlt.nextArea ∧ t.vlt.eraseOther = true ∧ (t.area s.vlt.nextArea).image = none ∧ (t.area (1 -
        s.vlt.nextArea)).image = (s.area (1 - s.vlt.nextArea)).image.map (fun i => { i with replayed := true })) ∧
      unchangedBut [.out, .nor, .ctr, .flt, .start, .mus, .store, .cqs, .buf, .bca, .vlt] s t)

/-- A module reset, whenever it comes, empties the tables of tags, commands, queues, ports and HDAs, clears the islands, keeps NOR and
operating time (the counters as well when every actuator is parked and no take runs), and leaves VLT in reset unless a dump or a thermal
shutdown holds it. VLT is released with the channels that pass their test, one event for each that does not, and an interrupted erase pass
begins again. A start enters stage 0 with its CAUSE, a cold or a warm fill and every domain on, applies the FACTORY pin, features, masks and
owners of NOR, takes HOLD from NOR, and raises an event for masks and for link settings that fail. The restart after a module reset has
CAUSE 1 and a cold fill where the buffer is lost; that after a thermal shutdown has CAUSE 2 and releases VLT; that after a dump has CAUSE 0
and a cold fill, and counts PCC. A command that offers an event finds room in its source's buffer (R548; FaultControlAndAcceptance states
the hold). -/
def Obligations.VaultReleaseAndResets : Prop :=
  (∀ (s : State), s.mns.busUp = true → s.start.phase ≠ .off →
    ∃ t, exec .moduleReset s = .next t ∧
      t.start.phase = .inReset ∧ t.start.resetting = true ∧ t.start.mrstLow = true ∧
      (t.start.cause = (if s.thp.shutdown then 2 else if s.start.dumpRestart then 0 else 1)) ∧
      t.tags = [] ∧ t.cmds = [] ∧ t.cqs = [] ∧ t.hdas = [] ∧ t.ports = [] ∧ t.accept = 0 ∧
      t.mns = { s.mns with alloc := [], waiting := [], chargePaused := false, bank := { s.mns.bank with hostRequests := [] } } ∧
      t.thp = { s.thp with hold := false, wrGate := 0 } ∧
      t.pwr = { State.reset.pwr with sdramSelfRefresh := true } ∧
      t.eps = smap s.eps {} Endpoint.keep ∧
      (t.vlt = (if s.vlt.dumping || s.thp.shutdown then s.vlt else
        { State.reset.vlt with erasing := s.vlt.erasing, eraseOther := s.vlt.eraseOther })) ∧
      ((∀ m, m < 32 → (s.mu m).act.st = .parked ∧ (s.mu m).tsq.desc = none) → t.ctr = s.ctr ∧ t.flt = s.flt) ∧
      unchangedBut [.free, .out, .ctr, .flt, .log, .thp, .pwr, .mns, .cal, .start, .hdas, .mus, .store, .ldp, .eps, .dual, .feat, .owners,
        .mctpEid, .alert, .ports, .tags, .cqs, .cmds, .accept, .mgt, .buf, .bca, .vlt, .sec] s t) ∧
  (∀ (c : BitVec 8) (s : State), s.start.phase = .inReset → s.start.resetting = true → s.vlt.released = false → s.mns.powerFail = false →
    s.eventRoom = true →
    ∃ t, exec (.vltRelease c) s = .next t ∧
      t.vlt.released = true ∧ t.vlt.goodCh = c ∧ t.vlt.nextArea = s.firstArea ∧
      (∀ k, k < 8 → c.getLsbD k = false → offered t (mkMsg 7 0 5 k)) ∧
      (s.vlt.erasing = none → s.vlt.eraseOther = false → t.nor = s.nor ∧ t.vlt =
        { s.vlt with released := true, goodCh := c, nextArea := s.firstArea }) ∧
      (∀ n, s.vlt.erasing = some n → n < 2 → (s.area n).awaits = false → t.vlt.erasing = some n ∧ t.area n =
        { s.area n with erased := 0, image := none } ∧ t.area (1 - n) = s.area (1 - n)) ∧
      t.nor = { s.nor with areaA := t.nor.areaA, areaB := t.nor.areaB } ∧
      unchangedBut [.nor, .ctr, .flt, .vlt] s t) ∧
  (∀ (x : StartIn) (s : State), s.start.phase = .inReset → s.start.resetting = true → s.vlt.released = true → s.mns.powerFail = false →
    s.thp.shutdown = false → s.start.dumpRestart = false → s.eventRoom = true →
    ∃ t, exec (.moduleRestart x) s = .next t ∧
      t.start = { s.start with phase := .stage0, cause := 1, cold := s.start.cold, dumpRestart := false, mrstLow := false } ∧
      t.mns.factory = x.factoryLow ∧ t.mns.pwrgd = true ∧
      t.pwr = { State.reset.pwr with chan := t.pwr.chan, ldp := domainOn, tags := domainOn, store := domainOn, others := domainOn } ∧
      (∀ h, h < 16 → sget t.pwr.chan h {} = domainOn) ∧
      (t.buf.fill = (if s.start.cold then 1 else 2)) ∧
      t.feat = s.nor.feat ∧ t.dual = (x.linkOk && t.feat0 0x01 == 1) ∧
      (t.owners = (if t.dual && s.nor.ownersDual then s.nor.owners else [])) ∧
      t.log = { s.log with floor := t.feat0 0x0C } ∧
      (t.flt.masks = (if x.masksOk then s.nor.masks else []) ∧ t.flt.masksDefaulted = !x.masksOk) ∧
      (x.masksOk = false → offered t (mkMsg 17 0 1 0)) ∧
      (x.linkOk = false → offered t (mkMsg 1 0 0x30 0)) ∧
      t.thp.hold = s.nor.hold ∧ t.thp.level = t.thermLevel ∧
      t.alert = ((t.ep 0).faultSum != 0 && bit (t.feat0 0x0B) 0) ∧
      t.free = s.free + 2 ∧
      t.mns = { s.mns with factory := t.mns.factory, pwrgd := t.mns.pwrgd } ∧
      (s.start.cold = false → t.mus = s.mus ∧ t.mgt = s.mgt ∧ t.buf = { s.buf with fill := 2 } ∧ t.bca =
        { s.bca with key0 := t.bca.key0, key1 := t.bca.key1 }) ∧
      (s.start.cold = true → t.buf = { s.buf with fill := 1, poison := [], words := [], holders := [] } ∧ t.mus = [] ∧ t.bca = {
        State.reset.bca with
          key0 := BitVec.ofNat 64 (Config.free s.free), key1 := BitVec.ofNat 64 (Config.free (s.free + 1)) }) ∧
      unchangedBut [.free, .ctr, .flt, .log, .thp, .pwr, .mns, .start, .mus, .dual, .feat, .owners, .alert, .cqs, .buf, .bca] s t) ∧
  (∀ (x : StartIn) (s : State), s.thp.shutdown = true → s.start.phase = .inReset → s.mns.powerFail = false → s.start.mrstLow = false →
    s.belowRelease = true → s.eventRoom = true →
    ∃ t, exec (.thermalHoldRestart x) s = .next t ∧
      t.start = { s.start with phase := .stage0, cause := 2, cold := s.start.cold, dumpRestart := false, mrstLow := false } ∧
      t.mns.factory = x.factoryLow ∧ t.mns.pwrgd = true ∧
      t.pwr = { State.reset.pwr with chan := t.pwr.chan, ldp := domainOn, tags := domainOn, store := domainOn, others := domainOn } ∧
      (∀ h, h < 16 → sget t.pwr.chan h {} = domainOn) ∧
      (t.buf.fill = (if s.start.cold then 1 else 2)) ∧
      t.feat = s.nor.feat ∧ t.dual = (x.linkOk && t.feat0 0x01 == 1) ∧
      (t.owners = (if t.dual && s.nor.ownersDual then s.nor.owners else [])) ∧
      t.log = { s.log with floor := t.feat0 0x0C } ∧
      (t.flt.masks = (if x.masksOk then s.nor.masks else []) ∧ t.flt.masksDefaulted = !x.masksOk) ∧
      (x.masksOk = false → offered t (mkMsg 17 0 1 0)) ∧
      (x.linkOk = false → offered t (mkMsg 1 0 0x30 0)) ∧
      t.thp.hold = s.nor.hold ∧ t.thp.level = t.thermLevel ∧
      t.alert = ((t.ep 0).faultSum != 0 && bit (t.feat0 0x0B) 0) ∧
      t.free = s.free + 2 ∧
      t.vlt.released = true ∧ t.vlt.goodCh = x.channels ∧ t.vlt.nextArea = s.firstArea ∧
      (∀ k, k < 8 → x.channels.getLsbD k = false → offered t (mkMsg 7 0 5 k)) ∧
      t.mns = { s.mns with factory := t.mns.factory, pwrgd := t.mns.pwrgd } ∧
      t.thp.shutdown = false ∧
      t.nor = { s.nor with areaA := t.nor.areaA, areaB := t.nor.areaB } ∧
      unchangedBut [.free, .nor, .ctr, .flt, .log, .thp, .pwr, .mns, .start, .mus, .dual, .feat, .owners, .alert, .cqs, .buf, .bca, .vlt]
        s t) ∧
  (∀ (x : StartIn) (s : State), s.mns.busUp = true → s.feedPresent = true → s.start.dumpRestart = true → s.thp.shutdown = false →
    s.mns.powerFail = false → s.start.mrstLow = false → s.eventRoom = true →
    ∃ t, exec (.dumpRestart x) s = .next t ∧
      t.start = { s.start with phase := .stage0, cause := 0, cold := true, dumpRestart := false, mrstLow := false } ∧
      t.mns.factory = x.factoryLow ∧ t.mns.pwrgd = true ∧
      t.pwr = { State.reset.pwr with chan := t.pwr.chan, ldp := domainOn, tags := domainOn, store := domainOn, others := domainOn } ∧
      (∀ h, h < 16 → sget t.pwr.chan h {} = domainOn) ∧
      (t.buf.fill = (if true then 1 else 2)) ∧
      t.feat = s.nor.feat ∧ t.dual = (x.linkOk && t.feat0 0x01 == 1) ∧
      (t.owners = (if t.dual && s.nor.ownersDual then s.nor.owners else [])) ∧
      t.log = { s.log with floor := t.feat0 0x0C } ∧
      (t.flt.masks = (if x.masksOk then s.nor.masks else []) ∧ t.flt.masksDefaulted = !x.masksOk) ∧
      (x.masksOk = false → offered t (mkMsg 17 0 1 0)) ∧
      (x.linkOk = false → offered t (mkMsg 1 0 0x30 0)) ∧
      t.thp.hold = s.nor.hold ∧ t.thp.level = t.thermLevel ∧
      t.alert = ((t.ep 0).faultSum != 0 && bit (t.feat0 0x0B) 0) ∧
      t.free = s.free + 2 ∧
      t.buf = { s.buf with fill := 1, poison := [], words := [], holders := [] } ∧
      t.mus = [] ∧
      t.bca = { State.reset.bca with key0 := BitVec.ofNat 64 (Config.free s.free), key1 := BitVec.ofNat 64 (Config.free (s.free + 1)) } ∧
      t.mgt = s.mgt ∧
      t.cal = { s.cal with stalled := 0 } ∧
      t.vlt.released = true ∧ t.vlt.goodCh = x.channels ∧ t.vlt.nextArea = s.firstArea ∧
      (∀ k, k < 8 → x.channels.getLsbD k = false → offered t (mkMsg 7 0 5 k)) ∧
      t.out.take 2 = [.uart 4, .uart 3] ∧
      (s.time.pccSat = false → s.time.pcc + 1 < 2 ^ 32 → t.time = { s.time with pcc := s.time.pcc + 1 }) ∧
      (s.time.pccSat = true → t.time = s.time) ∧
      t.nor.time = t.time ∧
      t.mns = { s.mns with factory := t.mns.factory, pwrgd := t.mns.pwrgd } ∧
      t.nor = { s.nor with time := t.nor.time, areaA := t.nor.areaA, areaB := t.nor.areaB } ∧
      unchangedBut [.free, .out, .nor, .ctr, .time, .flt, .log, .thp, .pwr, .mns, .cal, .start, .hdas, .mus, .store, .ldp, .eps, .dual,
        .feat, .owners, .mctpEid, .alert, .ports, .tags, .cqs, .cmds, .accept, .mgt, .buf, .bca, .vlt, .sec] s t) ∧
  (∀ (x : StartIn) (s : State), s.mns.busUp = true → s.feedPresent = true → s.dumpOver = true → s.start.mrstLow = false → s.eventRoom =
    true →
    ∃ t, exec (.dumpRestart x) s = .next t ∧
      t.mns.powerFail = false ∧ t.thp.shutdown = false ∧
      t.start.phase = .stage0 ∧ t.start.cause = 0 ∧ t.start.cold = true ∧ t.start.dumpRestart = false ∧
      t.tags = [] ∧ t.cmds = [] ∧ t.cqs = [] ∧ t.hdas = [] ∧ t.mus = [] ∧
      t.buf.fill = 1 ∧
      t.vlt.released = true ∧ t.vlt.goodCh = x.channels ∧
      t.out.take 2 = [.uart 4, .uart 3] ∧
      (s.time.pccSat = false → s.time.pcc + 1 < 2 ^ 32 → t.time = { s.time with pcc := s.time.pcc + 1 }) ∧
      (s.time.pccSat = true → t.time = s.time) ∧
      t.nor.time = t.time ∧
      t.nor = { s.nor with time := t.nor.time, areaA := t.nor.areaA, areaB := t.nor.areaB } ∧
      unchangedBut [.free, .out, .nor, .ctr, .time, .flt, .log, .thp, .pwr, .mns, .cal, .start, .hdas, .mus, .store, .ldp, .eps, .dual,
        .feat, .owners, .mctpEid, .alert, .ports, .tags, .cqs, .cmds, .accept, .mgt, .buf, .bca, .vlt, .sec] s t)

/-- POWER_ON starts the module in stage 0 with a cold fill and CAUSE 0: operating time, counters and the bank's capacitance and ESR come
from NOR, PCC is counted and saved, VLT is released with the channels that pass their test, and features, masks, owners and HOLD are those
of NOR. When the bus switches off everything but NOR (with the vault, whose image in the making keeps what was written) and the pins is at
its reset value. A fill that is complete lets BUF admit its clients; after a warm fill the words and the poison marks of the regions that a
module reset keeps stand, and those of the others are 0 (R468). A command that offers an event finds room in its source's buffer (R548;
FaultControlAndAcceptance states the hold). -/
def Obligations.PowerOnAndOff : Prop :=
  (∀ (f : Nat) (x : StartIn) (s : State), f < 2 → s.start.phase = .off → s.mns.busUp = false → s.mns.powerFail = false →
    ∃ t, exec (.powerOn f x) s = .next t ∧
      t.mns.busUp = true ∧ (t.mns.feed f).present = true ∧ t.mns.feed (1 - f) = s.mns.feed (1 - f) ∧
      t.start = { s.start with phase := .stage0, cause := 0, cold := true, dumpRestart := false, mrstLow := false } ∧
      t.mns.factory = x.factoryLow ∧ t.mns.pwrgd = true ∧
      t.pwr = { State.reset.pwr with chan := t.pwr.chan, ldp := domainOn, tags := domainOn, store := domainOn, others := domainOn } ∧
      (∀ h, h < 16 → sget t.pwr.chan h {} = domainOn) ∧
      (t.buf.fill = (if true then 1 else 2)) ∧
      t.feat = s.nor.feat ∧ t.dual = (x.linkOk && t.feat0 0x01 == 1) ∧
      (t.owners = (if t.dual && s.nor.ownersDual then s.nor.owners else [])) ∧
      t.log = { s.log with floor := t.feat0 0x0C } ∧
      (t.flt.masks = (if x.masksOk then s.nor.masks else []) ∧ t.flt.masksDefaulted = !x.masksOk) ∧
      (x.masksOk = false → offered t (mkMsg 17 0 1 0)) ∧
      (x.linkOk = false → offered t (mkMsg 1 0 0x30 0)) ∧
      t.thp.hold = s.nor.hold ∧ t.thp.level = t.thermLevel ∧
      t.alert = ((t.ep 0).faultSum != 0 && bit (t.feat0 0x0B) 0) ∧
      t.free = s.free + 2 ∧
      t.buf = { s.buf with fill := 1, poison := [], words := [], holders := [] } ∧
      t.mus = [] ∧
      t.bca = { State.reset.bca with key0 := BitVec.ofNat 64 (Config.free s.free), key1 := BitVec.ofNat 64 (Config.free (s.free + 1)) } ∧
      t.mgt = { s.mgt with scrubBuffer := [] } ∧
      t.cal = { s.cal with stalled := 0 } ∧
      t.vlt.released = true ∧ t.vlt.goodCh = x.channels ∧ t.vlt.nextArea = s.firstArea ∧
      (∀ k, k < 8 → x.channels.getLsbD k = false → offered t (mkMsg 7 0 5 k)) ∧
      t.out.take 2 = [.uart 4, .uart 3] ∧
      (s.nor.time.pccSat = false → s.nor.time.pcc + 1 < 2 ^ 32 → t.time = { s.nor.time with pcc := s.nor.time.pcc + 1 }) ∧
      (s.nor.time.pccSat = true → t.time = s.nor.time) ∧
      t.nor.time = t.time ∧
      (∀ a, a ≠ aBackpressure → t.counter a = sget s.nor.ctr a {}) ∧
      t.mns.bank = { s.mns.bank with capMF := s.nor.capMF, esrMO := s.nor.esrMO } ∧
      ((s.area s.firstArea).awaits = false → t.vlt.erasing = some s.firstArea) ∧
      t.mns = { s.mns with
          feedA := t.mns.feedA, feedB := t.mns.feedB, busUp := t.mns.busUp, bank := t.mns.bank, factory := t.mns.factory, pwrgd :=
          t.mns.pwrgd } ∧
      t.nor = { s.nor with time := t.nor.time, areaA := t.nor.areaA, areaB := t.nor.areaB } ∧
      unchangedBut [.free, .out, .nor, .ctr, .time, .flt, .log, .thp, .pwr, .mns, .cal, .start, .mus, .dual, .feat, .owners, .alert, .cqs,
        .mgt, .buf, .bca, .vlt] s t) ∧
  (∀ (p : Nat) (s : State), s.mns.busUp = true → s.mns.powerFail = true → s.feedPresent = false → s.vlt.dumping = false →
    exec (.busSwitchOff p) s = .next ({ State.reset with
        pending := s.pending, free := s.free, out := s.out, nor := s.nor, eps := smap s.eps {} fun x => { perst := x.perst } })) ∧
  (∀ (p : Nat) (s : State), s.mns.busUp = true → s.mns.powerFail = true → s.feedPresent = false → s.vlt.dumping = true → s.vlt.nextArea <
    2 →
    ∃ t, exec (.busSwitchOff p) s = .next t ∧
      ((t.area s.vlt.nextArea).image = (s.area s.vlt.nextArea).image.map (fun i =>
        { i with headerGood := decide (1 ≤ p), metaGood := decide (2 ≤ p), sealGood := false })) ∧
      t.area (1 - s.vlt.nextArea) = s.area (1 - s.vlt.nextArea) ∧
      t.nor = { s.nor with areaA := t.nor.areaA, areaB := t.nor.areaB } ∧
      (t = { State.reset with
          pending := s.pending, free := s.free, out := s.out, nor := t.nor, eps := smap s.eps {} fun x => { perst := x.perst } })) ∧
  (∀ (s : State), s.buf.fill = 1 →
    exec .coldFillDone s = .next ({ s with
        buf := { s.buf with fill := 3, poison := [], words := [], holders := [] }, out := .uart 6 :: s.out })) ∧
  (∀ (s : State), s.buf.fill = 2 → s.eventRoom = true →
    ∃ t, exec .warmFillDone s = .next t ∧
      t.buf = { s.buf with fill := 3, poison := t.buf.poison, words := t.buf.words, holders := t.buf.holders } ∧
      (∀ a, ([0, 2, 3, 7] : List Nat).contains (bufRegion a) = true → t.poisonOf a = s.poisonOf a ∧ sget t.buf.words (a / 8) 0 = sget
        s.buf.words (a / 8) 0) ∧
      (∀ a, ([0, 2, 3, 7] : List Nat).contains (bufRegion a) = false → t.poisonOf a = 0 ∧ sget t.buf.words (a / 8) 0 = 0) ∧
      t.out = .uart 6 :: s.out ∧
      unchangedBut [.out, .ctr, .flt, .buf, .bca] s t)

/-- Stage 0 counts the boot, makes a slot that waits active, locks the key domains whose keys do not load with one event each, and runs the
active slot when it is VALID and its image passes, else the other as a fallback, else is stuck. Stage 2 loads the microcode store and starts
the log writer with the START marker due; a stage 2 image that failed is not used. The tables of accepted HDAs load, and an image that
awaits replay is selected, else service mode is entered. READY comes with a slate of this boot, SVN_MIN raised to the running image and its
revocations burnt; with HOLD the module stays in PS3. A command that offers an event finds room in its source's buffer (R548;
FaultControlAndAcceptance states the hold). -/
def Obligations.BootStages : Prop :=
  (∀ (okA okB : Bool) (lost : List Nat) (a : Nat) (s : State), s.start.phase = .stage0 → s.nor.pendingSlot.getD s.nor.active = a →
    (s.fwSlot a).st = .valid → (s.slotFault a (if a == 0 then okA else okB) true = 0) → s.eventRoom = true →
    ∃ t, exec (.fiddleheadStart okA okB lost) s = .next t ∧
      t.start = { s.start with phase := .fiddlehead } ∧
      t.sec.slot = a ∧ t.sec.fallback = false ∧
      t.nor.active = a ∧ t.nor.pendingSlot = none ∧
      (s.nor.bootSat = false → s.nor.bootCount + 1 < 2 ^ 32 → t.nor.bootCount = s.nor.bootCount + 1) ∧
      (∀ k, k ∈ lost → (s.kd k).st = .active → (t.kd k).st = .locked ∧ offered t (mkMsg 15 0 7 k)) ∧
      (∀ k, k ∉ lost → t.kd k = s.kd k) ∧
      t.out = .uart 5 :: s.out ∧
      t.nor = { s.nor with
          active := t.nor.active, pendingSlot := t.nor.pendingSlot, bootCount := t.nor.bootCount, bootSat := t.nor.bootSat, kds :=
          t.nor.kds } ∧
      t.sec = { s.sec with slot := t.sec.slot, fallback := t.sec.fallback, entries := t.sec.entries, keyRam := t.sec.keyRam } ∧
      unchangedBut [.out, .nor, .ctr, .flt, .start, .sec] s t) ∧
  (∀ (okA okB : Bool) (lost : List Nat) (a : Nat) (s : State), s.start.phase = .stage0 → s.nor.pendingSlot.getD s.nor.active = a →
    ((s.fwSlot a).st ≠ .valid ∨ s.slotFault a (if a == 0 then okA else okB) true ≠ 0) → (s.fwSlot (1 - a)).st = .valid → (s.slotFault (1 -
    a) (if 1 - a == 0 then okA else okB) true = 0) → s.eventRoom = true →
    ∃ t, exec (.fiddleheadStart okA okB lost) s = .next t ∧
      t.start = { s.start with phase := .fiddlehead } ∧
      t.sec.slot = 1 - a ∧ t.sec.fallback = true ∧
      t.nor.active = a ∧ t.nor.pendingSlot = none ∧
      (s.nor.bootSat = false → s.nor.bootCount + 1 < 2 ^ 32 → t.nor.bootCount = s.nor.bootCount + 1) ∧
      (∀ k, k ∈ lost → (s.kd k).st = .active → (t.kd k).st = .locked ∧ offered t (mkMsg 15 0 7 k)) ∧
      (∀ k, k ∉ lost → t.kd k = s.kd k) ∧
      t.nor = { s.nor with
          active := t.nor.active, pendingSlot := t.nor.pendingSlot, bootCount := t.nor.bootCount, bootSat := t.nor.bootSat, kds :=
          t.nor.kds } ∧
      unchangedBut [.out, .nor, .ctr, .flt, .start, .sec] s t) ∧
  (∀ (okA okB : Bool) (lost : List Nat) (a : Nat) (s : State), s.start.phase = .stage0 → s.nor.pendingSlot.getD s.nor.active = a →
    ((s.fwSlot a).st ≠ .valid ∨ s.slotFault a (if a == 0 then okA else okB) true ≠ 0) → ((s.fwSlot (1 - a)).st ≠ .valid ∨ s.slotFault (1 -
    a) (if 1 - a == 0 then okA else okB) true ≠ 0) → s.eventRoom = true →
    ∃ t, exec (.fiddleheadStart okA okB lost) s = .next t ∧
      t.start = { s.start with phase := .stuck } ∧
      t.out = .uart 0 :: .uart 5 :: s.out ∧
      (s.nor.bootSat = false → s.nor.bootCount + 1 < 2 ^ 32 → t.nor.bootCount = s.nor.bootCount + 1) ∧
      (∀ k, k ∈ lost → (s.kd k).st = .active → (t.kd k).st = .locked ∧ offered t (mkMsg 15 0 7 k)) ∧
      (∀ k, k ∉ lost → t.kd k = s.kd k) ∧
      unchangedBut [.out, .nor, .ctr, .flt, .start, .sec] s t) ∧
  (∀ (failed : List Nat) (patch v : List Byte) (bad : List Nat) (s : State), s.start.phase = .fiddlehead → s.buf.fill = 3 →
    failed.contains 4 = false → s.eventRoom = true →
    ∃ t, exec (.stage2Start failed patch v bad) s = .next t ∧
      t.start = { s.start with phase := .stage2 } ∧
      t.log = { s.log with running := true, startDue := some (s.nor.bootCount, s.start.cause) } ∧
      t.store = loadStore failed patch v ∧
      t.out = .uart 8 :: .uart 7 :: s.out ∧
      t.nor = { s.nor with cal := t.nor.cal } ∧
      unchangedBut [.out, .nor, .ctr, .flt, .log, .cal, .start, .store, .sec] s t) ∧
  (∀ (failed : List Nat) (patch v : List Byte) (bad : List Nat) (s : State), s.start.phase = .fiddlehead → s.buf.fill = 3 →
    failed.contains 4 = true →
    ∃ t, exec (.stage2Start failed patch v bad) s = .next t ∧
      t.start = { s.start with phase := .stuck } ∧
      t.out = .uart 7 :: s.out ∧
      t.sec = { s.sec with entries := t.sec.entries } ∧
      unchangedBut [.start, .sec, .out] s t) ∧
  (∀ (bad : List Nat) (zs : List OpenZone) (s : State), s.start.phase = .stage2 → ((s.hdas.all fun e => e.2.st != .reading) = true) →
    s.unreplayed = false → s.eventRoom = true →
    ∃ t, exec (.hdaTablesLoad bad zs) s = .next t ∧
      t.start.phase = .service ∧ t.store.service = true ∧ t.vlt.selected = none ∧ t.out.head? = some (.uart 11) ∧
      unchangedBut [.out, .nor, .ctr, .flt, .cal, .start, .hdas, .mus, .store, .cqs, .vlt, .sec] s t) ∧
  (∀ (bad : List Nat) (zs : List OpenZone) (s : State), s.start.phase = .stage2 → ((s.hdas.all fun e => e.2.st != .reading) = true) →
    s.unreplayed = true → s.eventRoom = true →
    ∃ t, exec (.hdaTablesLoad bad zs) s = .next t ∧
      t.start.phase = .tables ∧ t.vlt.selected = s.selectArea ∧
      unchangedBut [.out, .nor, .ctr, .flt, .cal, .start, .hdas, .mus, .store, .cqs, .vlt, .sec] s t) ∧
  (∀ (ok : Bool) (s : State), s.start.phase = .service → s.mns.powerFail = false → s.eventRoom = true →
    ∃ t, exec (.bootReady ok) s = .next t ∧
      t.start.phase = .ready ∧ t.start.resetting = false ∧
      t.nor.svnMin = Nat.max s.nor.svnMin (s.fwSlot s.sec.slot).svn ∧
      t.nor.revoked = s.nor.revoked ||| ((s.fwSlot s.sec.slot).revoke &&& ~~~(1#4 <<< ((s.fwSlot s.sec.slot).keyId - 1))) ∧
      t.out.take 2 = [.uart 13, .uart 12] ∧
      t.sec.slate.map (·.number) = some s.nor.bootCount ∧
      (ok = true → t.nor.slates.any (fun x => x.number == s.nor.bootCount) = true) ∧
      (s.thp.hold = true → t.pwr.pstate = 3) ∧
      t.nor.late = [] ∧
      t.nor = { s.nor with
          late := t.nor.late, slates := t.nor.slates, svnMin := t.nor.svnMin, revoked := t.nor.revoked, slotA := t.nor.slotA, slotB :=
          t.nor.slotB } ∧
      unchangedBut [.free, .out, .nor, .ctr, .flt, .pwr, .mns, .cal, .start, .hdas, .mus, .eps, .tags, .cqs, .cmds, .sec] s t)

/-- An HDA that becomes present at an empty port is powered and read, with one event. A bring-up that passes leaves it ACCEPTED in HS3 with
its port off, its descriptor kept and its serial stored; the repeated bring-up at an exit from HS3 asks for a spin-up where its temperature
permits. A bring-up that fails leaves it REJECTED with the reason. A command that offers an event finds room in its source's buffer (R548;
FaultControlAndAcceptance states the hold). A removal from a port without an accepted HDA empties it; the removal of an accepted HDA is a
surprise: the commands of its volumes, but those that only wait for their flush, end (their tags are POSTED), the port is empty and off, its
media units have no format, and one event names the HDA; during a power failure only presence changes. A release that has drained ends with
the port off, and its command completes. A command that offers an event finds room in its source's buffer (R548; FaultControlAndAcceptance
states the hold). -/
def Obligations.HdaPorts : Prop :=
  (∀ (h : HdaNo) (s : State), s.portsRun = true → (s.hda h).present = false → (s.hda h).st = .empty → s.mns.powerFail = false →
    s.eventRoom = true →
    ∃ t, exec (.hdaInserted h) s = .next t ∧
      (t.hda h).present = true ∧ (t.hda h).st = .reading ∧ (t.hda h).hs = 3 ∧
      (sget t.pwr.port h {}).on = true ∧
      offered t (mkMsg 18 0 1 h) ∧
      (∀ k, k ≠ (h : Nat) → t.hda k = s.hda k) ∧
      (∀ m, m / 2 ≠ (h : Nat) → t.mu m = s.mu m) ∧
      (∀ k, k ≠ (h : Nat) → sget t.pwr.port k {} = sget s.pwr.port k {}) ∧
      t.pwr = { s.pwr with port := t.pwr.port } ∧
      unchangedBut [.ctr, .flt, .pwr, .cal, .hdas, .mus, .tags, .cqs, .cmds] s t) ∧
  (∀ (h : HdaNo) (s : State), s.portsRun = true → (s.hda h).present = false → ((s.hda h).st ≠ .empty ∨ s.mns.powerFail = true) →
    ∃ t, exec (.hdaInserted h) s = .next t ∧
      (t.hda h = { s.hda h with present := true, lastTemp := if (s.hda h).st = .empty then none else (s.hda h).lastTemp }) ∧
      (∀ k, k ≠ (h : Nat) → t.hda k = s.hda k) ∧
      unchangedBut [.hdas] s t) ∧
  (∀ (h : HdaNo) (x : BringUp) (s : State), s.readingNow h = true → s.canBringUp = true → s.rejectOf x = 0 → s.eventRoom = true →
    ∃ t, exec (.hdaAccepted h x) s = .next t ∧
      (t.hda h).st = .accepted ∧ (t.hda h).hs = 3 ∧ (t.hda h).reject = 0 ∧
      (t.hda h).desc = some (parseDesc (x.bytes.getD [])) ∧
      sget t.nor.serials h [] = (parseDesc (x.bytes.getD [])).serial ∧
      (t.hda h).sameSerial = (sget s.nor.serials h [] == (parseDesc (x.bytes.getD [])).serial) ∧
      (sget t.pwr.port h {}).on = false ∧
      offered t (mkMsg 18 0 2 h) ∧
      (∀ m, m / 2 = (h : Nat) → (t.mu m).formatted = false ∧ (t.mu m).recovered = false ∧ (t.mu m).stopped = false) ∧
      (∀ k, k ≠ (h : Nat) → t.hda k = s.hda k) ∧
      (∀ m, m / 2 ≠ (h : Nat) → t.mu m = s.mu m) ∧
      (∀ k, k ≠ (h : Nat) → sget t.pwr.port k {} = sget s.pwr.port k {}) ∧
      t.pwr = { s.pwr with port := t.pwr.port } ∧
      t.nor = { s.nor with serials := t.nor.serials, late := t.nor.late, maxLife := t.nor.maxLife } ∧
      unchangedBut [.nor, .ctr, .flt, .thp, .pwr, .mns, .cal, .hdas, .mus, .tags, .cqs, .cmds, .sec] s t) ∧
  (∀ (h : HdaNo) (x : BringUp) (v : Int) (s : State), s.readingNow h = false → s.exitingHs3 h = true → s.canBringUp = true → s.rejectOf x
    = 0 → x.temp = some v → (parseDesc (x.bytes.getD [])).tSpinMin * 16 ≤ v → v ≤ (parseDesc (x.bytes.getD [])).tSpinMax * 16 →
    s.eventRoom = true →
    ∃ t, exec (.hdaAccepted h x) s = .next t ∧
      t.mns.waiting = insertSorted h s.mns.waiting ∧
      (t.hda h).spinWithheld = false ∧ (t.hda h).temp = v ∧ (t.hda h).tempValid = true ∧
      (t.hda h).desc = some (parseDesc (x.bytes.getD [])) ∧
      (∀ k, k ≠ (h : Nat) → t.hda k = s.hda k) ∧
      (∀ m, m / 2 ≠ (h : Nat) → t.mu m = s.mu m) ∧
      t.mns = { s.mns with waiting := t.mns.waiting } ∧
      unchangedBut [.hdas, .mus, .mns, .nor, .thp, .cqs, .flt, .ctr] s t) ∧
  (∀ (h : HdaNo) (x : BringUp) (v : Int) (s : State), s.readingNow h = false → s.exitingHs3 h = true → s.canBringUp = true → s.rejectOf x
    = 0 → x.temp = some v → (v < (parseDesc (x.bytes.getD [])).tSpinMin * 16 ∨ (parseDesc (x.bytes.getD [])).tSpinMax * 16 < v) →
    s.eventRoom = true →
    ∃ t, exec (.hdaAccepted h x) s = .next t ∧
      (t.hda h).spinWithheld = true ∧ (t.hda h).hsTransit = false ∧
      (sget t.pwr.port h {}).on = false ∧
      (∀ k, k ≠ (h : Nat) → t.hda k = s.hda k) ∧
      (∀ m, m / 2 ≠ (h : Nat) → t.mu m = s.mu m) ∧
      (∀ k, k ≠ (h : Nat) → sget t.pwr.port k {} = sget s.pwr.port k {}) ∧
      t.pwr = { s.pwr with port := t.pwr.port } ∧
      unchangedBut [.nor, .ctr, .flt, .thp, .pwr, .mns, .cal, .hdas, .mus, .tags, .cqs, .cmds, .sec] s t) ∧
  (∀ (h : HdaNo) (x : BringUp) (s : State), (s.readingNow h = true ∨ s.exitingHs3 h = true) → s.canBringUp = true → s.rejectOf x ≠ 0 →
    s.eventRoom = true →
    ∃ t, exec (.hdaRejected h x) s = .next t ∧
      (t.hda h).st = .rejected ∧ (t.hda h).reject = s.rejectOf x ∧ (t.hda h).desc = none ∧ (t.hda h).hs = 3 ∧
      (sget t.pwr.port h {}).on = false ∧
      offered t (mkMsg 18 0 3 (h + s.rejectOf x * 16)) ∧
      (∀ k, k ≠ (h : Nat) → t.hda k = s.hda k) ∧
      (∀ m, m / 2 ≠ (h : Nat) → t.mu m = s.mu m) ∧
      (∀ k, k ≠ (h : Nat) → sget t.pwr.port k {} = sget s.pwr.port k {}) ∧
      t.pwr = { s.pwr with port := t.pwr.port } ∧
      unchangedBut [.ctr, .flt, .pwr, .mns, .cal, .hdas, .mus, .tags, .cqs, .cmds] s t) ∧
  (∀ (h : HdaNo) (s : State), s.mns.busUp = true → (s.hda h).present = true → s.mns.powerFail = false → ((s.hda h).st = .reading ∨ (s.hda
    h).st = .rejected ∨ (s.hda h).st = .released ∨ (s.hda h).st = .empty) →
    ∃ t, exec (.hdaRemoved h) s = .next t ∧
      (t.hda h).st = .empty ∧ (t.hda h).present = false ∧ (t.hda h).desc = none ∧ (t.hda h).hs = 3 ∧
      (sget t.pwr.port h {}).on = false ∧ (t.hda h).sameSerial = false ∧ (t.hda h).tempValid = false ∧
      (∀ k, k ≠ (h : Nat) → t.hda k = s.hda k) ∧
      (∀ m, m / 2 ≠ (h : Nat) → t.mu m = s.mu m) ∧
      (∀ k, k ≠ (h : Nat) → sget t.pwr.port k {} = sget s.pwr.port k {}) ∧
      t.pwr = { s.pwr with port := t.pwr.port } ∧
      unchangedBut [.free, .out, .ctr, .flt, .log, .thp, .pwr, .mns, .cal, .hdas, .mus, .store, .ldp, .tags, .cqs, .cmds, .mgt, .buf,
        .bca] s t) ∧
  (∀ (h : HdaNo) (s : State), s.mns.busUp = true → (s.hda h).present = true → s.mns.powerFail = true →
    ∃ t, exec (.hdaRemoved h) s = .next t ∧
      t.hda h = { s.hda h with present := false } ∧
      (∀ k, k ≠ (h : Nat) → t.hda k = s.hda k) ∧
      unchangedBut [.hdas] s t) ∧
  (∀ (h : HdaNo) (s : State), s.mns.busUp = true → (s.hda h).present = true → s.mns.powerFail = false → ((s.hda h).st = .accepted ∨ (s.hda
    h).st = .active ∨ (s.hda h).st = .releasing) →
    ∃ t, exec (.hdaRemoved h) s = .next t ∧
      (t.hda h).st = .empty ∧ (t.hda h).present = false ∧ (t.hda h).desc = none ∧ (t.hda h).hs = 3 ∧
      (sget t.pwr.port h {}).on = false ∧
      offered t (mkMsg 18 0 5 h) ∧
      (∀ n, n ∈ s.removedCmds h → s.live n = true → (t.tag n).st = .posted) ∧
      (∀ m, m / 2 = (h : Nat) → (t.mu m).formatted = false ∧ (t.mu m).fmt = {} ∧ (t.mu m).stopped = false) ∧
      (∀ k, k ≠ (h : Nat) → sget t.pwr.port k {} = sget s.pwr.port k {}) ∧
      (s.canonical = true → ∀ k, k ≠ (h : Nat) → (t.hda k).st = (s.hda k).st ∧ (t.hda k).hs = (s.hda k).hs ∧ (t.hda k).desc = (s.hda
        k).desc) ∧
      unchangedBut [.free, .out, .ctr, .flt, .log, .thp, .pwr, .mns, .cal, .hdas, .mus, .store, .ldp, .tags, .cqs, .cmds, .mgt, .buf,
        .bca] s t) ∧
  (∀ (h : HdaNo) (s : State), (s.hda h).st = .releasing → (s.hda h).srv.spin = .stopped → s.bothParked h = true → s.releaseDrained h =
    true → s.eventRoom = true →
    ∃ t, exec (.hdaReleased h) s = .next t ∧
      (t.hda h).st = .released ∧ (t.hda h).hs = 3 ∧ (t.hda h).releaseCmd = none ∧ (t.hda h).desc = none ∧
      (sget t.pwr.port h {}).on = false ∧
      offered t (mkMsg 18 0 4 h) ∧
      (∀ k, k ≠ (h : Nat) → t.hda k = s.hda k) ∧
      (∀ m, m / 2 ≠ (h : Nat) → t.mu m = s.mu m) ∧
      (∀ k, k ≠ (h : Nat) → sget t.pwr.port k {} = sget s.pwr.port k {}) ∧
      t.pwr = { s.pwr with port := t.pwr.port } ∧
      (∀ n, (s.hda h).releaseCmd = some n → s.live n = true → (t.tag n).st = .posted) ∧
      unchangedBut [.ctr, .flt, .pwr, .mns, .cal, .hdas, .mus, .tags, .cqs, .cmds] s t)

/-- The module drives a write frame of 25 cycles and the first 8 cycles of a read frame of 26 as R109 has them; a frame cut before its last
cycle is void. A read frame whose parity checks gives the register's value to V13; one whose parity fails sets LINK_PARITY with one
PREAMP_LINK_ERROR and gives no value. A write frame whose parity checks takes effect, for a G register under WG only at the fall of WG; one
whose parity fails changes no register but PA_STAT, which gets LINK_PARITY. A set bit of PA_STAT drives PFLT low: its fall cuts the gate
with one PREAMP_FAULT, makes a clear due and, for an assist bit, marks an assist cut; while PFLT is low further bits only join PA_STAT. The
other registers stay. A command that offers an event finds room in its source's buffer (R548; FaultControlAndAcceptance states the hold). -/
def Obligations.PreampLink : Prop :=
  (∀ (f : LinkFrame), f.read = false → f.addr < 128 →
    f.cycles = 25 ∧ f.driven.length = 25 ∧ f.driven.head? = some false ∧ bitsNat ((f.driven.drop 1).take 7) = f.addr ∧ bitsNat
      ((f.driven.drop 8).take 16) = f.data.toNat ∧ oddOnes (f.driven.drop 1) = true) ∧
  (∀ (f : LinkFrame), f.read = true → f.addr < 128 →
    f.cycles = 26 ∧ f.driven.length = 8 ∧ f.driven.head? = some true ∧ bitsNat (f.driven.drop 1) = f.addr) ∧
  (∀ (m : MuNo) (frame : FrameIn) (f : LinkFrame) (r : List LinkFrame) (s : State), (s.mu m).tsq.frames = f :: r → (sget s.pwr.port ((m :
    Nat) / 2) {}).on = true → frame.cycles < f.cycles →
    ∃ t, exec (.preampFrameEnd m frame) s = .next t ∧
      (t.mu m).tsq = { (s.mu m).tsq with frames := r, linkBusy := !r.isEmpty } ∧
      t.mu m = { s.mu m with tsq := (t.mu m).tsq } ∧
      (∀ k, k ≠ (m : Nat) → t.mu k = s.mu k) ∧
      unchangedBut [.mus] s t) ∧
  (∀ (m : MuNo) (frame : FrameIn) (f : LinkFrame) (r : List LinkFrame) (s : State), (s.mu m).tsq.frames = f :: r → (sget s.pwr.port ((m :
    Nat) / 2) {}).on = true → f.cycles ≤ frame.cycles → f.read = true → oddOnes (flipBits (withPar (natBits 16 ((s.mu m).pa.reading f.addr
    frame.live).toNat)) frame.flips) = true →
    ∃ t, exec (.preampFrameEnd m frame) s = .next t ∧
      (t.mu m).tsq = { (s.mu m).tsq with
          frames := r, linkBusy := !r.isEmpty, linkParity := false, v := sset (s.mu m).tsq.v 13 (BitVec.ofNat 32 (bitsNat ((flipBits
          (withPar (natBits 16 ((s.mu m).pa.reading f.addr frame.live).toNat)) frame.flips).take 16))) 0 } ∧
      (t.mu m).pa = (s.mu m).pa.readAt f.addr frame.live ∧
      t.mu m = { s.mu m with tsq := (t.mu m).tsq, pa := (t.mu m).pa } ∧
      (∀ k, k ≠ (m : Nat) → t.mu k = s.mu k) ∧
      unchangedBut [.mus] s t) ∧
  (∀ (m : MuNo) (frame : FrameIn) (f : LinkFrame) (r : List LinkFrame) (s : State), (s.mu m).tsq.frames = f :: r → (sget s.pwr.port ((m :
    Nat) / 2) {}).on = true → f.cycles ≤ frame.cycles → f.read = true → oddOnes (flipBits (withPar (natBits 16 ((s.mu m).pa.reading f.addr
    frame.live).toNat)) frame.flips) = false → s.eventRoom = true →
    ∃ t, exec (.preampFrameEnd m frame) s = .next t ∧
      (t.mu m).tsq = { (s.mu m).tsq with frames := r, linkBusy := !r.isEmpty, linkParity := true } ∧
      (t.mu m).pa = (s.mu m).pa.readAt f.addr frame.live ∧
      t.mu m = { s.mu m with tsq := (t.mu m).tsq, pa := (t.mu m).pa } ∧
      (∀ k, k ≠ (m : Nat) → t.mu k = s.mu k) ∧
      offered t (mkMsg 11 m 5 f.addr) ∧
      unchangedBut [.ctr, .flt, .mus] s t) ∧
  (∀ (m : MuNo) (frame : FrameIn) (f : LinkFrame) (r : List LinkFrame) (s : State), (s.mu m).tsq.frames = f :: r → (sget s.pwr.port ((m :
    Nat) / 2) {}).on = true → f.cycles ≤ frame.cycles → f.read = false → oddOnes (flipBits (f.driven.drop 1) frame.flips) = true → (isG
    (bitsNat ((flipBits (f.driven.drop 1) frame.flips).take 7)) = false ∨ (s.mu m).was.wg = false) →
    ∃ t, exec (.preampFrameEnd m frame) s = .next t ∧
      (t.mu m).pa = (s.mu m).pa.put (bitsNat ((flipBits (f.driven.drop 1) frame.flips).take 7)) (bitsNat (((flipBits (f.driven.drop 1)
        frame.flips).drop 7).take 16)) ∧
      (t.mu m).tsq = { (s.mu m).tsq with frames := r, linkBusy := !r.isEmpty } ∧
      t.mu m = { s.mu m with tsq := (t.mu m).tsq, pa := (t.mu m).pa } ∧
      (∀ k, k ≠ (m : Nat) → t.mu k = s.mu k) ∧
      unchangedBut [.mus] s t) ∧
  (∀ (m : MuNo) (frame : FrameIn) (f : LinkFrame) (r : List LinkFrame) (s : State), (s.mu m).tsq.frames = f :: r → (sget s.pwr.port ((m :
    Nat) / 2) {}).on = true → f.cycles ≤ frame.cycles → f.read = false → oddOnes (flipBits (f.driven.drop 1) frame.flips) = true → isG
    (bitsNat ((flipBits (f.driven.drop 1) frame.flips).take 7)) = true → (s.mu m).was.wg = true →
    ∃ t, exec (.preampFrameEnd m frame) s = .next t ∧
      (t.mu m).pa.regs = (s.mu m).pa.regs ∧ (t.mu m).pa.pendingG.map (·.1) = (s.mu m).pa.pendingG.map (·.1) ++ [bitsNat ((flipBits
        (f.driven.drop 1) frame.flips).take 7)] ∧
      (t.mu m).tsq = { (s.mu m).tsq with frames := r, linkBusy := !r.isEmpty } ∧
      t.mu m = { s.mu m with tsq := (t.mu m).tsq, pa := (t.mu m).pa } ∧
      (∀ k, k ≠ (m : Nat) → t.mu k = s.mu k) ∧
      unchangedBut [.mus] s t) ∧
  (∀ (m : MuNo) (frame : FrameIn) (f : LinkFrame) (r : List LinkFrame) (s : State), (s.mu m).tsq.frames = f :: r → (sget s.pwr.port ((m :
    Nat) / 2) {}).on = true → f.cycles ≤ frame.cycles → f.read = false → oddOnes (flipBits (f.driven.drop 1) frame.flips) = false → (s.mu
    m).was.wg = false → s.eventRoom = true →
    ∃ t, exec (.preampFrameEnd m frame) s = .next t ∧
      sget (t.mu m).pa.regs 4 0 = sget (s.mu m).pa.regs 4 0 ||| 0x0200#16 ∧ (t.mu m).pa.pflt = true ∧
      (∀ a, a ≠ 4 → sget (t.mu m).pa.regs a 0 = sget (s.mu m).pa.regs a 0) ∧
      t.mu m = { s.mu m with tsq := (t.mu m).tsq, pa := (t.mu m).pa, was := (t.mu m).was } ∧
      (∀ k, k ≠ (m : Nat) → t.mu k = s.mu k) ∧
      ((s.mu m).pa.pflt = false → offered t (mkMsg 11 m 4 (sget (s.mu m).pa.regs 4 0 ||| 0x0200#16).toNat) ∧ (t.mu m).was.wgCut = true ∧
        (t.mu m).was.clearDue = true) ∧
      ((s.mu m).pa.pflt = true → (t.mu m).was = (s.mu m).was) ∧
      unchangedBut [.ctr, .flt, .mus] s t) ∧
  (∀ (m : MuNo) (stat : Nat) (s : State), stat ≠ 0 → stat < 1024 → (sget s.pwr.port ((m : Nat) / 2) {}).on = true → (s.mu m).pa.pflt =
    false →
    ∃ t, exec (.preampFault m stat) s = .next t ∧
      ((s.mu m).was.wg = false → sget (t.mu m).pa.regs 4 0 = sget (s.mu m).pa.regs 4 0 ||| BitVec.ofNat 16 stat) ∧
      ((t.mu m).pa.pflt = true ∧ (t.mu m).was.wg = false ∧ (t.mu m).was.ae = false ∧ (t.mu m).was.wgCut = true ∧ (t.mu m).was.clearDue =
        true ∧ (t.mu m).pa.pendingG = (if (s.mu m).was.wg then [] else (s.mu m).pa.pendingG)) ∧
      offered t (mkMsg 11 m 4 (sget (s.mu m).pa.regs 4 0 ||| BitVec.ofNat 16 stat).toNat) ∧
      (bit stat 4 = true ∨ bit stat 5 = true ∨ bit stat 6 = true → (t.mu m).was.astCut = true) ∧
      (bit stat 4 = true → offered t (mkMsg 11 m 6 0)) ∧
      (bit stat 5 = true → offered t (mkMsg 11 m 7 0)) ∧
      (bit stat 6 = true → offered t (mkMsg 11 m 8 0)) ∧
      t.counter (aWas m 0x08) = Ctr.add 31 1 (s.counter (aWas m 0x08)) ∧
      t.mu m = { s.mu m with pa := (t.mu m).pa, was := (t.mu m).was } ∧
      (∀ k, k ≠ (m : Nat) → t.mu k = s.mu k) ∧
      unchangedBut [.ctr, .flt, .mus] s t) ∧
  (∀ (m : MuNo) (stat : Nat) (s : State), stat ≠ 0 → stat < 1024 → (sget s.pwr.port ((m : Nat) / 2) {}).on = true → (s.mu m).pa.pflt =
    true →
    ∃ t, exec (.preampFault m stat) s = .next t ∧
      sget (t.mu m).pa.regs 4 0 = sget (s.mu m).pa.regs 4 0 ||| BitVec.ofNat 16 stat ∧
      (∀ a, a ≠ 4 → sget (t.mu m).pa.regs a 0 = sget (s.mu m).pa.regs a 0) ∧
      (t.mu m).pa = { (s.mu m).pa with regs := (t.mu m).pa.regs } ∧
      t.mu m = { s.mu m with pa := (t.mu m).pa } ∧
      (∀ k, k ≠ (m : Nat) → t.mu k = s.mu k) ∧
      unchangedBut [.mus] s t)

/-- An index edge counts marks, keeps speed and back-EMF, and reports a revolution of other than 32,768 marks. Two good intervals make a
stopped clock acquire; two good revolutions then lock it and decide its band; a speed out of range stops it again. While locked the band
follows with hysteresis. The clauses on the edge leave out a back-EMF above the overspeed limit, which is an engine fault. 20 µs after the
symbol clocks start the sequencers are IDLE. A loss of lock stops the clocks, closes the gates and is counted, but a stop with parked heads
is no loss. The governor takes the fixed speed in FIXED; in FOLLOW its target lies within the configured limits, at the upper one after
pressure. A target that is reached ends the slew. A command that offers an event finds room in its source's buffer (R548;
FaultControlAndAcceptance states the hold). -/
def Obligations.ClockAndGovernor : Prop :=
  (∀ (h : HdaNo) (marks v : Nat) (ok : Bool) (b : Nat) (s : State), (sget s.pwr.port h {}).on = true → ((s.hda h).desc = none ∨ b ≤
    (s.desc h).spdMax + 150) → s.eventRoom = true →
    ∃ t, exec (.clkIndexEdge h marks v ok b) s = .next t ∧
      (t.hda h).clk.meas = v ∧ (t.hda h).srv.bemf = b ∧ (t.hda h).clk.markCnt = (s.hda h).clk.markCnt + BitVec.ofNat 32 marks ∧
      (marks ≠ 32768 → offered t (mkMsg 13 h 2 (marks % 2 ^ 17)) ∧ t.counter (aClk h 0x0C) = Ctr.add 31 1 (s.counter (aClk h 0x0C))) ∧
      ((s.hda h).clk.lock = .stopped → lockRange v = true → (s.hda h).clk.goodIntervals ≠ 0 → (t.hda h).clk.lock = .acquiring) ∧
      ((s.hda h).clk.lock = .stopped → (lockRange v = false ∨ (s.hda h).clk.goodIntervals = 0) → (t.hda h).clk.lock = .stopped ∧ (t.hda
        h).clk.goodIntervals = flag (lockRange v)) ∧
      ((s.hda h).clk.lock = .acquiring → lockRange v = true → marks = 32768 → ok = true → (s.hda h).clk.goodRevs ≠ 0 → (t.hda h).clk.lock
        = .locked ∧ (t.hda h).clk.band = bandOfSpeed v ∧ (t.hda h).srv.lfsr.isSome = true) ∧
      ((s.hda h).clk.lock = .acquiring → lockRange v = true → marks = 32768 → ok = true → (s.hda h).clk.goodRevs = 0 → (t.hda h).clk.lock
        = .acquiring ∧ (t.hda h).clk.goodRevs = 1) ∧
      ((s.hda h).clk.lock = .acquiring → lockRange v = true → (marks ≠ 32768 ∨ ok = false) → (t.hda h).clk.lock = .acquiring ∧ (t.hda
        h).clk.goodRevs = 0) ∧
      ((s.hda h).clk.lock = .acquiring → lockRange v = false → (t.hda h).clk.lock = .stopped) ∧
      ((s.hda h).clk.lock = .locked → (t.hda h).clk.lock = .locked ∧ (t.hda h).clk.islandLocked = true ∧ (t.hda h).clk.symRunning =
        ((s.hda h).clk.symRunning || !(s.hda h).clk.islandLocked) ∧ (t.hda h).clk.band = (if marks = 32768 ∧ lockRange v = true then
        bandAfter (s.hda h).clk.band v else (s.hda h).clk.band)) ∧
      (∀ k, k ≠ (h : Nat) → t.hda k = s.hda k) ∧
      (∀ m, m / 2 ≠ (h : Nat) → t.mu m = s.mu m) ∧
      t.hda h = { s.hda h with clk := (t.hda h).clk, srv := (t.hda h).srv } ∧
      (∀ m, m / 2 = (h : Nat) → t.mu m = { s.mu m with tsq := { (s.mu m).tsq with bandChanged := (t.mu m).tsq.bandChanged } }) ∧
      unchangedBut [.hdas, .mus, .free, .flt, .ctr] s t) ∧
  (∀ (h : HdaNo) (s : State), (s.hda h).clk.symRunning = true → (s.hda h).clk.gatesPermitted = false →
    ∃ t, exec (.symbolClockSettled h) s = .next t ∧
      t.hda h = { s.hda h with clk := { (s.hda h).clk with gatesPermitted := true } } ∧
      (∀ k, k ≠ (h : Nat) → t.hda k = s.hda k) ∧
      (∀ m, m / 2 = (h : Nat) → t.mu m = { s.mu m with
          tsq := { (s.mu m).tsq with st := if (s.mu m).tsq.st = .stopped then .idle else (s.mu m).tsq.st } }) ∧
      (∀ m, m / 2 ≠ (h : Nat) → t.mu m = s.mu m) ∧
      unchangedBut [.hdas, .mus] s t) ∧
  (∀ (h : HdaNo) (case : Nat) (la lb : Bool) (s : State), (s.hda h).clk.lock = .locked → 1 ≤ case → case ≤ 3 → s.stoppingParked h = false
    →
    ∃ t, exec (.clkLockLost h case la lb) s = .next t ∧
      (t.hda h).clk.lock = .stopped ∧ (t.hda h).clk.islandLocked = false ∧ (t.hda h).clk.symRunning = false ∧ (t.hda h).clk.gatesPermitted
        = false ∧
      offered t (mkMsg 13 h 1 case) ∧
      t.counter (aClk h 0x10) = Ctr.add 31 1 (s.counter (aClk h 0x10)) ∧
      (∀ m, m / 2 = (h : Nat) → (t.mu m).tsq.st = .stopped ∧ (t.mu m).tsq.desc = none ∧ (t.mu m).was.wg = false ∧ (t.mu m).was.ae = false)
        ∧
      ((s.mu (2 * h)).tsq.desc = none → (s.mu (2 * h + 1)).tsq.desc = none → (∀ k, k ≠ (h : Nat) → t.hda k = s.hda k) ∧ ∀ m, m / 2 ≠ (h :
        Nat) → t.mu m = s.mu m) ∧
      unchangedBut [.free, .out, .ctr, .flt, .log, .pwr, .mns, .cal, .hdas, .mus, .store, .ldp, .tags, .cqs, .cmds, .mgt, .buf, .bca] s t) ∧
  (∀ (h : HdaNo) (case : Nat) (la lb : Bool) (s : State), (s.hda h).clk.lock = .locked → 1 ≤ case → case ≤ 3 → s.stoppingParked h = true →
    ∃ t, exec (.clkLockLost h case la lb) s = .next t ∧
      t.hda h = { s.hda h with
          clk := { (s.hda h).clk with
            lock := .stopped, goodIntervals := 0, goodRevs := 0, islandLocked := false, symRunning := false, gatesPermitted := false } } ∧
      (∀ m, m / 2 = (h : Nat) → t.mu m = { s.mu m with tsq := { (s.mu m).tsq with st := .stopped } }) ∧
      (∀ k, k ≠ (h : Nat) → t.hda k = s.hda k) ∧
      (∀ m, m / 2 ≠ (h : Nat) → t.mu m = s.mu m) ∧
      unchangedBut [.hdas, .mus] s t) ∧
  (∀ (m : MuNo) (s : State), (s.mu m).tsq.st = .held →
    ∃ t, exec (.kChangeDone m) s = .next t ∧
      (t.mu m = { s.mu m with tsq := { (s.mu m).tsq with st := if (s.mu m).tsq.desc.isSome then .running else .idle } }) ∧
      (∀ k, k ≠ (m : Nat) → t.mu k = s.mu k) ∧
      unchangedBut [.mus] s t) ∧
  (∀ (h : HdaNo) (busy : Nat) (s : State), busy ≤ 100 →
    ∃ t, exec (.governorEval h busy) s = .next t ∧
      (bit (s.feat0 0x02 h) 0 = false → (t.hda h).gov.target = bits (s.feat0 0x02 h) 31 16 ∧ (t.hda h).gov.following = false) ∧
      (bit (s.feat0 0x02 h) 0 = true → bits (s.feat1 0x02 h) 15 0 ≤ bits (s.feat1 0x02 h) 31 16 → (t.hda h).gov.following = true ∧ bits
        (s.feat1 0x02 h) 15 0 ≤ (t.hda h).gov.target ∧ (t.hda h).gov.target ≤ bits (s.feat1 0x02 h) 31 16) ∧
      (bit (s.feat0 0x02 h) 0 = true → (s.hda h).gov.following = true → s.pressureOf h = true → (t.hda h).gov.target = bits (s.feat1 0x02
        h) 31 16) ∧
      (s.bca.budget = [] → (t.hda h).gov.pressure = false ∧ ∀ k, k ≠ (h : Nat) → t.hda k = s.hda k) ∧
      (t.hda h).clk.slewing = (t.driven h && !(t.hda h).clk.within2 (t.speedTarget h)) ∧
      t.hda h = { s.hda h with gov := (t.hda h).gov, clk := { (s.hda h).clk with slewing := (t.hda h).clk.slewing } } ∧
      (∀ k, k ≠ (h : Nat) → t.hda k = { s.hda k with gov := { (s.hda k).gov with pressure := (t.hda k).gov.pressure } }) ∧
      unchangedBut [.hdas] s t) ∧
  (∀ (h : HdaNo) (s : State), (s.hda h).clk.slewing = true → s.driven h = true → (s.hda h).clk.within2 (s.speedTarget h) = true → (s.hda
    h).hsTransit = false →
    ∃ t, exec (.speedTargetReached h) s = .next t ∧
      t.hda h = { s.hda h with clk := { (s.hda h).clk with slewing := false } } ∧
      (∀ k, k ≠ (h : Nat) → t.hda k = s.hda k) ∧
      unchangedBut [.hdas] s t)

/-- A sample with no valid reader is invalid and counted, and inhibits writing; the 32nd in a row while positioning is an engine fault of
kind POS_LOST, which retracts and stops both media units. A valid sample gives the position of R248 and PES in 1/256 track of the target
with its injection. A parked actuator gets no command. The phase current of a spindle at speed stays within SP_IMAX, its electrical angle
follows the wedge's mark, and its speed reference moves towards the target, with heads loaded by at most the step of 200 rpm/s. Stated for
actuator A, with the other parked where POS_LOST is decided. With no take in hand other HDAs and their media units stay as they are. A
command that offers an event finds room in its source's buffer (R548; FaultControlAndAcceptance states the hold). -/
def Obligations.ServoSample : Prop :=
  (∀ (h : HdaNo) (i : WedgeIn) (s : State), s.samples h = true → i.wedge < 640 → (s.mu (2 * h)).act.st = .following → syncOk i.a.r0 =
    false → syncOk i.a.r1 = false → (s.mu (2 * h)).act.invalidRun < 31 → (s.mu (2 * h)).act.diffRun = 0 → (s.mu (2 * h + 1)).act.st =
    .parked → (s.mu (2 * h + 1)).act.ramp = .rest → s.eventRoom = true →
    ∃ t, exec (.servoWedgeSample h i) s = .next t ∧
      (t.mu (2 * h)).act.invalid = true ∧ (t.mu (2 * h)).act.invalidRun = (s.mu (2 * h)).act.invalidRun + 1 ∧ (t.mu (2 * h)).act.wedge =
        i.wedge ∧
      (t.mu (2 * h)).was.inhibit = true ∧
      t.counter (aSrv h 0x1C) = Ctr.add 31 1 (s.counter (aSrv h 0x1C)) ∧
      (t.mu (2 * h + 1)).act.st = .parked ∧ (t.mu (2 * h + 1)).act.uV = 0 ∧ (t.mu (2 * h + 1)).act.uM = 0 ∧
      ((s.mu (2 * h)).tsq.desc = none → (s.mu (2 * h + 1)).tsq.desc = none → (s.mu (2 * h)).was.closing = none → (s.mu (2 * h +
        1)).was.closing = none → (s.mu (2 * h)).was.awaiting = [] → (s.mu (2 * h + 1)).was.awaiting = [] → (∀ k, k ≠ (h : Nat) → t.hda k =
        s.hda k) ∧ ∀ m, m / 2 ≠ (h : Nat) → t.mu m = s.mu m) ∧
      unchangedBut [.free, .out, .ctr, .flt, .log, .pwr, .mns, .cal, .hdas, .mus, .store, .ldp, .tags, .cqs, .cmds, .mgt, .buf, .bca] s t) ∧
  (∀ (h : HdaNo) (i : WedgeIn) (s : State), s.samples h = true → i.wedge < 640 → (s.mu (2 * h)).act.st = .following → syncOk i.a.r0 =
    false → syncOk i.a.r1 = false → (s.mu (2 * h)).act.invalidRun = 31 → (s.mu (2 * h + 1)).act.st = .parked → (sget s.pwr.port h {}).on =
    true → s.eventRoom = true →
    ∃ t, exec (.servoWedgeSample h i) s = .next t ∧
      offered t (mkMsg 12 h 1 3) ∧
      (t.hda h).srv.retracted = true ∧ (t.hda h).srv.retCause = 2 ∧
      (t.mu (2 * h)).act.st = .retracting ∧
      (∀ m, m / 2 = (h : Nat) → (t.mu m).stopped = true) ∧
      ((s.mu (2 * h)).tsq.desc = none → (s.mu (2 * h + 1)).tsq.desc = none → (s.mu (2 * h)).was.closing = none → (s.mu (2 * h +
        1)).was.closing = none → (s.mu (2 * h)).was.awaiting = [] → (s.mu (2 * h + 1)).was.awaiting = [] → (∀ k, k ≠ (h : Nat) → t.hda k =
        s.hda k) ∧ ∀ m, m / 2 ≠ (h : Nat) → t.mu m = s.mu m) ∧
      unchangedBut [.free, .out, .ctr, .flt, .log, .pwr, .mns, .cal, .hdas, .mus, .store, .ldp, .tags, .cqs, .cmds, .mgt, .buf, .bca] s t) ∧
  (∀ (h : HdaNo) (i : WedgeIn) (s : State), s.samples h = true → i.wedge < 640 → (s.mu (2 * h)).act.st = .following → (s.mu (2 *
    h)).act.writer = false → syncOk i.a.r1 = false → (s.mu (2 * h)).act.diffRun = 0 → (s.mu (2 * h + 1)).act.st = .parked → (s.hda
    h).srv.tune = none → readerValid i.a.r0 i.wedge ((s.hda h).srv.w (actSet 0 (s.hda h).srv.bandInUse + 0x012)) (nearTrack ((s.mu (2 *
    h)).act.pos + (s.mu (2 * h)).act.vEst) (s.mu (2 * h)).act.vEst) = true → i.a.r0.c ≠ i.a.r0.d → ((i.a.r0.a : Int) - i.a.r0.b).natAbs ≤
    ((i.a.r0.c : Int) - i.a.r0.d).natAbs → s.eventRoom = true →
    ∃ t, exec (.servoWedgeSample h i) s = .next t ∧
      (t.mu (2 * h)).act.pos = readerPos i.a.r0 0 ∧ (t.mu (2 * h)).act.track = trackOf (readerPos i.a.r0 0) ∧
      (t.mu (2 * h)).act.pes = (readerPos i.a.r0 0 - (s.mu (2 * h)).act.target).tdiv 16 ∧
      (t.mu (2 * h)).act.invalid = false ∧ (t.mu (2 * h)).act.invalidRun = 0 ∧
      ((s.mu (2 * h)).tsq.desc = none → (s.mu (2 * h + 1)).tsq.desc = none → (s.mu (2 * h)).was.closing = none → (s.mu (2 * h +
        1)).was.closing = none → (s.mu (2 * h)).was.awaiting = [] → (s.mu (2 * h + 1)).was.awaiting = [] → (∀ k, k ≠ (h : Nat) → t.hda k =
        s.hda k) ∧ ∀ m, m / 2 ≠ (h : Nat) → t.mu m = s.mu m) ∧
      unchangedBut [.free, .out, .ctr, .flt, .log, .pwr, .mns, .cal, .hdas, .mus, .store, .ldp, .tags, .cqs, .cmds, .mgt, .buf, .bca] s t) ∧
  (∀ (h : HdaNo) (i : WedgeIn) (s : State), s.samples h = true → i.wedge < 640 → (s.mu (2 * h)).act.st = .parked → (s.mu (2 * h)).act.ramp
    = .rest → (s.mu (2 * h + 1)).act.st = .parked → (s.mu (2 * h + 1)).act.ramp = .rest → (s.hda h).srv.spin = .spunUp → (s.hda h).st ≠
    .releasing → i.wedge ≠ 0 → s.eventRoom = true →
    ∃ t, exec (.servoWedgeSample h i) s = .next t ∧
      (t.hda h).srv.phaseI ≤ (s.desc h).spImax ∧
      (t.hda h).srv.elecAngle = (wedgeMark i.wedge * (s.desc h).polePairs + (s.hda h).srv.commOfs) % 32768 ∧
      (((s.hda h).srv.speedRef ≤ (t.hda h).srv.speedRef ∧ (t.hda h).srv.speedRef ≤ Nat.max (s.hda h).srv.speedRef (s.speedTarget h *
        65536)) ∨ ((t.hda h).srv.speedRef ≤ (s.hda h).srv.speedRef ∧ s.speedTarget h * 65536 ≤ (t.hda h).srv.speedRef)) ∧
      (∀ m, m / 2 = (h : Nat) → (t.mu m).act.st = .parked ∧ (t.mu m).act.uV = 0 ∧ (t.mu m).act.uM = 0) ∧
      ((s.mu (2 * h)).tsq.desc = none → (s.mu (2 * h + 1)).tsq.desc = none → (s.mu (2 * h)).was.closing = none → (s.mu (2 * h +
        1)).was.closing = none → (s.mu (2 * h)).was.awaiting = [] → (s.mu (2 * h + 1)).was.awaiting = [] → (∀ k, k ≠ (h : Nat) → t.hda k =
        s.hda k) ∧ ∀ m, m / 2 ≠ (h : Nat) → t.mu m = s.mu m) ∧
      unchangedBut [.free, .out, .ctr, .flt, .log, .pwr, .mns, .cal, .hdas, .mus, .store, .ldp, .tags, .cqs, .cmds, .mgt, .buf, .bca] s t) ∧
  (∀ (h : HdaNo) (i : WedgeIn) (s : State), s.samples h = true → i.wedge < 640 → (s.mu (2 * h)).act.st = .following → (s.hda h).srv.spin =
    .spunUp → i.wedge ≠ 0 → s.eventRoom = true →
    ∃ t, exec (.servoWedgeSample h i) s = .next t ∧
      ((t.hda h).srv.speedRef : Int) - (s.hda h).srv.speedRef ≤ refStep (s.hda h).clk.meas ∧
      ((s.hda h).srv.speedRef : Int) - (t.hda h).srv.speedRef ≤ refStep (s.hda h).clk.meas ∧
      ((s.mu (2 * h)).tsq.desc = none → (s.mu (2 * h + 1)).tsq.desc = none → (s.mu (2 * h)).was.closing = none → (s.mu (2 * h +
        1)).was.closing = none → (s.mu (2 * h)).was.awaiting = [] → (s.mu (2 * h + 1)).was.awaiting = [] → (∀ k, k ≠ (h : Nat) → t.hda k =
        s.hda k) ∧ ∀ m, m / 2 ≠ (h : Nat) → t.mu m = s.mu m) ∧
      unchangedBut [.free, .out, .ctr, .flt, .log, .pwr, .mns, .cal, .hdas, .mus, .store, .ldp, .tags, .cqs, .cmds, .mgt, .buf, .bca] s t)

/-- The steps of R588 and R589 come in turn, each when its condition holds: a state they reach is entered with one POWER_STATE event, and
the transition ends where its target is reached, at PS2 with its command. PS4 turns off CHAN, LDP and TAGS and puts buffer SDRAM in
self-refresh; an exit undoes this. A wake that fired starts the exit to the state PS4 was entered from; the TIMER wake fires when its period
has passed. A command that offers an event finds room in its source's buffer (R548; FaultControlAndAcceptance states the hold). -/
def Obligations.PowerTransitions : Prop :=
  (∀ (s : State), s.pwr.transit = true → s.pwr.pstate < s.pwr.target → s.mns.powerFail = false → s.entryMay (s.pwr.step + 1) = true →
    (s.pwr.step = 2 ∨ s.pwr.step = 4) →
    ∃ t, exec .psEntryStep s = .next t ∧
      t.pwr = { s.pwr with step := s.pwr.step + 1 } ∧
      unchangedBut [.pwr] s t) ∧
  (∀ (s : State), s.pwr.transit = true → s.pwr.pstate < s.pwr.target → s.mns.powerFail = false → s.entryMay (s.pwr.step + 1) = true →
    s.pwr.step = 1 → s.eventRoom = true →
    ∃ t, exec .psEntryStep s = .next t ∧
      t.pwr.step = 2 ∧ t.pwr.pstate = s.pwr.pstate ∧ t.pwr.transit = true ∧
      unchangedBut [.free, .out, .ctr, .flt, .pwr, .mns, .cal, .hdas, .mus, .eps, .tags, .cqs, .cmds, .bca] s t) ∧
  (∀ (s : State), s.pwr.transit = true → s.pwr.pstate < s.pwr.target → s.mns.powerFail = false → s.entryMay (s.pwr.step + 1) = true →
    s.pwr.step = 3 → s.pwr.pstate < 2 → s.eventRoom = true →
    ∃ t, exec .psEntryStep s = .next t ∧
      t.pwr.pstate = 2 ∧
      offered t (mkMsg 18 0 0x0C 2) ∧
      t.pwr.transit = decide (s.pwr.target ≠ 2) ∧
      (∀ n, s.pwr.requester = some n → s.pwr.target = 2 → s.live n = true → completes s t n {}) ∧
      unchangedBut [.free, .out, .ctr, .flt, .pwr, .mns, .cal, .hdas, .mus, .eps, .tags, .cqs, .cmds, .bca] s t) ∧
  (∀ (s : State), s.pwr.transit = true → s.pwr.pstate < s.pwr.target → s.mns.powerFail = false → s.entryMay (s.pwr.step + 1) = true →
    s.pwr.step = 5 → s.eventRoom = true →
    ∃ t, exec .psEntryStep s = .next t ∧
      t.pwr.pstate = 3 ∧
      (s.pwr.pstate ≠ 3 → offered t (mkMsg 18 0 0x0C 3)) ∧
      t.pwr.transit = decide (s.pwr.target ≠ 3) ∧
      unchangedBut [.free, .out, .ctr, .flt, .pwr, .mns, .cal, .hdas, .mus, .eps, .tags, .cqs, .cmds, .bca] s t) ∧
  (∀ (s : State), s.pwr.transit = true → s.pwr.pstate < s.pwr.target → s.mns.powerFail = false → s.entryMay (s.pwr.step + 1) = true →
    s.pwr.step = 6 → s.eventRoom = true →
    ∃ t, exec .psEntryStep s = .next t ∧
      t.pwr.pstate = 4 ∧ t.pwr.chan = [] ∧ t.pwr.ldp.on = false ∧ t.pwr.tags.on = false ∧ t.pwr.sdramSelfRefresh = true ∧
        t.pwr.coresHalted = true ∧
      t.bca.lines = [] ∧ t.bca.index = s.bca.index ∧
      t.pwr.timerLeft = s.feat1 0x0D ∧
      unchangedBut [.free, .out, .ctr, .flt, .pwr, .mns, .cal, .hdas, .mus, .eps, .tags, .cqs, .cmds, .bca] s t) ∧
  (∀ (s : State), s.pwr.transit = true → s.pwr.target < s.pwr.pstate → s.mns.powerFail = false → s.exitMay (s.pwr.step + 1) = true →
    s.pwr.step = 1 →
    exec .psExitStep s = .next ({ s with pwr := { s.pwr with step := 2, sdramSelfRefresh := false, coresHalted := false } })) ∧
  (∀ (s : State), s.pwr.transit = true → s.pwr.target < s.pwr.pstate → s.mns.powerFail = false → s.exitMay (s.pwr.step + 1) = true →
    s.pwr.step = 2 → s.eventRoom = true →
    ∃ t, exec .psExitStep s = .next t ∧
      t.pwr.step = 3 ∧ t.pwr.ldp.on = true ∧ t.pwr.tags.on = true ∧ t.pwr.pstate = s.pwr.pstate ∧
      (∀ k, k < 16 → (sget t.pwr.chan k {}).on = true) ∧
      t.ldp = {} ∧
      unchangedBut [.free, .out, .ctr, .flt, .pwr, .mns, .cal, .hdas, .mus, .ldp, .tags, .cqs, .cmds, .buf, .bca] s t) ∧
  (∀ (s : State), s.pwr.transit = true → s.pwr.target < s.pwr.pstate → s.mns.powerFail = false → s.exitMay (s.pwr.step + 1) = true →
    s.pwr.step = 3 → s.pwr.pstate = 4 → s.eventRoom = true →
    ∃ t, exec .psExitStep s = .next t ∧
      t.pwr.pstate = 3 ∧
      offered t (mkMsg 18 0 0x0C 3) ∧
      t.pwr.transit = decide (s.pwr.target ≠ 3) ∧
      unchangedBut [.free, .out, .ctr, .flt, .pwr, .mns, .cal, .hdas, .mus, .ldp, .tags, .cqs, .cmds, .buf, .bca] s t) ∧
  (∀ (s : State), s.pwr.transit = true → s.pwr.target < s.pwr.pstate → s.mns.powerFail = false → s.exitMay (s.pwr.step + 1) = true → 4 ≤
    s.pwr.step → s.pwr.step ≤ 5 → s.pwr.pstate = 7 - s.pwr.step → s.eventRoom = true →
    ∃ t, exec .psExitStep s = .next t ∧
      t.pwr.pstate = 6 - s.pwr.step ∧
      offered t (mkMsg 18 0 0x0C (6 - s.pwr.step)) ∧
      t.pwr.transit = decide (s.pwr.target ≠ 6 - s.pwr.step) ∧
      unchangedBut [.free, .out, .ctr, .flt, .pwr, .mns, .cal, .hdas, .mus, .ldp, .tags, .cqs, .cmds, .buf, .bca] s t) ∧
  (∀ (s : State), s.pwr.transit = true → s.pwr.target < s.pwr.pstate → s.mns.powerFail = false → s.exitMay (s.pwr.step + 1) = true →
    s.pwr.step = 6 → s.pwr.target = 0 → s.eventRoom = true →
    ∃ t, exec .psExitStep s = .next t ∧
      t.pwr.pstate = 0 ∧ t.pwr.transit = false ∧ t.pwr.gating = false ∧ t.pwr.gated = 0 ∧
      offered t (mkMsg 18 0 0x0C 0) ∧
      unchangedBut [.free, .out, .ctr, .flt, .pwr, .mns, .cal, .hdas, .mus, .ldp, .tags, .cqs, .cmds, .buf, .bca] s t) ∧
  (∀ (s : State), s.pwr.pstate = 4 → s.pwr.transit = false → s.pwr.timerLeft = 0 → bit (s.feat0 0x0D) 2 = true → s.pwr.wakeLatched = false
    →
    exec .wakeTimer s = .next ({ s with
        pwr := { s.pwr with wakeLatched := true, wakeSrc := 3 }, mns := { s.mns with wakeN := !s.linkL0 } })) ∧
  (∀ (s : State), s.pwr.pstate = 4 → s.pwr.transit = false → s.pwr.wakeLatched = true → s.mns.powerFail = false → s.eventRoom = true →
    ∃ t, exec .wake s = .next t ∧
      t.pwr = { s.pwr with wakeLatched := false, transit := true, target := s.pwr.ret, requester := none, step := 1, timerLeft := 0 } ∧
      t.counter 0x01120110 = Ctr.add 31 1 (s.counter 0x01120110) ∧
      (∀ e, (t.ep e).pm = 0) ∧
      unchangedBut [.pwr, .flt, .ctr, .eps, .mns] s t)

/-- PERST#, a hot reset, a Function Level Reset and a controller reset each discard every command of the endpoint without a completion, free
its tags, put its ports and completion queues at their reset values, clear its MSI-X table, bindings and nonce and advance its reset epoch;
nothing of the other endpoint changes. PERST# and a hot reset take the link down and reset configuration space, an FLR leaves the link and
its ASPM control, and only PERST# clears the AER status; a controller reset leaves configuration space. Each ends as it is said to. -/
def Obligations.EndpointResets : Prop :=
  (∀ (ep : EpNo) (s : State), (s.ep ep).perst = false → s.epUsed ep = true → s.hlkRuns = true →
    ∃ t, exec (.perstAssert ep) s = .next t ∧
      (t.ep ep).epoch = (s.ep ep).epoch + 1 ∧ (t.ep ep).msix = [] ∧ (t.ep ep).msixPend = [] ∧ (t.ep ep).bindings = [] ∧ (t.ep ep).nonce =
        none ∧
      (∀ n, n ∈ s.cmdsWhere (fun c => c.ep == (ep : Nat)) → t.cmd n = {}) ∧
      (∀ n, t.tag n = if s.tagOf ep n then {} else s.tag n) ∧
      (∀ m, s.ownsPort ep m = true → t.port m = portReset m ∧ t.cq m = {}) ∧
      (∀ m, s.ownsPort ep m = false → t.port m = s.port m ∧ t.cq m = s.cq m) ∧
      (∀ e, e ≠ (ep : Nat) → t.ep e = s.ep e) ∧
      (t.ep ep).bme = false ∧ (t.ep ep).mse = false ∧ (t.ep ep).d3hot = false ∧ (t.ep ep).funcMask = false ∧ (t.ep ep).ltrEnable = false ∧
        (t.ep ep).spdm = {} ∧ (t.ep ep).doeRequest = [] ∧ (t.ep ep).maxPayload = 0 ∧ (t.ep ep).maxRead = 2 ∧ (t.ep ep).tag10 = false ∧
        (t.ep ep).devStatus = 0 ∧
      (t.ep ep).linkUp = false ∧ (t.ep ep).aspmL1 = false ∧ (t.ep ep).aspmL12 = false ∧
      (t.ep ep).perst = true ∧ (t.ep ep).aerUncorr = 0 ∧ (t.ep ep).aerCorr = 0 ∧ (t.ep ep).aerSev = 0x00462030#32 ∧ (t.ep ep).ecrcGen =
        false ∧ (t.ep ep).ecrcCheck = false ∧
      unchangedBut [.free, .log, .pwr, .mns, .cal, .hdas, .mus, .store, .eps, .ports, .tags, .cqs, .cmds, .mgt, .buf, .bca] s t) ∧
  (∀ (ep : EpNo) (s : State), (s.ep ep).perst = false → (s.epUsed ep = false ∨ s.hlkRuns = false) →
    exec (.perstAssert ep) s = .next (s.updEp ep fun x => { x with perst := true })) ∧
  (∀ (ep : EpNo) (s : State), (s.ep ep).perst = true →
    exec (.perstRelease ep) s = .next (s.updEp ep fun x => { x with perst := false })) ∧
  (∀ (ep : EpNo) (s : State), s.epUsed ep = true → (s.ep ep).linkUp = true →
    ∃ t, exec (.hotReset ep) s = .next t ∧
      (t.ep ep).epoch = (s.ep ep).epoch + 1 ∧ (t.ep ep).msix = [] ∧ (t.ep ep).msixPend = [] ∧ (t.ep ep).bindings = [] ∧ (t.ep ep).nonce =
        none ∧
      (∀ n, n ∈ s.cmdsWhere (fun c => c.ep == (ep : Nat)) → t.cmd n = {}) ∧
      (∀ n, t.tag n = if s.tagOf ep n then {} else s.tag n) ∧
      (∀ m, s.ownsPort ep m = true → t.port m = portReset m ∧ t.cq m = {}) ∧
      (∀ m, s.ownsPort ep m = false → t.port m = s.port m ∧ t.cq m = s.cq m) ∧
      (∀ e, e ≠ (ep : Nat) → t.ep e = s.ep e) ∧
      (t.ep ep).bme = false ∧ (t.ep ep).mse = false ∧ (t.ep ep).d3hot = false ∧ (t.ep ep).funcMask = false ∧ (t.ep ep).ltrEnable = false ∧
        (t.ep ep).spdm = {} ∧ (t.ep ep).doeRequest = [] ∧ (t.ep ep).maxPayload = 0 ∧ (t.ep ep).maxRead = 2 ∧ (t.ep ep).tag10 = false ∧
        (t.ep ep).devStatus = 0 ∧
      (t.ep ep).linkUp = false ∧ (t.ep ep).aspmL1 = false ∧ (t.ep ep).aspmL12 = false ∧
      (t.ep ep).aerUncorr = (s.ep ep).aerUncorr ∧ (t.ep ep).aerCorr = (s.ep ep).aerCorr ∧ (t.ep ep).perst = (s.ep ep).perst ∧ (t.ep
        ep).aerSev = (s.ep ep).aerSev ∧
      unchangedBut [.free, .log, .pwr, .mns, .cal, .hdas, .mus, .store, .eps, .ports, .tags, .cqs, .cmds, .mgt, .buf, .bca] s t) ∧
  (∀ (ep : EpNo) (s : State), s.epUsed ep = true → (s.ep ep).linkUp = true → (s.ep ep).flrBusy = false →
    ∃ t, exec (.functionLevelReset ep) s = .next t ∧
      (t.ep ep).epoch = (s.ep ep).epoch + 1 ∧ (t.ep ep).msix = [] ∧ (t.ep ep).msixPend = [] ∧ (t.ep ep).bindings = [] ∧ (t.ep ep).nonce =
        none ∧
      (∀ n, n ∈ s.cmdsWhere (fun c => c.ep == (ep : Nat)) → t.cmd n = {}) ∧
      (∀ n, t.tag n = if s.tagOf ep n then {} else s.tag n) ∧
      (∀ m, s.ownsPort ep m = true → t.port m = portReset m ∧ t.cq m = {}) ∧
      (∀ m, s.ownsPort ep m = false → t.port m = s.port m ∧ t.cq m = s.cq m) ∧
      (∀ e, e ≠ (ep : Nat) → t.ep e = s.ep e) ∧
      (t.ep ep).bme = false ∧ (t.ep ep).mse = false ∧ (t.ep ep).d3hot = false ∧ (t.ep ep).funcMask = false ∧ (t.ep ep).ltrEnable = false ∧
        (t.ep ep).spdm = {} ∧ (t.ep ep).doeRequest = [] ∧ (t.ep ep).maxPayload = 0 ∧ (t.ep ep).maxRead = 2 ∧ (t.ep ep).tag10 = false ∧
        (t.ep ep).devStatus = 0 ∧
      (t.ep ep).flrBusy = true ∧ (t.ep ep).linkUp = true ∧ (t.ep ep).aspmL1 = (s.ep ep).aspmL1 ∧ (t.ep ep).aspmL12 = (s.ep ep).aspmL12 ∧
      (t.ep ep).aerUncorr = (s.ep ep).aerUncorr ∧ (t.ep ep).aerCorr = (s.ep ep).aerCorr ∧
      unchangedBut [.free, .log, .pwr, .mns, .cal, .hdas, .mus, .store, .eps, .ports, .tags, .cqs, .cmds, .mgt, .buf, .bca] s t) ∧
  (∀ (ep : EpNo) (s : State), (s.ep ep).flrBusy = true →
    exec (.functionLevelResetDone ep) s = .next (s.updEp ep fun x => { x with flrBusy := false })) ∧
  (∀ (ep : EpNo) (s : State), s.barOk ep = true → (s.ep ep).crstBusy = false →
    ∃ t, exec (.controllerReset ep) s = .next t ∧
      (t.ep ep).epoch = (s.ep ep).epoch + 1 ∧ (t.ep ep).msix = [] ∧ (t.ep ep).msixPend = [] ∧ (t.ep ep).bindings = [] ∧ (t.ep ep).nonce =
        none ∧
      (∀ n, n ∈ s.cmdsWhere (fun c => c.ep == (ep : Nat)) → t.cmd n = {}) ∧
      (∀ n, t.tag n = if s.tagOf ep n then {} else s.tag n) ∧
      (∀ m, s.ownsPort ep m = true → t.port m = portReset m ∧ t.cq m = {}) ∧
      (∀ m, s.ownsPort ep m = false → t.port m = s.port m ∧ t.cq m = s.cq m) ∧
      (∀ e, e ≠ (ep : Nat) → t.ep e = s.ep e) ∧
      (t.ep ep).crstBusy = true ∧ (t.ep ep).mse = true ∧ (t.ep ep).linkUp = true ∧ (t.ep ep).bme = (s.ep ep).bme ∧ (t.ep ep).spdm = (s.ep
        ep).spdm ∧
      unchangedBut [.free, .out, .log, .pwr, .mns, .cal, .hdas, .mus, .store, .eps, .ports, .tags, .cqs, .cmds, .mgt, .buf, .bca] s t) ∧
  (∀ (ep : EpNo) (s : State), s.barOk ep = true → (s.ep ep).crstBusy = true →
    exec (.controllerReset ep) s = .next s) ∧
  (∀ (ep : EpNo) (s : State), (s.ep ep).crstBusy = true →
    exec (.controllerResetDone ep) s = .next (s.updEp ep fun x => { x with crstBusy := false }))

/-- A training that ends brings the link up at its speed and width; below full speed or width it is degraded with one event, and a training
after the first is counted; WAKE_N is released. The link enters L1, or L1.2 where the host has enabled it, and returns to L0. A
configuration-space write changes its field and nothing else of the endpoint but held MSI-X messages, which leave once no mask holds them;
LTR is sent when it is enabled; the AER status and the error bits of Device Status are cleared by writing one; in PS4 the link rests in the
state that ASPM allows (R331). A correctable or uncorrectable error is logged, counted and raised, an uncorrectable one sets the bit of
Device Status that its severity says, an ECRC error only where the check is on, and an uncorrectable internal error ends the commands whose
data it struck, a data command with the lowest LBA and the number of sectors (R389). An endpoint held in reset by PERST# logs none. A
command that offers an event finds room in its source's buffer (R548; FaultControlAndAcceptance states the hold). -/
def Obligations.LinkAndConfiguration : Prop :=
  (∀ (ep : EpNo) (speed width : Nat) (s : State), s.hlkRuns = true → s.epUsed ep = true → (s.ep ep).perst = false → 1 ≤ speed → speed ≤ 5
    → width ∈ [1, 2, 4, 8, 16] → width ≤ s.fullWidth → s.eventRoom = true →
    ∃ t, exec (.linkTrained ep speed width) s = .next t ∧
      (t.ep ep = (if s.pwr.pstate = 4 ∧ s.pwr.transit = false then Endpoint.rest { s.ep ep with
          linkUp := true, speed := speed, width := width, degraded := decide (speed < 5 ∨ width < s.fullWidth), trained := true, pm := 0 }
          else { s.ep ep with
            linkUp := true, speed := speed, width := width, degraded := decide (speed < 5 ∨ width < s.fullWidth), trained := true, pm := 0
            })) ∧
      (∀ e, e ≠ (ep : Nat) → t.ep e = s.ep e) ∧
      t.mns = { s.mns with wakeN := s.mns.wakeN && !t.linkL0 } ∧
      (s.pwr.pstate ≠ 4 ∨ s.pwr.transit = true → t.mns.wakeN = false) ∧
      (t.counter (epCtr ep 0x0001000C) = if (s.ep ep).trained then Ctr.add 31 1 (s.counter (epCtr ep 0x0001000C)) else s.counter (epCtr ep
        0x0001000C)) ∧
      (speed < 5 ∨ width < s.fullWidth → offered t (mkMsg 1 0 0x31 (speed + width * 8))) ∧
      (¬ (speed < 5 ∨ width < s.fullWidth) → (s.ep ep).trained = false → t.flt = s.flt) ∧
      unchangedBut [.ctr, .flt, .mns, .eps] s t) ∧
  (∀ (ep : EpNo) (l12 : Bool) (s : State), s.epUsed ep = true → (s.ep ep).linkUp = true → (s.ep ep).aspmL1 = true → (s.ep ep).pm = 0 →
    ∃ t, exec (.aspmL1Entry ep l12) s = .next t ∧
      (t.ep ep = { s.ep ep with pm := if (l12 = true ∨ s.pwr.pstate = 4) ∧ (s.ep ep).aspmL12 = true then 2 else 1 }) ∧
      (∀ e, e ≠ (ep : Nat) → t.ep e = s.ep e) ∧
      unchangedBut [.eps] s t) ∧
  (∀ (ep : EpNo) (s : State), (s.ep ep).pm ≠ 0 →
    ∃ t, exec (.aspmL1Exit ep) s = .next t ∧
      t.ep ep = { s.ep ep with pm := 0 } ∧
      (∀ e, e ≠ (ep : Nat) → t.ep e = s.ep e) ∧
      t.mns = { s.mns with wakeN := s.mns.wakeN && !t.linkL0 } ∧
      unchangedBut [.mns, .eps] s t) ∧
  (∀ (ep : EpNo) (field : CfgField) (s : State), s.epUsed ep = true → (s.ep ep).linkUp = true → (s.ep ep).flrBusy = false → s.eventRoom =
    true →
    ∃ t, exec (.configSpaceWrite ep field) s = .next t ∧
      (t.ep ep = { (if s.pwr.pstate = 4 ∧ s.pwr.transit = false then Endpoint.rest ((s.ep ep).cfgWrite field) else (s.ep ep).cfgWrite
        field) with
          msixPend := (t.ep ep).msixPend }) ∧
      (∀ e, e ≠ (ep : Nat) → t.ep e = s.ep e) ∧
      (∀ on, field = .busMaster on → (t.ep ep).bme = on) ∧
      (∀ on, field = .memorySpace on → (t.ep ep).mse = on) ∧
      (∀ on, field = .d3hot on → (t.ep ep).d3hot = on) ∧
      (∀ on, field = .functionMask on → (t.ep ep).funcMask = on) ∧
      (∀ on, field = .aspmL1 on → (t.ep ep).aspmL1 = on) ∧
      (∀ on, field = .aspmL12 on → (t.ep ep).aspmL12 = on) ∧
      (∀ on, field = .ltrEnable on → (t.ep ep).ltrEnable = on) ∧
      (field = .ltrEnable true → lastOut t (.ltr ep s.ltrUs)) ∧
      (∀ on, field = .relaxedOrdering on → (t.ep ep).relaxed = on) ∧
      (∀ c, field = .maxPayload c → c ≤ 2 → (t.ep ep).maxPayload = c) ∧
      (∀ c, field = .maxReadRequest c → c ≤ 5 → (t.ep ep).maxRead = c) ∧
      (∀ on, field = .tenBitTags on → (t.ep ep).tag10 = on) ∧
      (∀ c, field = .completionTimeout c → (t.ep ep).timeout = c % 16) ∧
      (∀ on, field = .ecrcGeneration on → (t.ep ep).ecrcGen = on) ∧
      (∀ on, field = .ecrcCheck on → (t.ep ep).ecrcCheck = on) ∧
      ((t.ep ep).aerSev = (match field with | .aerSeverity m => m | _ => (s.ep ep).aerSev)) ∧
      (∀ m, field = .deviceStatus m → (t.ep ep).devStatus = (s.ep ep).devStatus &&& ~~~(BitVec.ofNat 3 m)) ∧
      t.mns = { s.mns with wakeN := s.mns.wakeN && !t.linkL0 } ∧
      (s.hostOk ep = true → field = .functionMask false → ∀ v, ((s.ep ep).vec v).mask = false → sget (t.ep ep).msixPend v false = false) ∧
      unchangedBut [.out, .ctr, .flt, .mns, .eps] s t) ∧
  (∀ (ep : EpNo) (u : Bool) (w : Word) (s : State), s.epUsed ep = true → (s.ep ep).linkUp = true → (s.ep ep).flrBusy = false → s.eventRoom
    = true →
    ∃ t, exec (.configSpaceWrite ep (.bar0 u w)) s = .next t ∧
      ((t.ep ep).bar0 = if u then (s.ep ep).bar0 % 2 ^ 32 + w.toNat * 2 ^ 32 else (s.ep ep).bar0 / 2 ^ 32 * 2 ^ 32 + w.toNat / 2 ^ 26 * 2
        ^ 26) ∧
      t.ep ep = { s.ep ep with bar0 := (t.ep ep).bar0, pm := (t.ep ep).pm, msixPend := (t.ep ep).msixPend } ∧
      (∀ e, e ≠ (ep : Nat) → t.ep e = s.ep e) ∧
      unchangedBut [.out, .ctr, .flt, .mns, .eps] s t) ∧
  (∀ (ep : EpNo) (m : Word) (s : State), s.epUsed ep = true → (s.ep ep).linkUp = true → (s.ep ep).flrBusy = false → s.eventRoom = true →
    ∃ t, exec (.configSpaceWrite ep (.aerUncorrectable m)) s = .next t ∧
      (t.ep ep).aerUncorr = (s.ep ep).aerUncorr &&& ~~~m ∧ (t.ep ep).aerCorr = (s.ep ep).aerCorr ∧
      unchangedBut [.out, .ctr, .flt, .mns, .eps] s t) ∧
  (∀ (ep : EpNo) (m : Word) (s : State), s.epUsed ep = true → (s.ep ep).linkUp = true → (s.ep ep).flrBusy = false → s.eventRoom = true →
    ∃ t, exec (.configSpaceWrite ep (.aerCorrectable m)) s = .next t ∧
      (t.ep ep).aerCorr = (s.ep ep).aerCorr &&& ~~~m ∧ (t.ep ep).aerUncorr = (s.ep ep).aerUncorr ∧
      unchangedBut [.out, .ctr, .flt, .mns, .eps] s t) ∧
  (∀ (ep : EpNo) (aerBit : Nat) (s : State), s.epUsed ep = true → s.hlkRuns = true → (s.ep ep).perst = false → aerBit < 16 → s.eventRoom =
    true →
    ∃ t, exec (.aerCorrectable ep aerBit) s = .next t ∧
      t.ep ep = { s.ep ep with aerCorr := (s.ep ep).aerCorr ||| (1#32 <<< aerBit), devStatus := (s.ep ep).devStatus ||| 1 } ∧
      (∀ e, e ≠ (ep : Nat) → t.ep e = s.ep e) ∧
      offered t (mkMsg 1 0 (0x20 + aerBit) 0) ∧
      t.counter (epCtr ep 0x00010004) = Ctr.add 31 1 (s.counter (epCtr ep 0x00010004)) ∧
      unchangedBut [.ctr, .flt, .eps] s t) ∧
  (∀ (ep : EpNo) (aerBit address : Nat) (lost : List Loss) (s : State), s.epUsed ep = true → s.hlkRuns = true → (s.ep ep).perst = false →
    aerBit ≤ 26 → aerBit ≠ 22 → (aerBit ≠ 19 ∨ (s.ep ep).ecrcCheck = true) → s.eventRoom = true →
    ∃ t, exec (.bar0WriteDiscard ep aerBit address lost) s = .next t ∧
      (t.ep ep = { s.ep ep with
          aerUncorr := (s.ep ep).aerUncorr ||| (1#32 <<< aerBit), devStatus := (s.ep ep).devStatus ||| if (s.ep ep).aerSev.getLsbD aerBit
          then 4 else 2 }) ∧
      (∀ e, e ≠ (ep : Nat) → t.ep e = s.ep e) ∧
      offered t (mkMsg 1 0 aerBit address) ∧
      t.counter (epCtr ep 0x00010008) = Ctr.add 31 1 (s.counter (epCtr ep 0x00010008)) ∧
      unchangedBut [.flt, .ctr, .eps] s t) ∧
  (∀ (ep : EpNo) (address : Nat) (lost : List Loss) (s : State), s.epUsed ep = true → s.hlkRuns = true → (s.ep ep).perst = false →
    s.eventRoom = true →
    ∃ t, exec (.bar0WriteDiscard ep 22 address lost) s = .next t ∧
      (t.ep ep = { s.ep ep with
          aerUncorr := (s.ep ep).aerUncorr ||| (1#32 <<< 22), devStatus := (s.ep ep).devStatus ||| if (s.ep ep).aerSev.getLsbD 22 then 4
          else 2 }) ∧
      (∀ e, e ≠ (ep : Nat) → t.ep e = s.ep e) ∧
      offered t (mkMsg 1 0 22 address) ∧
      (∀ x, x ∈ lost → s.live x.tag = true → (t.tag x.tag).st = .posted ∧ t.cmd x.tag = {}) ∧
      (∀ x, x ∈ lost → lost.length = 1 → s.live x.tag = true → completes s t x.tag ((s.cmd x.tag).lossRes x.first x.count)) ∧
      unchangedBut [.free, .ctr, .flt, .log, .pwr, .mns, .cal, .hdas, .mus, .store, .eps, .tags, .cqs, .cmds, .mgt, .buf, .bca] s t)

/-- A claim answers 2 where the protocol is not available, 3 during an activation, 1 where the port has no free tag, and else grants the tag
at the head of the free list, which becomes CLAIMED by the port. A write of PORT_TAG_COUNT allots the tags from the staged base; it only
sets ALLOT_ERR where a tag of the port is in use, or the range leaves the endpoint's or overlaps that of another port. -/
def Obligations.PortsAndTags : Prop :=
  (∀ (ep : EpNo) (port n : Nat) (r : List Nat) (s : State), s.barOk ep = true → port < s.portsPerEp → s.ready = true → (s.ep ep).crstBusy
    = false → s.mns.powerFail = false → s.activating = false → (s.port (moduleNo ep port)).free = n :: r →
    ∃ t, exec (.portClaim ep port) s = .next t ∧
      lastOut t (.words ep [BitVec.ofNat 32 (2 ^ 31 + n)]) ∧
      t.tag n = { st := .claimed, port := moduleNo ep port } ∧
      (∀ k, k ≠ n → t.tag k = s.tag k) ∧
      t.port (moduleNo ep port) = { s.port (moduleNo ep port) with free := r } ∧
      (∀ m, m ≠ moduleNo ep port → t.port m = s.port m) ∧
      unchangedBut [.out, .ports, .tags] s t) ∧
  (∀ (ep : EpNo) (port : Nat) (s : State), s.barOk ep = true → port < s.portsPerEp → s.ready = true → (s.ep ep).crstBusy = false →
    s.mns.powerFail = false → s.activating = false → (s.port (moduleNo ep port)).free = [] →
    exec (.portClaim ep port) s = .next (s.emit (.words ep [0x01000000#32]))) ∧
  (∀ (ep : EpNo) (port : Nat) (s : State), s.barOk ep = true → port < s.portsPerEp → (s.ready = false ∨ (s.ep ep).crstBusy = true ∨
    s.mns.powerFail = true) →
    exec (.portClaim ep port) s = .next (s.emit (.words ep [0x02000000#32]))) ∧
  (∀ (ep : EpNo) (port : Nat) (s : State), s.barOk ep = true → port < s.portsPerEp → s.ready = true → (s.ep ep).crstBusy = false →
    s.mns.powerFail = false → s.activating = true →
    exec (.portClaim ep port) s = .next (s.emit (.words ep [0x03000000#32]))) ∧
  (∀ (ep : EpNo) (port value : Nat) (s : State), s.barOk ep = true → port < s.portsPerEp → s.busy (moduleNo ep port) = 0 → s.allotBad ep
    (moduleNo ep port) (s.port (moduleNo ep port)).stagedBase (bits value 14 0) = false →
    ∃ t, exec (.portTagCountWrite ep port value) s = .next t ∧
      t.port (moduleNo ep port) = { s.port (moduleNo ep port) with
          free := (List.range (bits value 14 0)).map (· + (s.port (moduleNo ep port)).stagedBase), base := (s.port (moduleNo ep
          port)).stagedBase, count := bits value 14 0 } ∧
      (∀ m, m ≠ moduleNo ep port → t.port m = s.port m) ∧
      unchangedBut [.out, .ports] s t) ∧
  (∀ (ep : EpNo) (port value : Nat) (s : State), s.barOk ep = true → port < s.portsPerEp → (s.busy (moduleNo ep port) ≠ 0 ∨ s.allotBad ep
    (moduleNo ep port) (s.port (moduleNo ep port)).stagedBase (bits value 14 0) = true) →
    ∃ t, exec (.portTagCountWrite ep port value) s = .next t ∧
      t.port (moduleNo ep port) = { s.port (moduleNo ep port) with allotErr := true } ∧
      (∀ m, m ≠ moduleNo ep port → t.port m = s.port m) ∧
      unchangedBut [.out, .ports] s t)

/-- A write of another length than 64 bytes is discarded with one event and one count. A packet is refused with reason 3 where the protocol
is not available and 1 where its tag is not CLAIMED by the port; a wrong check and a queue that is no enabled DATA queue are answered at the
PORT_CQ with PACKET_CHECK and status 0x0106, or with reason 2 where that is no enabled DATA queue; during an activation it ends with status
0x0203, and with the result of the static checks where one fails. A packet that passes makes its tag ACCEPTED and its command wait to be
taken in, with the next acceptance number. A command that offers an event finds room in its source's buffer (R548; FaultControlAndAcceptance
states the hold). -/
def Obligations.TaskPackets : Prop :=
  (∀ (ep : EpNo) (port : Nat) (bytes : List Byte) (s : State), s.barOk ep = true → port < s.portsPerEp → bytes.length ≠ 64 → s.eventRoom =
    true →
    ∃ t, exec (.taskPacket ep port bytes) s = .next t ∧
      t.counter (epCtr ep 0x00010010) = Ctr.add 31 1 (s.counter (epCtr ep 0x00010010)) ∧
      offered t (mkMsg 1 0 0x32 (0x00100040 + port * 0x1000)) ∧
      unchangedBut [.flt, .ctr] s t) ∧
  (∀ (ep : EpNo) (port : Nat) (bytes : List Byte) (s : State), s.barOk ep = true → port < s.portsPerEp → bytes.length = 64 → (s.ready =
    false ∨ (s.ep ep).crstBusy = true ∨ s.mns.powerFail = true) → s.eventRoom = true →
    ∃ t, exec (.taskPacket ep port bytes) s = .next t ∧
      t.port (moduleNo ep port) = { s.port (moduleNo ep port) with lastTag := (parsePacket bytes).tag, lastReason := 3 } ∧
      (∀ m, m ≠ moduleNo ep port → t.port m = s.port m) ∧
      offered t (mkMsg 2 0 1 ((parsePacket bytes).tag + port * 2 ^ 14 + 3 * 2 ^ 22)) ∧
      t.counter (epCtr ep (0x00100084 + port * 0x1000)) = Ctr.add 7 1 (s.counter (epCtr ep (0x00100084 + port * 0x1000))) ∧
      unchangedBut [.flt, .ctr, .ports] s t) ∧
  (∀ (ep : EpNo) (port : Nat) (bytes : List Byte) (s : State), s.barOk ep = true → port < s.portsPerEp → bytes.length = 64 → s.ready =
    true → (s.ep ep).crstBusy = false → s.mns.powerFail = false → ((s.tag (parsePacket bytes).tag).st ≠ .claimed ∨ (s.tag (parsePacket
    bytes).tag).port ≠ moduleNo ep port) → s.eventRoom = true →
    ∃ t, exec (.taskPacket ep port bytes) s = .next t ∧
      t.port (moduleNo ep port) = { s.port (moduleNo ep port) with lastTag := (parsePacket bytes).tag, lastReason := 1 } ∧
      (∀ m, m ≠ moduleNo ep port → t.port m = s.port m) ∧
      offered t (mkMsg 2 0 1 ((parsePacket bytes).tag + port * 2 ^ 14 + 1 * 2 ^ 22)) ∧
      t.counter (epCtr ep (0x00100084 + port * 0x1000)) = Ctr.add 7 1 (s.counter (epCtr ep (0x00100084 + port * 0x1000))) ∧
      unchangedBut [.flt, .ctr, .ports] s t) ∧
  (∀ (ep : EpNo) (port : Nat) (bytes : List Byte) (s : State), s.barOk ep = true → port < s.portsPerEp → bytes.length = 64 → s.ready =
    true → (s.ep ep).crstBusy = false → s.mns.powerFail = false → (s.tag (parsePacket bytes).tag).st = .claimed → (s.tag (parsePacket
    bytes).tag).port = moduleNo ep port → crc32c (bytes.take 60) ≠ BitVec.ofNat 32 (field bytes 60 4) → (s.cq (moduleNo ep (s.port
    (moduleNo ep port)).cq)).isData = true → (s.port (moduleNo ep port)).cq < s.portsPerEp →
    ∃ t, exec (.taskPacket ep port bytes) s = .next t ∧
      t.tag (parsePacket bytes).tag = { st := .posted, port := moduleNo ep port } ∧
      (∀ k, k ≠ (parsePacket bytes).tag → t.tag k = s.tag k) ∧
      t.cq (moduleNo ep (s.port (moduleNo ep port)).cq) = { s.cq (moduleNo ep (s.port (moduleNo ep port)).cq) with
          waiting := (s.cq (moduleNo ep (s.port (moduleNo ep port)).cq)).waiting ++ [doneEntry (parsePacket bytes).tag (moduleNo ep port)
          { status := 0x0102 }] } ∧
      (∀ k, k ≠ moduleNo ep (s.port (moduleNo ep port)).cq → t.cq k = s.cq k) ∧
      unchangedBut [.tags, .cqs] s t) ∧
  (∀ (ep : EpNo) (port : Nat) (bytes : List Byte) (s : State), s.barOk ep = true → port < s.portsPerEp → bytes.length = 64 → s.ready =
    true → (s.ep ep).crstBusy = false → s.mns.powerFail = false → (s.tag (parsePacket bytes).tag).st = .claimed → (s.tag (parsePacket
    bytes).tag).port = moduleNo ep port → crc32c (bytes.take 60) = BitVec.ofNat 32 (field bytes 60 4) → ((s.cq (moduleNo ep (parsePacket
    bytes).cqid)).isData = false ∨ s.portsPerEp ≤ (parsePacket bytes).cqid) → (s.cq (moduleNo ep (s.port (moduleNo ep port)).cq)).isData =
    true → (s.port (moduleNo ep port)).cq < s.portsPerEp →
    ∃ t, exec (.taskPacket ep port bytes) s = .next t ∧
      t.tag (parsePacket bytes).tag = { st := .posted, port := moduleNo ep port } ∧
      (∀ k, k ≠ (parsePacket bytes).tag → t.tag k = s.tag k) ∧
      t.cq (moduleNo ep (s.port (moduleNo ep port)).cq) = { s.cq (moduleNo ep (s.port (moduleNo ep port)).cq) with
          waiting := (s.cq (moduleNo ep (s.port (moduleNo ep port)).cq)).waiting ++ [doneEntry (parsePacket bytes).tag (moduleNo ep port)
          { status := 0x0106 }] } ∧
      (∀ k, k ≠ moduleNo ep (s.port (moduleNo ep port)).cq → t.cq k = s.cq k) ∧
      unchangedBut [.tags, .cqs] s t) ∧
  (∀ (ep : EpNo) (port : Nat) (bytes : List Byte) (s : State), s.barOk ep = true → port < s.portsPerEp → bytes.length = 64 → s.ready =
    true → (s.ep ep).crstBusy = false → s.mns.powerFail = false → (s.tag (parsePacket bytes).tag).st = .claimed → (s.tag (parsePacket
    bytes).tag).port = moduleNo ep port → (crc32c (bytes.take 60) ≠ BitVec.ofNat 32 (field bytes 60 4) ∨ (s.cq (moduleNo ep (parsePacket
    bytes).cqid)).isData = false ∨ s.portsPerEp ≤ (parsePacket bytes).cqid) → ((s.cq (moduleNo ep (s.port (moduleNo ep port)).cq)).isData
    = false ∨ s.portsPerEp ≤ (s.port (moduleNo ep port)).cq) → s.eventRoom = true →
    ∃ t, exec (.taskPacket ep port bytes) s = .next t ∧
      t.port (moduleNo ep port) = { s.port (moduleNo ep port) with lastTag := (parsePacket bytes).tag, lastReason := 2 } ∧
      (∀ m, m ≠ moduleNo ep port → t.port m = s.port m) ∧
      offered t (mkMsg 2 0 1 ((parsePacket bytes).tag + port * 2 ^ 14 + 2 * 2 ^ 22)) ∧
      t.counter (epCtr ep (0x00100084 + port * 0x1000)) = Ctr.add 7 1 (s.counter (epCtr ep (0x00100084 + port * 0x1000))) ∧
      unchangedBut [.flt, .ctr, .ports] s t) ∧
  (∀ (ep : EpNo) (port : Nat) (bytes : List Byte) (s : State), s.barOk ep = true → port < s.portsPerEp → bytes.length = 64 → s.ready =
    true → (s.ep ep).crstBusy = false → s.mns.powerFail = false → (s.tag (parsePacket bytes).tag).st = .claimed → (s.tag (parsePacket
    bytes).tag).port = moduleNo ep port → crc32c (bytes.take 60) = BitVec.ofNat 32 (field bytes 60 4) → (s.cq (moduleNo ep (parsePacket
    bytes).cqid)).isData = true → (parsePacket bytes).cqid < s.portsPerEp → s.activating = true →
    ∃ t, exec (.taskPacket ep port bytes) s = .next t ∧
      t.tag (parsePacket bytes).tag = { st := .posted, port := moduleNo ep port } ∧
      (∀ k, k ≠ (parsePacket bytes).tag → t.tag k = s.tag k) ∧
      t.cq (moduleNo ep (parsePacket bytes).cqid) = { s.cq (moduleNo ep (parsePacket bytes).cqid) with
          waiting := (s.cq (moduleNo ep (parsePacket bytes).cqid)).waiting ++ [doneEntry (parsePacket bytes).tag (moduleNo ep port)
          { status := 0x0203 }] } ∧
      (∀ k, k ≠ moduleNo ep (parsePacket bytes).cqid → t.cq k = s.cq k) ∧
      unchangedBut [.tags, .cqs] s t) ∧
  (∀ (ep : EpNo) (port : Nat) (bytes : List Byte) (r : Res) (s : State), s.barOk ep = true → port < s.portsPerEp → bytes.length = 64 →
    s.ready = true → (s.ep ep).crstBusy = false → s.mns.powerFail = false → (s.tag (parsePacket bytes).tag).st = .claimed → (s.tag
    (parsePacket bytes).tag).port = moduleNo ep port → crc32c (bytes.take 60) = BitVec.ofNat 32 (field bytes 60 4) → (s.cq (moduleNo ep
    (parsePacket bytes).cqid)).isData = true → (parsePacket bytes).cqid < s.portsPerEp → s.activating = false → s.staticBad ep
    (parsePacket bytes) = some r →
    ∃ t, exec (.taskPacket ep port bytes) s = .next t ∧
      t.tag (parsePacket bytes).tag = { st := .posted, port := moduleNo ep port } ∧
      (∀ k, k ≠ (parsePacket bytes).tag → t.tag k = s.tag k) ∧
      t.cq (moduleNo ep (parsePacket bytes).cqid) = { s.cq (moduleNo ep (parsePacket bytes).cqid) with
          waiting := (s.cq (moduleNo ep (parsePacket bytes).cqid)).waiting ++ [doneEntry (parsePacket bytes).tag (moduleNo ep port) r] } ∧
      (∀ k, k ≠ moduleNo ep (parsePacket bytes).cqid → t.cq k = s.cq k) ∧
      unchangedBut [.tags, .cqs] s t) ∧
  (∀ (ep : EpNo) (port : Nat) (bytes : List Byte) (s : State), s.barOk ep = true → port < s.portsPerEp → bytes.length = 64 → s.ready =
    true → (s.ep ep).crstBusy = false → s.mns.powerFail = false → (s.tag (parsePacket bytes).tag).st = .claimed → (s.tag (parsePacket
    bytes).tag).port = moduleNo ep port → crc32c (bytes.take 60) = BitVec.ofNat 32 (field bytes 60 4) → (s.cq (moduleNo ep (parsePacket
    bytes).cqid)).isData = true → (parsePacket bytes).cqid < s.portsPerEp → s.activating = false → s.staticBad ep (parsePacket bytes) =
    none → s.eventRoom = true →
    ∃ t, exec (.taskPacket ep port bytes) s = .next t ∧
      t.tag (parsePacket bytes).tag = { st := .accepted, port := moduleNo ep port } ∧
      (∀ k, k ≠ (parsePacket bytes).tag → t.tag k = s.tag k ∧ t.cmd k = s.cmd k) ∧
      t.accept = s.accept + 1 ∧
      (t.cmd (parsePacket bytes).tag).pkt = parsePacket bytes ∧ (t.cmd (parsePacket bytes).tag).phase = .intake ∧ (t.cmd (parsePacket
        bytes).tag).ep = ep ∧ (t.cmd (parsePacket bytes).tag).port = moduleNo ep port ∧
      (t.cmd (parsePacket bytes).tag).order = s.accept ∧ (t.cmd (parsePacket bytes).tag).epoch = (s.ep ep).epoch ∧ (t.cmd (parsePacket
        bytes).tag).covers = s.bca.commitSeq ∧ (t.cmd (parsePacket bytes).tag).listsOk = !(parsePacket bytes).sgl ∧
      (s.pwr.wakeable = false → t.pwr = s.pwr ∧ t.mns = s.mns) ∧
      (s.pwr.wakeable = true → bit (s.feat0 0x0D) 0 = true → t.pwr.wakeLatched = true) ∧
      unchangedBut [.out, .ctr, .flt, .pwr, .mns, .ports, .tags, .cqs, .cmds, .accept] s t)

/-- A legal enable starts HEAD, TAIL, PHASE and SEQ again; an illegal one, or one that would change an enabled queue, sets CFG_ERR. A queue
is disabled unless accepted commands name it or entries wait. A HEAD write between HEAD and TAIL frees the tags of the entries consumed,
another sets HEAD_ERR with one event. An entry is written at TAIL with PHASE and SEQ when the queue has room, and an MSI-X message leaves,
is held while masked, or is coalesced; the timer sends what was coalesced. Notices follow the same rule, a NOTICES_LOST entry ahead of them.
A command that offers an event finds room in its source's buffer (R548; FaultControlAndAcceptance states the hold). -/
def Obligations.CompletionQueues : Prop :=
  (∀ (ep : EpNo) (queue : Nat) (ctl : Word) (s : State), s.barOk ep = true → queue < s.portsPerEp → ctl.getLsbD 0 = true → (s.cq (moduleNo
    ep queue)).enable = false → (s.cq (moduleNo ep queue)).base % 4096 = 0 → 2 ≤ (s.cq (moduleNo ep queue)).size → (s.cq (moduleNo ep
    queue)).size ≤ 65536 → bits ctl.toNat 24 16 < s.vectors →
    ∃ t, exec (.cqEnable ep queue ctl) s = .next t ∧
      t.cq (moduleNo ep queue) = { s.cq (moduleNo ep queue) with
          enable := true, event := ctl.getLsbD 1, errImm := ctl.getLsbD 2, vector := bits ctl.toNat 24 16, head := 0, tail := 0, phase :=
          true, seq := 0, unsent := 0, held := [] } ∧
      (∀ m, m ≠ moduleNo ep queue → t.cq m = s.cq m) ∧
      unchangedBut [.out, .eps, .cqs] s t) ∧
  (∀ (ep : EpNo) (queue : Nat) (ctl : Word) (s : State), s.barOk ep = true → queue < s.portsPerEp → ctl.getLsbD 0 = true → (s.cq (moduleNo
    ep queue)).enable = false → ((s.cq (moduleNo ep queue)).base % 4096 ≠ 0 ∨ (s.cq (moduleNo ep queue)).size < 2 ∨ 65536 < (s.cq
    (moduleNo ep queue)).size ∨ s.vectors ≤ bits ctl.toNat 24 16) →
    ∃ t, exec (.cqEnable ep queue ctl) s = .next t ∧
      t.cq (moduleNo ep queue) = { s.cq (moduleNo ep queue) with errImm := ctl.getLsbD 2, cfgErr := true } ∧
      (∀ m, m ≠ moduleNo ep queue → t.cq m = s.cq m) ∧
      unchangedBut [.out, .eps, .cqs] s t) ∧
  (∀ (ep : EpNo) (queue : Nat) (ctl : Word) (s : State), s.barOk ep = true → queue < s.portsPerEp → ctl.getLsbD 0 = true → (s.cq (moduleNo
    ep queue)).enable = true →
    ∃ t, exec (.cqEnable ep queue ctl) s = .next t ∧
      t.cq (moduleNo ep queue) = { s.cq (moduleNo ep queue) with
          errImm := ctl.getLsbD 2, cfgErr := (s.cq (moduleNo ep queue)).cfgErr || ctl.getLsbD 1 != (s.cq (moduleNo ep queue)).event ||
          bits ctl.toNat 24 16 != (s.cq (moduleNo ep queue)).vector } ∧
      (∀ m, m ≠ moduleNo ep queue → t.cq m = s.cq m) ∧
      unchangedBut [.out, .eps, .cqs] s t) ∧
  (∀ (ep : EpNo) (queue : Nat) (ctl : Word) (s : State), s.barOk ep = true → queue < s.portsPerEp → ctl.getLsbD 0 = false → (s.cq
    (moduleNo ep queue)).enable = true → s.queueNamed ep queue = false → (s.cq (moduleNo ep queue)).waiting = [] → (s.cq (moduleNo ep
    queue)).notices = [] →
    ∃ t, exec (.cqDisable ep queue ctl) s = .next t ∧
      t.cq (moduleNo ep queue) = { s.cq (moduleNo ep queue) with enable := false, errImm := ctl.getLsbD 2 } ∧
      (∀ m, m ≠ moduleNo ep queue → t.cq m = s.cq m) ∧
      (t.ep ep = { s.ep ep with bindings := (s.ep ep).bindings.filter (fun b => b.2 != moduleNo ep queue) }) ∧
      (∀ e, e ≠ (ep : Nat) → t.ep e = s.ep e) ∧
      unchangedBut [.out, .eps, .cqs] s t) ∧
  (∀ (ep : EpNo) (queue : Nat) (ctl : Word) (s : State), s.barOk ep = true → queue < s.portsPerEp → ctl.getLsbD 0 = false → (s.cq
    (moduleNo ep queue)).enable = true → (s.queueNamed ep queue = true ∨ (s.cq (moduleNo ep queue)).waiting ≠ [] ∨ (s.cq (moduleNo ep
    queue)).notices ≠ []) →
    ∃ t, exec (.cqDisable ep queue ctl) s = .next t ∧
      t.cq (moduleNo ep queue) = { s.cq (moduleNo ep queue) with errImm := ctl.getLsbD 2, disableRefused := true } ∧
      (∀ m, m ≠ moduleNo ep queue → t.cq m = s.cq m) ∧
      unchangedBut [.cqs] s t) ∧
  (∀ (ep : EpNo) (queue : Nat) (ctl : Word) (s : State), s.barOk ep = true → queue < s.portsPerEp → ctl.getLsbD 0 = false → (s.cq
    (moduleNo ep queue)).enable = false →
    ∃ t, exec (.cqDisable ep queue ctl) s = .next t ∧
      t.cq (moduleNo ep queue) = { s.cq (moduleNo ep queue) with
          event := ctl.getLsbD 1, errImm := ctl.getLsbD 2, vector := bits ctl.toNat 24 16 } ∧
      (∀ m, m ≠ moduleNo ep queue → t.cq m = s.cq m) ∧
      unchangedBut [.cqs] s t) ∧
  (∀ (ep : EpNo) (queue value : Nat) (s : State), s.barOk ep = true → queue < s.portsPerEp → (s.cq (moduleNo ep queue)).headOk (bits value
    15 0) = true →
    ∃ t, exec (.cqHeadWrite ep queue value) s = .next t ∧
      t.cq (moduleNo ep queue) = { s.cq (moduleNo ep queue) with
          head := bits value 15 0, held := (s.cq (moduleNo ep queue)).held.drop (ringDist (s.cq (moduleNo ep queue)).size (s.cq (moduleNo
          ep queue)).head (bits value 15 0)) } ∧
      (∀ m, m ≠ moduleNo ep queue → t.cq m = s.cq m) ∧
      (∀ k m, some (k, m) ∈ (s.cq (moduleNo ep queue)).held.take (ringDist (s.cq (moduleNo ep queue)).size (s.cq (moduleNo ep queue)).head
        (bits value 15 0)) → t.tag k = {} ∧ k ∈ (t.port m).free) ∧
      unchangedBut [.tags, .ports, .cqs] s t) ∧
  (∀ (ep : EpNo) (queue value : Nat) (s : State), s.barOk ep = true → queue < s.portsPerEp → (s.cq (moduleNo ep queue)).headOk (bits value
    15 0) = false → s.eventRoom = true →
    ∃ t, exec (.cqHeadWrite ep queue value) s = .next t ∧
      t.cq (moduleNo ep queue) = { s.cq (moduleNo ep queue) with headErr := true } ∧
      (∀ m, m ≠ moduleNo ep queue → t.cq m = s.cq m) ∧
      offered t (mkMsg 1 0 0x33 queue) ∧
      unchangedBut [.flt, .ctr, .cqs] s t) ∧
  (∀ (ep : EpNo) (queue : Nat) (x : Entry) (r : List Entry) (s : State), s.hostOk ep = true → queue < s.portsPerEp → (s.cq (moduleNo ep
    queue)).waiting = x :: r → (s.cq (moduleNo ep queue)).isData = true → (s.cq (moduleNo ep queue)).full = false → s.eventRoom = true →
    ∃ t, exec (.cqPost ep queue) s = .next t ∧
      (t.cq (moduleNo ep queue)).waiting = r ∧
      (t.cq (moduleNo ep queue)).held = (s.cq (moduleNo ep queue)).held ++ [some (x.tag, x.port)] ∧
      ((t.cq (moduleNo ep queue)).tail = ((s.cq (moduleNo ep queue)).tail + 1) % (s.cq (moduleNo ep queue)).size ∧ (t.cq (moduleNo ep
        queue)).seq = ((s.cq (moduleNo ep queue)).seq + 1) % 65536 ∧ (t.cq (moduleNo ep queue)).phase = if ((s.cq (moduleNo ep
        queue)).tail + 1) % (s.cq (moduleNo ep queue)).size = 0 then !(s.cq (moduleNo ep queue)).phase else (s.cq (moduleNo ep
        queue)).phase) ∧
      Output.entry (moduleNo ep queue) ((s.cq (moduleNo ep queue)).base + (s.cq (moduleNo ep queue)).tail * 32)
        (({ x with port := x.port - ep * 128 } : Entry).bytes (s.cq (moduleNo ep queue)).phase (s.cq (moduleNo ep queue)).seq) ∈ t.out ∧
      (s.coalesces ep (s.cq (moduleNo ep queue)) = false ∨ (s.cq (moduleNo ep queue)).coalCount ≤ (s.cq (moduleNo ep queue)).unsent + 1 ∨
        ((0x0200 ≤ x.status ∨ x.defer = true) ∧ (s.cq (moduleNo ep queue)).errImm = true) → (t.cq (moduleNo ep queue)).unsent = 0 ∧ (if
        (s.ep ep).funcMask = true ∨ ((s.ep ep).vec (s.cq (moduleNo ep queue)).vector).mask = true then sget (t.ep ep).msixPend (s.cq
        (moduleNo ep queue)).vector false = true else lastOut t (.msix ep (s.cq (moduleNo ep queue)).vector))) ∧
      (s.coalesces ep (s.cq (moduleNo ep queue)) = true → (s.cq (moduleNo ep queue)).unsent + 1 < (s.cq (moduleNo ep queue)).coalCount → ¬
        (0x0200 ≤ x.status ∨ x.defer = true) → (t.cq (moduleNo ep queue)).unsent = (s.cq (moduleNo ep queue)).unsent + 1 ∧ t.eps = s.eps)
        ∧
      (∀ m, m ≠ moduleNo ep queue → t.cq m = s.cq m) ∧
      unchangedBut [.out, .ctr, .flt, .eps, .cqs] s t) ∧
  (∀ (ep : EpNo) (queue : Nat) (s : State), s.hostOk ep = true → queue < s.portsPerEp → (s.cq (moduleNo ep queue)).enable = true → (s.cq
    (moduleNo ep queue)).unsent ≠ 0 → s.coalesces ep (s.cq (moduleNo ep queue)) = true → s.eventRoom = true →
    ∃ t, exec (.coalesceTimer ep queue) s = .next t ∧
      t.cq (moduleNo ep queue) = { s.cq (moduleNo ep queue) with unsent := 0 } ∧
      (∀ m, m ≠ moduleNo ep queue → t.cq m = s.cq m) ∧
      (if (s.ep ep).funcMask = true ∨ ((s.ep ep).vec (s.cq (moduleNo ep queue)).vector).mask = true then sget (t.ep ep).msixPend (s.cq
        (moduleNo ep queue)).vector false = true else lastOut t (.msix ep (s.cq (moduleNo ep queue)).vector)) ∧
      unchangedBut [.out, .ctr, .flt, .eps, .cqs] s t) ∧
  (∀ (ep : EpNo) (queue : Nat) (x : Entry) (r : List Entry) (s : State), s.hostOk ep = true → queue < s.portsPerEp → (s.cq (moduleNo ep
    queue)).lost = 0 → (s.cq (moduleNo ep queue)).notices = x :: r → (s.cq (moduleNo ep queue)).isEvent = true → (s.cq (moduleNo ep
    queue)).full = false → s.eventRoom = true →
    ∃ t, exec (.eventNoticePost ep queue) s = .next t ∧
      (t.cq (moduleNo ep queue)).notices = r ∧
      (t.cq (moduleNo ep queue)).held = (s.cq (moduleNo ep queue)).held ++ [none] ∧
      ((t.cq (moduleNo ep queue)).tail = ((s.cq (moduleNo ep queue)).tail + 1) % (s.cq (moduleNo ep queue)).size ∧ (t.cq (moduleNo ep
        queue)).seq = ((s.cq (moduleNo ep queue)).seq + 1) % 65536 ∧ (t.cq (moduleNo ep queue)).phase = if ((s.cq (moduleNo ep
        queue)).tail + 1) % (s.cq (moduleNo ep queue)).size = 0 then !(s.cq (moduleNo ep queue)).phase else (s.cq (moduleNo ep
        queue)).phase) ∧
      Output.entry (moduleNo ep queue) ((s.cq (moduleNo ep queue)).base + (s.cq (moduleNo ep queue)).tail * 32) ((x : Entry).bytes (s.cq
        (moduleNo ep queue)).phase (s.cq (moduleNo ep queue)).seq) ∈ t.out ∧
      (s.coalesces ep (s.cq (moduleNo ep queue)) = false ∨ (s.cq (moduleNo ep queue)).coalCount ≤ (s.cq (moduleNo ep queue)).unsent + 1 ∨
        ((0x0200 ≤ x.status ∨ x.defer = true) ∧ (s.cq (moduleNo ep queue)).errImm = true) → (t.cq (moduleNo ep queue)).unsent = 0 ∧ (if
        (s.ep ep).funcMask = true ∨ ((s.ep ep).vec (s.cq (moduleNo ep queue)).vector).mask = true then sget (t.ep ep).msixPend (s.cq
        (moduleNo ep queue)).vector false = true else lastOut t (.msix ep (s.cq (moduleNo ep queue)).vector))) ∧
      (s.coalesces ep (s.cq (moduleNo ep queue)) = true → (s.cq (moduleNo ep queue)).unsent + 1 < (s.cq (moduleNo ep queue)).coalCount → ¬
        (0x0200 ≤ x.status ∨ x.defer = true) → (t.cq (moduleNo ep queue)).unsent = (s.cq (moduleNo ep queue)).unsent + 1 ∧ t.eps = s.eps)
        ∧
      (∀ m, m ≠ moduleNo ep queue → t.cq m = s.cq m) ∧
      unchangedBut [.out, .ctr, .flt, .eps, .cqs] s t) ∧
  (∀ (ep : EpNo) (queue : Nat) (s : State), s.hostOk ep = true → queue < s.portsPerEp → (s.cq (moduleNo ep queue)).lost ≠ 0 → (s.cq
    (moduleNo ep queue)).isEvent = true → (s.cq (moduleNo ep queue)).full = false → s.eventRoom = true →
    ∃ t, exec (.eventNoticePost ep queue) s = .next t ∧
      (t.cq (moduleNo ep queue)).lost = 0 ∧ (t.cq (moduleNo ep queue)).notices = (s.cq (moduleNo ep queue)).notices ∧
      ((t.cq (moduleNo ep queue)).tail = ((s.cq (moduleNo ep queue)).tail + 1) % (s.cq (moduleNo ep queue)).size ∧ (t.cq (moduleNo ep
        queue)).seq = ((s.cq (moduleNo ep queue)).seq + 1) % 65536 ∧ (t.cq (moduleNo ep queue)).phase = if ((s.cq (moduleNo ep
        queue)).tail + 1) % (s.cq (moduleNo ep queue)).size = 0 then !(s.cq (moduleNo ep queue)).phase else (s.cq (moduleNo ep
        queue)).phase) ∧
      Output.entry (moduleNo ep queue) ((s.cq (moduleNo ep queue)).base + (s.cq (moduleNo ep queue)).tail * 32)
        (({ tag := 3, state := 0xFFFF, r0 := (s.cq (moduleNo ep queue)).lost } : Entry).bytes (s.cq (moduleNo ep queue)).phase (s.cq
        (moduleNo ep queue)).seq) ∈ t.out ∧
      (∀ m, m ≠ moduleNo ep queue → t.cq m = s.cq m) ∧
      unchangedBut [.out, .ctr, .flt, .eps, .cqs] s t)

/-- A write of a form that R326 does not accept is discarded, counted and raised, as is one into the packet window of a task port (R356). An
accepted write of one DW acts on the register at its address: GCTL, FAULT_SUM and FAULT_PIN_STAT of the module, INT_GLOBAL, the registers of
a task port and of a completion queue, the MSI-X table; any other address ignores it. Two DW act in address order. FAULT_SUM and
FAULT_PIN_STAT are cleared by writing one. While memory space is off every access to BAR0 answers Unsupported Request and does nothing else
(R325). A command that offers an event finds room in its source's buffer (R548; FaultControlAndAcceptance states the hold). -/
def Obligations.RegisterWrites : Prop :=
  (∀ (ep : EpNo) (address : Nat) (words : List Word) (whole : Bool) (s : State), s.barOk ep = true → (whole = false ∨ s.inTask address =
    true ∨ 0x04000000 ≤ address ∨ ¬ (words.length = 1 ∧ address % 4 = 0 ∨ words.length = 2 ∧ address % 8 = 0)) → s.eventRoom = true →
    ∃ t, exec (.registerWrite ep address words whole) s = .next t ∧
      t.counter (epCtr ep 0x00010010) = Ctr.add 31 1 (s.counter (epCtr ep 0x00010010)) ∧
      offered t (mkMsg 1 0 0x32 address) ∧
      unchangedBut [.flt, .ctr] s t) ∧
  (∀ (ep : EpNo) (w : Word) (s : State), s.barOk ep = true →
    exec (.registerWrite ep 0x0C [w] true) s = .next (if w.getLsbD 0 then s.controllerReset ep else s)) ∧
  (∀ (ep : EpNo) (w : Word) (s : State), s.barOk ep = true →
    exec (.registerWrite ep 0x10 [w] true) s = .next (s.clearFaultSum ep w)) ∧
  (∀ (ep : EpNo) (w : Word) (s : State), s.barOk ep = true →
    exec (.registerWrite ep 0x24 [w] true) s = .next (s.writeFaultPin w)) ∧
  (∀ (ep : EpNo) (w : Word) (s : State), s.barOk ep = true →
    exec (.registerWrite ep 0x00010100 [w] true) s = .next (s.updEp ep fun x => { x with coalOff := w.getLsbD 0 })) ∧
  (∀ (ep : EpNo) (port : Nat) (w : Word) (s : State), s.barOk ep = true → port < s.portsPerEp →
    ∃ t, exec (.registerWrite ep (0x00100088 + port * 0x1000) [w] true) s = .next t ∧
      t.port (moduleNo ep port) = { s.port (moduleNo ep port) with stagedBase := bits w.toNat 13 0 } ∧
      (∀ m, m ≠ moduleNo ep port → t.port m = s.port m) ∧
      unchangedBut [.ports] s t) ∧
  (∀ (ep : EpNo) (port : Nat) (w : Word) (s : State), s.barOk ep = true → port < s.portsPerEp →
    ∃ t, exec (.registerWrite ep (0x00100080 + port * 0x1000) [w] true) s = .next t ∧
      t.port (moduleNo ep port) = { s.port (moduleNo ep port) with allotErr := (s.port (moduleNo ep port)).allotErr && !w.getLsbD 15 } ∧
      (∀ m, m ≠ moduleNo ep port → t.port m = s.port m) ∧
      unchangedBut [.ports] s t) ∧
  (∀ (ep : EpNo) (port : Nat) (w : Word) (s : State), s.barOk ep = true → port < s.portsPerEp →
    ∃ t, exec (.registerWrite ep (0x00100090 + port * 0x1000) [w] true) s = .next t ∧
      t.port (moduleNo ep port) = { s.port (moduleNo ep port) with cq := bits w.toNat 7 0 } ∧
      (∀ m, m ≠ moduleNo ep port → t.port m = s.port m) ∧
      unchangedBut [.ports] s t) ∧
  (∀ (ep : EpNo) (queue : Nat) (w : Word) (s : State), s.barOk ep = true → queue < s.portsPerEp → (s.cq (moduleNo ep queue)).enable =
    false →
    ∃ t, exec (.registerWrite ep (0x00200008 + queue * 0x100) [w] true) s = .next t ∧
      t.cq (moduleNo ep queue) = { s.cq (moduleNo ep queue) with size := bits w.toNat 16 0 } ∧
      (∀ m, m ≠ moduleNo ep queue → t.cq m = s.cq m) ∧
      unchangedBut [.cqs] s t) ∧
  (∀ (ep : EpNo) (queue : Nat) (w : Word) (s : State), s.barOk ep = true → queue < s.portsPerEp → (s.cq (moduleNo ep queue)).enable = true
    →
    ∃ t, exec (.registerWrite ep (0x00200008 + queue * 0x100) [w] true) s = .next t ∧
      t.cq (moduleNo ep queue) = { s.cq (moduleNo ep queue) with cfgErr := true } ∧
      (∀ m, m ≠ moduleNo ep queue → t.cq m = s.cq m) ∧
      unchangedBut [.cqs] s t) ∧
  (∀ (ep : EpNo) (queue : Nat) (w : Word) (s : State), s.barOk ep = true → queue < s.portsPerEp →
    ∃ t, exec (.registerWrite ep (0x00200010 + queue * 0x100) [w] true) s = .next t ∧
      t.cq (moduleNo ep queue) = { s.cq (moduleNo ep queue) with coalCount := bits w.toNat 7 0, coalTime := bits w.toNat 15 8 } ∧
      (∀ m, m ≠ moduleNo ep queue → t.cq m = s.cq m) ∧
      unchangedBut [.cqs] s t) ∧
  (∀ (ep : EpNo) (address : Nat) (w : Word) (s : State), s.barOk ep = true → address % 4 = 0 → address < 0x04000000 → ¬ (0x00100000 ≤
    address ∧ address < 0x00400000) → address ≠ 0x0C → address ≠ 0x10 → address ≠ 0x24 → address ≠ 0x00010100 →
    exec (.registerWrite ep address [w] true) s = .next s) ∧
  (∀ (ep : EpNo) (address : Nat) (w v : Word) (s : State), s.barOk ep = true → address % 8 = 0 → address < 0x04000000 → s.inTask address =
    false → s.eventRoom = true →
    ∃ t, exec (.registerWrite ep address [w] true) s = .next t ∧
      (t.eventRoom = true → exec (.registerWrite ep (address + 4) [v] true) t = exec (.registerWrite ep address [w, v] true) s)) ∧
  (∀ (ep : EpNo) (mask : Word) (s : State), s.barOk ep = true →
    ∃ t, exec (.faultSumClear ep mask) s = .next t ∧
      t.ep ep = { s.ep ep with faultSum := (s.ep ep).faultSum &&& ~~~mask } ∧
      (∀ e, e ≠ (ep : Nat) → t.ep e = s.ep e) ∧
      t.alert = ((t.ep 0).faultSum != 0 && bit (s.feat0 0x0B) 0) ∧
      unchangedBut [.out, .eps, .alert] s t) ∧
  (∀ (ep : EpNo) (value : Word) (s : State), s.barOk ep = true →
    exec (.faultPinRelease ep value) s = .next ({ s with flt := { s.flt with pin := s.flt.pin && !value.getLsbD 0 } })) ∧
  (∀ (ep : EpNo) (address port : Nat) (words : List Word) (whole : Bool) (w : Word) (bytes : List Byte) (s : State), s.epUsed ep = true →
    (s.ep ep).linkUp = true → (s.ep ep).mse = false →
    exec (.registerWrite ep address words whole) s = .next (s.emit (.unsupported ep)) ∧ exec (.faultSumClear ep w) s = .next (s.emit
      (.unsupported ep)) ∧ exec (.faultPinRelease ep w) s = .next (s.emit (.unsupported ep)) ∧ exec (.controllerReset ep) s = .next
      (s.emit (.unsupported ep)) ∧ exec (.portClaim ep port) s = .next (s.emit (.unsupported ep)) ∧ exec (.taskPacket ep port bytes) s =
      .next (s.emit (.unsupported ep)) ∧ exec (.portTagCountWrite ep port address) s = .next (s.emit (.unsupported ep)) ∧ exec (.cqEnable
      ep port w) s = .next (s.emit (.unsupported ep)) ∧ exec (.cqDisable ep port w) s = .next (s.emit (.unsupported ep)) ∧ exec
      (.cqHeadWrite ep port address) s = .next (s.emit (.unsupported ep)))

/-- A segment list without error lets its command go on, and one in error ends it with the index of the offending entry. A command is taken
in at its turn unless a hold of R428 applies: a managed opcode passes to MGT, with what the volume's owner then is, but a RELEASE or
TAKEOVER, whose own commands take it in; a READ, VERIFY, WRITE or ZONE_APPEND that a check blocks ends with its state code or takes the
zone's deferred error, one outside the volume ends with status 0x0104, and else it is to be performed; a write of a sequential zone becomes
the zone's pending write and opens a zone that is not open, an append takes the LBA of the write pointer. -/
def Obligations.TakeInOfCommands : Prop :=
  (∀ (tag : TagNo) (a b : List (List Byte)) (s : State), s.live tag = true → (s.cmd tag).pkt.sgl = true → (s.cmd tag).listsOk = false →
    s.hostOk (s.cmd tag).ep = true → listBad (s.cmd tag).pkt (a.map parseSegs) (b.map parseSegs) = none →
    ∃ t, exec (.segmentListFetched tag a b) s = .next t ∧
      t.cmd tag = { s.cmd tag with listsOk := true, dataSegs := dataSegs a, metaSegs := dataSegs b } ∧
      (∀ k, k ≠ (tag : Nat) → t.cmd k = s.cmd k) ∧
      unchangedBut [.cmds] s t) ∧
  (∀ (tag : TagNo) (a b : List (List Byte)) (i : Nat) (s : State), s.live tag = true → (s.cmd tag).pkt.sgl = true → (s.cmd tag).listsOk =
    false → s.hostOk (s.cmd tag).ep = true → listBad (s.cmd tag).pkt (a.map parseSegs) (b.map parseSegs) = some i →
    ∃ t, exec (.segmentListFetched tag a b) s = .next t ∧
      completes s t tag { status := 0x0101, r0 := 0x1FFFF + i % 65536 * 2 ^ 32 } ∧
      (∀ k, k ≠ (tag : Nat) → t.cmd k = s.cmd k) ∧
      unchangedBut [.free, .log, .pwr, .mns, .cal, .hdas, .mus, .store, .tags, .cqs, .cmds, .mgt, .buf, .bca] s t) ∧
  (∀ (tag : TagNo) (s : State), s.at_ tag .intake = true → s.held (s.cmd tag) = false → s.turn (s.cmd tag) = true → 0x20 ≤ (s.cmd
    tag).pkt.opc → (s.cmd tag).pkt.changesOwner = false →
    ∃ t, exec (.intake tag) s = .next t ∧
      t.cmd tag = { s.cmd tag with
          phase := .managed, stranger := decide ((s.cmd tag).pkt.vol < 32) && s.notOwner (s.cmd tag).ep (s.cmd tag).pkt.vol } ∧
      (∀ k, k ≠ (tag : Nat) → t.cmd k = s.cmd k) ∧
      unchangedBut [.cmds] s t) ∧
  (∀ (tag : TagNo) (s : State), (s.cmd tag).pkt.changesOwner = true →
    exec (.intake tag) s = .next s) ∧
  (∀ (tag : TagNo) (s : State), s.at_ tag .intake = true → s.held (s.cmd tag) = false → s.turn (s.cmd tag) = true → (5 ≤ (s.cmd
    tag).pkt.opc ∨ (s.cmd tag).pkt.opc = 0) → (s.cmd tag).pkt.opc < 0x20 →
    ∃ t, exec (.intake tag) s = .next t ∧
      t.cmd tag = { s.cmd tag with
          phase := .perform, stranger := decide ((s.cmd tag).pkt.vol < 32) && s.notOwner (s.cmd tag).ep (s.cmd tag).pkt.vol } ∧
      (∀ k, k ≠ (tag : Nat) → t.cmd k = s.cmd k) ∧
      unchangedBut [.cmds] s t) ∧
  (∀ (tag : TagNo) (s : State), s.at_ tag .intake = true → s.held (s.cmd tag) = false → s.turn (s.cmd tag) = true → ((s.cmd tag).pkt.opc =
    1 ∨ (s.cmd tag).pkt.opc = 4) → s.blockRead (s.cmd tag).ep (s.cmd tag).pkt.vol (zoneOf (s.cmd tag).pkt.slba) (s.cmd tag).order = none →
    (s.zoneCount (s.cmd tag).pkt.vol = 0 ∨ zoneOf (s.cmd tag).pkt.slba < s.zoneCount (s.cmd tag).pkt.vol) →
    ∃ t, exec (.intake tag) s = .next t ∧
      t.cmd tag = { s.cmd tag with phase := .perform } ∧
      (∀ k, k ≠ (tag : Nat) → t.cmd k = s.cmd k) ∧
      unchangedBut [.cmds] s t) ∧
  (∀ (tag : TagNo) (k : Nat) (s : State), s.at_ tag .intake = true → s.held (s.cmd tag) = false → s.turn (s.cmd tag) = true → (((s.cmd
    tag).pkt.opc = 1 ∨ (s.cmd tag).pkt.opc = 4) ∧ s.blockRead (s.cmd tag).ep (s.cmd tag).pkt.vol (zoneOf (s.cmd tag).pkt.slba) (s.cmd
    tag).order = some (.code k) ∨ ((s.cmd tag).pkt.opc = 2 ∨ (s.cmd tag).pkt.opc = 3) ∧ s.blockWrite (s.cmd tag).ep (s.cmd tag).pkt.vol
    (zoneOf (s.cmd tag).pkt.slba) (ofsOf (s.cmd tag).pkt.slba) (s.cmd tag).pkt.count (s.cmd tag).order ((s.cmd tag).pkt.opc == 3) = some
    (.code k)) →
    ∃ t, exec (.intake tag) s = .next t ∧
      completes s t tag { status := 0x0200, state := k } ∧
      (∀ k, k ≠ (tag : Nat) → t.cmd k = s.cmd k) ∧
      unchangedBut [.mus, .tags, .cqs, .cmds] (s.letGo tag) t) ∧
  (∀ (tag : TagNo) (d : Deferred) (s : State), s.at_ tag .intake = true → s.held (s.cmd tag) = false → s.turn (s.cmd tag) = true →
    s.blockRead (s.cmd tag).ep (s.cmd tag).pkt.vol (zoneOf (s.cmd tag).pkt.slba) (s.cmd tag).order = some .deferred → 1 ≤ (s.cmd
    tag).pkt.opc → (s.cmd tag).pkt.opc ≤ 4 → (s.zone (s.cmd tag).pkt.vol (zoneOf (s.cmd tag).pkt.slba)).deferred = some d →
    ∃ t, exec (.intake tag) s = .next t ∧
      completes s t tag { status := 0x0202, r0 := d.lba, r1 := d.count, r2 := d.cause, defer := true } ∧
      (t.zone (s.cmd tag).pkt.vol (zoneOf (s.cmd tag).pkt.slba)).deferred = none ∧
      (∀ k, k ≠ (tag : Nat) → t.cmd k = s.cmd k) ∧
      unchangedBut [.mus, .tags, .cqs, .cmds] (s.letGo tag) t) ∧
  (∀ (tag : TagNo) (s : State), s.at_ tag .intake = true → s.held (s.cmd tag) = false → s.turn (s.cmd tag) = true → (((s.cmd tag).pkt.opc
    = 1 ∨ (s.cmd tag).pkt.opc = 4) ∧ s.blockRead (s.cmd tag).ep (s.cmd tag).pkt.vol (zoneOf (s.cmd tag).pkt.slba) (s.cmd tag).order = none
    ∨ ((s.cmd tag).pkt.opc = 2 ∨ (s.cmd tag).pkt.opc = 3) ∧ s.blockWrite (s.cmd tag).ep (s.cmd tag).pkt.vol (zoneOf (s.cmd tag).pkt.slba)
    (ofsOf (s.cmd tag).pkt.slba) (s.cmd tag).pkt.count (s.cmd tag).order ((s.cmd tag).pkt.opc == 3) = none) → s.zoneCount (s.cmd
    tag).pkt.vol ≠ 0 → s.zoneCount (s.cmd tag).pkt.vol ≤ zoneOf (s.cmd tag).pkt.slba →
    ∃ t, exec (.intake tag) s = .next t ∧
      completes s t tag { status := 0x0104 } ∧
      (∀ k, k ≠ (tag : Nat) → t.cmd k = s.cmd k) ∧
      unchangedBut [.mus, .tags, .cqs, .cmds] (s.letGo tag) t) ∧
  (∀ (tag : TagNo) (s : State), s.at_ tag .intake = true → s.held (s.cmd tag) = false → s.turn (s.cmd tag) = true → ((s.cmd tag).pkt.opc =
    2 ∨ (s.cmd tag).pkt.opc = 3) → s.blockWrite (s.cmd tag).ep (s.cmd tag).pkt.vol (zoneOf (s.cmd tag).pkt.slba) (ofsOf (s.cmd
    tag).pkt.slba) (s.cmd tag).pkt.count (s.cmd tag).order ((s.cmd tag).pkt.opc == 3) = none → (s.zoneCount (s.cmd tag).pkt.vol = 0 ∨
    zoneOf (s.cmd tag).pkt.slba < s.zoneCount (s.cmd tag).pkt.vol) → s.isConv (s.cmd tag).pkt.vol (zoneOf (s.cmd tag).pkt.slba) = true →
    ∃ t, exec (.intake tag) s = .next t ∧
      t.cmd tag = { s.cmd tag with phase := .perform } ∧
      (∀ k, k ≠ (tag : Nat) → t.cmd k = s.cmd k) ∧
      unchangedBut [.cmds] s t) ∧
  (∀ (tag : TagNo) (s : State), s.at_ tag .intake = true → s.held (s.cmd tag) = false → s.turn (s.cmd tag) = true → ((s.cmd tag).pkt.opc =
    2 ∨ (s.cmd tag).pkt.opc = 3) → s.blockWrite (s.cmd tag).ep (s.cmd tag).pkt.vol (zoneOf (s.cmd tag).pkt.slba) (ofsOf (s.cmd
    tag).pkt.slba) (s.cmd tag).pkt.count (s.cmd tag).order ((s.cmd tag).pkt.opc == 3) = none → (s.zoneCount (s.cmd tag).pkt.vol = 0 ∨
    zoneOf (s.cmd tag).pkt.slba < s.zoneCount (s.cmd tag).pkt.vol) → s.isConv (s.cmd tag).pkt.vol (zoneOf (s.cmd tag).pkt.slba) = false →
    ∃ t, exec (.intake tag) s = .next t ∧
      (t.zone (s.cmd tag).pkt.vol (zoneOf (s.cmd tag).pkt.slba)).pend = some (tag : Nat) ∧
      (t.zone (s.cmd tag).pkt.vol (zoneOf (s.cmd tag).pkt.slba)).isOpen = true ∧ (t.zone (s.cmd tag).pkt.vol (zoneOf (s.cmd
        tag).pkt.slba)).wp = (s.zone (s.cmd tag).pkt.vol (zoneOf (s.cmd tag).pkt.slba)).wp ∧
      ((s.zone (s.cmd tag).pkt.vol (zoneOf (s.cmd tag).pkt.slba)).isOpen = true → (t.zone (s.cmd tag).pkt.vol (zoneOf (s.cmd
        tag).pkt.slba)).st = (s.zone (s.cmd tag).pkt.vol (zoneOf (s.cmd tag).pkt.slba)).st) ∧
      ((s.zone (s.cmd tag).pkt.vol (zoneOf (s.cmd tag).pkt.slba)).isOpen = false → (t.zone (s.cmd tag).pkt.vol (zoneOf (s.cmd
        tag).pkt.slba)).st = .implicitOpen) ∧
      ((s.zone (s.cmd tag).pkt.vol (zoneOf (s.cmd tag).pkt.slba)).st = .empty → (t.zone (s.cmd tag).pkt.vol (zoneOf (s.cmd
        tag).pkt.slba)).kdom = some (s.mu (s.cmd tag).pkt.vol).defaultKdom) ∧
      ((t.cmd tag).phase = .perform ∧ (t.cmd tag).lba = if (s.cmd tag).pkt.opc = 3 then zoneOf (s.cmd tag).pkt.slba * 65536 + (s.zone
        (s.cmd tag).pkt.vol (zoneOf (s.cmd tag).pkt.slba)).wp else (s.cmd tag).lba) ∧
      (∀ z, z ≠ zoneOf (s.cmd tag).pkt.slba → t.zone (s.cmd tag).pkt.vol z = s.zone (s.cmd tag).pkt.vol z) ∧
      (∀ k, k ≠ (tag : Nat) → t.cmd k = s.cmd k) ∧
      unchangedBut [.mus, .cmds] s t)

/-- An ABORT of a tag of another endpoint, of a tag without an accepted command or of an ABORT ends with INVALID_FIELD at offset 40; one
that comes too late ends with status 0x0002; else its target ends with status 0x0201 and the ABORT succeeds. A FLUSH that a check blocks
ends with the state code; else it waits, and completes once every sector it covers has left the dirty index, with the number of zones that
lost data. -/
def Obligations.AbortAndFlush : Prop :=
  (∀ (tag : TagNo) (s : State), s.at_ tag .perform = true → (s.cmd tag).pkt.opc = 8 → (s.tagOf (s.cmd tag).ep (bits (s.cmd
    tag).pkt.p2.toNat 13 0) = false ∨ (s.tag (bits (s.cmd tag).pkt.p2.toNat 13 0)).st = .free ∨ (s.tag (bits (s.cmd tag).pkt.p2.toNat 13
    0)).st = .claimed ∨ ((s.tag (bits (s.cmd tag).pkt.p2.toNat 13 0)).st = .accepted ∧ (s.cmd (bits (s.cmd tag).pkt.p2.toNat 13
    0)).pkt.opc = 8)) →
    ∃ t, exec (.abort tag) s = .next t ∧
      completes s t tag (badField 40) ∧
      (∀ k, k ≠ (tag : Nat) → t.cmd k = s.cmd k) ∧
      unchangedBut [.tags, .cqs, .cmds] s t) ∧
  (∀ (tag : TagNo) (s : State), s.at_ tag .perform = true → (s.cmd tag).pkt.opc = 8 → s.tagOf (s.cmd tag).ep (bits (s.cmd
    tag).pkt.p2.toNat 13 0) = true → ((s.tag (bits (s.cmd tag).pkt.p2.toNat 13 0)).st = .posted ∨ (s.tag (bits (s.cmd tag).pkt.p2.toNat 13
    0)).st = .accepted ∧ (s.cmd (bits (s.cmd tag).pkt.p2.toNat 13 0)).pkt.opc ≠ 8 ∧ ((s.cmd (bits (s.cmd tag).pkt.p2.toNat 13 0)).phase =
    .fua ∨ (s.cmd (bits (s.cmd tag).pkt.p2.toNat 13 0)).phase = .executing ∧ 0x20 ≤ (s.cmd (bits (s.cmd tag).pkt.p2.toNat 13 0)).pkt.opc))
    →
    ∃ t, exec (.abort tag) s = .next t ∧
      completes s t tag { status := 0x0002 } ∧
      (∀ k, k ≠ (tag : Nat) → t.cmd k = s.cmd k) ∧
      unchangedBut [.tags, .cqs, .cmds] s t) ∧
  (∀ (tag : TagNo) (n : Nat) (s : State), s.at_ tag .perform = true → (s.cmd tag).pkt.opc = 8 → n = bits (s.cmd tag).pkt.p2.toNat 13 0 →
    s.tagOf (s.cmd tag).ep n = true → s.live n = true → (s.cmd n).pkt.opc ≠ 8 → s.pastAbort n = false →
    ∃ t, exec (.abort tag) s = .next t ∧
      completes s t tag {} ∧
      (t.tag n).st = .posted ∧ t.cmd n = {} ∧
      doneEntry n (s.cmd n).port { status := 0x0201 } ∈ (t.cq (moduleNo (s.cmd n).ep (s.cmd n).pkt.cqid)).waiting ∧
      (∀ k, k ≠ (tag : Nat) → k ≠ n → t.cmd k = s.cmd k) ∧
      unchangedBut [.free, .log, .pwr, .mns, .cal, .hdas, .mus, .store, .tags, .cqs, .cmds, .mgt, .buf, .bca] s t) ∧
  (∀ (tag : TagNo) (k : Nat) (s : State), s.at_ tag .perform = true → (s.cmd tag).pkt.opc = 5 → s.flushBlock (s.cmd tag).ep (s.cmd
    tag).pkt.vol (s.cmd tag).order = some k →
    ∃ t, exec (.flush tag) s = .next t ∧
      completes s t tag { status := 0x0200, state := k } ∧
      (∀ k, k ≠ (tag : Nat) → t.cmd k = s.cmd k) ∧
      unchangedBut [.tags, .cqs, .cmds] s t) ∧
  (∀ (tag : TagNo) (s : State), s.at_ tag .perform = true → (s.cmd tag).pkt.opc = 5 → s.flushBlock (s.cmd tag).ep (s.cmd tag).pkt.vol
    (s.cmd tag).order = none →
    ∃ t, exec (.flush tag) s = .next t ∧
      t.cmd tag = { s.cmd tag with phase := .flush } ∧
      (∀ k, k ≠ (tag : Nat) → t.cmd k = s.cmd k) ∧
      unchangedBut [.cmds] s t) ∧
  (∀ (tag : TagNo) (s : State), s.at_ tag .flush = true → (∀ e, e ∈ s.bca.index → (s.cmd tag).inScope e.1 = true → (s.cmd tag).covers <
    e.2.seq) →
    ∃ t, exec (.flushComplete tag) s = .next t ∧
      (completes s t tag (if (s.cmd tag).pkt.opc = 5 then { r0 := (s.cmd tag).lostZones.length } else
        { r0 := (s.cmd tag).counted, r1 := (s.cmd tag).lostZones.length })) ∧
      (∀ k, k ≠ (tag : Nat) → t.cmd k = s.cmd k) ∧
      unchangedBut [.tags, .cqs, .cmds] s t)

/-- A taken-in WRITE or ZONE_APPEND waits at the end of the budget list; the write at its head is granted its sectors where the limit and
staging have room. Fetched data is stored sector by sector, encrypted with its location tag, CRC and seal. At the commit the write pointer
of a sequential zone advances, the zone turns FULL at its capacity, each sector stands in the dirty index, and the command completes, or
waits for the medium where FUA is set. A read of host memory that fails ends its command with status 0x0400. A command that offers an event
finds room in its source's buffer (R548; FaultControlAndAcceptance states the hold). -/
def Obligations.WriteFlow : Prop :=
  (∀ (tag : TagNo) (s : State), s.at_ tag .perform = true → (s.cmd tag).pkt.opc = 2 →
    ∃ t, exec (.write tag) s = .next t ∧
      t.cmd tag = { s.cmd tag with phase := .budget } ∧
      (∀ k, k ≠ (tag : Nat) → t.cmd k = s.cmd k) ∧
      t.bca = { s.bca with budget := s.bca.budget ++ [(tag : Nat)] } ∧
      (∀ h, (t.hda h).gov.pressure = true ∨ t.hda h = s.hda h) ∧
      unchangedBut [.hdas, .cmds, .bca] s t) ∧
  (∀ (tag : TagNo) (s : State), s.at_ tag .perform = true → (s.cmd tag).pkt.opc = 3 →
    ∃ t, exec (.zoneAppend tag) s = .next t ∧
      t.cmd tag = { s.cmd tag with phase := .budget } ∧
      (∀ k, k ≠ (tag : Nat) → t.cmd k = s.cmd k) ∧
      t.bca = { s.bca with budget := s.bca.budget ++ [(tag : Nat)] } ∧
      (∀ h, (t.hda h).gov.pressure = true ∨ t.hda h = s.hda h) ∧
      unchangedBut [.hdas, .cmds, .bca] s t) ∧
  (∀ (n : Nat) (r : List Nat) (s : State), s.bca.budget = n :: r → s.at_ n .budget = true → s.canGrant (s.cmd n).pkt.count = true →
    ∃ t, exec .dirtyBudgetGrant s = .next t ∧
      t.cmd n = { s.cmd n with phase := .fetch, granted := (s.cmd n).pkt.count, stagingHeld := (s.cmd n).pkt.count } ∧
      t.bca = { s.bca with
          budget := r, budgetHeld := s.bca.budgetHeld + (s.cmd n).pkt.count, stagedHeld := s.bca.stagedHeld + (s.cmd n).pkt.count } ∧
      (∀ k, k ≠ n → t.cmd k = s.cmd k) ∧
      (∀ h, (t.hda h).gov.pressure = true ∨ t.hda h = s.hda h) ∧
      unchangedBut [.hdas, .cmds, .bca] s t) ∧
  (∀ (tag : TagNo) (sectors metas : List (List Byte)) (s : State), s.at_ tag .fetch = true → (s.cmd tag).listsOk = true → s.hostOk (s.cmd
    tag).ep = true → sectors.length = (s.cmd tag).pkt.count → (metas.length = if (s.cmd tag).pkt.hasMeta then (s.cmd tag).pkt.count else
    0) → s.eventRoom = true →
    ∃ t, exec (.hostDataFetchDone tag sectors metas) s = .next t ∧
      (t.cmd tag).phase = .buffered ∧ (t.cmd tag).data.length = sectors.length ∧
      (∀ i, i < sectors.length → (t.cmd tag).data[i]? = some (s.storeSector (s.cmd tag).pkt.vol ((s.cmd tag).lba + i) (sectors.getD i [])
        (metas.getD i (List.replicate 16 0)))) ∧
      t.cmd tag = { s.cmd tag with phase := .buffered, data := (t.cmd tag).data } ∧
      (∀ k, k ≠ (tag : Nat) → t.cmd k = s.cmd k) ∧
      t.bca.index = s.bca.index ∧ t.bca.commitSeq = s.bca.commitSeq ∧
      unchangedBut [.ctr, .flt, .cmds, .buf, .bca] s t) ∧
  (∀ (tag : TagNo) (s : State), s.at_ tag .buffered = true → s.mns.powerFail = false → (s.cmd tag).pkt.fua = false → s.eventRoom = true →
    ∃ t, exec (.writeCommit tag) s = .next t ∧
      (completes s t tag { r0 := if (s.cmd tag).pkt.opc = 3 then (s.cmd tag).lba else 0 }) ∧
      (s.isConv (s.cmd tag).pkt.vol (zoneOf (s.cmd tag).lba) = false → (t.zone (s.cmd tag).pkt.vol (zoneOf (s.cmd tag).lba)).wp = (s.zone
        (s.cmd tag).pkt.vol (zoneOf (s.cmd tag).lba)).wp + (s.cmd tag).pkt.count ∧ (t.zone (s.cmd tag).pkt.vol (zoneOf (s.cmd
        tag).lba)).pend = none ∧ (t.zone (s.cmd tag).pkt.vol (zoneOf (s.cmd tag).lba)).st = if s.cap (s.cmd tag).pkt.vol (zoneOf (s.cmd
        tag).lba) ≤ (s.zone (s.cmd tag).pkt.vol (zoneOf (s.cmd tag).lba)).wp + (s.cmd tag).pkt.count ∧ (s.zone (s.cmd tag).pkt.vol (zoneOf
        (s.cmd tag).lba)).isOpen = true then .full else (s.zone (s.cmd tag).pkt.vol (zoneOf (s.cmd tag).lba)).st) ∧
      (s.isConv (s.cmd tag).pkt.vol (zoneOf (s.cmd tag).lba) = true → t.zone (s.cmd tag).pkt.vol (zoneOf (s.cmd tag).lba) = { s.zone
        (s.cmd tag).pkt.vol (zoneOf (s.cmd tag).lba) with
          lastCommit := s.second * 1000 + Config.free s.free % 1000 }) ∧
      t.free = s.free + 1 ∧
      (∀ h, (t.hda h).gov.pressure = true ∨ t.hda h = s.hda h) ∧
      (∀ z, z ≠ zoneOf (s.cmd tag).lba → t.zone (s.cmd tag).pkt.vol z = s.zone (s.cmd tag).pkt.vol z) ∧
      (∀ i, i < (s.cmd tag).data.length → (sget t.bca.index (dkey (s.cmd tag).pkt.vol ((s.cmd tag).lba + i)) {}).sector = (s.cmd
        tag).data[i]?) ∧
      t.bca.commitSeq = s.bca.commitSeq + 1 ∧ t.bca.budgetHeld = s.bca.budgetHeld - (s.cmd tag).granted ∧ t.bca.stagedHeld =
        s.bca.stagedHeld - (s.cmd tag).stagingHeld ∧
      (∀ k, k ≠ (tag : Nat) → t.cmd k = s.cmd k) ∧
      unchangedBut [.free, .ctr, .flt, .hdas, .mus, .tags, .cqs, .cmds, .buf, .bca] s t) ∧
  (∀ (tag : TagNo) (s : State), s.at_ tag .buffered = true → s.mns.powerFail = false → (s.cmd tag).pkt.fua = true → s.eventRoom = true →
    ∃ t, exec (.writeCommit tag) s = .next t ∧
      (t.cmd tag).phase = .fua ∧ (t.cmd tag).covers = s.bca.commitSeq + 1 ∧ (t.tag tag).st = .accepted ∧
      (s.isConv (s.cmd tag).pkt.vol (zoneOf (s.cmd tag).lba) = false → (t.zone (s.cmd tag).pkt.vol (zoneOf (s.cmd tag).lba)).wp = (s.zone
        (s.cmd tag).pkt.vol (zoneOf (s.cmd tag).lba)).wp + (s.cmd tag).pkt.count ∧ (t.zone (s.cmd tag).pkt.vol (zoneOf (s.cmd
        tag).lba)).pend = none ∧ (t.zone (s.cmd tag).pkt.vol (zoneOf (s.cmd tag).lba)).st = if s.cap (s.cmd tag).pkt.vol (zoneOf (s.cmd
        tag).lba) ≤ (s.zone (s.cmd tag).pkt.vol (zoneOf (s.cmd tag).lba)).wp + (s.cmd tag).pkt.count ∧ (s.zone (s.cmd tag).pkt.vol (zoneOf
        (s.cmd tag).lba)).isOpen = true then .full else (s.zone (s.cmd tag).pkt.vol (zoneOf (s.cmd tag).lba)).st) ∧
      (s.isConv (s.cmd tag).pkt.vol (zoneOf (s.cmd tag).lba) = true → t.zone (s.cmd tag).pkt.vol (zoneOf (s.cmd tag).lba) = { s.zone
        (s.cmd tag).pkt.vol (zoneOf (s.cmd tag).lba) with
          lastCommit := s.second * 1000 + Config.free s.free % 1000 }) ∧
      t.free = s.free + 1 ∧
      (∀ h, (t.hda h).gov.pressure = true ∨ t.hda h = s.hda h) ∧
      (∀ z, z ≠ zoneOf (s.cmd tag).lba → t.zone (s.cmd tag).pkt.vol z = s.zone (s.cmd tag).pkt.vol z) ∧
      (∀ i, i < (s.cmd tag).data.length → (sget t.bca.index (dkey (s.cmd tag).pkt.vol ((s.cmd tag).lba + i)) {}).sector = (s.cmd
        tag).data[i]?) ∧
      t.bca.commitSeq = s.bca.commitSeq + 1 ∧ t.bca.budgetHeld = s.bca.budgetHeld - (s.cmd tag).granted ∧ t.bca.stagedHeld =
        s.bca.stagedHeld - (s.cmd tag).stagingHeld ∧
      (∀ k, k ≠ (tag : Nat) → t.cmd k = s.cmd k) ∧
      unchangedBut [.free, .ctr, .flt, .hdas, .mus, .tags, .cqs, .cmds, .buf, .bca] s t) ∧
  (∀ (tag : TagNo) (address aerBit : Nat) (s : State), s.live tag = true → ((s.cmd tag).phase = .fetch ∨ (s.cmd tag).listsOk = false ∨
    (s.cmd tag).phase = .managed ∨ (s.cmd tag).phase = .executing) → s.hostOk (s.cmd tag).ep = true → (aerBit ≠ 19 ∨ (s.ep (s.cmd
    tag).ep).ecrcCheck = true) → s.eventRoom = true →
    ∃ t, exec (.hostMemoryError tag address aerBit) s = .next t ∧
      completes s t tag { status := 0x0400, r0 := address } ∧
      (∀ k, k ≠ (tag : Nat) → t.cmd k = s.cmd k) ∧
      (t.ep (s.cmd tag).ep).aerUncorr = (s.ep (s.cmd tag).ep).aerUncorr ||| (1#32 <<< aerBit) ∧
      offered t (mkMsg 1 0 aerBit address) ∧
      unchangedBut [.free, .ctr, .flt, .log, .pwr, .mns, .cal, .hdas, .mus, .store, .eps, .tags, .cqs, .cmds, .mgt, .buf, .bca] s t)

/-- READ and VERIFY look up each sector in buffer memory; a sector that nothing has been written to reads as zeros; a command without a
missing sector passes to egress and any other to SCH, or to its overflow list. At egress the errors of buffer memory that the reads find are
taken into the sectors (R462, R463); the data of each sector that was read and passes its checks is decrypted to host memory, to the
addresses that the packet or its segment list gives, an unread sector raises one event and is counted, and the command completes with the
result of R205, R206 and R389: status 0x0401 where a sector was withheld, 0x0300 where one was not read. A command that offers an event
finds room in its source's buffer (R548; FaultControlAndAcceptance states the hold). -/
def Obligations.ReadFlow : Prop :=
  (∀ (tag : TagNo) (s : State), s.at_ tag .perform = true → (s.cmd tag).pkt.opc = 1 → s.eventRoom = true →
    ∃ t, exec (.read tag) s = .next t ∧
      (if (t.cmd tag).missing = [] then (t.cmd tag).phase = .egress else ((t.cmd tag).phase = .sch ∧ (tag : Nat) ∈ (t.mu (s.cmd
        tag).pkt.vol).sch.queue) ∨ ((t.cmd tag).phase = .overflow ∧ (tag : Nat) ∈ (t.mu (s.cmd tag).pkt.vol).sch.overflow)) ∧
      (∀ i, i < (s.cmd tag).pkt.count → s.lookup (s.cmd tag).pkt.vol ((s.cmd tag).pkt.slba + i) = .zeros → sget (t.cmd tag).secs i {} =
        { read := true, zero := true }) ∧
      (∀ k, k ≠ (tag : Nat) → t.cmd k = s.cmd k) ∧
      t.cmd tag = { s.cmd tag with phase := (t.cmd tag).phase, secs := (t.cmd tag).secs } ∧
      unchangedBut [.free, .out, .ctr, .flt, .mus, .tags, .cqs, .cmds, .buf, .bca] s t) ∧
  (∀ (tag : TagNo) (s : State), s.at_ tag .perform = true → (s.cmd tag).pkt.opc = 4 → s.eventRoom = true →
    ∃ t, exec (.verify tag) s = .next t ∧
      (if (t.cmd tag).missing = [] then (t.cmd tag).phase = .egress else ((t.cmd tag).phase = .sch ∧ (tag : Nat) ∈ (t.mu (s.cmd
        tag).pkt.vol).sch.queue) ∨ ((t.cmd tag).phase = .overflow ∧ (tag : Nat) ∈ (t.mu (s.cmd tag).pkt.vol).sch.overflow)) ∧
      (∀ i, i < (s.cmd tag).pkt.count → s.lookup (s.cmd tag).pkt.vol ((s.cmd tag).pkt.slba + i) = .zeros → sget (t.cmd tag).secs i {} =
        { read := true, zero := true }) ∧
      (∀ k, k ≠ (tag : Nat) → t.cmd k = s.cmd k) ∧
      t.cmd tag = { s.cmd tag with phase := (t.cmd tag).phase, secs := (t.cmd tag).secs } ∧
      unchangedBut [.free, .out, .ctr, .flt, .mus, .tags, .cqs, .cmds, .buf, .bca] s t) ∧
  (∀ (egress : EgressIn) (tag : TagNo) (s : State), egress.tag = tag → s.at_ tag .egress = true → ((s.cmd tag).pkt.opc = 1 ∨ (s.cmd
    tag).pkt.opc = 4) → ((s.cmd tag).pkt.opc = 4 ∨ (s.cmd tag).listsOk = true ∧ s.hostOk (s.cmd tag).ep = true) → ((egress.reads.all fun b
    => burstOk b && s.ofCmd (s.cmd tag) b) = true) → s.eventRoom = true →
    ∃ t, exec (.readEgressDone egress) s = .next t ∧
      completes s t tag (((s.readBursts egress.reads).cmd tag).readRes ((s.readBursts egress.reads).withheldOf ((s.readBursts
        egress.reads).cmd tag))) ∧
      (∀ k, k ≠ (tag : Nat) → t.cmd k = s.cmd k) ∧
      (∀ i, ((List.range (s.cmd tag).pkt.count).filter fun i => !(sget (s.cmd tag).secs i {}).read).head? = some i → offered t (mkMsg 9
        (s.cmd tag).pkt.vol 2 ((s.cmd tag).pkt.slba + i))) ∧
      (egress.reads = [] → ((List.range (s.cmd tag).pkt.count).filter fun i => !(sget (s.cmd tag).secs i {}).read) = [] → s.withheldOf
        (s.cmd tag) = [] → t.flt = s.flt ∧ t.ctr = s.ctr) ∧
      (∀ i, i < (s.cmd tag).pkt.count → (s.cmd tag).pkt.opc = 1 → (sget (s.cmd tag).secs i {}).read = true → (sget (s.cmd tag).secs i
        {}).data = none → ((s.cmd tag).pieces false (i * 4096) (List.replicate 4096 0)).all (fun x => t.out.contains (.hostData tag x.1
        (s.ep (s.cmd tag).ep).relaxed x.2)) = true) ∧
      (∀ i, i < (s.cmd tag).pkt.count → (s.cmd tag).pkt.opc = 1 → (sget (s.cmd tag).secs i {}).read = true → (sget (s.cmd tag).secs i
        {}).data.isSome = true → (s.cmd tag).pkt.slba + i ∉ ((s.readBursts egress.reads).withheldOf ((s.readBursts egress.reads).cmd
        tag)).map (·.1) → ((s.cmd tag).pieces false (i * 4096) (Config.sm4Decrypt (s.keyOf ((s.boundKdom (s.cmd tag).pkt.vol (zoneOf
        ((s.cmd tag).pkt.slba + i))).getD 0)) (s.cmd tag).pkt.vol ((s.cmd tag).pkt.slba + i) false ((sget ((s.readBursts egress.reads).cmd
        tag).secs i {}).data.getD {}).data)).all (fun x => t.out.contains (.hostData tag x.1 (s.ep (s.cmd tag).ep).relaxed x.2)) = true) ∧
      ((s.cmd tag).pkt.opc = 4 → t.out = s.out) ∧
      unchangedBut [.free, .out, .ctr, .flt, .mus, .tags, .cqs, .cmds, .buf, .bca, .sec] s t) ∧
  (∀ (mu : MuNo) (n : Nat) (r : List Nat) (s : State), (s.mu mu).sch.overflow = n :: r → (s.mu mu).sch.depth < 1024 →
    ∃ t, exec (.overflowToSch mu) s = .next t ∧
      (t.mu mu).sch = { (s.mu mu).sch with overflow := r, queue := (s.mu mu).sch.queue ++ [n] } ∧
      t.mu mu = { s.mu mu with sch := (t.mu mu).sch } ∧
      t.cmd n = { s.cmd n with phase := .sch } ∧
      (∀ k, k ≠ n → t.cmd k = s.cmd k) ∧
      (∀ k, k ≠ (mu : Nat) → t.mu k = s.mu k) ∧
      unchangedBut [.mus, .cmds] s t)

/-- SCH issues the take that slipped, and else the one that R435 chooses: its descriptor (for a system take, one whose place the spec leaves
open), its entry address, the settings and the counter are those of the take; a destage take whose failed attempts exceed WRITE_RETRY, or
reach one lowered since, spends its budget instead, with one event and the count, and leaves the list. The tables of a take are ready where
both entries check; an entry that does not, or a PFLT that stays, fails the take with one event. Destage hands over the dirty sectors of a
track, in their order, and marks them; MGT submits one recovery take at a time. A command that offers an event finds room in its source's
buffer (R548; FaultControlAndAcceptance states the hold). -/
def Obligations.TakesAndDestage : Prop :=
  (∀ (mu : MuNo) (clock : SchClock) (angle : Nat) (d : TakeDesc) (s : State), s.mayIssue mu = true → (s.mu mu).bufferDone = true →
    clock.ages.length = (s.eligible mu).length → clock.now / 1000 = s.second → (s.mu mu).sch.now ≤ clock.now → angle < 32768 →
    s.continuation mu = some d → d.type ≠ 2 → s.eventRoom = true →
    ∃ t, exec (.takeIssue mu clock angle) s = .next t ∧
      (t.mu mu).tsq.desc = some d ∧
      ((t.mu mu).tsq.upc = (if s.store.service then 0x800 else 0) + d.type ∧ (t.mu mu).tsq.locSector = 0) ∧
      ((t.mu mu).tsq.st = .running ∨ (t.mu mu).tsq.st = .held) ∧
      (t.mu mu).sch.slipNext = none ∧
      (t.mu mu).rch.settings = (s.feature 0x04 mu).1 ∧ (t.mu mu).was.settings = (s.feature 0x06 mu).1 ∧
      t.counter (aTsq mu 0x08) = Ctr.add 31 1 (s.counter (aTsq mu 0x08)) ∧
      (∀ k, k ≠ (mu : Nat) / 2 → t.hda k = s.hda k) ∧
      t.pwr = { s.pwr with gated := s.pwr.gated &&& ~~~(1#32 <<< (mu : Nat)) } ∧
      (∀ k, k ≠ (mu : Nat) → t.mu k = s.mu k) ∧
      unchangedBut [.free, .ctr, .flt, .pwr, .hdas, .mus, .tags, .cqs, .cmds, .bca] s t) ∧
  (∀ (mu : MuNo) (clock : SchClock) (angle : Nat) (d : TakeDesc) (s : State), s.mayIssue mu = true → (s.mu mu).bufferDone = true →
    clock.ages.length = (s.eligible mu).length → clock.now / 1000 = s.second → (s.mu mu).sch.now ≤ clock.now → angle < 32768 →
    s.continuation mu = none → (chooseTake ((s.placeSystem mu).urgent mu) ((((s.placeSystem mu).eligible mu).zip clock.ages).map fun e =>
    (e.1, (s.mu mu).sch.ageAt clock.now e.1 e.2, (s.placeSystem mu).accessCost mu angle e.1)) = some d) → d.type ≠ 2 → d.type < 6 →
    s.eventRoom = true →
    ∃ t, exec (.takeIssue mu clock angle) s = .next t ∧
      (t.mu mu).tsq.desc = some d ∧
      ((t.mu mu).tsq.upc = (if s.store.service then 0x800 else 0) + d.type ∧ (t.mu mu).tsq.locSector = 0) ∧
      ((t.mu mu).tsq.st = .running ∨ (t.mu mu).tsq.st = .held) ∧
      (t.mu mu).sch.slipNext = none ∧
      (t.mu mu).rch.settings = (s.feature 0x04 mu).1 ∧ (t.mu mu).was.settings = (s.feature 0x06 mu).1 ∧
      t.counter (aTsq mu 0x08) = Ctr.add 31 1 (s.counter (aTsq mu 0x08)) ∧
      (∀ k, k ≠ (mu : Nat) / 2 → t.hda k = s.hda k) ∧
      t.pwr = { s.pwr with gated := s.pwr.gated &&& ~~~(1#32 <<< (mu : Nat)) } ∧
      (t.mu mu).sch.now = clock.now ∧
      (∀ k, k ≠ (mu : Nat) → t.mu k = s.mu k) ∧
      unchangedBut [.free, .ctr, .flt, .pwr, .hdas, .mus, .tags, .cqs, .cmds, .bca] s t) ∧
  (∀ (mu : MuNo) (clock : SchClock) (angle : Nat) (d : TakeDesc) (x : Destage) (s : State), s.mayIssue mu = true → (s.mu mu).bufferDone =
    true → clock.ages.length = (s.eligible mu).length → clock.now / 1000 = s.second → (s.mu mu).sch.now ≤ clock.now → angle < 32768 →
    s.continuation mu = none → (chooseTake ((s.placeSystem mu).urgent mu) ((((s.placeSystem mu).eligible mu).zip clock.ages).map fun e =>
    (e.1, (s.mu mu).sch.ageAt clock.now e.1 e.2, (s.placeSystem mu).accessCost mu angle e.1)) = some d) → d.type = 2 → ((s.mu
    mu).sch.destage.find? (fun x => x.zone == d.zone && x.track == d.track) = some x) → (((s.mu mu).sch.destage.filter fun y => y.zone ==
    d.zone) = [x]) → (x.failed = 0 ∨ x.failed < bits (s.feature 0x06 mu).1.toNat 3 0 ∨ (x.failed = bits (s.feature 0x06 mu).1.toNat 3 0 ∧
    s.writeRetry mu ≤ bits (s.feature 0x06 mu).1.toNat 3 0)) → s.eventRoom = true →
    ∃ t, exec (.takeIssue mu clock angle) s = .next t ∧
      (t.mu mu).tsq.desc = some d ∧
      ((t.mu mu).tsq.upc = (if s.store.service then 0x800 else 0) + 2 ∧ (t.mu mu).tsq.locSector = 0) ∧
      ((t.mu mu).tsq.st = .running ∨ (t.mu mu).tsq.st = .held) ∧
      (t.mu mu).sch.slipNext = none ∧
      (t.mu mu).rch.settings = (s.feature 0x04 mu).1 ∧ (t.mu mu).was.settings = (s.feature 0x06 mu).1 ∧
      t.counter (aTsq mu 0x08) = Ctr.add 31 1 (s.counter (aTsq mu 0x08)) ∧
      (∀ k, k ≠ (mu : Nat) / 2 → t.hda k = s.hda k) ∧
      t.pwr = { s.pwr with gated := s.pwr.gated &&& ~~~(1#32 <<< (mu : Nat)) } ∧
      (t.mu mu).was.writeTake = true ∧ (t.mu mu).was.failed = Nat.min 16 x.failed ∧
      (∀ k, k ≠ (mu : Nat) → t.mu k = s.mu k) ∧
      unchangedBut [.free, .ctr, .flt, .pwr, .hdas, .mus, .tags, .cqs, .cmds, .bca] s t) ∧
  (∀ (mu : MuNo) (clock : SchClock) (angle : Nat) (d : TakeDesc) (x : Destage) (l : Nat) (r : List Nat) (s : State), s.mayIssue mu = true
    → (s.mu mu).bufferDone = true → clock.ages.length = (s.eligible mu).length → clock.now / 1000 = s.second → (s.mu mu).sch.now ≤
    clock.now → angle < 32768 → s.continuation mu = none → (chooseTake ((s.placeSystem mu).urgent mu) ((((s.placeSystem mu).eligible
    mu).zip clock.ages).map fun e => (e.1, (s.mu mu).sch.ageAt clock.now e.1 e.2, (s.placeSystem mu).accessCost mu angle e.1)) = some d) →
    d.type = 2 → ((s.mu mu).sch.destage.find? (fun x => x.zone == d.zone && x.track == d.track) = some x) → (((s.mu mu).sch.destage.filter
    fun y => y.zone == d.zone) = [x]) → 1 ≤ x.failed → (bits (s.feature 0x06 mu).1.toNat 3 0 < x.failed ∨ (x.failed = bits (s.feature 0x06
    mu).1.toNat 3 0 ∧ bits (s.feature 0x06 mu).1.toNat 3 0 < s.writeRetry mu)) → x.lbas = l :: r → s.eventRoom = true →
    ∃ t, exec (.takeIssue mu clock angle) s = .next t ∧
      offered t (mkMsg 11 mu 0x0B l) ∧
      t.counter (aWas mu 0x18) = Ctr.add 31 1 (s.counter (aWas mu 0x18)) ∧
      (t.mu mu).tsq.desc = none ∧
      (s.isConv mu d.zone = false → ((t.mu mu).sch.destage.any fun y => y.zone == d.zone) = false) ∧
      unchangedBut [.free, .ctr, .flt, .pwr, .hdas, .mus, .tags, .cqs, .cmds, .bca] s t) ∧
  (∀ (mu : MuNo) (clock : SchClock) (angle : Nat) (d : TakeDesc) (s : State), s.mayIssue mu = true → (s.mu mu).bufferDone = true →
    clock.ages.length = (s.eligible mu).length → clock.now / 1000 = s.second → (s.mu mu).sch.now ≤ clock.now → angle < 32768 →
    s.continuation mu = none → (chooseTake ((s.placeSystem mu).urgent mu) ((((s.placeSystem mu).eligible mu).zip clock.ages).map fun e =>
    (e.1, (s.mu mu).sch.ageAt clock.now e.1 e.2, (s.placeSystem mu).accessCost mu angle e.1)) = some d) → (d.type = 6 ∨ d.type = 7) →
    s.eventRoom = true →
    ∃ t, exec (.takeIssue mu clock angle) s = .next t ∧
      (t.mu mu).tsq.desc = some d ∧
      ((t.mu mu).tsq.upc = (if s.store.service then 0x800 else 0) + d.type ∧ (t.mu mu).tsq.locSector = 0) ∧
      ((t.mu mu).tsq.st = .running ∨ (t.mu mu).tsq.st = .held) ∧
      (t.mu mu).sch.slipNext = none ∧
      (t.mu mu).rch.settings = (s.feature 0x04 mu).1 ∧ (t.mu mu).was.settings = (s.feature 0x06 mu).1 ∧
      t.counter (aTsq mu 0x08) = Ctr.add 31 1 (s.counter (aTsq mu 0x08)) ∧
      (∀ k, k ≠ (mu : Nat) / 2 → t.hda k = s.hda k) ∧
      t.pwr = { s.pwr with gated := s.pwr.gated &&& ~~~(1#32 <<< (mu : Nat)) } ∧
      (t.mu mu).was.writeTake = decide (d.type = 7) ∧
      (∀ k, k ≠ (mu : Nat) → t.mu k = s.mu k) ∧
      unchangedBut [.free, .ctr, .flt, .pwr, .hdas, .mus, .tags, .cqs, .cmds, .bca] s t) ∧
  (∀ (mu : MuNo) (clock : SchClock) (angle : Nat) (s : State), s.mayIssue mu = true → (s.mu mu).bufferDone = true → clock.ages.length =
    (s.eligible mu).length → clock.now / 1000 = s.second → (s.mu mu).sch.now ≤ clock.now → angle < 32768 → s.continuation mu = none →
    s.eligible mu = [] →
    ∃ t, exec (.takeIssue mu clock angle) s = .next t ∧
      t.mu mu = { s.mu mu with sch := { (s.mu mu).sch with now := clock.now, book := (t.mu mu).sch.book } } ∧
      (∀ k, k ≠ (mu : Nat) → t.mu k = s.mu k) ∧
      unchangedBut [.mus] s t) ∧
  (∀ (mu : MuNo) (found : TableIn) (d : TakeDesc) (s : State), ((found.reads.all fun b => burstOk b && s.ofEntry mu d b) = true) → ((s.mu
    mu).tsq.st = .running ∨ (s.mu mu).tsq.st = .held) → (s.mu mu).tsq.tablesReady = false → (s.mu mu).tsq.desc = some d → ((s.mu
    mu).rch.uses d.head d.rz (s.mu mu).tsq.band (sget (s.mu mu).chanTable (entryIndex d.head d.rz (s.mu mu).tsq.band) []) = true ∨
    (chanEntryOk (s.desc ((mu : Nat) / 2)) d.head d.rz (s.mu mu).tsq.band (sget (s.mu mu).chanTable (entryIndex d.head d.rz (s.mu
    mu).tsq.band) []) = true ∧ ((s.readBursts found.reads).mu mu).entryPoisoned (entryIndex d.head d.rz (s.mu mu).tsq.band) false =
    false)) → writeEntryOk (s.desc ((mu : Nat) / 2)) d.head d.rz (s.mu mu).tsq.band (sget (s.mu mu).writeTable (entryIndex d.head d.rz
    (s.mu mu).tsq.band) []) = true → ((s.readBursts found.reads).mu mu).entryPoisoned (entryIndex d.head d.rz (s.mu mu).tsq.band) true =
    false → (d.type = 2 ∨ d.type = 7 → (s.mu mu).pa.pflt = false ∧ (s.mu mu).was.clearDue = false ∨ found.stays = false) → s.eventRoom =
    true →
    ∃ t, exec (.tablesReady mu found) s = .next t ∧
      (t.mu mu).tsq.tablesReady = true ∧ (t.mu mu).tsq.desc = some d ∧ (t.mu mu).rch.entryValid = true ∧ (t.mu mu).was.entryValid = true ∧
      (t.mu mu).rch.head = d.head ∧ (t.mu mu).rch.rz = d.rz ∧ (t.mu mu).was.head = d.head ∧ (t.mu mu).was.rz = d.rz ∧
      ((d.type = 2 ∨ d.type = 7) → (t.mu mu).was.wdd = wddOf (s.desc ((mu : Nat) / 2)).wdDly (rate480 (s.kOf mu d.head d.rz) (s.hda ((mu :
        Nat) / 2)).clk.meas)) ∧
      (∀ k, k ≠ (mu : Nat) → t.mu k = s.mu k) ∧
      unchangedBut [.free, .out, .ctr, .flt, .log, .pwr, .mns, .cal, .hdas, .mus, .store, .ldp, .tags, .cqs, .cmds, .mgt, .buf, .bca,
        .sec] s t) ∧
  (∀ (mu : MuNo) (found : TableIn) (d : TakeDesc) (s : State), ((found.reads.all fun b => burstOk b && s.ofEntry mu d b) = true) → ((s.mu
    mu).tsq.st = .running ∨ (s.mu mu).tsq.st = .held) → (s.mu mu).tsq.tablesReady = false → (s.mu mu).tsq.desc = some d → (d.type = 2 ∨
    d.type = 7 → (s.mu mu).pa.pflt = false ∧ (s.mu mu).was.clearDue = false ∨ found.stays = false) → (chanEntryOk (s.desc ((mu : Nat) /
    2)) d.head d.rz (s.mu mu).tsq.band (sget (s.mu mu).chanTable (entryIndex d.head d.rz (s.mu mu).tsq.band) []) = false ∨ ((s.readBursts
    found.reads).mu mu).entryPoisoned (entryIndex d.head d.rz (s.mu mu).tsq.band) false = true) → (s.mu mu).rch.uses d.head d.rz (s.mu
    mu).tsq.band (sget (s.mu mu).chanTable (entryIndex d.head d.rz (s.mu mu).tsq.band) []) = false → s.eventRoom = true →
    ∃ t, exec (.tablesReady mu found) s = .next t ∧
      (t.mu mu).tsq.desc = none ∧
      offered t (mkMsg 9 mu 1 (entryIndex d.head d.rz (s.mu mu).tsq.band)) ∧
      t.counter (aTsq mu 0x0C) = Ctr.add 31 1 (s.counter (aTsq mu 0x0C)) ∧
      unchangedBut [.free, .out, .ctr, .flt, .log, .pwr, .mns, .cal, .hdas, .mus, .store, .ldp, .tags, .cqs, .cmds, .mgt, .buf, .bca,
        .sec] s t) ∧
  (∀ (mu : MuNo) (found : TableIn) (d : TakeDesc) (s : State), ((found.reads.all fun b => burstOk b && s.ofEntry mu d b) = true) → ((s.mu
    mu).tsq.st = .running ∨ (s.mu mu).tsq.st = .held) → (s.mu mu).tsq.tablesReady = false → (s.mu mu).tsq.desc = some d → (d.type = 2 ∨
    d.type = 7 → (s.mu mu).pa.pflt = false ∧ (s.mu mu).was.clearDue = false ∨ found.stays = false) → (writeEntryOk (s.desc ((mu : Nat) /
    2)) d.head d.rz (s.mu mu).tsq.band (sget (s.mu mu).writeTable (entryIndex d.head d.rz (s.mu mu).tsq.band) []) = false ∨ ((s.readBursts
    found.reads).mu mu).entryPoisoned (entryIndex d.head d.rz (s.mu mu).tsq.band) true = true) → s.eventRoom = true →
    ∃ t, exec (.tablesReady mu found) s = .next t ∧
      (t.mu mu).tsq.desc = none ∧
      offered t (mkMsg 11 mu 9 (entryIndex d.head d.rz (s.mu mu).tsq.band)) ∧
      t.counter (aTsq mu 0x0C) = Ctr.add 31 1 (s.counter (aTsq mu 0x0C)) ∧
      unchangedBut [.free, .out, .ctr, .flt, .log, .pwr, .mns, .cal, .hdas, .mus, .store, .ldp, .tags, .cqs, .cmds, .mgt, .buf, .bca,
        .sec] s t) ∧
  (∀ (mu : MuNo) (found : TableIn) (d : TakeDesc) (s : State), ((found.reads.all fun b => burstOk b && s.ofEntry mu d b) = true) → ((s.mu
    mu).tsq.st = .running ∨ (s.mu mu).tsq.st = .held) → (s.mu mu).tsq.tablesReady = false → (s.mu mu).tsq.desc = some d → found.stays =
    true → (d.type = 2 ∨ d.type = 7) → ((s.mu mu).pa.pflt = true ∨ (s.mu mu).was.clearDue = true) → s.eventRoom = true →
    ∃ t, exec (.tablesReady mu found) s = .next t ∧
      (t.mu mu).tsq.desc = none ∧
      offered t (mkMsg 11 mu 4 ((sget (s.mu mu).pa.regs 4 0).toNat + 0x10000)) ∧
      unchangedBut [.free, .out, .ctr, .flt, .log, .pwr, .mns, .cal, .hdas, .mus, .store, .ldp, .tags, .cqs, .cmds, .mgt, .buf, .bca,
        .sec] s t) ∧
  (∀ (mu : MuNo) (zone offset k now : Nat) (r : List Nat) (s : State), s.dirtyOnTrack mu zone (s.place mu (zone * 65536 + offset)).1 = k
    :: r → now / 1000 = s.second → (s.zone mu zone).inSch = false → (s.mu mu).sch.destage.length < 8 → s.headsAway mu = false → (s.isConv
    mu zone = false → (s.dirtyIn mu zone).head? = some (dkey mu (zone * 65536 + offset))) → (s.isConv mu zone = true → s.lowerTrack mu
    zone (s.place mu (zone * 65536 + offset)).1 ((s.zone mu zone).lastCommit + 2000 ≤ now) = false) → s.mayHandOver mu zone (s.place mu
    (zone * 65536 + offset)).1 ((s.zone mu zone).lastCommit + 2000 ≤ now) (k :: r) = true →
    ∃ t, exec (.destageHandover mu zone offset now) s = .next t ∧
      (t.mu mu).sch.destage = (s.mu mu).sch.destage ++
          [{ zone := zone, track := (s.place mu (zone * 65536 + offset)).1, first := (s.place mu (dlba k)).2, count := r.length + 1, lbas
                := (k :: r).map dlba }] ∧
      (∀ j, j ∈ k :: r → (sget t.bca.index j {}).handed = true ∧ (sget t.bca.index j {}).rewritten = false) ∧
      (∀ j, j ∉ k :: r → sget t.bca.index j {} = sget s.bca.index j {}) ∧
      (t.zone mu zone).inSch = true ∧
      (∀ k, k ≠ (mu : Nat) → t.mu k = s.mu k) ∧
      unchangedBut [.mus, .bca] s t) ∧
  (∀ (mu : MuNo) (n : Nat) (r : List Nat) (s : State), (s.mu mu).sch.recQueue = n :: r → (s.mu mu).sch.recovery = none → (∀ d, (s.mu
    mu).tsq.desc = some d → d.type ≠ 3 ∧ d.type ≠ 4) → (s.mu mu).sch.slipNext = none → s.at_ n .recovery = true → s.coreFree 0 = true →
    ((s.mgt.hungTasks.any fun e => e.2 == .recovery mu) = false) →
    ∃ t, exec (.recoveryTakeSubmit mu) s = .next t ∧
      (t.mu mu).sch = { (s.mu mu).sch with recovery := s.recoveryTake n } ∧
      t.mu mu = { s.mu mu with sch := (t.mu mu).sch } ∧
      (∀ k, k ≠ (mu : Nat) → t.mu k = s.mu k) ∧
      unchangedBut [.mus] s t)

/-- A running sequencer, at the cycle that comes next, executes the microword at its address and the nanoword it names, and its timers count
down. With an empty nanoword, NXT 0 goes on to the next address and NXT 1 goes to the target where the condition holds; NXT 3 calls and NXT
4 returns, SAFE restarts the monitor, and a pending STOP or ABORT is taken at a safe point by a call of its hook. ADD, SUB and the flag
fields have their results; CMP writes no register. A missing word, an uncorrectable word and a full return stack end the routine with one
TSQ_FAULT and TAKE_FAILED; the 65th microword without a safe point raises one TSQ_FAULT with its address, also where it returns from the
routine. A command that offers an event finds room in its source's buffer (R548; FaultControlAndAcceptance states the hold). -/
def Obligations.SequencerCycle : Prop :=
  (∀ (mu : MuNo) (d : TakeDesc) (i : CycleIn) (s : State), (s.mu mu).tsq.desc = some d → (s.mu mu).tsq.st = .running → s.cycleFits mu d
    i.cycle = true → s.eventRoom = true →
    ∃ t, exec (.tsqCycle mu i) s = .next t ∧
      unchangedBut [.free, .out, .ctr, .flt, .log, .pwr, .mns, .cal, .hdas, .mus, .store, .ldp, .tags, .cqs, .cmds, .mgt, .buf, .bca] s t) ∧
  (∀ (mu : MuNo) (d : TakeDesc) (i : CycleIn) (w : Word) (g : State) (s : State), (s.mu mu).tsq.desc = some d → (s.mu mu).tsq.st =
    .running → s.cycleFits mu d i.cycle = true → (g = (s.updMu mu fun x => { x with
      tsq := { x.tsq.tick.counts i.cycle with
        upc := (s.store.effective (s.mu mu).tsq.upc), addr := (s.store.effective (s.mu mu).tsq.upc) } }).gatesAt mu d i.cycle) → i.micro ≠
        2 → i.nano ≠ 2 → s.store.microAt (s.store.effective (s.mu mu).tsq.upc) = some w → bits w.toNat 31 29 = 0 → s.store.nanoAt (bits
        w.toNat 22 12) = some 0#192 → s.eventRoom = true →
    ∃ t, exec (.tsqCycle mu i) s = .next t ∧
      ((t.mu mu).tsq = { (g.mu mu).tsq with
          upc := ((s.store.effective (s.mu mu).tsq.upc) + 1) % 4096, sinceSafe := (g.mu mu).tsq.sinceSafe + 1, violAddr := if (g.mu
          mu).tsq.sinceSafe = 64 then (s.store.effective (s.mu mu).tsq.upc) else (g.mu mu).tsq.violAddr }) ∧
      t.mu mu = { g.mu mu with tsq := (t.mu mu).tsq } ∧
      (∀ k, k ≠ (mu : Nat) → t.mu k = s.mu k) ∧
      unchangedBut [.free, .out, .ctr, .flt, .log, .pwr, .mns, .cal, .hdas, .mus, .store, .ldp, .tags, .cqs, .cmds, .mgt, .buf, .bca] s t) ∧
  (∀ (mu : MuNo) (d : TakeDesc) (i : CycleIn) (w : Word) (g : State) (s : State), (s.mu mu).tsq.desc = some d → (s.mu mu).tsq.st =
    .running → s.cycleFits mu d i.cycle = true → (g = (s.updMu mu fun x => { x with
      tsq := { x.tsq.tick.counts i.cycle with
        upc := (s.store.effective (s.mu mu).tsq.upc), addr := (s.store.effective (s.mu mu).tsq.upc) } }).gatesAt mu d i.cycle) → i.micro ≠
        2 → i.nano ≠ 2 → s.store.microAt (s.store.effective (s.mu mu).tsq.upc) = some w → bits w.toNat 31 29 = 1 → s.store.nanoAt (bits
        w.toNat 22 12) = some 0#192 → bit (g.condGroup mu d (g.wedgeLast mu d i.cycle) (bits w.toNat 28 25)) (bits w.toNat 24 23) = true →
        s.eventRoom = true →
    ∃ t, exec (.tsqCycle mu i) s = .next t ∧
      ((t.mu mu).tsq = { (g.mu mu).tsq with
          upc := bits w.toNat 11 0, sinceSafe := (g.mu mu).tsq.sinceSafe + 1, violAddr := if (g.mu mu).tsq.sinceSafe = 64 then
          (s.store.effective (s.mu mu).tsq.upc) else (g.mu mu).tsq.violAddr }) ∧
      t.mu mu = { g.mu mu with tsq := (t.mu mu).tsq } ∧
      (∀ k, k ≠ (mu : Nat) → t.mu k = s.mu k) ∧
      unchangedBut [.free, .out, .ctr, .flt, .log, .pwr, .mns, .cal, .hdas, .mus, .store, .ldp, .tags, .cqs, .cmds, .mgt, .buf, .bca] s t) ∧
  (∀ (mu : MuNo) (d : TakeDesc) (i : CycleIn) (w : Word) (g : State) (s : State), (s.mu mu).tsq.desc = some d → (s.mu mu).tsq.st =
    .running → s.cycleFits mu d i.cycle = true → (g = (s.updMu mu fun x => { x with
      tsq := { x.tsq.tick.counts i.cycle with
        upc := (s.store.effective (s.mu mu).tsq.upc), addr := (s.store.effective (s.mu mu).tsq.upc) } }).gatesAt mu d i.cycle) → i.micro ≠
        2 → i.nano ≠ 2 → s.store.microAt (s.store.effective (s.mu mu).tsq.upc) = some w → bits w.toNat 31 29 = 1 → s.store.nanoAt (bits
        w.toNat 22 12) = some 0#192 → bit (g.condGroup mu d (g.wedgeLast mu d i.cycle) (bits w.toNat 28 25)) (bits w.toNat 24 23) = false
        → s.eventRoom = true →
    ∃ t, exec (.tsqCycle mu i) s = .next t ∧
      ((t.mu mu).tsq = { (g.mu mu).tsq with
          upc := ((s.store.effective (s.mu mu).tsq.upc) + 1) % 4096, sinceSafe := (g.mu mu).tsq.sinceSafe + 1, violAddr := if (g.mu
          mu).tsq.sinceSafe = 64 then (s.store.effective (s.mu mu).tsq.upc) else (g.mu mu).tsq.violAddr }) ∧
      t.mu mu = { g.mu mu with tsq := (t.mu mu).tsq } ∧
      (∀ k, k ≠ (mu : Nat) → t.mu k = s.mu k) ∧
      unchangedBut [.free, .out, .ctr, .flt, .log, .pwr, .mns, .cal, .hdas, .mus, .store, .ldp, .tags, .cqs, .cmds, .mgt, .buf, .bca] s t) ∧
  (∀ (mu : MuNo) (d : TakeDesc) (i : CycleIn) (w : Word) (g : State) (s : State), (s.mu mu).tsq.desc = some d → (s.mu mu).tsq.st =
    .running → s.cycleFits mu d i.cycle = true → (g = (s.updMu mu fun x => { x with
      tsq := { x.tsq.tick.counts i.cycle with
        upc := (s.store.effective (s.mu mu).tsq.upc), addr := (s.store.effective (s.mu mu).tsq.upc) } }).gatesAt mu d i.cycle) → i.micro ≠
        2 → i.nano ≠ 2 → s.store.microAt (s.store.effective (s.mu mu).tsq.upc) = some w → bits w.toNat 31 29 = 3 → s.store.nanoAt (bits
        w.toNat 22 12) = some 0#192 → bit (g.condGroup mu d (g.wedgeLast mu d i.cycle) (bits w.toNat 28 25)) (bits w.toNat 24 23) = true →
        (g.mu mu).tsq.stack.length < 8 → s.eventRoom = true →
    ∃ t, exec (.tsqCycle mu i) s = .next t ∧
      ((t.mu mu).tsq = { (g.mu mu).tsq with
          upc := bits w.toNat 11 0, sinceSafe := (g.mu mu).tsq.sinceSafe + 1, violAddr := if (g.mu mu).tsq.sinceSafe = 64 then
          (s.store.effective (s.mu mu).tsq.upc) else (g.mu mu).tsq.violAddr, stack := ((s.store.effective (s.mu mu).tsq.upc) + 1) % 4096
          :: (g.mu mu).tsq.stack }) ∧
      t.mu mu = { g.mu mu with tsq := (t.mu mu).tsq } ∧
      (∀ k, k ≠ (mu : Nat) → t.mu k = s.mu k) ∧
      unchangedBut [.free, .out, .ctr, .flt, .log, .pwr, .mns, .cal, .hdas, .mus, .store, .ldp, .tags, .cqs, .cmds, .mgt, .buf, .bca] s t) ∧
  (∀ (mu : MuNo) (d : TakeDesc) (i : CycleIn) (w : Word) (a : Nat) (r : List Nat) (g : State) (s : State), (s.mu mu).tsq.desc = some d →
    (s.mu mu).tsq.st = .running → s.cycleFits mu d i.cycle = true → (g = (s.updMu mu fun x => { x with
      tsq := { x.tsq.tick.counts i.cycle with
        upc := (s.store.effective (s.mu mu).tsq.upc), addr := (s.store.effective (s.mu mu).tsq.upc) } }).gatesAt mu d i.cycle) → i.micro ≠
        2 → i.nano ≠ 2 → s.store.microAt (s.store.effective (s.mu mu).tsq.upc) = some w → bits w.toNat 31 29 = 4 → s.store.nanoAt (bits
        w.toNat 22 12) = some 0#192 → bit (g.condGroup mu d (g.wedgeLast mu d i.cycle) (bits w.toNat 28 25)) (bits w.toNat 24 23) = true →
        (g.mu mu).tsq.stack = a :: r → s.eventRoom = true →
    ∃ t, exec (.tsqCycle mu i) s = .next t ∧
      ((t.mu mu).tsq = { (g.mu mu).tsq with
          upc := a % 4096, sinceSafe := (g.mu mu).tsq.sinceSafe + 1, violAddr := if (g.mu mu).tsq.sinceSafe = 64 then (s.store.effective
          (s.mu mu).tsq.upc) else (g.mu mu).tsq.violAddr, stack := r }) ∧
      t.mu mu = { g.mu mu with tsq := (t.mu mu).tsq } ∧
      (∀ k, k ≠ (mu : Nat) → t.mu k = s.mu k) ∧
      unchangedBut [.free, .out, .ctr, .flt, .log, .pwr, .mns, .cal, .hdas, .mus, .store, .ldp, .tags, .cqs, .cmds, .mgt, .buf, .bca] s t) ∧
  (∀ (mu : MuNo) (d : TakeDesc) (i : CycleIn) (w : Word) (g : State) (s : State), (s.mu mu).tsq.desc = some d → (s.mu mu).tsq.st =
    .running → s.cycleFits mu d i.cycle = true → (g = (s.updMu mu fun x => { x with
      tsq := { x.tsq.tick.counts i.cycle with
        upc := (s.store.effective (s.mu mu).tsq.upc), addr := (s.store.effective (s.mu mu).tsq.upc) } }).gatesAt mu d i.cycle) → i.micro ≠
        2 → i.nano ≠ 2 → s.store.microAt (s.store.effective (s.mu mu).tsq.upc) = some w → bits w.toNat 31 29 = 7 → s.store.nanoAt (bits
        w.toNat 22 12) = some 0#192 → bit (g.condGroup mu d (g.wedgeLast mu d i.cycle) (bits w.toNat 28 25)) (bits w.toNat 24 23) = true →
        (g.mu mu).tsq.stopPend = false → (g.mu mu).tsq.abortPend = false → s.eventRoom = true →
    ∃ t, exec (.tsqCycle mu i) s = .next t ∧
      (t.mu mu).tsq = { (g.mu mu).tsq with upc := bits w.toNat 11 0, sinceSafe := 0, violReported := false } ∧
      t.mu mu = { g.mu mu with tsq := (t.mu mu).tsq } ∧
      (∀ k, k ≠ (mu : Nat) → t.mu k = s.mu k) ∧
      unchangedBut [.free, .out, .ctr, .flt, .log, .pwr, .mns, .cal, .hdas, .mus, .store, .ldp, .tags, .cqs, .cmds, .mgt, .buf, .bca] s t) ∧
  (∀ (mu : MuNo) (d : TakeDesc) (i : CycleIn) (w : Word) (g : State) (s : State), (s.mu mu).tsq.desc = some d → (s.mu mu).tsq.st =
    .running → s.cycleFits mu d i.cycle = true → (g = (s.updMu mu fun x => { x with
      tsq := { x.tsq.tick.counts i.cycle with
        upc := (s.store.effective (s.mu mu).tsq.upc), addr := (s.store.effective (s.mu mu).tsq.upc) } }).gatesAt mu d i.cycle) → i.micro ≠
        2 → i.nano ≠ 2 → s.store.microAt (s.store.effective (s.mu mu).tsq.upc) = some w → bits w.toNat 31 29 = 7 → (g.mu mu).tsq.stopPend
        = true → (g.mu mu).tsq.handling = none → (g.mu mu).tsq.stack.length < 8 → s.eventRoom = true →
    ∃ t, exec (.tsqCycle mu i) s = .next t ∧
      ((t.mu mu).tsq = { (g.mu mu).tsq with
          upc := (if s.store.service then 0x810 else 0x010) + 1, sinceSafe := 0, violReported := false, stack := (s.store.effective (s.mu
          mu).tsq.upc) :: (g.mu mu).tsq.stack, handling := some true }) ∧
      t.mu mu = { g.mu mu with tsq := (t.mu mu).tsq } ∧
      (∀ k, k ≠ (mu : Nat) → t.mu k = s.mu k) ∧
      unchangedBut [.free, .out, .ctr, .flt, .log, .pwr, .mns, .cal, .hdas, .mus, .store, .ldp, .tags, .cqs, .cmds, .mgt, .buf, .bca] s t) ∧
  (∀ (mu : MuNo) (d : TakeDesc) (i : CycleIn) (w : Word) (k : BitVec 4) (g : State) (s : State), (s.mu mu).tsq.desc = some d → (s.mu
    mu).tsq.st = .running → s.cycleFits mu d i.cycle = true → (g = (s.updMu mu fun x => { x with
      tsq := { x.tsq.tick.counts i.cycle with
        upc := (s.store.effective (s.mu mu).tsq.upc), addr := (s.store.effective (s.mu mu).tsq.upc) } }).gatesAt mu d i.cycle) → i.micro ≠
        2 → i.nano ≠ 2 → s.store.microAt (s.store.effective (s.mu mu).tsq.upc) = some w → bits w.toNat 31 29 = 0 → s.store.nanoAt (bits
        w.toNat 22 12) = some (BitVec.ofNat 192 (2 ^ 64 + k.toNat * 2 ^ 68)) → s.eventRoom = true →
    ∃ t, exec (.tsqCycle mu i) s = .next t ∧
      ((t.mu mu).tsq = { (g.mu mu).tsq with
          f := (g.mu mu).tsq.f ||| k, upc := ((s.store.effective (s.mu mu).tsq.upc) + 1) % 4096, sinceSafe := (g.mu mu).tsq.sinceSafe + 1,
          violAddr := if (g.mu mu).tsq.sinceSafe = 64 then (s.store.effective (s.mu mu).tsq.upc) else (g.mu mu).tsq.violAddr }) ∧
      t.mu mu = { g.mu mu with tsq := (t.mu mu).tsq } ∧
      (∀ k, k ≠ (mu : Nat) → t.mu k = s.mu k) ∧
      unchangedBut [.free, .out, .ctr, .flt, .log, .pwr, .mns, .cal, .hdas, .mus, .store, .ldp, .tags, .cqs, .cmds, .mgt, .buf, .bca] s t) ∧
  (∀ (mu : MuNo) (d : TakeDesc) (i : CycleIn) (w : Word) (n x y : Nat) (g : State) (s : State), (s.mu mu).tsq.desc = some d → (s.mu
    mu).tsq.st = .running → s.cycleFits mu d i.cycle = true → (g = (s.updMu mu fun x => { x with
      tsq := { x.tsq.tick.counts i.cycle with
        upc := (s.store.effective (s.mu mu).tsq.upc), addr := (s.store.effective (s.mu mu).tsq.upc) } }).gatesAt mu d i.cycle) → i.micro ≠
        2 → i.nano ≠ 2 → s.store.microAt (s.store.effective (s.mu mu).tsq.upc) = some w → bits w.toNat 31 29 = 0 → n < 10 → x < 16 → y <
        15 → s.store.nanoAt (bits w.toNat 22 12) = some (BitVec.ofNat 192 (2 * 2 ^ 20 + n * 2 ^ 24 + x * 2 ^ 28 + y * 2 ^ 32)) →
        s.eventRoom = true →
    ∃ t, exec (.tsqCycle mu i) s = .next t ∧
      sget (t.mu mu).tsq.v n 0 = (g.mu mu).tsq.reg d x + (g.mu mu).tsq.reg d y ∧
      (∀ j, j ≠ n → sget (t.mu mu).tsq.v j 0 = sget (g.mu mu).tsq.v j 0) ∧
      (t.mu mu).tsq.zf = ((g.mu mu).tsq.reg d x + (g.mu mu).tsq.reg d y == 0) ∧ (t.mu mu).tsq.nf = ((g.mu mu).tsq.reg d x + (g.mu
        mu).tsq.reg d y).msb ∧
      (t.mu mu).tsq.cyf = decide (2 ^ 32 ≤ ((g.mu mu).tsq.reg d x).toNat + ((g.mu mu).tsq.reg d y).toNat) ∧
      (t.mu mu).tsq.vf = decide (((g.mu mu).tsq.reg d x + (g.mu mu).tsq.reg d y).toInt ≠ ((g.mu mu).tsq.reg d x).toInt + ((g.mu
        mu).tsq.reg d y).toInt) ∧
      (t.mu mu).tsq.upc = ((s.store.effective (s.mu mu).tsq.upc) + 1) % 4096 ∧
      (∀ k, k ≠ (mu : Nat) → t.mu k = s.mu k) ∧
      unchangedBut [.free, .out, .ctr, .flt, .log, .pwr, .mns, .cal, .hdas, .mus, .store, .ldp, .tags, .cqs, .cmds, .mgt, .buf, .bca] s t) ∧
  (∀ (mu : MuNo) (d : TakeDesc) (i : CycleIn) (w : Word) (n x y : Nat) (g : State) (s : State), (s.mu mu).tsq.desc = some d → (s.mu
    mu).tsq.st = .running → s.cycleFits mu d i.cycle = true → (g = (s.updMu mu fun x => { x with
      tsq := { x.tsq.tick.counts i.cycle with
        upc := (s.store.effective (s.mu mu).tsq.upc), addr := (s.store.effective (s.mu mu).tsq.upc) } }).gatesAt mu d i.cycle) → i.micro ≠
        2 → i.nano ≠ 2 → s.store.microAt (s.store.effective (s.mu mu).tsq.upc) = some w → bits w.toNat 31 29 = 0 → n < 16 → x < 16 → y <
        15 → s.store.nanoAt (bits w.toNat 22 12) = some (BitVec.ofNat 192 (7 * 2 ^ 20 + n * 2 ^ 24 + x * 2 ^ 28 + y * 2 ^ 32)) →
        s.eventRoom = true →
    ∃ t, exec (.tsqCycle mu i) s = .next t ∧
      (t.mu mu).tsq.v = (g.mu mu).tsq.v ∧
      (t.mu mu).tsq.zf = ((g.mu mu).tsq.reg d x - (g.mu mu).tsq.reg d y == 0) ∧ (t.mu mu).tsq.nf = ((g.mu mu).tsq.reg d x - (g.mu
        mu).tsq.reg d y).msb ∧
      (t.mu mu).tsq.vf = decide (((g.mu mu).tsq.reg d x - (g.mu mu).tsq.reg d y).toInt ≠ ((g.mu mu).tsq.reg d x).toInt - ((g.mu
        mu).tsq.reg d y).toInt) ∧
      (∀ k, k ≠ (mu : Nat) → t.mu k = s.mu k) ∧
      unchangedBut [.free, .out, .ctr, .flt, .log, .pwr, .mns, .cal, .hdas, .mus, .store, .ldp, .tags, .cqs, .cmds, .mgt, .buf, .bca] s t) ∧
  (∀ (mu : MuNo) (d : TakeDesc) (i : CycleIn) (s : State), (s.mu mu).tsq.desc = some d → (s.mu mu).tsq.st = .running → s.cycleFits mu d
    i.cycle = true → s.store.microAt (s.store.effective (s.mu mu).tsq.upc) = none → s.eventRoom = true →
    ∃ t, exec (.tsqCycle mu i) s = .next t ∧
      (t.mu mu).tsq.desc = none ∧
      offered t (mkMsg 8 mu 1 3) ∧
      t.counter (aTsq mu 0x18) = Ctr.add 31 1 (s.counter (aTsq mu 0x18)) ∧
      t.counter (aTsq mu 0x0C) = Ctr.add 31 1 (s.counter (aTsq mu 0x0C)) ∧
      unchangedBut [.free, .out, .ctr, .flt, .log, .pwr, .mns, .cal, .hdas, .mus, .store, .ldp, .tags, .cqs, .cmds, .mgt, .buf, .bca] s t) ∧
  (∀ (mu : MuNo) (d : TakeDesc) (i : CycleIn) (w : Word) (s : State), (s.mu mu).tsq.desc = some d → (s.mu mu).tsq.st = .running →
    s.cycleFits mu d i.cycle = true → s.store.microAt (s.store.effective (s.mu mu).tsq.upc) = some w → (i.micro = 2 ∨ (i.nano = 2 ∧
    (s.store.nanoAt (bits w.toNat 22 12)).isSome = true)) → s.eventRoom = true →
    ∃ t, exec (.tsqCycle mu i) s = .next t ∧
      (t.mu mu).tsq.desc = none ∧
      offered t (mkMsg 8 mu 1 4) ∧
      t.counter (aTsq mu 0x18) = Ctr.add 31 1 (s.counter (aTsq mu 0x18)) ∧
      unchangedBut [.free, .out, .ctr, .flt, .log, .pwr, .mns, .cal, .hdas, .mus, .store, .ldp, .tags, .cqs, .cmds, .mgt, .buf, .bca] s t) ∧
  (∀ (mu : MuNo) (d : TakeDesc) (i : CycleIn) (w : Word) (g : State) (s : State), (s.mu mu).tsq.desc = some d → (s.mu mu).tsq.st =
    .running → s.cycleFits mu d i.cycle = true → (g = (s.updMu mu fun x => { x with
      tsq := { x.tsq.tick.counts i.cycle with
        upc := (s.store.effective (s.mu mu).tsq.upc), addr := (s.store.effective (s.mu mu).tsq.upc) } }).gatesAt mu d i.cycle) → i.micro ≠
        2 → i.nano ≠ 2 → s.store.microAt (s.store.effective (s.mu mu).tsq.upc) = some w → bits w.toNat 31 29 = 3 → s.store.nanoAt (bits
        w.toNat 22 12) = some 0#192 → bit (g.condGroup mu d (g.wedgeLast mu d i.cycle) (bits w.toNat 28 25)) (bits w.toNat 24 23) = true →
        8 ≤ (g.mu mu).tsq.stack.length → s.eventRoom = true →
    ∃ t, exec (.tsqCycle mu i) s = .next t ∧
      (t.mu mu).tsq.desc = none ∧
      offered t (mkMsg 8 mu 1 2) ∧
      t.counter (aTsq mu 0x18) = Ctr.add 31 1 (s.counter (aTsq mu 0x18)) ∧
      unchangedBut [.free, .out, .ctr, .flt, .log, .pwr, .mns, .cal, .hdas, .mus, .store, .ldp, .tags, .cqs, .cmds, .mgt, .buf, .bca] s t) ∧
  (∀ (mu : MuNo) (d : TakeDesc) (i : CycleIn) (w : Word) (g : State) (s : State), (s.mu mu).tsq.desc = some d → (s.mu mu).tsq.st =
    .running → s.cycleFits mu d i.cycle = true → (g = (s.updMu mu fun x => { x with
      tsq := { x.tsq.tick.counts i.cycle with
        upc := (s.store.effective (s.mu mu).tsq.upc), addr := (s.store.effective (s.mu mu).tsq.upc) } }).gatesAt mu d i.cycle) → i.micro ≠
        2 → i.nano ≠ 2 → s.store.microAt (s.store.effective (s.mu mu).tsq.upc) = some w → bits w.toNat 31 29 = 4 → s.store.nanoAt (bits
        w.toNat 22 12) = some 0#192 → bit (g.condGroup mu d (g.wedgeLast mu d i.cycle) (bits w.toNat 28 25)) (bits w.toNat 24 23) = true →
        (g.mu mu).tsq.stack = [] → (g.mu mu).tsq.sinceSafe = 64 → (g.mu mu).tsq.violReported = false → s.eventRoom = true →
    ∃ t, exec (.tsqCycle mu i) s = .next t ∧
      (t.mu mu).tsq.desc = none ∧
      offered t (mkMsg 8 mu 3 (s.store.effective (s.mu mu).tsq.upc)) ∧
      t.counter (aTsq mu 0x14) = Ctr.add 31 1 (s.counter (aTsq mu 0x14)) ∧
      unchangedBut [.free, .out, .ctr, .flt, .log, .pwr, .mns, .cal, .hdas, .mus, .store, .ldp, .tags, .cqs, .cmds, .mgt, .buf, .bca] s t) ∧
  (∀ (mu : MuNo) (s : State), (s.mu mu).tsq.desc.isSome = true → 65 ≤ (s.mu mu).tsq.sinceSafe → (s.mu mu).tsq.violReported = false →
    s.eventRoom = true →
    ∃ t, exec (.tsqSafeViolation mu) s = .next t ∧
      (t.mu mu).tsq = { (s.mu mu).tsq with violReported := true } ∧
      t.mu mu = { s.mu mu with tsq := (t.mu mu).tsq } ∧
      (∀ k, k ≠ (mu : Nat) → t.mu k = s.mu k) ∧
      offered t (mkMsg 8 mu 3 (s.mu mu).tsq.violAddr) ∧
      t.counter (aTsq mu 0x14) = Ctr.add 31 1 (s.counter (aTsq mu 0x14)) ∧
      unchangedBut [.ctr, .flt, .mus] s t)

/-- Once no sequencer runs a routine, an accepted image replaces its region in every copy: its words stand at their addresses, the rest of
the region holds the fill words, its version and hooks are in force, one event names the region and the command that waits completes. A
comparison that fails leaves the region at its fill words with every hook unbound, raises one TSQ_FAULT and completes the command with
status 0x0401. A command that offers an event finds room in its source's buffer (R548; FaultControlAndAcceptance states the hold). -/
def Obligations.MicrocodeSwap : Prop :=
  (∀ (p : SwapImage) (s : State), s.store.swap = some p → (∀ m, m < 32 → (s.mu m).tsq.desc = none) → s.eventRoom = true →
    ∃ t, exec (.microcodeSwapInstall true) s = .next t ∧
      t.store = { s.store.install p with swap := s.store.swapNext, swapNext := none } ∧
      (∀ i, i < p.nano.length → sget t.store.nano (p.nbase + i) 0 = p.nano.getD i 0) ∧
      (∀ i, i < p.micro.length → sget t.store.micro (p.mbase + i) 0x80000000#32 = p.micro.getD i 0) ∧
      (p.region = 1 → t.store.vendorLoaded = !p.clear ∧ t.store.vendorVer = p.version) ∧
      (p.region ≠ 1 → p.clear = false → t.store.custLoaded = true ∧ t.store.custVer = p.version ∧ t.store.custHooks = p.hooks) ∧
      offered t (mkMsg 8 0 4 p.region) ∧
      (∀ n, p.cmd = some n → s.live n = true → completes s t n {}) ∧
      unchangedBut [.nor, .ctr, .flt, .store, .tags, .cqs, .cmds, .sec] s t) ∧
  (∀ (p : SwapImage) (s : State), s.store.swap = some p → (∀ m, m < 32 → (s.mu m).tsq.desc = none) → s.eventRoom = true →
    ∃ t, exec (.microcodeSwapInstall false) s = .next t ∧
      t.store = { s.store.installFailed p with swap := s.store.swapNext, swapNext := none } ∧
      t.store.bind0 = 0 ∧ t.store.bind1 = 0 ∧ t.store.bind2 = 0 ∧ t.store.bind3 = 0 ∧
      offered t (mkMsg 8 0 1 5) ∧
      (∀ n, p.cmd = some n → s.live n = true → completes s t n { status := 0x0401 }) ∧
      (p.region ≠ 1 → ∀ a, 0xC00 ≤ a → a ≤ 0xFFF → sget t.store.micro a 0x80000000#32 = 0x80000000#32) ∧
      unchangedBut [.nor, .ctr, .flt, .store, .tags, .cqs, .cmds, .sec] s t)

/-- At a sector's start the read gate opens and the sector takes a sample buffer slot; a guard that refuses raises one event and a sector
without a slot slips. The clapper takes the earliest candidate within the threshold and a sector without one is counted; the attempt waits
for an engine, or the sector fails where nothing is left to try. The next engine goes to the MU that R197 chooses. An attempt that ends
frees its engine: a codeword that is accepted finishes the sector and reaches the commands that receive it, and another is counted. A spare
converter that is calibrated takes its slot while no read gate is open. A command that offers an event finds room in its source's buffer
(R548; FaultControlAndAcceptance states the hold). -/
def Obligations.ReadChannelAndDecoder : Prop :=
  (∀ (mu : MuNo) (d : TakeDesc) (k : Nat) (r : List Nat) (s : State), (s.mu mu).tsq.desc = some d → (s.mu mu).tsq.readQ = k :: r →
    s.readGateOk mu d = true → (s.slotsBusy mu < 6 ∨ (s.newWork mu d k).taken ≠ []) →
    ∃ t, exec (.sectorStart mu) s = .next t ∧
      (t.mu mu).tsq = { (s.mu mu).tsq with readQ := r } ∧
      (t.mu mu).rch = { (s.mu mu).rch.tableFronts with work := (s.mu mu).rch.work ++ [s.newWork mu d k], gateOpen := true } ∧
      (s.newWork mu d k).sector = k ∧ (s.newWork mu d k).opened = true ∧ (s.newWork mu d k).decided = false ∧ (s.newWork mu d k).take = d
        ∧ (s.newWork mu d k).convs0 = (s.mu mu).rch.slots0 ∧ (s.newWork mu d k).convs1 = (s.mu mu).rch.slots1 ∧
      (∀ k, k ≠ (mu : Nat) → t.mu k = s.mu k) ∧
      unchangedBut [.mus] s t) ∧
  (∀ (mu : MuNo) (d : TakeDesc) (k : Nat) (r : List Nat) (s : State), (s.mu mu).tsq.desc = some d → (s.mu mu).tsq.readQ = k :: r →
    s.readGateOk mu d = false →
    ∃ t, exec (.sectorStart mu) s = .next t ∧
      (t.mu mu).tsq = { (s.mu mu).tsq with readQ := r, anyFail := true } ∧
      (t.mu mu).rch = (s.mu mu).rch ∧
      (∀ k, k ≠ (mu : Nat) → t.mu k = s.mu k) ∧
      (∀ l, s.lbaAt mu d.zone d.track k = some l → offered t (mkMsg 8 mu 2 l)) ∧
      t.counter (aTsq mu 0x10) = Ctr.add 31 1 (s.counter (aTsq mu 0x10)) ∧
      unchangedBut [.free, .ctr, .flt, .mus] s t) ∧
  (∀ (mu : MuNo) (d : TakeDesc) (k : Nat) (r : List Nat) (s : State), (s.mu mu).tsq.desc = some d → (s.mu mu).tsq.readQ = k :: r →
    s.readGateOk mu d = true → 6 ≤ s.slotsBusy mu → (s.newWork mu d k).taken = [] → (s.mu mu).tsq.rdSlipped = false →
    ∃ t, exec (.sectorStart mu) s = .next t ∧
      (t.mu mu).tsq = { (s.mu mu).tsq with readQ := [], rdSlipped := true, resume := k } ∧
      t.counter (aRch mu 0x1C) = Ctr.add 31 1 (s.counter (aRch mu 0x1C)) ∧
      (∀ k, k ≠ (mu : Nat) → t.mu k = s.mu k) ∧
      unchangedBut [.free, .ctr, .flt, .mus] s t) ∧
  (∀ (mu : MuNo) (signal : Signal) (d : TakeDesc) (w : SecWork) (s : State), (s.mu mu).tsq.desc = some d → ((s.mu mu).rch.work.find? (fun
    w => w.opened && !w.decided) = some w) → s.workOf mu w.sector = some w → s.eventRoom = true →
    ∃ t, exec (.clapperDecision mu signal) s = .next t ∧
      ((t.workOf mu w.sector).map (fun y => (y.decided, y.clap, y.taken)) = some (true, ((s.mu mu).rch.clapper ((s.mu mu).rch.takes w
        signal (s.mu mu).tsq.variant)), w.taken ++ [((s.mu mu).rch.takes w signal (s.mu mu).tsq.variant)])) ∧
      (t.mu mu).rch = { (s.mu mu).rch.trained ((s.mu mu).rch.takes w signal (s.mu mu).tsq.variant) with work := (t.mu mu).rch.work } ∧
      (((s.mu mu).rch.clapper ((s.mu mu).rch.takes w signal (s.mu mu).tsq.variant)) = none → t.counter (aRch mu 0x04) = Ctr.add 31 1
        (s.counter (aRch mu 0x04))) ∧
      (((s.mu mu).rch.clapper ((s.mu mu).rch.takes w signal (s.mu mu).tsq.variant)) ≠ none → t.ctr = s.ctr) ∧
      (w.tried = [] → ∀ f ∈ ((s.mu mu).rch.clapper ((s.mu mu).rch.takes w signal (s.mu mu).tsq.variant)), (t.workOf mu w.sector).map (fun
        y => (y.tried, y.attempt, y.granted, y.finished)) = some ([f], some (f, true), false, w.finished) ∧ t.ldp =
        { s.ldp with waiting := s.ldp.waiting ++ [((mu : Nat), w.sector)] }) ∧
      (w.take.rlvl = 0 → ((s.mu mu).rch.clapper ((s.mu mu).rch.takes w signal (s.mu mu).tsq.variant)) = none → (t.workOf mu w.sector).map
        (fun y => (y.finished, y.attempt)) = some (true, none) ∧ (t.mu mu).tsq = { (s.mu mu).tsq with anyFail := true } ∧ t.ldp = s.ldp) ∧
      (∀ k, k ≠ (mu : Nat) → t.mu k = s.mu k) ∧
      unchangedBut [.ctr, .flt, .mus, .ldp] s t) ∧
  (∀ (m : Nat) (s : State), s.ldpChoice = some m → s.ldpBusy < 64 →
    ∃ t, exec .ldpGrant s = .next t ∧
      (sget t.ldp.held m 0 = sget s.ldp.held m 0 + 1 ∧ t.ldp.last = m ∧ t.ldp.waiting = dropFirst (fun e => e.1 == m) s.ldp.waiting) ∧
      (∀ k, k ≠ m → sget t.ldp.held k 0 = sget s.ldp.held k 0 ∧ t.mu k = s.mu k) ∧
      t.mu m = { s.mu m with rch := { (s.mu m).rch with work := (t.mu m).rch.work } } ∧
      unchangedBut [.mus, .ldp] s t) ∧
  (∀ (mu : MuNo) (w : SecWork) (o : Int) (full : Bool) (sector : Nat) (memory : SramRead) (s : State), s.workOf mu sector = some w →
    w.attempt = some (o, full) → w.granted = true → memory.finding ≠ 2 → s.eventRoom = true →
    ∃ t, exec (.decodeAttemptDone mu sector (s.attempt mu w o full).1 memory) s = .next t ∧
      (sget t.ldp.held mu 0 = sget s.ldp.held mu 0 - 1 ∧ ∀ k, k ≠ (mu : Nat) → sget t.ldp.held k 0 = sget s.ldp.held k 0) ∧
      (memory.finding = 1 → offered t (mkMsg 10 0 0x3D (memory.sram * 2 ^ 32 + memory.word))) ∧
      ((s.attempt mu w o full).2 = none → t.counter (aRch mu 0x10) = Ctr.add 31 1 (s.counter (aRch mu 0x10))) ∧
      (∀ c ∈ (s.attempt mu w o full).2, s.accepts mu w.take sector (s.carried mu w c) = false → t.counter (aRch mu 0x10) = Ctr.add 31 1
        (s.counter (aRch mu 0x10)) ∧ t.counter (aRch mu 0x14) = Ctr.add 31 1 (s.counter (aRch mu 0x14))) ∧
      (∀ c ∈ (s.attempt mu w o full).2, s.accepts mu w.take sector (s.carried mu w c) = true → w.take.type ≠ 8 → (t.workOf mu sector).map
        (fun y => y.finished && y.read) = some true ∧ (w.via o = .slip → t.counter (aRch mu 0x08) = Ctr.add 31 1 (s.counter (aRch mu
        0x08))) ∧ (w.via o = .positional → t.counter (aRch mu 0x0C) = Ctr.add 31 1 (s.counter (aRch mu 0x0C))) ∧ ∀ n l, s.lbaAt mu
        w.take.zone w.take.track sector = some l → n ∈ s.receivers w.take.cmd mu l → w.take.type ≠ 4 → sget (t.cmd n).secs (l - (s.cmd
        n).pkt.slba) {} =
          { read := true, via := w.via o, corr := w.corr o, globals := globalOf (passes (attemptBudget (s.mu mu).rch.settings.toNat w.deep
                full).1 (attemptBudget (s.mu mu).rch.settings.toNat w.deep full).2) (s.attempt mu w o full).1, locals := (s.attempt mu w o
                full).1, step := w.take.step, data := some { s.carried mu w c with marks := [] } }) ∧
      (∀ k, k ≠ (mu : Nat) → t.mu k = s.mu k) ∧
      unchangedBut [.free, .out, .ctr, .flt, .log, .pwr, .mns, .cal, .hdas, .mus, .store, .ldp, .tags, .cqs, .cmds, .mgt, .buf, .bca] s t) ∧
  (∀ (mu : MuNo) (w : SecWork) (o : Int) (full : Bool) (sector : Nat) (memory : SramRead) (s : State), s.workOf mu sector = some w →
    w.attempt = some (o, full) → w.granted = true → memory.finding = 2 → s.eventRoom = true →
    ∃ t, exec (.decodeAttemptDone mu sector (s.attempt mu w o full).1 memory) s = .next t ∧
      (sget t.ldp.held mu 0 = sget s.ldp.held mu 0 - 1 ∧ ∀ k, k ≠ (mu : Nat) → sget t.ldp.held k 0 = sget s.ldp.held k 0) ∧
      t.counter (aRch mu 0x10) = Ctr.add 31 1 (s.counter (aRch mu 0x10)) ∧
      offered t (mkMsg 10 0 0x3E (memory.sram * 2 ^ 32 + memory.word)) ∧
      (∀ n l, s.lbaAt mu w.take.zone w.take.track sector = some l → n ∈ s.receivers w.take.cmd mu l → (t.tag n).st = .posted) ∧
      (∀ k, k ≠ (mu : Nat) → t.mu k = s.mu k) ∧
      unchangedBut [.free, .out, .ctr, .flt, .log, .pwr, .mns, .cal, .hdas, .mus, .store, .ldp, .tags, .cqs, .cmds, .mgt, .buf, .bca] s t) ∧
  (∀ (mu : MuNo) (sector locals : Nat) (memory : SramRead) (s : State), (((s.workOf mu sector).all fun w => w.attempt.isNone ||
    !w.granted) = true) → s.strayEngines mu ≠ 0 →
    ∃ t, exec (.decodeAttemptDone mu sector locals memory) s = .next t ∧
      (sget t.ldp.held mu 0 = sget s.ldp.held mu 0 - 1 ∧ ∀ k, k ≠ (mu : Nat) → sget t.ldp.held k 0 = sget s.ldp.held k 0) ∧
      unchangedBut [.ldp] s t) ∧
  (∀ (c : Nat) (s : State), c < 64 → (s.hda (c / 4)).clk.symRunning = true → s.cal.stalled.getLsbD c = false → s.eventRoom = true →
    ∃ t, exec (.converterSparePeriod c true) s = .next t ∧
      (if c % 2 = 0 then (t.mu (c / 2)).rch.swapDue0 = true else (t.mu (c / 2)).rch.swapDue1 = true) ∧
      (∀ k, k ≠ c / 2 → t.mu k = s.mu k) ∧
      t.counter 0x01131100 = Ctr.add 31 1 (s.counter 0x01131100) ∧
      unchangedBut [.ctr, .flt, .cal, .mus, .tags, .cqs, .cmds] s t) ∧
  (∀ (c : Nat) (s : State), c < 64 → (s.hda (c / 4)).clk.symRunning = true → s.cal.stalled.getLsbD c = false → s.eventRoom = true →
    ∃ t, exec (.converterSparePeriod c false) s = .next t ∧
      t.cal.stalled = s.cal.stalled ||| (1#64 <<< c) ∧
      offered t (mkMsg 19 0 2 6) ∧
      t.counter 0x01131104 = Ctr.add 31 1 (s.counter 0x01131104) ∧
      t.mus = s.mus ∧
      unchangedBut [.ctr, .flt, .cal, .mus, .tags, .cqs, .cmds] s t) ∧
  (∀ (c : Nat) (s : State), c < 64 → (if c % 2 = 0 then (s.mu (c / 2)).rch.swapDue0 = true else (s.mu (c / 2)).rch.swapDue1 = true) →
    s.swapNow (c / 2) = true →
    ∃ t, exec (.converterSwap c) s = .next t ∧
      ((t.mu (c / 2)).rch = if c % 2 = 0 then { (s.mu (c / 2)).rch with
          slots0 := swapSlots (s.mu (c / 2)).rch.slots0 (s.mu (c / 2)).rch.spare0, spare0 := ((s.mu (c / 2)).rch.spare0 + 1) % 9, swapDue0
          := false } else { (s.mu (c / 2)).rch with
            slots1 := swapSlots (s.mu (c / 2)).rch.slots1 (s.mu (c / 2)).rch.spare1, spare1 := ((s.mu (c / 2)).rch.spare1 + 1) % 9,
            swapDue1 := false }) ∧
      (∀ k, k ≠ c / 2 → t.mu k = s.mu k) ∧
      unchangedBut [.mus] s t)

/-- WAS encodes a posted sector whose CRC matches and that holds no poison; another ends the attempt before WG rises for it: one event, its
counts, the poison words counted, and the attempt fails. At its start a posted and encoded sector is written with WG and AE high; after a
cut or in a power failure nothing more is written, and a sector that is not encoded or inhibited slips. The one monitor reading of a data
segment, when valid, is kept in PA_AST_MON; one above its limit cuts the assist with one event, and so does AE high without WG; a reading
whose parity fails raises one event. A command that offers an event finds room in its source's buffer (R548; FaultControlAndAcceptance
states the hold). -/
def Obligations.WriteChannelAndAssist : Prop :=
  (∀ (fetch : EncodeIn) (d : TakeDesc) (k : Nat) (s : State), (s.mu fetch.mu).tsq.desc = some d → (s.mu fetch.mu).toEncode = some k →
    d.type = 7 → s.eventRoom = true →
    ∃ t, exec (.sectorEncode fetch) s = .next t ∧
      (t.mu fetch.mu).was = { (s.mu fetch.mu).was with
          encoded := (s.mu fetch.mu).was.encoded ++ [k], codewords := (t.mu fetch.mu).was.codewords } ∧
      t.mu fetch.mu = { s.mu fetch.mu with was := (t.mu fetch.mu).was } ∧
      t.free = s.free + 1 ∧
      (∀ k, k ≠ (fetch.mu : Nat) → t.mu k = s.mu k) ∧
      unchangedBut [.free, .ctr, .flt, .mus, .cmds, .buf, .bca, .sec] s t) ∧
  (∀ (fetch : EncodeIn) (d : TakeDesc) (k : Nat) (x : Sector) (s : State), (s.mu fetch.mu).tsq.desc = some d → (s.mu fetch.mu).toEncode =
    some k → d.type ≠ 7 → s.handedSector fetch.mu d k = some x → ((fetch.reads.all fun b => burstOk b && s.holdsSector x b) = true) →
    (((s.readBursts fetch.reads).handedSector fetch.mu d k).getD x).poison = false → crc32c ((((s.readBursts fetch.reads).handedSector
    fetch.mu d k).getD x).data ++ (((s.readBursts fetch.reads).handedSector fetch.mu d k).getD x).hmeta) = (((s.readBursts
    fetch.reads).handedSector fetch.mu d k).getD x).scrc → s.eventRoom = true →
    ∃ t, exec (.sectorEncode fetch) s = .next t ∧
      (t.mu fetch.mu).was = { (s.mu fetch.mu).was with
          encoded := (s.mu fetch.mu).was.encoded ++ [k], codewords := (t.mu fetch.mu).was.codewords } ∧
      (t.mu fetch.mu).was.codewords.getLast? = some (k, codewordOf (((s.readBursts fetch.reads).handedSector fetch.mu d k).getD x)) ∧
      t.mu fetch.mu = { s.mu fetch.mu with was := (t.mu fetch.mu).was } ∧
      (∀ k, k ≠ (fetch.mu : Nat) → t.mu k = s.mu k) ∧
      unchangedBut [.free, .ctr, .flt, .mus, .cmds, .buf, .bca, .sec] s t) ∧
  (∀ (fetch : EncodeIn) (d : TakeDesc) (k : Nat) (x : Sector) (l : Nat) (s : State), (s.mu fetch.mu).tsq.desc = some d → (s.mu
    fetch.mu).toEncode = some k → d.type ≠ 7 → s.handedSector fetch.mu d k = some x → ((fetch.reads.all fun b => burstOk b &&
    s.holdsSector x b) = true) → s.lbaAt fetch.mu d.zone d.track k = some l → ((((s.readBursts fetch.reads).handedSector fetch.mu d
    k).getD x).poison = true ∨ crc32c ((((s.readBursts fetch.reads).handedSector fetch.mu d k).getD x).data ++ (((s.readBursts
    fetch.reads).handedSector fetch.mu d k).getD x).hmeta) ≠ (((s.readBursts fetch.reads).handedSector fetch.mu d k).getD x).scrc) →
    s.eventRoom = true →
    ∃ t, exec (.sectorEncode fetch) s = .next t ∧
      (t.mu fetch.mu).was = { (s.mu fetch.mu).was with crcCut := true, attemptFailed := true } ∧
      (t.mu fetch.mu).tsq = { (s.mu fetch.mu).tsq with writeQ := (s.mu fetch.mu).tsq.writeQ.takeWhile (· != k), attemptEnding := true } ∧
      (∀ k, k ≠ (fetch.mu : Nat) → t.mu k = s.mu k) ∧
      offered t (mkMsg 11 fetch.mu 3 l) ∧
      t.counter (aBuf 0x14) = Ctr.add 31 (((s.readBursts fetch.reads).handedSector fetch.mu d k).getD x).poisoned ((s.readBursts
        fetch.reads).counter (aBuf 0x14)) ∧
      t.counter (aWas fetch.mu 0x10) = Ctr.add 31 1 (s.counter (aWas fetch.mu 0x10)) ∧
      t.counter (aWas fetch.mu 0x08) = Ctr.add 31 1 (s.counter (aWas fetch.mu 0x08)) ∧
      unchangedBut [.free, .ctr, .flt, .mus, .cmds, .buf, .bca, .sec] s t) ∧
  (∀ (mu : MuNo) (d : TakeDesc) (k : Nat) (r : List Nat) (s : State), (s.mu mu).tsq.desc = some d → (s.mu mu).tsq.readQ = [] → (s.mu
    mu).tsq.writeQ = k :: r → (s.mu mu).was.wgCut = false → (s.mu mu).was.astCut = false → s.mns.powerFail = false → k ∈ (s.mu
    mu).was.encoded → (s.mu mu).was.inhibit = false →
    ∃ t, exec (.sectorStart mu) s = .next t ∧
      (t.mu mu).was.wg = true ∧ (t.mu mu).was.ae = true ∧ (t.mu mu).was.writing = some k ∧
      (t.mu mu).was.encoded = (s.mu mu).was.encoded.filter (· != k) ∧
      ((t.mu mu).was.awaiting = match (s.mu mu).was.writing with | none => (s.mu mu).was.awaiting | some j => (s.mu mu).was.awaiting ++
        [j]) ∧
      ((t.mu mu).was.joined = if s.joins mu d k then (s.mu mu).was.writing else none) ∧
      (t.mu mu).tsq = { (s.mu mu).tsq with writeQ := r } ∧
      (∀ k, k ≠ (mu : Nat) → t.mu k = s.mu k) ∧
      unchangedBut [.mus] s t) ∧
  (∀ (mu : MuNo) (d : TakeDesc) (k : Nat) (r : List Nat) (s : State), (s.mu mu).tsq.desc = some d → (s.mu mu).tsq.readQ = [] → (s.mu
    mu).tsq.writeQ = k :: r → ((s.mu mu).was.wgCut = true ∨ (s.mu mu).was.astCut = true ∨ s.mns.powerFail = true) →
    ∃ t, exec (.sectorStart mu) s = .next t ∧
      (t.mu mu).was.wg = false ∧ (t.mu mu).was.ae = false ∧ (t.mu mu).was.writing = none ∧
      (t.mu mu).tsq = { (s.mu mu).tsq with writeQ := [] } ∧
      (∀ k, k ≠ (mu : Nat) → t.mu k = s.mu k) ∧
      unchangedBut [.mus] s t) ∧
  (∀ (mu : MuNo) (d : TakeDesc) (k : Nat) (r : List Nat) (s : State), (s.mu mu).tsq.desc = some d → (s.mu mu).tsq.readQ = [] → (s.mu
    mu).tsq.writeQ = k :: r → (s.mu mu).was.wgCut = false → (s.mu mu).was.astCut = false → s.mns.powerFail = false → (k ∉ (s.mu
    mu).was.encoded ∨ (s.mu mu).was.inhibit = true) → (s.mu mu).was.slipped = false →
    ∃ t, exec (.sectorStart mu) s = .next t ∧
      (t.mu mu).was.wg = false ∧ (t.mu mu).was.ae = false ∧ (t.mu mu).was.slipped = true ∧
      (t.mu mu).tsq = { (s.mu mu).tsq with writeQ := [], resume := k, attemptEnding := true } ∧
      t.counter (aWas mu 0x1C) = Ctr.add 31 1 (s.counter (aWas mu 0x1C)) ∧
      (∀ k, k ≠ (mu : Nat) → t.mu k = s.mu k) ∧
      unchangedBut [.free, .ctr, .flt, .mus] s t) ∧
  (∀ (mu : MuNo) (mon : Nat) (s : State), (s.mu mu).was.writing.isSome = true → (s.mu mu).was.wg = true → (s.mu mu).was.ae = true → (s.mu
    mu).was.monRead = false → mon < 4096 → mon ≤ field (s.wasEntry mu) 16 2 →
    ∃ t, exec (.assistMonitorRead mu mon true) s = .next t ∧
      (t.mu mu).was = { (s.mu mu).was with mon := mon, readings := (s.mu mu).was.readings ++ [mon], monRead := true } ∧
      sget (t.mu mu).pa.regs 7 0 = BitVec.ofNat 16 mon ∧
      (∀ k, k ≠ (mu : Nat) → t.mu k = s.mu k) ∧
      unchangedBut [.mus] s t) ∧
  (∀ (mu : MuNo) (mon : Nat) (s : State), (s.mu mu).was.writing.isSome = true → (s.mu mu).was.wg = true → (s.mu mu).was.ae = true → (s.mu
    mu).was.monRead = false → mon < 4096 → field (s.wasEntry mu) 16 2 < mon → s.eventRoom = true →
    ∃ t, exec (.assistMonitorRead mu mon true) s = .next t ∧
      (t.mu mu).was.ae = false ∧ (t.mu mu).was.astCut = true ∧ (t.mu mu).was.wg = (s.mu mu).was.wg ∧ (t.mu mu).was.attemptFailed = ((s.mu
        mu).was.attemptFailed || (s.mu mu).inAttempt) ∧
      offered t (mkMsg 11 mu 6 mon) ∧
      t.counter (aWas mu 0x0C) = Ctr.add 31 1 (s.counter (aWas mu 0x0C)) ∧
      sget (t.mu mu).pa.regs 7 0 = BitVec.ofNat 16 mon ∧
      (∀ k, k ≠ (mu : Nat) → t.mu k = s.mu k) ∧
      unchangedBut [.ctr, .flt, .mus] s t) ∧
  (∀ (mu : MuNo) (mon : Nat) (s : State), (s.mu mu).was.writing.isSome = true → (s.mu mu).was.wg = true → (s.mu mu).was.ae = true → (s.mu
    mu).was.monRead = false → mon < 4096 → s.eventRoom = true →
    ∃ t, exec (.assistMonitorRead mu mon false) s = .next t ∧
      offered t (mkMsg 11 mu 5 7) ∧
      t.mu mu = { s.mu mu with was := { (s.mu mu).was with monRead := true } } ∧
      (∀ k, k ≠ (mu : Nat) → t.mu k = s.mu k) ∧
      unchangedBut [.ctr, .flt, .mus] s t) ∧
  (∀ (mu : MuNo) (s : State), (s.mu mu).was.ae = true → (s.mu mu).was.wg = false →
    ∃ t, exec (.astCutNogate mu) s = .next t ∧
      (t.mu mu).was.ae = false ∧ (t.mu mu).was.astCut = true ∧ (t.mu mu).was.wg = (s.mu mu).was.wg ∧ (t.mu mu).was.attemptFailed = ((s.mu
        mu).was.attemptFailed || (s.mu mu).inAttempt) ∧
      offered t (mkMsg 11 mu 8 0) ∧
      t.counter (aWas mu 0x0C) = Ctr.add 31 1 (s.counter (aWas mu 0x0C)) ∧
      (∀ k, k ≠ (mu : Nat) → t.mu k = s.mu k) ∧
      unchangedBut [.ctr, .flt, .mus] s t)

/-- Each sub-operation ends with the first state code that holds, in the order of the list given. DISABLE strands the dirty lines and stops
lookup, with their number; ENABLE resumes with the lines as they are, or invalidated under a new key, with the count of bypassed operations;
FLUSH_RANGE waits for destage; INVALIDATE_RANGE drops the clean lines of the range, and with DISCARD and a token that verifies the dirty
sectors of conventional zones that no attempt covers; REKEY empties the cache and waits for its pass. Lookup of another state is untouched.
A command that offers an event finds room in its source's buffer (R548; FaultControlAndAcceptance states the hold). A fill that ends leaves
its line with the sectors that were read and none filling, and a doomed line without dirty sectors goes. At each window a group over the
threshold for 60 windows in a row turns hot with one event, and one that is not cools; the counts start again. A command that offers an
event finds room in its source's buffer (R548; FaultControlAndAcceptance states the hold). -/
def Obligations.CacheControlAndFills : Prop :=
  (∀ (tag : TagNo) (k : Nat) (s : State), s.asleep = false → s.mayBegin tag 0x09 1 = true → firstCode [s.barrierCode tag, (s.bca.enabled
    && s.dirtyLines != 0 && !bit (s.cmd tag).pkt.p2.toNat 0, 0x0006), s.ps4Code] = some k →
    ∃ t, exec (.cacheCtlDisable tag) s = .next t ∧
      completes s t tag (conflict k) ∧
      (∀ k, k ≠ (tag : Nat) → t.cmd k = s.cmd k) ∧
      unchangedBut [.tags, .cmds, .cqs] (s.letGo tag) t) ∧
  (∀ (tag : TagNo) (s : State), s.asleep = false → s.mayBegin tag 0x09 1 = true → firstCode [s.barrierCode tag, (s.bca.enabled &&
    s.dirtyLines != 0 && !bit (s.cmd tag).pkt.p2.toNat 0, 0x0006), s.ps4Code] = none → s.bca.enabled = true →
    ∃ t, exec (.cacheCtlDisable tag) s = .next t ∧
      t.bca.enabled = false ∧ t.bca.bypass = 0 ∧ t.bca.index = s.bca.index ∧
      (∀ k, (s.line k).dirty ≠ 0 → (t.line k).stranded = true ∧ (t.line k).data = (s.line k).data) ∧
      completes s t tag { r0 := s.dirtyLines } ∧
      unchangedBut [.tags, .cqs, .cmds, .bca] (s.letGo tag) t) ∧
  (∀ (tag : TagNo) (s : State), s.asleep = false → s.mayBegin tag 0x09 1 = true → firstCode [s.barrierCode tag, (s.bca.enabled &&
    s.dirtyLines != 0 && !bit (s.cmd tag).pkt.p2.toNat 0, 0x0006), s.ps4Code] = none → s.bca.enabled = false →
    ∃ t, exec (.cacheCtlDisable tag) s = .next t ∧
      t.bca.enabled = false ∧ t.bca.index = s.bca.index ∧
      completes s t tag {} ∧
      unchangedBut [.tags, .cqs, .cmds, .bca] (s.letGo tag) t) ∧
  (∀ (tag : TagNo) (k : Nat) (s : State), s.asleep = false → s.mayBegin tag 0x09 2 = true → firstCode [(!s.bca.enabled && bit (s.cmd
    tag).pkt.p2.toNat 0 && s.bca.bypass != 0 && !bit (s.cmd tag).pkt.p2.toNat 1, 0x0007), s.ps4Code] = some k →
    ∃ t, exec (.cacheCtlEnable tag) s = .next t ∧
      completes s t tag (conflict k) ∧
      (∀ k, k ≠ (tag : Nat) → t.cmd k = s.cmd k) ∧
      unchangedBut [.tags, .cmds, .cqs] (s.letGo tag) t) ∧
  (∀ (tag : TagNo) (s : State), s.asleep = false → s.mayBegin tag 0x09 2 = true → firstCode [(!s.bca.enabled && bit (s.cmd
    tag).pkt.p2.toNat 0 && s.bca.bypass != 0 && !bit (s.cmd tag).pkt.p2.toNat 1, 0x0007), s.ps4Code] = none → s.bca.enabled = false → bit
    (s.cmd tag).pkt.p2.toNat 0 = true → s.eventRoom = true →
    ∃ t, exec (.cacheCtlEnable tag) s = .next t ∧
      t.bca.enabled = true ∧ t.bca.staleResumed = (bit (s.cmd tag).pkt.p2.toNat 1 && s.bca.bypass != 0) ∧
      (∀ k, (t.line k).stranded = false) ∧
      t.bca.index = s.bca.index ∧ t.bca.key0 = s.bca.key0 ∧ t.bca.key1 = s.bca.key1 ∧
      completes s t tag { r0 := s.bca.bypass } ∧
      unchangedBut [.free, .ctr, .flt, .tags, .cqs, .cmds, .bca] (s.letGo tag) t) ∧
  (∀ (tag : TagNo) (s : State), s.asleep = false → s.mayBegin tag 0x09 2 = true → firstCode [(!s.bca.enabled && bit (s.cmd
    tag).pkt.p2.toNat 0 && s.bca.bypass != 0 && !bit (s.cmd tag).pkt.p2.toNat 1, 0x0007), s.ps4Code] = none → s.bca.enabled = false → bit
    (s.cmd tag).pkt.p2.toNat 0 = false → s.eventRoom = true →
    ∃ t, exec (.cacheCtlEnable tag) s = .next t ∧
      t.bca.enabled = true ∧ t.bca.staleResumed = false ∧ t.bca.cut = [] ∧
      (∀ k, (t.line k).st ≠ .filling ∧ ((t.line k).st = .clean → (t.line k).valid = 0 ∧ (t.line k).data = [])) ∧
      t.bca.index = s.bca.index ∧
      completes s t tag { r0 := s.bca.bypass } ∧
      unchangedBut [.free, .ctr, .flt, .tags, .cqs, .cmds, .bca] (s.letGo tag) t) ∧
  (∀ (tag : TagNo) (s : State), s.asleep = false → s.mayBegin tag 0x09 2 = true → firstCode [(!s.bca.enabled && bit (s.cmd
    tag).pkt.p2.toNat 0 && s.bca.bypass != 0 && !bit (s.cmd tag).pkt.p2.toNat 1, 0x0007), s.ps4Code] = none → s.bca.enabled = true →
    s.eventRoom = true →
    ∃ t, exec (.cacheCtlEnable tag) s = .next t ∧
      t.bca.enabled = true ∧ t.bca.index = s.bca.index ∧
      completes s t tag {} ∧
      unchangedBut [.free, .ctr, .flt, .tags, .cqs, .cmds, .bca] (s.letGo tag) t) ∧
  (∀ (tag : TagNo) (k : Nat) (s : State), s.asleep = false → s.mayBegin tag 0x09 3 = true → firstCode [s.ownCode tag, s.ps4Code] = some k
    →
    ∃ t, exec (.cacheCtlFlushRange tag) s = .next t ∧
      completes s t tag (conflict k) ∧
      (∀ k, k ≠ (tag : Nat) → t.cmd k = s.cmd k) ∧
      unchangedBut [.tags, .cmds, .cqs] (s.letGo tag) t) ∧
  (∀ (tag : TagNo) (s : State), s.asleep = false → s.mayBegin tag 0x09 3 = true → firstCode [s.ownCode tag, s.ps4Code] = none →
    ∃ t, exec (.cacheCtlFlushRange tag) s = .next t ∧
      t.cmd tag = { s.cmd tag with phase := .flush, counted := (s.dirtyRange (s.cmd tag).pkt).length } ∧
      (∀ k, k ≠ (tag : Nat) → t.cmd k = s.cmd k) ∧
      unchangedBut [.cmds] s t) ∧
  (∀ (tag : TagNo) (token : List Byte) (k : Nat) (s : State), s.asleep = false → s.mayBegin tag 0x09 4 = true → s.mayMove tag (bit (s.cmd
    tag).pkt.p2.toNat 2) = true → firstCode [s.ownCode tag, s.ps4Code] = some k →
    ∃ t, exec (.cacheCtlInvalidateRange tag token) s = .next t ∧
      completes s t tag (conflict k) ∧
      (∀ k, k ≠ (tag : Nat) → t.cmd k = s.cmd k) ∧
      unchangedBut [.tags, .cmds, .cqs] (s.letGo tag) t) ∧
  (∀ (tag : TagNo) (token : List Byte) (s : State), s.asleep = false → s.mayBegin tag 0x09 4 = true → firstCode [s.ownCode tag, s.ps4Code]
    = none → bit (s.cmd tag).pkt.p2.toNat 2 = false → s.eventRoom = true →
    ∃ t, exec (.cacheCtlInvalidateRange tag token) s = .next t ∧
      (s.bca.enabled = true → ∀ k, inRange (s.cmd tag).pkt (t.line k).vol (t.line k).block = true → (t.line k).st ≠ .filling ∧ ((t.line
        k).st = .clean → (t.line k).valid = 0 ∧ (t.line k).data = [])) ∧
      (s.bca.enabled = false → t.bca = s.bca) ∧
      t.bca.index = s.bca.index ∧
      completes s t tag { r0 := (s.dirtyRange (s.cmd tag).pkt).length } ∧
      unchangedBut [.ctr, .flt, .mus, .eps, .tags, .cqs, .cmds, .bca] (s.letGo tag) t) ∧
  (∀ (tag : TagNo) (token : List Byte) (s : State), s.asleep = false → s.mayBegin tag 0x09 4 = true → firstCode [s.ownCode tag, s.ps4Code]
    = none → s.hostOk (s.cmd tag).ep = true → bit (s.cmd tag).pkt.p2.toNat 2 = true → (s.cmd tag).pkt.mptr = 0 →
    ∃ t, exec (.cacheCtlInvalidateRange tag token) s = .next t ∧
      completes s t tag { status := 0x0500 } ∧
      (∀ k, k ≠ (tag : Nat) → t.cmd k = s.cmd k) ∧
      unchangedBut [.tags, .cmds, .cqs] (s.letGo tag) t) ∧
  (∀ (tag : TagNo) (token : List Byte) (c : Nat) (s : State), s.asleep = false → s.mayBegin tag 0x09 4 = true → firstCode [s.ownCode tag,
    s.ps4Code] = none → s.hostOk (s.cmd tag).ep = true → bit (s.cmd tag).pkt.p2.toNat 2 = true → (s.cmd tag).pkt.mptr ≠ 0 → s.tokenFault
    (s.cmd tag).ep (s.cmd tag).pkt token [] false = some c → s.eventRoom = true →
    ∃ t, exec (.cacheCtlInvalidateRange tag token) s = .next t ∧
      completes s t tag { status := 0x0501, r0 := c } ∧
      (t.ep (s.cmd tag).ep).nonce = none ∧
      (∀ e, e ≠ (s.cmd tag).ep → t.ep e = s.ep e) ∧
      offered t (mkMsg 15 0 3 c) ∧
      t.counter 0x010F0020 = Ctr.add 31 1 (s.counter 0x010F0020) ∧
      (∀ k, k ≠ (tag : Nat) → t.cmd k = s.cmd k) ∧
      unchangedBut [.tags, .cmds, .cqs, .eps, .flt, .ctr] (s.letGo tag) t) ∧
  (∀ (tag : TagNo) (token : List Byte) (s : State), s.asleep = false → s.mayBegin tag 0x09 4 = true → firstCode [s.ownCode tag, s.ps4Code]
    = none → s.hostOk (s.cmd tag).ep = true → bit (s.cmd tag).pkt.p2.toNat 2 = true → (s.cmd tag).pkt.mptr ≠ 0 → s.eventRoom = true →
    ∃ t, exec (.cacheCtlInvalidateRange tag token) s = .next t ∧
      (s.tokenFault (s.cmd tag).ep (s.cmd tag).pkt token [] false = none → (t.ep (s.cmd tag).ep).nonce = none ∧ (∀ k, k ∈ s.discardable
        (s.cmd tag).pkt → sget t.bca.index k {} = {}) ∧ (t.tag tag).st = .posted ∧ t.cmd tag = {}) ∧
      unchangedBut [.ctr, .flt, .mus, .eps, .tags, .cqs, .cmds, .bca] (s.letGo tag) t) ∧
  (∀ (tag : TagNo) (k : Nat) (s : State), s.asleep = false → s.bca.rekeyBusy = false → s.mayBegin tag 0x09 5 = true → firstCode
    [s.barrierCode tag, (s.bca.enabled && s.dirtyLines != 0, 0x0006), s.ps4Code] = some k →
    ∃ t, exec (.cacheCtlRekey tag) s = .next t ∧
      completes s t tag (conflict k) ∧
      (∀ k, k ≠ (tag : Nat) → t.cmd k = s.cmd k) ∧
      unchangedBut [.tags, .cmds, .cqs] (s.letGo tag) t) ∧
  (∀ (tag : TagNo) (s : State), s.asleep = false → s.bca.rekeyBusy = false → s.mayBegin tag 0x09 5 = true → firstCode [s.barrierCode tag,
    (s.bca.enabled && s.dirtyLines != 0, 0x0006), s.ps4Code] = none → s.bca.enabled = true → s.eventRoom = true →
    ∃ t, exec (.cacheCtlRekey tag) s = .next t ∧
      t.bca.rekeyBusy = true ∧ t.bca.rekeyCmd = some (tag : Nat) ∧ t.bca.cut = [] ∧ t.bca.index = s.bca.index ∧
      (∀ k, (t.line k).st = .doomed ∨ (t.line k).valid = 0 ∧ (t.line k).data = []) ∧
      t.cmd tag = { s.cmd tag with phase := .executing } ∧
      (∀ k, k ≠ (tag : Nat) → t.cmd k = s.cmd k) ∧
      unchangedBut [.bca, .cmds, .ctr, .flt] s t) ∧
  (∀ (tag : TagNo) (s : State), s.asleep = false → s.bca.rekeyBusy = false → s.mayBegin tag 0x09 5 = true → firstCode [s.barrierCode tag,
    (s.bca.enabled && s.dirtyLines != 0, 0x0006), s.ps4Code] = none → s.bca.enabled = false → s.eventRoom = true →
    ∃ t, exec (.cacheCtlRekey tag) s = .next t ∧
      completes s t tag {} ∧
      t.bca.rekeyBusy = false ∧
      unchangedBut [.ctr, .flt, .tags, .cqs, .cmds, .bca] (s.letGo tag) t) ∧
  (∀ (tag : TagNo) (s : State), s.bca.rekeyBusy = true →
    exec (.cacheCtlRekey tag) s = .next s) ∧
  (∀ (s : State), s.bca.rekeyBusy = true → s.eventRoom = true →
    ∃ t, exec .rekeyPassDone s = .next t ∧
      t.bca.rekeyBusy = false ∧ t.bca.rekeyCmd = none ∧ t.bca.index = s.bca.index ∧
      t.counter 0x01060044 = Ctr.add 31 1 (s.counter 0x01060044) ∧
      (∀ n, s.bca.rekeyCmd = some n → s.live n = true → completes s t n {}) ∧
      unchangedBut [.free, .ctr, .flt, .tags, .cqs, .cmds, .bca] s t) ∧
  (∀ (frame : Nat) (s : State), s.fillDone frame = true → (s.line frame).st = .filling → (s.line frame).stranded = false →
    ∃ t, exec (.cacheFillComplete frame) s = .next t ∧
      (t.line frame).filling = 0 ∧ (t.line frame).attached = [] ∧ (t.line frame).st ≠ .filling ∧ (t.line frame).dirty = (s.line
        frame).dirty ∧
      (∀ i, i < 16 → (t.line frame).valid.getLsbD i = ((s.line frame).valid.getLsbD i || (s.line frame).filling.getLsbD i && ((s.line
        frame).data.map (·.1)).contains i)) ∧
      (∀ k, k ≠ frame → t.line k = s.line k) ∧
      unchangedBut [.bca] s t) ∧
  (∀ (frame : Nat) (s : State), s.fillDone frame = true → (s.line frame).st = .doomed →
    ∃ t, exec (.cacheFillComplete frame) s = .next t ∧
      ((s.line frame).dirty = 0 → t.line frame = (s.line frame).emptied) ∧
      ((s.line frame).dirty ≠ 0 → t.line frame = { s.line frame with st := .dirty, filling := 0, attached := [] }) ∧
      (∀ k, k ≠ frame → t.line k = s.line k) ∧
      unchangedBut [.bca] s t) ∧
  (∀ (s : State), s.eventRoom = true →
    ∃ t, exec .cacheConflictWindow s = .next t ∧
      t.bca.conflicts = [] ∧
      (∀ g, g < 64 → s.feat0 0x10 < sget s.bca.conflicts g 0 → sget t.bca.hotRun g 0 = sget s.bca.hotRun g 0 + 1 ∧ t.bca.hot.getLsbD g =
        (s.bca.hot.getLsbD g || decide (60 ≤ sget s.bca.hotRun g 0 + 1))) ∧
      (∀ g, g < 64 → sget s.bca.conflicts g 0 ≤ s.feat0 0x10 → sget t.bca.hotRun g 0 = 0 ∧ t.bca.hot.getLsbD g = false) ∧
      (∀ g, g < 64 → s.feat0 0x10 < sget s.bca.conflicts g 0 → 60 ≤ sget s.bca.hotRun g 0 + 1 → s.bca.hot.getLsbD g = false → offered t
        (mkMsg 6 0 1 g)) ∧
      unchangedBut [.ctr, .flt, .bca] s t)

/-- A step of the buffer scrubber reads the next burst. Metadata that is uncorrectable, or a tag that differs from the address, poisons its
eight words with one event, which is counted; a correctable word without a mark raises one event and stays without; an uncorrectable word
without a mark is poisoned with one event. The marks of other bursts stay. The sector that the burst holds takes the new marks along. The
last burst ends the pass, which is counted, completes its command and, where that command does not wait for a pass again, lets a waiting one
start. A finding in an SRAM raises one event; an uncorrectable one ends the commands it struck; in the tags of the cache it loses the line,
and in a store of the sequencer or the servo or a context of a zone nothing else changes here. SCRUB BUFFER starts a pass or waits for one;
SCRUB MEDIA ends with the first state code that holds, queues the first window of written sectors, or completes when there is none. A
command that offers an event finds room in its source's buffer (R548; FaultControlAndAcceptance states the hold). -/
def Obligations.BufferScrub : Prop :=
  (∀ (hmeta : BurstMeta) (words : List (BitVec 72)) (holds : Held) (s : State), s.scrubRuns = true → burstOk
    { burst := s.scrubNow.2, hmeta := hmeta, words := words, holds := holds } = true → hmeta.flips = 0 → atagOf (hmeta.source * 64) =
    atagOf (s.scrubNow.2 * 64) → words = List.replicate 8 0 → s.scrubNow.2 + 1 ≠ burstCount →
    ∃ t, exec (.bufScrubStep hmeta words holds) s = .next t ∧
      (s.poisonOf (s.scrubNow.2 * 64) = 0 → t.buf.scrub = some s.scrubNow.1) ∧
      t.buf.scrubBurst = s.scrubNow.2 + 1 ∧
      (∀ i, i < 8 → (t.poisonOf (s.scrubNow.2 * 64)).getLsbD i = (s.poisonOf (s.scrubNow.2 * 64)).getLsbD i) ∧
      (∀ b, b / 64 ≠ s.scrubNow.2 → t.poisonOf b = s.poisonOf b) ∧
      unchangedBut [.buf, .mus] s t) ∧
  (∀ (hmeta : BurstMeta) (words : List (BitVec 72)) (holds : Held) (s : State), s.scrubRuns = true → burstOk
    { burst := s.scrubNow.2, hmeta := hmeta, words := words, holds := holds } = true → metaFinding hmeta.flips = 2 → s.eventRoom = true →
    ∃ t, exec (.bufScrubStep hmeta words holds) s = .next t ∧
      t.poisonOf (s.scrubNow.2 * 64) = 0xFF#8 ∧
      offered t (mkMsg 5 0 2 (s.scrubNow.2 * 64)) ∧
      t.counter 0x0105000C = Ctr.add 31 1 (s.counter 0x0105000C) ∧
      (∀ b, b / 64 ≠ s.scrubNow.2 → t.poisonOf b = s.poisonOf b) ∧
      unchangedBut [.free, .ctr, .flt, .mus, .tags, .cqs, .cmds, .mgt, .buf, .bca, .sec] s t) ∧
  (∀ (hmeta : BurstMeta) (words : List (BitVec 72)) (holds : Held) (s : State), s.scrubRuns = true → burstOk
    { burst := s.scrubNow.2, hmeta := hmeta, words := words, holds := holds } = true → metaFinding hmeta.flips ≠ 2 → atagOf (hmeta.source
    * 64) ≠ atagOf (s.scrubNow.2 * 64) → s.eventRoom = true →
    ∃ t, exec (.bufScrubStep hmeta words holds) s = .next t ∧
      t.poisonOf (s.scrubNow.2 * 64) = 0xFF#8 ∧
      offered t (mkMsg 5 0 3 (s.scrubNow.2 * 64)) ∧
      t.counter 0x01050010 = Ctr.add 31 1 (s.counter 0x01050010) ∧
      (∀ b, b / 64 ≠ s.scrubNow.2 → t.poisonOf b = s.poisonOf b) ∧
      unchangedBut [.free, .ctr, .flt, .mus, .tags, .cqs, .cmds, .mgt, .buf, .bca, .sec] s t) ∧
  (∀ (hmeta : BurstMeta) (words : List (BitVec 72)) (holds : Held) (i : Nat) (s : State), s.scrubRuns = true → burstOk
    { burst := s.scrubNow.2, hmeta := hmeta, words := words, holds := holds } = true → metaFinding hmeta.flips ≠ 2 → atagOf (hmeta.source
    * 64) = atagOf (s.scrubNow.2 * 64) → i < 8 → words[i]?.map wordFinding = some 2 → (s.poisonOf (s.scrubNow.2 * 64)).getLsbD i = false →
    s.eventRoom = true →
    ∃ t, exec (.bufScrubStep hmeta words holds) s = .next t ∧
      (t.poisonOf (s.scrubNow.2 * 64)).getLsbD i = true ∧
      offered t (mkMsg 5 0 2 ((s.scrubNow.2 * 64) + 8 * i)) ∧
      (∀ b, b / 64 ≠ s.scrubNow.2 → t.poisonOf b = s.poisonOf b) ∧
      unchangedBut [.free, .ctr, .flt, .mus, .tags, .cqs, .cmds, .mgt, .buf, .bca, .sec] s t) ∧
  (∀ (hmeta : BurstMeta) (words : List (BitVec 72)) (holds : Held) (i : Nat) (s : State), s.scrubRuns = true → burstOk
    { burst := s.scrubNow.2, hmeta := hmeta, words := words, holds := holds } = true → metaFinding hmeta.flips ≠ 2 → atagOf (hmeta.source
    * 64) = atagOf (s.scrubNow.2 * 64) → i < 8 → words[i]?.map wordFinding = some 1 → (s.poisonOf (s.scrubNow.2 * 64)).getLsbD i = false →
    s.eventRoom = true →
    ∃ t, exec (.bufScrubStep hmeta words holds) s = .next t ∧
      (t.poisonOf (s.scrubNow.2 * 64)).getLsbD i = false ∧
      offered t (mkMsg 5 0 1 ((s.scrubNow.2 * 64) + 8 * i)) ∧
      (∀ b, b / 64 ≠ s.scrubNow.2 → t.poisonOf b = s.poisonOf b) ∧
      unchangedBut [.free, .ctr, .flt, .mus, .tags, .cqs, .cmds, .mgt, .buf, .bca, .sec] s t) ∧
  (∀ (hmeta : BurstMeta) (words : List (BitVec 72)) (holds : Held) (s : State), s.scrubRuns = true → burstOk
    { burst := s.scrubNow.2, hmeta := hmeta, words := words, holds := holds } = true → s.scrubNow.2 + 1 ≠ burstCount → s.eventRoom = true
    →
    ∃ t, exec (.bufScrubStep hmeta words holds) s = .next t ∧
      t.buf.scrubBurst = s.scrubNow.2 + 1 ∧ t.buf.scrubWaiting = s.buf.scrubWaiting ∧
      t.bca = (s.markHolder s.scrubNow.2 (freshWords (s.poisonOf (s.scrubNow.2 * 64)) (t.poisonOf (s.scrubNow.2 * 64))) (s.holderOf
        s.scrubNow.2 holds)).bca ∧ t.cmds = (s.markHolder s.scrubNow.2 (freshWords (s.poisonOf (s.scrubNow.2 * 64)) (t.poisonOf
        (s.scrubNow.2 * 64))) (s.holderOf s.scrubNow.2 holds)).cmds ∧ t.sec = (s.markHolder s.scrubNow.2 (freshWords (s.poisonOf
        (s.scrubNow.2 * 64)) (t.poisonOf (s.scrubNow.2 * 64))) (s.holderOf s.scrubNow.2 holds)).sec ∧ t.mus = (s.markHolder s.scrubNow.2
        (freshWords (s.poisonOf (s.scrubNow.2 * 64)) (t.poisonOf (s.scrubNow.2 * 64))) (s.holderOf s.scrubNow.2 holds)).mus ∧
        t.buf.holders = (s.markHolder s.scrubNow.2 (freshWords (s.poisonOf (s.scrubNow.2 * 64)) (t.poisonOf (s.scrubNow.2 * 64)))
        (s.holderOf s.scrubNow.2 holds)).buf.holders ∧
      unchangedBut [.bca, .buf, .flt, .ctr, .cmds, .sec, .mus] s t) ∧
  (∀ (hmeta : BurstMeta) (words : List (BitVec 72)) (holds : Held) (s : State), s.scrubRuns = true → burstOk
    { burst := s.scrubNow.2, hmeta := hmeta, words := words, holds := holds } = true → s.scrubNow.2 + 1 = burstCount → s.eventRoom = true
    →
    ∃ t, exec (.bufScrubStep hmeta words holds) s = .next t ∧
      ((∀ n, s.scrubNow.1.cmd = some n → n ∉ s.buf.scrubWaiting) → t.buf.scrub = (s.buf.scrubWaiting.head?.map fun n =>
        { cmd := some n, began := s.second }) ∧ t.buf.scrubBurst = 0 ∧ t.buf.scrubWaiting = s.buf.scrubWaiting.drop 1) ∧
      t.counter 0x01050020 = Ctr.add 31 1 (s.counter 0x01050020) ∧
      (∀ n, s.scrubNow.1.cmd = some n → s.live n = true → (t.tag n).st = .posted ∧ t.cmd n = {}) ∧
      (∀ n, s.scrubNow.1.cmd ≠ some n → t.tag n = s.tag n) ∧
      unchangedBut [.free, .ctr, .flt, .mus, .tags, .cqs, .cmds, .mgt, .buf, .bca, .sec] s t) ∧
  (∀ (sub inst sram word : Nat) (lost : List Loss) (s : State), inst < instancesOf sub → sram < sramCount sub → word < 2 ^ 32 → (sub = 8 →
    sram ≤ 2 → inst % 2 = 0) → s.start.phase ≠ .off → s.eventRoom = true →
    ∃ t, exec (.sramScrub sub inst sram word false lost) s = .next t ∧
      offered t (mkMsg sub inst 0x3D (sram * 2 ^ 32 + word)) ∧
      unchangedBut [.flt, .ctr] s t) ∧
  (∀ (sub inst sram word : Nat) (lost : List Loss) (s : State), inst < instancesOf sub → sram < sramCount sub → word < 2 ^ 32 →
    s.start.phase ≠ .off → (sub = 3 → sram ≠ 0) → (sub = 6 → 2 ≤ sram) → (sub = 8 → 3 ≤ sram) → (sub = 12 → sram ≠ 0) → s.eventRoom = true
    →
    ∃ t, exec (.sramScrub sub inst sram word true lost) s = .next t ∧
      offered t (mkMsg sub inst 0x3E (sram * 2 ^ 32 + word)) ∧
      ((lost.all fun x => !s.live x.tag || ((t.tag x.tag).st == .posted && t.cmd x.tag == {})) = true) ∧
      unchangedBut [.free, .ctr, .flt, .log, .pwr, .mns, .cal, .hdas, .mus, .store, .eps, .tags, .cqs, .cmds, .mgt, .buf, .bca] s t) ∧
  (∀ (inst sram word : Nat) (lost : List Loss) (s : State), inst < instancesOf 1 → sram < sramCount 1 → word < 2 ^ 32 → s.start.phase ≠
    .off → s.eventRoom = true →
    ∃ t, exec (.sramScrub 1 inst sram word true lost) s = .next t ∧
      offered t (mkMsg 1 inst 0x3E (sram * 2 ^ 32 + word)) ∧ offered t (mkMsg 1 0 22 (sram * 2 ^ 32 + word)) ∧
      (t.ep inst).aerUncorr = (s.ep inst).aerUncorr ||| 0x00400000#32 ∧
      t.counter (epCtr inst 0x00010008) = Ctr.add 31 1 (s.counter (epCtr inst 0x00010008)) ∧
      ((lost.all fun x => !s.live x.tag || ((t.tag x.tag).st == .posted && t.cmd x.tag == {})) = true) ∧
      unchangedBut [.free, .ctr, .flt, .log, .pwr, .mns, .cal, .hdas, .mus, .store, .eps, .tags, .cqs, .cmds, .mgt, .buf, .bca] s t) ∧
  (∀ (word : Nat) (lost : List Loss) (s : State), word < 2 ^ 32 → s.start.phase ≠ .off → s.eventRoom = true →
    ∃ t, exec (.sramScrub 6 0 0 word true lost) s = .next t ∧
      offered t (mkMsg 6 0 0x3E word) ∧
      ((s.line word).st = .clean → t.line word = (s.line word).emptied) ∧
      ((s.line word).st = .dirty → t.line word = { s.line word with stranded := true }) ∧
      ((s.line word).st = .filling → t.line word = { s.line word with
          st := .doomed, stranded := (s.line word).stranded || (s.line word).dirty != 0 }) ∧
      (∀ k, k ≠ word → t.line k = s.line k) ∧
      t.bca.index = s.bca.index ∧
      unchangedBut [.flt, .ctr, .bca] s t) ∧
  (∀ (sub inst sram word : Nat) (lost : List Loss) (s : State), inst < instancesOf sub → word < 2 ^ 32 → s.start.phase ≠ .off → ((sub = 8
    ∧ sram ≤ 2 ∧ inst % 2 = 0) ∨ (sub = 12 ∧ sram = 0) ∨ (sub = 3 ∧ sram = 0)) → s.eventRoom = true →
    ∃ t, exec (.sramScrub sub inst sram word true lost) s = .next t ∧
      offered t (mkMsg sub inst 0x3E (sram * 2 ^ 32 + word)) ∧
      unchangedBut [.flt, .ctr] s t) ∧
  (∀ (word : Nat) (lost : List Loss) (s : State), word < 2 ^ 32 → s.start.phase ≠ .off → s.eventRoom = true →
    ∃ t, exec (.sramScrub 6 0 1 word true lost) s = .next t ∧
      offered t (mkMsg 6 0 0x3E (2 ^ 32 + word)) ∧
      t.bca = { s.bca with cut := s.bca.cut.eraseIdx word } ∧
      unchangedBut [.flt, .ctr, .bca] s t) ∧
  (∀ (tag : TagNo) (k : Nat) (s : State), s.asleep = false → s.mayBegin tag 0x0A 2 = true → firstCode [s.ps4Code] = some k →
    ∃ t, exec (.scrubBuffer tag) s = .next t ∧
      completes s t tag (conflict k) ∧
      (∀ k, k ≠ (tag : Nat) → t.cmd k = s.cmd k) ∧
      unchangedBut [.tags, .cmds, .cqs] (s.letGo tag) t) ∧
  (∀ (tag : TagNo) (s : State), s.asleep = false → s.mayBegin tag 0x0A 2 = true → firstCode [s.ps4Code] = none → s.buf.scrub.bind (·.cmd)
    = none →
    ∃ t, exec (.scrubBuffer tag) s = .next t ∧
      t.buf = { s.buf with scrub := some { cmd := some (tag : Nat), began := s.second }, scrubBurst := 0 } ∧
      t.cmd tag = { s.cmd tag with phase := .executing } ∧
      (∀ k, k ≠ (tag : Nat) → t.cmd k = s.cmd k) ∧
      unchangedBut [.buf, .cmds] s t) ∧
  (∀ (tag : TagNo) (n : Nat) (s : State), s.asleep = false → s.mayBegin tag 0x0A 2 = true → firstCode [s.ps4Code] = none →
    s.buf.scrub.bind (·.cmd) = some n →
    ∃ t, exec (.scrubBuffer tag) s = .next t ∧
      t.buf = { s.buf with scrubWaiting := s.buf.scrubWaiting ++ [(tag : Nat)] } ∧
      t.cmd tag = { s.cmd tag with phase := .executing } ∧
      (∀ k, k ≠ (tag : Nat) → t.cmd k = s.cmd k) ∧
      unchangedBut [.buf, .cmds] s t) ∧
  (∀ (tag : TagNo) (s : State), s.asleep = false → s.mayBegin tag 0x0A 1 = true → firstCode [s.ownCode tag, s.absentCode tag,
    s.stoppedCode tag, s.ps4Code] = none → s.window (s.cmd tag).pkt.vol (zoneOf (s.cmd tag).lba + (s.cmd tag).pkt.p2.toNat) ((s.cmd
    tag).pkt.p2.toNat + 1) (s.cmd tag).lba = none → s.eventRoom = true →
    ∃ t, exec (.scrubMedia tag) s = .next t ∧
      completes s t tag (s.cmd tag).scrubRes ∧
      (∀ k, k ≠ (tag : Nat) → t.cmd k = s.cmd k) ∧
      unchangedBut [.free, .out, .ctr, .flt, .mus, .tags, .cqs, .cmds, .mgt] s t) ∧
  (∀ (tag : TagNo) (a n : Nat) (s : State), s.asleep = false → s.mayBegin tag 0x0A 1 = true → firstCode [s.ownCode tag, s.absentCode tag,
    s.stoppedCode tag, s.ps4Code] = none → s.window (s.cmd tag).pkt.vol (zoneOf (s.cmd tag).lba + (s.cmd tag).pkt.p2.toNat) ((s.cmd
    tag).pkt.p2.toNat + 1) (s.cmd tag).lba = some (a, n) → s.eventRoom = true →
    ∃ t, exec (.scrubMedia tag) s = .next t ∧
      (t.cmd tag).pkt.slba = a ∧ (t.cmd tag).pkt.nsec = n - 1 ∧ (t.cmd tag).secs = [] ∧
      ((t.cmd tag).phase = .sch ∨ (t.cmd tag).phase = .overflow) ∧
      (∀ k, k ≠ (tag : Nat) → t.cmd k = s.cmd k) ∧
      unchangedBut [.free, .out, .ctr, .flt, .log, .pwr, .mns, .cal, .hdas, .mus, .store, .tags, .cqs, .cmds, .mgt, .buf, .bca] s t) ∧
  (∀ (tag : TagNo) (k : Nat) (s : State), s.asleep = false → s.mayBegin tag 0x0A 1 = true → firstCode [s.ownCode tag, s.absentCode tag,
    s.stoppedCode tag, s.ps4Code] = some k →
    ∃ t, exec (.scrubMedia tag) s = .next t ∧
      completes s t tag (conflict k) ∧
      (∀ k, k ≠ (tag : Nat) → t.cmd k = s.cmd k) ∧
      unchangedBut [.tags, .cmds, .cqs] (s.letGo tag) t)

/-- A check that blocks ends the command with its code, or delivers the zone's deferred error; a zone the volume does not have ends it with
status 0x0104. OPEN, CLOSE, FINISH and RESET change the state of the zone as the table of R396 gives it or end with its code; a RESET
discards the zone's data, begins a new generation and unbinds its key domain. With ALL, every sequential zone without a deferred error
changes so. A command that offers an event finds room in its source's buffer (R548; FaultControlAndAcceptance states the hold). -/
def Obligations.ZoneManagement : Prop :=
  (∀ (tag : TagNo) (k : Nat) (s : State), s.at_ tag .perform = true → (s.cmd tag).pkt.opc = 6 → (s.cmd tag).pkt.sub = 1 → s.blockZone
    (s.cmd tag).ep (s.cmd tag).pkt.vol (zoneOf (s.cmd tag).pkt.slba) (s.cmd tag).order (bit (s.cmd tag).pkt.p0.toNat 8) = some (.code k) →
    ∃ t, exec (.zoneMgmtOpen tag) s = .next t ∧
      completes s t tag (conflict k) ∧
      (∀ k, k ≠ (tag : Nat) → t.cmd k = s.cmd k) ∧
      unchangedBut [.tags, .cmds, .cqs] (s.letGo tag) t) ∧
  (∀ (tag : TagNo) (s : State), s.at_ tag .perform = true → (s.cmd tag).pkt.opc = 6 → (s.cmd tag).pkt.sub = 1 → s.blockZone (s.cmd tag).ep
    (s.cmd tag).pkt.vol (zoneOf (s.cmd tag).pkt.slba) (s.cmd tag).order (bit (s.cmd tag).pkt.p0.toNat 8) = none → s.zoneCount (s.cmd
    tag).pkt.vol ≤ zoneOf (s.cmd tag).pkt.slba →
    ∃ t, exec (.zoneMgmtOpen tag) s = .next t ∧
      completes s t tag { status := 0x0104 } ∧
      (∀ k, k ≠ (tag : Nat) → t.cmd k = s.cmd k) ∧
      unchangedBut [.tags, .cmds, .cqs] (s.letGo tag) t) ∧
  (∀ (tag : TagNo) (d : Deferred) (s : State), s.at_ tag .perform = true → (s.cmd tag).pkt.opc = 6 → (s.cmd tag).pkt.sub = 4 → s.blockZone
    (s.cmd tag).ep (s.cmd tag).pkt.vol (zoneOf (s.cmd tag).pkt.slba) (s.cmd tag).order (bit (s.cmd tag).pkt.p0.toNat 8) = some .deferred →
    (s.zone (s.cmd tag).pkt.vol (zoneOf (s.cmd tag).pkt.slba)).deferred = some d → s.eventRoom = true →
    ∃ t, exec (.zoneMgmtReset tag) s = .next t ∧
      completes s t tag { status := 0x0202, r0 := d.lba, r1 := d.count, r2 := d.cause, defer := true } ∧
      (t.zone (s.cmd tag).pkt.vol (zoneOf (s.cmd tag).pkt.slba)).deferred = none ∧
      (∀ k, k ≠ (tag : Nat) → t.cmd k = s.cmd k) ∧
      unchangedBut [.nor, .ctr, .flt, .mus, .tags, .cqs, .cmds, .bca] (s.letGo tag) t) ∧
  (∀ (tag : TagNo) (s : State), s.at_ tag .perform = true → (s.cmd tag).pkt.opc = 6 → (s.cmd tag).pkt.sub = 1 → bit (s.cmd
    tag).pkt.p0.toNat 8 = false → s.blockZone (s.cmd tag).ep (s.cmd tag).pkt.vol (zoneOf (s.cmd tag).pkt.slba) (s.cmd tag).order false =
    none → zoneOf (s.cmd tag).pkt.slba < s.zoneCount (s.cmd tag).pkt.vol → (s.zone (s.cmd tag).pkt.vol (zoneOf (s.cmd tag).pkt.slba)).st =
    .empty → (s.kdState (if (s.cmd tag).pkt.p2.toNat = 0x7FF then (s.mu (s.cmd tag).pkt.vol).defaultKdom else (s.cmd tag).pkt.p2.toNat) =
    .active) → s.noContext (s.cmd tag).pkt.vol = false →
    ∃ t, exec (.zoneMgmtOpen tag) s = .next t ∧
      (∀ z, z ≠ zoneOf (s.cmd tag).pkt.slba → t.zone (s.cmd tag).pkt.vol z = s.zone (s.cmd tag).pkt.vol z) ∧
      t.bca.index = s.bca.index ∧
      ((t.zone (s.cmd tag).pkt.vol (zoneOf (s.cmd tag).pkt.slba)) = { (s.zone (s.cmd tag).pkt.vol (zoneOf (s.cmd tag).pkt.slba)) with
          st := .explicitOpen, kdom := some (if (s.cmd tag).pkt.p2.toNat = 0x7FF then (s.mu (s.cmd tag).pkt.vol).defaultKdom else (s.cmd
          tag).pkt.p2.toNat) }) ∧
      completes s t tag {} ∧
      (t.mu (s.cmd tag).pkt.vol).sch.systemDue = true ∧
      unchangedBut [.mus, .tags, .cqs, .cmds] (s.letGo tag) t) ∧
  (∀ (tag : TagNo) (s : State), s.at_ tag .perform = true → (s.cmd tag).pkt.opc = 6 → (s.cmd tag).pkt.sub = 1 → bit (s.cmd
    tag).pkt.p0.toNat 8 = false → s.blockZone (s.cmd tag).ep (s.cmd tag).pkt.vol (zoneOf (s.cmd tag).pkt.slba) (s.cmd tag).order false =
    none → zoneOf (s.cmd tag).pkt.slba < s.zoneCount (s.cmd tag).pkt.vol → (s.zone (s.cmd tag).pkt.vol (zoneOf (s.cmd tag).pkt.slba)).st =
    .empty → (s.kdState (if (s.cmd tag).pkt.p2.toNat = 0x7FF then (s.mu (s.cmd tag).pkt.vol).defaultKdom else (s.cmd tag).pkt.p2.toNat) =
    .erased ∨ s.kdState (if (s.cmd tag).pkt.p2.toNat = 0x7FF then (s.mu (s.cmd tag).pkt.vol).defaultKdom else (s.cmd tag).pkt.p2.toNat) =
    .empty) →
    ∃ t, exec (.zoneMgmtOpen tag) s = .next t ∧
      completes s t tag (conflict 0x0012) ∧
      (∀ k, k ≠ (tag : Nat) → t.cmd k = s.cmd k) ∧
      unchangedBut [.tags, .cmds, .cqs] (s.letGo tag) t) ∧
  (∀ (tag : TagNo) (s : State), s.at_ tag .perform = true → (s.cmd tag).pkt.opc = 6 → (s.cmd tag).pkt.sub = 1 → bit (s.cmd
    tag).pkt.p0.toNat 8 = false → s.blockZone (s.cmd tag).ep (s.cmd tag).pkt.vol (zoneOf (s.cmd tag).pkt.slba) (s.cmd tag).order false =
    none → zoneOf (s.cmd tag).pkt.slba < s.zoneCount (s.cmd tag).pkt.vol → (s.zone (s.cmd tag).pkt.vol (zoneOf (s.cmd tag).pkt.slba)).st =
    .empty → (s.kdState (if (s.cmd tag).pkt.p2.toNat = 0x7FF then (s.mu (s.cmd tag).pkt.vol).defaultKdom else (s.cmd tag).pkt.p2.toNat) =
    .locked) →
    ∃ t, exec (.zoneMgmtOpen tag) s = .next t ∧
      completes s t tag (conflict 0x0011) ∧
      (∀ k, k ≠ (tag : Nat) → t.cmd k = s.cmd k) ∧
      unchangedBut [.tags, .cmds, .cqs] (s.letGo tag) t) ∧
  (∀ (tag : TagNo) (s : State), s.at_ tag .perform = true → (s.cmd tag).pkt.opc = 6 → (s.cmd tag).pkt.sub = 1 → bit (s.cmd
    tag).pkt.p0.toNat 8 = false → s.blockZone (s.cmd tag).ep (s.cmd tag).pkt.vol (zoneOf (s.cmd tag).pkt.slba) (s.cmd tag).order false =
    none → zoneOf (s.cmd tag).pkt.slba < s.zoneCount (s.cmd tag).pkt.vol → (s.zone (s.cmd tag).pkt.vol (zoneOf (s.cmd tag).pkt.slba)).st =
    .implicitOpen →
    ∃ t, exec (.zoneMgmtOpen tag) s = .next t ∧
      (∀ z, z ≠ zoneOf (s.cmd tag).pkt.slba → t.zone (s.cmd tag).pkt.vol z = s.zone (s.cmd tag).pkt.vol z) ∧
      t.bca.index = s.bca.index ∧
      (t.zone (s.cmd tag).pkt.vol (zoneOf (s.cmd tag).pkt.slba)) =
        { (s.zone (s.cmd tag).pkt.vol (zoneOf (s.cmd tag).pkt.slba)) with st := .explicitOpen } ∧
      completes s t tag {} ∧
      unchangedBut [.mus, .tags, .cqs, .cmds] (s.letGo tag) t) ∧
  (∀ (tag : TagNo) (s : State), s.at_ tag .perform = true → (s.cmd tag).pkt.opc = 6 → (s.cmd tag).pkt.sub = 1 → bit (s.cmd
    tag).pkt.p0.toNat 8 = false → s.blockZone (s.cmd tag).ep (s.cmd tag).pkt.vol (zoneOf (s.cmd tag).pkt.slba) (s.cmd tag).order false =
    none → zoneOf (s.cmd tag).pkt.slba < s.zoneCount (s.cmd tag).pkt.vol → (s.zone (s.cmd tag).pkt.vol (zoneOf (s.cmd tag).pkt.slba)).st =
    .explicitOpen →
    ∃ t, exec (.zoneMgmtOpen tag) s = .next t ∧
      (∀ z, z ≠ zoneOf (s.cmd tag).pkt.slba → t.zone (s.cmd tag).pkt.vol z = s.zone (s.cmd tag).pkt.vol z) ∧
      t.bca.index = s.bca.index ∧
      (t.zone (s.cmd tag).pkt.vol (zoneOf (s.cmd tag).pkt.slba)) = (s.zone (s.cmd tag).pkt.vol (zoneOf (s.cmd tag).pkt.slba)) ∧
      completes s t tag {} ∧
      unchangedBut [.mus, .tags, .cqs, .cmds] (s.letGo tag) t) ∧
  (∀ (tag : TagNo) (s : State), s.at_ tag .perform = true → (s.cmd tag).pkt.opc = 6 → (s.cmd tag).pkt.sub = 1 → bit (s.cmd
    tag).pkt.p0.toNat 8 = false → s.blockZone (s.cmd tag).ep (s.cmd tag).pkt.vol (zoneOf (s.cmd tag).pkt.slba) (s.cmd tag).order false =
    none → zoneOf (s.cmd tag).pkt.slba < s.zoneCount (s.cmd tag).pkt.vol → (s.zone (s.cmd tag).pkt.vol (zoneOf (s.cmd tag).pkt.slba)).st =
    .closed → s.noContext (s.cmd tag).pkt.vol = false →
    ∃ t, exec (.zoneMgmtOpen tag) s = .next t ∧
      (∀ z, z ≠ zoneOf (s.cmd tag).pkt.slba → t.zone (s.cmd tag).pkt.vol z = s.zone (s.cmd tag).pkt.vol z) ∧
      t.bca.index = s.bca.index ∧
      (t.zone (s.cmd tag).pkt.vol (zoneOf (s.cmd tag).pkt.slba)) =
        { (s.zone (s.cmd tag).pkt.vol (zoneOf (s.cmd tag).pkt.slba)) with st := .explicitOpen } ∧
      completes s t tag {} ∧
      unchangedBut [.mus, .tags, .cqs, .cmds] (s.letGo tag) t) ∧
  (∀ (tag : TagNo) (s : State), s.at_ tag .perform = true → (s.cmd tag).pkt.opc = 6 → (s.cmd tag).pkt.sub = 1 → bit (s.cmd
    tag).pkt.p0.toNat 8 = false → s.blockZone (s.cmd tag).ep (s.cmd tag).pkt.vol (zoneOf (s.cmd tag).pkt.slba) (s.cmd tag).order false =
    none → zoneOf (s.cmd tag).pkt.slba < s.zoneCount (s.cmd tag).pkt.vol → (s.zone (s.cmd tag).pkt.vol (zoneOf (s.cmd tag).pkt.slba)).st =
    .closed → s.noContext (s.cmd tag).pkt.vol = true →
    ∃ t, exec (.zoneMgmtOpen tag) s = .next t ∧
      completes s t tag (conflict 0x0005) ∧
      (∀ k, k ≠ (tag : Nat) → t.cmd k = s.cmd k) ∧
      unchangedBut [.tags, .cmds, .cqs] (s.letGo tag) t) ∧
  (∀ (tag : TagNo) (s : State), s.at_ tag .perform = true → (s.cmd tag).pkt.opc = 6 → (s.cmd tag).pkt.sub = 1 → bit (s.cmd
    tag).pkt.p0.toNat 8 = false → s.blockZone (s.cmd tag).ep (s.cmd tag).pkt.vol (zoneOf (s.cmd tag).pkt.slba) (s.cmd tag).order false =
    none → zoneOf (s.cmd tag).pkt.slba < s.zoneCount (s.cmd tag).pkt.vol → (s.zone (s.cmd tag).pkt.vol (zoneOf (s.cmd tag).pkt.slba)).st =
    .full →
    ∃ t, exec (.zoneMgmtOpen tag) s = .next t ∧
      completes s t tag (conflict 0x0001) ∧
      (∀ k, k ≠ (tag : Nat) → t.cmd k = s.cmd k) ∧
      unchangedBut [.tags, .cmds, .cqs] (s.letGo tag) t) ∧
  (∀ (tag : TagNo) (s : State), s.at_ tag .perform = true → (s.cmd tag).pkt.opc = 6 → (s.cmd tag).pkt.sub = 1 → bit (s.cmd
    tag).pkt.p0.toNat 8 = false → s.blockZone (s.cmd tag).ep (s.cmd tag).pkt.vol (zoneOf (s.cmd tag).pkt.slba) (s.cmd tag).order false =
    none → zoneOf (s.cmd tag).pkt.slba < s.zoneCount (s.cmd tag).pkt.vol → (s.zone (s.cmd tag).pkt.vol (zoneOf (s.cmd tag).pkt.slba)).st =
    .readOnly →
    ∃ t, exec (.zoneMgmtOpen tag) s = .next t ∧
      completes s t tag (conflict 0x0002) ∧
      (∀ k, k ≠ (tag : Nat) → t.cmd k = s.cmd k) ∧
      unchangedBut [.tags, .cmds, .cqs] (s.letGo tag) t) ∧
  (∀ (tag : TagNo) (k : Nat) (s : State), s.at_ tag .perform = true → (s.cmd tag).pkt.opc = 6 → (s.cmd tag).pkt.sub = 2 → s.blockZone
    (s.cmd tag).ep (s.cmd tag).pkt.vol (zoneOf (s.cmd tag).pkt.slba) (s.cmd tag).order (bit (s.cmd tag).pkt.p0.toNat 8) = some (.code k) →
    ∃ t, exec (.zoneMgmtClose tag) s = .next t ∧
      completes s t tag (conflict k) ∧
      (∀ k, k ≠ (tag : Nat) → t.cmd k = s.cmd k) ∧
      unchangedBut [.tags, .cmds, .cqs] (s.letGo tag) t) ∧
  (∀ (tag : TagNo) (s : State), s.at_ tag .perform = true → (s.cmd tag).pkt.opc = 6 → (s.cmd tag).pkt.sub = 2 → s.blockZone (s.cmd tag).ep
    (s.cmd tag).pkt.vol (zoneOf (s.cmd tag).pkt.slba) (s.cmd tag).order (bit (s.cmd tag).pkt.p0.toNat 8) = none → s.zoneCount (s.cmd
    tag).pkt.vol ≤ zoneOf (s.cmd tag).pkt.slba →
    ∃ t, exec (.zoneMgmtClose tag) s = .next t ∧
      completes s t tag { status := 0x0104 } ∧
      (∀ k, k ≠ (tag : Nat) → t.cmd k = s.cmd k) ∧
      unchangedBut [.tags, .cmds, .cqs] (s.letGo tag) t) ∧
  (∀ (tag : TagNo) (s : State), s.at_ tag .perform = true → (s.cmd tag).pkt.opc = 6 → (s.cmd tag).pkt.sub = 2 → bit (s.cmd
    tag).pkt.p0.toNat 8 = false → s.blockZone (s.cmd tag).ep (s.cmd tag).pkt.vol (zoneOf (s.cmd tag).pkt.slba) (s.cmd tag).order false =
    none → zoneOf (s.cmd tag).pkt.slba < s.zoneCount (s.cmd tag).pkt.vol → (s.zone (s.cmd tag).pkt.vol (zoneOf (s.cmd
    tag).pkt.slba)).isOpen = true → (s.zone (s.cmd tag).pkt.vol (zoneOf (s.cmd tag).pkt.slba)).wp ≠ 0 → s.eventRoom = true →
    ∃ t, exec (.zoneMgmtClose tag) s = .next t ∧
      (∀ z, z ≠ zoneOf (s.cmd tag).pkt.slba → t.zone (s.cmd tag).pkt.vol z = s.zone (s.cmd tag).pkt.vol z) ∧
      t.bca.index = s.bca.index ∧
      (t.zone (s.cmd tag).pkt.vol (zoneOf (s.cmd tag).pkt.slba)) =
        { (s.zone (s.cmd tag).pkt.vol (zoneOf (s.cmd tag).pkt.slba)) with st := .closed } ∧
      completes s t tag {} ∧
      unchangedBut [.nor, .ctr, .flt, .mus, .tags, .cqs, .cmds, .bca] (s.letGo tag) t) ∧
  (∀ (tag : TagNo) (s : State), s.at_ tag .perform = true → (s.cmd tag).pkt.opc = 6 → (s.cmd tag).pkt.sub = 2 → bit (s.cmd
    tag).pkt.p0.toNat 8 = false → s.blockZone (s.cmd tag).ep (s.cmd tag).pkt.vol (zoneOf (s.cmd tag).pkt.slba) (s.cmd tag).order false =
    none → zoneOf (s.cmd tag).pkt.slba < s.zoneCount (s.cmd tag).pkt.vol → (s.zone (s.cmd tag).pkt.vol (zoneOf (s.cmd
    tag).pkt.slba)).isOpen = true → (s.zone (s.cmd tag).pkt.vol (zoneOf (s.cmd tag).pkt.slba)).wp = 0 → s.eventRoom = true →
    ∃ t, exec (.zoneMgmtClose tag) s = .next t ∧
      (∀ z, z ≠ zoneOf (s.cmd tag).pkt.slba → t.zone (s.cmd tag).pkt.vol z = s.zone (s.cmd tag).pkt.vol z) ∧
      t.bca.index = s.bca.index ∧
      (t.zone (s.cmd tag).pkt.vol (zoneOf (s.cmd tag).pkt.slba)) =
        { (s.zone (s.cmd tag).pkt.vol (zoneOf (s.cmd tag).pkt.slba)) with st := .empty, kdom := none } ∧
      completes s t tag {} ∧
      unchangedBut [.nor, .ctr, .flt, .mus, .tags, .cqs, .cmds, .bca] (s.letGo tag) t) ∧
  (∀ (tag : TagNo) (s : State), s.at_ tag .perform = true → (s.cmd tag).pkt.opc = 6 → (s.cmd tag).pkt.sub = 2 → bit (s.cmd
    tag).pkt.p0.toNat 8 = false → s.blockZone (s.cmd tag).ep (s.cmd tag).pkt.vol (zoneOf (s.cmd tag).pkt.slba) (s.cmd tag).order false =
    none → zoneOf (s.cmd tag).pkt.slba < s.zoneCount (s.cmd tag).pkt.vol → ((s.zone (s.cmd tag).pkt.vol (zoneOf (s.cmd tag).pkt.slba)).st
    = .empty ∨ (s.zone (s.cmd tag).pkt.vol (zoneOf (s.cmd tag).pkt.slba)).st = .closed ∨ (s.zone (s.cmd tag).pkt.vol (zoneOf (s.cmd
    tag).pkt.slba)).st = .full) → s.eventRoom = true →
    ∃ t, exec (.zoneMgmtClose tag) s = .next t ∧
      (∀ z, z ≠ zoneOf (s.cmd tag).pkt.slba → t.zone (s.cmd tag).pkt.vol z = s.zone (s.cmd tag).pkt.vol z) ∧
      t.bca.index = s.bca.index ∧
      (t.zone (s.cmd tag).pkt.vol (zoneOf (s.cmd tag).pkt.slba)) = (s.zone (s.cmd tag).pkt.vol (zoneOf (s.cmd tag).pkt.slba)) ∧
      completes s t tag {} ∧
      unchangedBut [.nor, .ctr, .flt, .mus, .tags, .cqs, .cmds, .bca] (s.letGo tag) t) ∧
  (∀ (tag : TagNo) (s : State), s.at_ tag .perform = true → (s.cmd tag).pkt.opc = 6 → (s.cmd tag).pkt.sub = 2 → bit (s.cmd
    tag).pkt.p0.toNat 8 = false → s.blockZone (s.cmd tag).ep (s.cmd tag).pkt.vol (zoneOf (s.cmd tag).pkt.slba) (s.cmd tag).order false =
    none → zoneOf (s.cmd tag).pkt.slba < s.zoneCount (s.cmd tag).pkt.vol → (s.zone (s.cmd tag).pkt.vol (zoneOf (s.cmd tag).pkt.slba)).st =
    .readOnly →
    ∃ t, exec (.zoneMgmtClose tag) s = .next t ∧
      completes s t tag (conflict 0x0002) ∧
      (∀ k, k ≠ (tag : Nat) → t.cmd k = s.cmd k) ∧
      unchangedBut [.tags, .cmds, .cqs] (s.letGo tag) t) ∧
  (∀ (tag : TagNo) (k : Nat) (s : State), s.at_ tag .perform = true → (s.cmd tag).pkt.opc = 6 → (s.cmd tag).pkt.sub = 3 → s.blockZone
    (s.cmd tag).ep (s.cmd tag).pkt.vol (zoneOf (s.cmd tag).pkt.slba) (s.cmd tag).order (bit (s.cmd tag).pkt.p0.toNat 8) = some (.code k) →
    ∃ t, exec (.zoneMgmtFinish tag) s = .next t ∧
      completes s t tag (conflict k) ∧
      (∀ k, k ≠ (tag : Nat) → t.cmd k = s.cmd k) ∧
      unchangedBut [.tags, .cmds, .cqs] (s.letGo tag) t) ∧
  (∀ (tag : TagNo) (s : State), s.at_ tag .perform = true → (s.cmd tag).pkt.opc = 6 → (s.cmd tag).pkt.sub = 3 → s.blockZone (s.cmd tag).ep
    (s.cmd tag).pkt.vol (zoneOf (s.cmd tag).pkt.slba) (s.cmd tag).order (bit (s.cmd tag).pkt.p0.toNat 8) = none → s.zoneCount (s.cmd
    tag).pkt.vol ≤ zoneOf (s.cmd tag).pkt.slba →
    ∃ t, exec (.zoneMgmtFinish tag) s = .next t ∧
      completes s t tag { status := 0x0104 } ∧
      (∀ k, k ≠ (tag : Nat) → t.cmd k = s.cmd k) ∧
      unchangedBut [.tags, .cmds, .cqs] (s.letGo tag) t) ∧
  (∀ (tag : TagNo) (s : State), s.at_ tag .perform = true → (s.cmd tag).pkt.opc = 6 → (s.cmd tag).pkt.sub = 3 → bit (s.cmd
    tag).pkt.p0.toNat 8 = false → s.blockZone (s.cmd tag).ep (s.cmd tag).pkt.vol (zoneOf (s.cmd tag).pkt.slba) (s.cmd tag).order false =
    none → zoneOf (s.cmd tag).pkt.slba < s.zoneCount (s.cmd tag).pkt.vol → ((s.zone (s.cmd tag).pkt.vol (zoneOf (s.cmd
    tag).pkt.slba)).isOpen = true ∨ (s.zone (s.cmd tag).pkt.vol (zoneOf (s.cmd tag).pkt.slba)).st = .empty ∨ (s.zone (s.cmd tag).pkt.vol
    (zoneOf (s.cmd tag).pkt.slba)).st = .closed) → s.eventRoom = true →
    ∃ t, exec (.zoneMgmtFinish tag) s = .next t ∧
      (∀ z, z ≠ zoneOf (s.cmd tag).pkt.slba → t.zone (s.cmd tag).pkt.vol z = s.zone (s.cmd tag).pkt.vol z) ∧
      t.bca.index = s.bca.index ∧
      (t.zone (s.cmd tag).pkt.vol (zoneOf (s.cmd tag).pkt.slba)).st = .full ∧ (t.zone (s.cmd tag).pkt.vol (zoneOf (s.cmd
        tag).pkt.slba)).wp = s.cap (s.cmd tag).pkt.vol (zoneOf (s.cmd tag).pkt.slba) ∧ (t.zone (s.cmd tag).pkt.vol (zoneOf (s.cmd
        tag).pkt.slba)).gen = (s.zone (s.cmd tag).pkt.vol (zoneOf (s.cmd tag).pkt.slba)).gen ∧ (t.zone (s.cmd tag).pkt.vol (zoneOf (s.cmd
        tag).pkt.slba)).kdom = (s.zone (s.cmd tag).pkt.vol (zoneOf (s.cmd tag).pkt.slba)).kdom ∧
      completes s t tag {} ∧
      unchangedBut [.nor, .ctr, .flt, .mus, .tags, .cqs, .cmds, .bca] (s.letGo tag) t) ∧
  (∀ (tag : TagNo) (s : State), s.at_ tag .perform = true → (s.cmd tag).pkt.opc = 6 → (s.cmd tag).pkt.sub = 3 → bit (s.cmd
    tag).pkt.p0.toNat 8 = false → s.blockZone (s.cmd tag).ep (s.cmd tag).pkt.vol (zoneOf (s.cmd tag).pkt.slba) (s.cmd tag).order false =
    none → zoneOf (s.cmd tag).pkt.slba < s.zoneCount (s.cmd tag).pkt.vol → (s.zone (s.cmd tag).pkt.vol (zoneOf (s.cmd tag).pkt.slba)).st =
    .full → s.eventRoom = true →
    ∃ t, exec (.zoneMgmtFinish tag) s = .next t ∧
      (∀ z, z ≠ zoneOf (s.cmd tag).pkt.slba → t.zone (s.cmd tag).pkt.vol z = s.zone (s.cmd tag).pkt.vol z) ∧
      t.bca.index = s.bca.index ∧
      (t.zone (s.cmd tag).pkt.vol (zoneOf (s.cmd tag).pkt.slba)) = (s.zone (s.cmd tag).pkt.vol (zoneOf (s.cmd tag).pkt.slba)) ∧
      completes s t tag {} ∧
      unchangedBut [.nor, .ctr, .flt, .mus, .tags, .cqs, .cmds, .bca] (s.letGo tag) t) ∧
  (∀ (tag : TagNo) (s : State), s.at_ tag .perform = true → (s.cmd tag).pkt.opc = 6 → (s.cmd tag).pkt.sub = 3 → bit (s.cmd
    tag).pkt.p0.toNat 8 = false → s.blockZone (s.cmd tag).ep (s.cmd tag).pkt.vol (zoneOf (s.cmd tag).pkt.slba) (s.cmd tag).order false =
    none → zoneOf (s.cmd tag).pkt.slba < s.zoneCount (s.cmd tag).pkt.vol → (s.zone (s.cmd tag).pkt.vol (zoneOf (s.cmd tag).pkt.slba)).st =
    .readOnly →
    ∃ t, exec (.zoneMgmtFinish tag) s = .next t ∧
      completes s t tag (conflict 0x0002) ∧
      (∀ k, k ≠ (tag : Nat) → t.cmd k = s.cmd k) ∧
      unchangedBut [.tags, .cmds, .cqs] (s.letGo tag) t) ∧
  (∀ (tag : TagNo) (k : Nat) (s : State), s.at_ tag .perform = true → (s.cmd tag).pkt.opc = 6 → (s.cmd tag).pkt.sub = 4 → s.blockZone
    (s.cmd tag).ep (s.cmd tag).pkt.vol (zoneOf (s.cmd tag).pkt.slba) (s.cmd tag).order (bit (s.cmd tag).pkt.p0.toNat 8) = some (.code k) →
    ∃ t, exec (.zoneMgmtReset tag) s = .next t ∧
      completes s t tag (conflict k) ∧
      (∀ k, k ≠ (tag : Nat) → t.cmd k = s.cmd k) ∧
      unchangedBut [.tags, .cmds, .cqs] (s.letGo tag) t) ∧
  (∀ (tag : TagNo) (s : State), s.at_ tag .perform = true → (s.cmd tag).pkt.opc = 6 → (s.cmd tag).pkt.sub = 4 → s.blockZone (s.cmd tag).ep
    (s.cmd tag).pkt.vol (zoneOf (s.cmd tag).pkt.slba) (s.cmd tag).order (bit (s.cmd tag).pkt.p0.toNat 8) = none → s.zoneCount (s.cmd
    tag).pkt.vol ≤ zoneOf (s.cmd tag).pkt.slba →
    ∃ t, exec (.zoneMgmtReset tag) s = .next t ∧
      completes s t tag { status := 0x0104 } ∧
      (∀ k, k ≠ (tag : Nat) → t.cmd k = s.cmd k) ∧
      unchangedBut [.tags, .cmds, .cqs] (s.letGo tag) t) ∧
  (∀ (tag : TagNo) (s : State), s.at_ tag .perform = true → (s.cmd tag).pkt.opc = 6 → (s.cmd tag).pkt.sub = 4 → bit (s.cmd
    tag).pkt.p0.toNat 8 = false → s.blockZone (s.cmd tag).ep (s.cmd tag).pkt.vol (zoneOf (s.cmd tag).pkt.slba) (s.cmd tag).order false =
    none → zoneOf (s.cmd tag).pkt.slba < s.zoneCount (s.cmd tag).pkt.vol → (s.zone (s.cmd tag).pkt.vol (zoneOf (s.cmd tag).pkt.slba)).st ≠
    .offline → s.eventRoom = true →
    ∃ t, exec (.zoneMgmtReset tag) s = .next t ∧
      (∀ z, z ≠ zoneOf (s.cmd tag).pkt.slba → (t.zone (s.cmd tag).pkt.vol z).st = (s.zone (s.cmd tag).pkt.vol z).st ∧ (t.zone (s.cmd
        tag).pkt.vol z).wp = (s.zone (s.cmd tag).pkt.vol z).wp ∧ (t.zone (s.cmd tag).pkt.vol z).gen = (s.zone (s.cmd tag).pkt.vol z).gen ∧
        (t.zone (s.cmd tag).pkt.vol z).kdom = (s.zone (s.cmd tag).pkt.vol z).kdom) ∧
      (∀ k, k ∉ s.dirtyIn (s.cmd tag).pkt.vol (zoneOf (s.cmd tag).pkt.slba) → sget t.bca.index k {} = sget s.bca.index k {}) ∧
      (t.zone (s.cmd tag).pkt.vol (zoneOf (s.cmd tag).pkt.slba)).st = .empty ∧ (t.zone (s.cmd tag).pkt.vol (zoneOf (s.cmd
        tag).pkt.slba)).wp = 0 ∧ (t.zone (s.cmd tag).pkt.vol (zoneOf (s.cmd tag).pkt.slba)).gen = ((s.zone (s.cmd tag).pkt.vol (zoneOf
        (s.cmd tag).pkt.slba)).gen + 1) % 65536 ∧ (t.zone (s.cmd tag).pkt.vol (zoneOf (s.cmd tag).pkt.slba)).kdom = none ∧
      (∀ k, k ∈ s.dirtyIn (s.cmd tag).pkt.vol (zoneOf (s.cmd tag).pkt.slba) → sget t.bca.index k {} = {}) ∧
      (t.tag tag).st = .posted ∧ t.cmd tag = {} ∧
      unchangedBut [.free, .nor, .ctr, .flt, .log, .pwr, .mns, .cal, .hdas, .mus, .store, .tags, .cqs, .cmds, .mgt, .buf, .bca] s t) ∧
  (∀ (tag : TagNo) (s : State), s.at_ tag .perform = true → (s.cmd tag).pkt.opc = 6 → (s.cmd tag).pkt.sub = 4 → bit (s.cmd
    tag).pkt.p0.toNat 8 = false → s.blockZone (s.cmd tag).ep (s.cmd tag).pkt.vol (zoneOf (s.cmd tag).pkt.slba) (s.cmd tag).order false =
    none → zoneOf (s.cmd tag).pkt.slba < s.zoneCount (s.cmd tag).pkt.vol → (s.zone (s.cmd tag).pkt.vol (zoneOf (s.cmd tag).pkt.slba)).st =
    .offline →
    ∃ t, exec (.zoneMgmtReset tag) s = .next t ∧
      completes s t tag (conflict 0x0003) ∧
      (∀ k, k ≠ (tag : Nat) → t.cmd k = s.cmd k) ∧
      unchangedBut [.tags, .cmds, .cqs] (s.letGo tag) t) ∧
  (∀ (tag : TagNo) (z : Nat) (s : State), s.at_ tag .perform = true → (s.cmd tag).pkt.opc = 6 → (s.cmd tag).pkt.sub = 4 → bit (s.cmd
    tag).pkt.p0.toNat 8 = true → s.blockZone (s.cmd tag).ep (s.cmd tag).pkt.vol (zoneOf (s.cmd tag).pkt.slba) (s.cmd tag).order true =
    none → zoneOf (s.cmd tag).pkt.slba < s.zoneCount (s.cmd tag).pkt.vol → z < s.zoneCount (s.cmd tag).pkt.vol → s.isConv (s.cmd
    tag).pkt.vol z = false → (s.zone (s.cmd tag).pkt.vol z).deferred = none → (s.zone (s.cmd tag).pkt.vol z).st ≠ .offline → s.eventRoom =
    true →
    ∃ t, exec (.zoneMgmtReset tag) s = .next t ∧
      (t.zone (s.cmd tag).pkt.vol z).st = .empty ∧ (t.zone (s.cmd tag).pkt.vol z).wp = 0 ∧ (t.zone (s.cmd tag).pkt.vol z).gen = ((s.zone
        (s.cmd tag).pkt.vol z).gen + 1) % 65536 ∧
      (t.tag tag).st = .posted ∧ t.cmd tag = {} ∧
      unchangedBut [.free, .nor, .ctr, .flt, .log, .pwr, .mns, .cal, .hdas, .mus, .store, .tags, .cqs, .cmds, .mgt, .buf, .bca] s t) ∧
  (∀ (tag : TagNo) (z : Nat) (s : State), s.at_ tag .perform = true → (s.cmd tag).pkt.opc = 6 → (s.cmd tag).pkt.sub = 3 → bit (s.cmd
    tag).pkt.p0.toNat 8 = true → s.blockZone (s.cmd tag).ep (s.cmd tag).pkt.vol (zoneOf (s.cmd tag).pkt.slba) (s.cmd tag).order true =
    none → zoneOf (s.cmd tag).pkt.slba < s.zoneCount (s.cmd tag).pkt.vol → z < s.zoneCount (s.cmd tag).pkt.vol → s.isConv (s.cmd
    tag).pkt.vol z = false → (s.zone (s.cmd tag).pkt.vol z).deferred = none → (s.zone (s.cmd tag).pkt.vol z).isOpen = true → s.eventRoom =
    true →
    ∃ t, exec (.zoneMgmtFinish tag) s = .next t ∧
      (t.zone (s.cmd tag).pkt.vol z).st = .full ∧ (t.zone (s.cmd tag).pkt.vol z).wp = s.cap (s.cmd tag).pkt.vol z ∧
      (t.tag tag).st = .posted ∧ t.cmd tag = {} ∧
      unchangedBut [.free, .nor, .ctr, .flt, .log, .pwr, .mns, .cal, .hdas, .mus, .store, .tags, .cqs, .cmds, .mgt, .buf, .bca] s t) ∧
  (∀ (tag : TagNo) (z : Nat) (s : State), s.at_ tag .perform = true → (s.cmd tag).pkt.opc = 6 → (s.cmd tag).pkt.sub = 2 → bit (s.cmd
    tag).pkt.p0.toNat 8 = true → s.blockZone (s.cmd tag).ep (s.cmd tag).pkt.vol (zoneOf (s.cmd tag).pkt.slba) (s.cmd tag).order true =
    none → zoneOf (s.cmd tag).pkt.slba < s.zoneCount (s.cmd tag).pkt.vol → z < s.zoneCount (s.cmd tag).pkt.vol → s.isConv (s.cmd
    tag).pkt.vol z = false → (s.zone (s.cmd tag).pkt.vol z).deferred = none → (s.zone (s.cmd tag).pkt.vol z).isOpen = true → (s.zone
    (s.cmd tag).pkt.vol z).wp ≠ 0 → s.eventRoom = true →
    ∃ t, exec (.zoneMgmtClose tag) s = .next t ∧
      (t.zone (s.cmd tag).pkt.vol z).st = .closed ∧ (t.zone (s.cmd tag).pkt.vol z).wp = (s.zone (s.cmd tag).pkt.vol z).wp ∧
      (t.tag tag).st = .posted ∧ t.cmd tag = {} ∧
      unchangedBut [.free, .nor, .ctr, .flt, .log, .pwr, .mns, .cal, .hdas, .mus, .store, .tags, .cqs, .cmds, .mgt, .buf, .bca] s t)

/-- A zone report leaves as a header and the descriptors of the zones that match, and the command succeeds. FORMAT, with a token, makes the
volume formatted with its factory records, its metadata flag and its default domain, every sequential zone EMPTY in a new generation, and
waits for the system take that puts it on the medium. In dual-x8 mode RELEASE and TAKEOVER change the owner as they are taken in, which is
stored, with one event; SET_DEFAULT_KDOM changes the default domain; BIND and UNBIND change the bindings of an EVENT queue, or end with
INVALID_FIELD at offset 40. Each ends with the first state code that holds. A command that offers an event finds room in its source's buffer
(R548; FaultControlAndAcceptance states the hold). -/
def Obligations.VolumesAndReports : Prop :=
  (∀ (tag : TagNo) (s : State), s.mayBegin tag 0x07 0 = true → s.hostOk (s.cmd tag).ep = true → firstCode [s.absentCode tag, s.stoppedCode
    tag] = none → s.eventRoom = true →
    ∃ t, exec (.zoneReport tag) s = .next t ∧
      lastOut t (.hostData tag 0 (s.ep (s.cmd tag).ep).relaxed (s.zoneReport (s.cmd tag).pkt.vol (zoneOf (s.cmd tag).pkt.slba) (bits
        (s.cmd tag).pkt.p0.toNat 15 8) (s.cmd tag).pkt.p5.toNat)) ∧
      completes s t tag {} ∧
      (∀ k, k ≠ (tag : Nat) → t.cmd k = s.cmd k) ∧
      unchangedBut [.out, .ctr, .flt, .eps, .tags, .cqs, .cmds] (s.letGo tag) t) ∧
  (∀ (tag : TagNo) (k : Nat) (s : State), s.mayBegin tag 0x07 0 = true → s.hostOk (s.cmd tag).ep = true → firstCode [s.absentCode tag,
    s.stoppedCode tag] = some k →
    ∃ t, exec (.zoneReport tag) s = .next t ∧
      completes s t tag (conflict k) ∧
      (∀ k, k ≠ (tag : Nat) → t.cmd k = s.cmd k) ∧
      unchangedBut [.tags, .cmds, .cqs] (s.letGo tag) t) ∧
  (∀ (tag : TagNo) (token : List Byte) (rateZones : List (Nat × List Byte)) (zones : List (List Byte) × List Nat) (k : Nat) (s : State),
    s.mayBegin tag 0x33 1 = true → s.hostOk (s.cmd tag).ep = true → firstCode [s.ownCode tag, s.absentCode tag, s.barrierCode tag,
    ((checkedFormat (s.headsOf (s.cmd tag).pkt.vol) { rateZones := rateZones, zoneMap := zones.1, slips := zones.2 }).isNone &&
    !s.factory, 0x000C), (!s.formattable (s.cmd tag).pkt.vol, 0x0008)] = some k →
    ∃ t, exec (.volumeCtlFormat tag token rateZones zones) s = .next t ∧
      completes s t tag (conflict k) ∧
      (∀ k, k ≠ (tag : Nat) → t.cmd k = s.cmd k) ∧
      unchangedBut [.tags, .cmds, .cqs] (s.letGo tag) t) ∧
  (∀ (tag : TagNo) (token : List Byte) (rateZones : List (Nat × List Byte)) (zones : List (List Byte) × List Nat) (s : State), s.mayBegin
    tag 0x33 1 = true → s.hostOk (s.cmd tag).ep = true → firstCode [s.ownCode tag, s.absentCode tag, s.barrierCode tag, ((checkedFormat
    (s.headsOf (s.cmd tag).pkt.vol) { rateZones := rateZones, zoneMap := zones.1, slips := zones.2 }).isNone && !s.factory, 0x000C),
    (!s.formattable (s.cmd tag).pkt.vol, 0x0008)] = none → (s.cmd tag).pkt.mptr = 0 →
    ∃ t, exec (.volumeCtlFormat tag token rateZones zones) s = .next t ∧
      completes s t tag { status := 0x0500 } ∧
      (∀ k, k ≠ (tag : Nat) → t.cmd k = s.cmd k) ∧
      unchangedBut [.tags, .cmds, .cqs] (s.letGo tag) t) ∧
  (∀ (tag : TagNo) (token : List Byte) (rateZones : List (Nat × List Byte)) (zones : List (List Byte) × List Nat) (c : Nat) (s : State),
    s.mayBegin tag 0x33 1 = true → s.hostOk (s.cmd tag).ep = true → firstCode [s.ownCode tag, s.absentCode tag, s.barrierCode tag,
    ((checkedFormat (s.headsOf (s.cmd tag).pkt.vol) { rateZones := rateZones, zoneMap := zones.1, slips := zones.2 }).isNone &&
    !s.factory, 0x000C), (!s.formattable (s.cmd tag).pkt.vol, 0x0008)] = none → (s.cmd tag).pkt.mptr ≠ 0 → s.tokenFault (s.cmd tag).ep
    (s.cmd tag).pkt token [] false = some c → s.eventRoom = true →
    ∃ t, exec (.volumeCtlFormat tag token rateZones zones) s = .next t ∧
      completes s t tag { status := 0x0501, r0 := c } ∧
      (t.ep (s.cmd tag).ep).nonce = none ∧
      (∀ e, e ≠ (s.cmd tag).ep → t.ep e = s.ep e) ∧
      offered t (mkMsg 15 0 3 c) ∧
      t.counter 0x010F0020 = Ctr.add 31 1 (s.counter 0x010F0020) ∧
      (∀ k, k ≠ (tag : Nat) → t.cmd k = s.cmd k) ∧
      unchangedBut [.tags, .cmds, .cqs, .eps, .flt, .ctr] (s.letGo tag) t) ∧
  (∀ (tag : TagNo) (token : List Byte) (rateZones : List (Nat × List Byte)) (zones : List (List Byte) × List Nat) (s : State), s.mayBegin
    tag 0x33 1 = true → s.hostOk (s.cmd tag).ep = true → firstCode [s.ownCode tag, s.absentCode tag, s.barrierCode tag, ((checkedFormat
    (s.headsOf (s.cmd tag).pkt.vol) { rateZones := rateZones, zoneMap := zones.1, slips := zones.2 }).isNone && !s.factory, 0x000C),
    (!s.formattable (s.cmd tag).pkt.vol, 0x0008)] = none → (s.cmd tag).pkt.mptr ≠ 0 → s.eventRoom = true →
    ∃ t, exec (.volumeCtlFormat tag token rateZones zones) s = .next t ∧
      (s.tokenFault (s.cmd tag).ep (s.cmd tag).pkt token [] false = none → (t.ep (s.cmd tag).ep).nonce = none ∧ (t.mu (s.cmd
        tag).pkt.vol).formatted = true ∧ (t.mu (s.cmd tag).pkt.vol).fmt = ((checkedFormat (s.headsOf (s.cmd tag).pkt.vol)
        { rateZones := rateZones, zoneMap := zones.1, slips := zones.2 }).getD (usableFormat (s.headsOf (s.cmd tag).pkt.vol)
        { rateZones := rateZones, zoneMap := zones.1, slips := zones.2 })) ∧ (t.mu (s.cmd tag).pkt.vol).zeroed = true ∧ (t.mu (s.cmd
        tag).pkt.vol).rewritten = [] ∧ (t.mu (s.cmd tag).pkt.vol).sch.systemDue = true ∧ (t.mu (s.cmd tag).pkt.vol).sch.format = (s.mu
        (s.cmd tag).pkt.vol).sch.format ++ [(tag : Nat)] ∧ (t.mu (s.cmd tag).pkt.vol).hasMeta = bit (s.cmd tag).pkt.p2.toNat 0 ∧ (t.mu
        (s.cmd tag).pkt.vol).defaultKdom = bits (s.cmd tag).pkt.p2.toNat 25 16 ∧ (t.mu (s.cmd tag).pkt.vol).convKdom = bits (s.cmd
        tag).pkt.p2.toNat 25 16 ∧ (∀ z m, ((checkedFormat (s.headsOf (s.cmd tag).pkt.vol)
        { rateZones := rateZones, zoneMap := zones.1, slips := zones.2 }).getD (usableFormat (s.headsOf (s.cmd tag).pkt.vol)
        { rateZones := rateZones, zoneMap := zones.1, slips := zones.2 })).zones[z]? = some m → m.conv = false → (t.zone (s.cmd
        tag).pkt.vol z).st = .empty ∧ (t.zone (s.cmd tag).pkt.vol z).wp = 0 ∧ (t.zone (s.cmd tag).pkt.vol z).gen = ((s.zone (s.cmd
        tag).pkt.vol z).gen + 1) % 65536) ∧ (∀ k, dvol k = (s.cmd tag).pkt.vol → sget t.bca.index k {} = {}) ∧ (∀ k, dvol k ≠ (s.cmd
        tag).pkt.vol → sget t.bca.index k {} = sget s.bca.index k {}) ∧ t.tag tag = s.tag tag ∧ t.cmd tag =
        { s.cmd tag with phase := .executing }) ∧
      unchangedBut [.free, .nor, .ctr, .flt, .log, .pwr, .mns, .cal, .hdas, .mus, .store, .eps, .tags, .cqs, .cmds, .mgt, .buf, .bca] s t) ∧
  (∀ (tag : TagNo) (s : State), s.dual = true → s.mayTakeIn tag = true → (s.cmd tag).pkt.opc = 0x33 → (s.cmd tag).pkt.sub = 2 → firstCode
    [(s.notOwner (s.cmd tag).ep (s.cmd tag).pkt.vol, 0x000A), s.barrierCode tag] = none → s.eventRoom = true →
    ∃ t, exec (.volumeCtlRelease tag) s = .next t ∧
      t.owner (s.cmd tag).pkt.vol = none ∧
      t.nor.owners = t.owners ∧ t.nor.ownersDual = s.dual ∧
      offered t (mkMsg 3 0 1 ((s.cmd tag).pkt.vol + 2 * 2 ^ 8)) ∧
      completes s t tag {} ∧
      (∀ v, v ≠ (s.cmd tag).pkt.vol → t.owner v = s.owner v) ∧
      unchangedBut [.free, .nor, .ctr, .flt, .log, .pwr, .mns, .cal, .hdas, .mus, .store, .owners, .tags, .cqs, .cmds, .mgt, .buf, .bca] s
        t) ∧
  (∀ (tag : TagNo) (k : Nat) (s : State), s.mayTakeIn tag = true → (s.cmd tag).pkt.opc = 0x33 → (s.cmd tag).pkt.sub = 2 → firstCode
    [(s.notOwner (s.cmd tag).ep (s.cmd tag).pkt.vol, 0x000A), s.barrierCode tag] = some k →
    ∃ t, exec (.volumeCtlRelease tag) s = .next t ∧
      completes s t tag (conflict k) ∧
      (∀ k, k ≠ (tag : Nat) → t.cmd k = s.cmd k) ∧
      unchangedBut [.tags, .cmds, .cqs] (s.letGo tag) t) ∧
  (∀ (tag : TagNo) (s : State), s.dual = true → s.mayTakeIn tag = true → (s.cmd tag).pkt.opc = 0x33 → (s.cmd tag).pkt.sub = 3 → firstCode
    [s.barrierCode tag, (s.takeoverBars (s.cmd tag).ep (s.cmd tag).pkt.vol (bit (s.cmd tag).pkt.p2.toNat 1), 0x000A)] = none → s.owner
    (s.cmd tag).pkt.vol ≠ some (s.cmd tag).ep → s.eventRoom = true →
    ∃ t, exec (.volumeCtlTakeover tag) s = .next t ∧
      t.owner (s.cmd tag).pkt.vol = some (s.cmd tag).ep ∧
      t.nor.owners = t.owners ∧ t.nor.ownersDual = s.dual ∧
      offered t (mkMsg 3 0 1 ((s.cmd tag).pkt.vol + (s.cmd tag).ep * 2 ^ 8)) ∧
      completes s t tag {} ∧
      (∀ v, v ≠ (s.cmd tag).pkt.vol → t.owner v = s.owner v) ∧
      unchangedBut [.free, .nor, .ctr, .flt, .log, .pwr, .mns, .cal, .hdas, .mus, .store, .owners, .tags, .cqs, .cmds, .mgt, .buf, .bca] s
        t) ∧
  (∀ (tag : TagNo) (s : State), s.mayTakeIn tag = true → (s.cmd tag).pkt.opc = 0x33 → (s.cmd tag).pkt.sub = 3 → firstCode [s.barrierCode
    tag, (s.takeoverBars (s.cmd tag).ep (s.cmd tag).pkt.vol (bit (s.cmd tag).pkt.p2.toNat 1), 0x000A)] = none → s.owner (s.cmd
    tag).pkt.vol = some (s.cmd tag).ep → s.eventRoom = true →
    ∃ t, exec (.volumeCtlTakeover tag) s = .next t ∧
      t.owners = s.owners ∧
      completes s t tag {} ∧
      unchangedBut [.free, .nor, .ctr, .flt, .log, .pwr, .mns, .cal, .hdas, .mus, .store, .owners, .tags, .cqs, .cmds, .mgt, .buf, .bca] s
        t) ∧
  (∀ (tag : TagNo) (k : Nat) (s : State), s.mayTakeIn tag = true → (s.cmd tag).pkt.opc = 0x33 → (s.cmd tag).pkt.sub = 3 → firstCode
    [s.barrierCode tag, (s.takeoverBars (s.cmd tag).ep (s.cmd tag).pkt.vol (bit (s.cmd tag).pkt.p2.toNat 1), 0x000A)] = some k →
    ∃ t, exec (.volumeCtlTakeover tag) s = .next t ∧
      completes s t tag (conflict k) ∧
      (∀ k, k ≠ (tag : Nat) → t.cmd k = s.cmd k) ∧
      unchangedBut [.tags, .cmds, .cqs] (s.letGo tag) t) ∧
  (∀ (tag : TagNo) (s : State), s.mayBegin tag 0x33 4 = true → firstCode [s.ownCode tag, s.barrierCode tag, (s.kdState (bits (s.cmd
    tag).pkt.p2.toNat 25 16) == .erased || s.kdState (bits (s.cmd tag).pkt.p2.toNat 25 16) == .empty, 0x0012)] = none →
    ∃ t, exec (.volumeCtlSetDefaultKdom tag) s = .next t ∧
      (t.mu (s.cmd tag).pkt.vol).defaultKdom = bits (s.cmd tag).pkt.p2.toNat 25 16 ∧
      completes s t tag {} ∧
      (∀ k, k ≠ (tag : Nat) → t.cmd k = s.cmd k) ∧
      unchangedBut [.mus, .tags, .cqs, .cmds] (s.letGo tag) t) ∧
  (∀ (tag : TagNo) (k : Nat) (s : State), s.mayBegin tag 0x33 4 = true → firstCode [s.ownCode tag, s.barrierCode tag, (s.kdState (bits
    (s.cmd tag).pkt.p2.toNat 25 16) == .erased || s.kdState (bits (s.cmd tag).pkt.p2.toNat 25 16) == .empty, 0x0012)] = some k →
    ∃ t, exec (.volumeCtlSetDefaultKdom tag) s = .next t ∧
      completes s t tag (conflict k) ∧
      (∀ k, k ≠ (tag : Nat) → t.cmd k = s.cmd k) ∧
      unchangedBut [.tags, .cmds, .cqs] (s.letGo tag) t) ∧
  (∀ (tag : TagNo) (s : State), s.mayBegin tag 0x34 0 = true → firstCode [s.ownScoped tag] = none → (s.cq (s.bindingNamed tag).2).isEvent
    = true →
    ∃ t, exec (.eventArmBind tag) s = .next t ∧
      ((t.ep (s.cmd tag).ep).bindings = if (s.ep (s.cmd tag).ep).bindings.contains (s.bindingNamed tag) then (s.ep (s.cmd
        tag).ep).bindings else (s.ep (s.cmd tag).ep).bindings ++ [(s.bindingNamed tag)]) ∧
      completes s t tag {} ∧
      (∀ e, e ≠ (s.cmd tag).ep → t.ep e = s.ep e) ∧
      unchangedBut [.eps, .tags, .cqs, .cmds] (s.letGo tag) t) ∧
  (∀ (tag : TagNo) (s : State), s.mayBegin tag 0x34 1 = true → firstCode [s.ownScoped tag] = none → (s.cq (s.bindingNamed tag).2).isEvent
    = true →
    ∃ t, exec (.eventArmUnbind tag) s = .next t ∧
      (t.ep (s.cmd tag).ep).bindings = (s.ep (s.cmd tag).ep).bindings.filter (· != (s.bindingNamed tag)) ∧
      completes s t tag {} ∧
      (∀ e, e ≠ (s.cmd tag).ep → t.ep e = s.ep e) ∧
      unchangedBut [.eps, .tags, .cqs, .cmds] (s.letGo tag) t) ∧
  (∀ (tag : TagNo) (s : State), s.mayBegin tag 0x34 0 = true → firstCode [s.ownScoped tag] = none → (s.cq (s.bindingNamed tag).2).isEvent
    = false →
    ∃ t, exec (.eventArmBind tag) s = .next t ∧
      completes s t tag (badField 40) ∧
      t.eps = s.eps ∧
      unchangedBut [.eps, .tags, .cqs, .cmds] (s.letGo tag) t) ∧
  (∀ (tag : TagNo) (s : State), s.mayBegin tag 0x34 1 = true → firstCode [s.ownScoped tag] = none → (s.cq (s.bindingNamed tag).2).isEvent
    = false →
    ∃ t, exec (.eventArmUnbind tag) s = .next t ∧
      completes s t tag (badField 40) ∧
      t.eps = s.eps ∧
      unchangedBut [.eps, .tags, .cqs, .cmds] (s.letGo tag) t) ∧
  (∀ (tag : TagNo) (k : Nat) (s : State), s.mayBegin tag 0x34 0 = true → firstCode [s.ownScoped tag] = some k →
    ∃ t, exec (.eventArmBind tag) s = .next t ∧
      completes s t tag (conflict k) ∧
      (∀ k, k ≠ (tag : Nat) → t.cmd k = s.cmd k) ∧
      unchangedBut [.tags, .cmds, .cqs] (s.letGo tag) t) ∧
  (∀ (tag : TagNo) (k : Nat) (s : State), s.mayBegin tag 0x34 1 = true → firstCode [s.ownScoped tag] = some k →
    ∃ t, exec (.eventArmUnbind tag) s = .next t ∧
      completes s t tag (conflict k) ∧
      (∀ k, k ≠ (tag : Nat) → t.cmd k = s.cmd k) ∧
      unchangedBut [.tags, .cmds, .cqs] (s.letGo tag) t)

/-- CREATE, LOCK, UNLOCK and ERASE end with the first state code of theirs that holds. Those that need a token end with status 0x0500
without one and with 0x0501 where it does not verify: the nonce goes, with one event and one count. CREATE makes an EMPTY domain ACTIVE with
its key in key RAM and reports the state of another; LOCK of an ACTIVE domain makes the checks see it LOCKED and, once no command needs its
key, makes it LOCKED and takes the key from key RAM; UNLOCK makes a LOCKED domain ACTIVE unless both copies fail; ERASE makes the checks see
a domain ERASED and, once no command needs its key, destroys the key with one event, the domain being ERASED or released as EMPTY. An ERASE
or LOCK whose command an endpoint reset has discarded completes its change all the same. Other domains stay as they are. A command that
offers an event finds room in its source's buffer (R548; FaultControlAndAcceptance states the hold). -/
def Obligations.KeyManagement : Prop :=
  (∀ (tag : TagNo) (token : List Byte) (k : Nat) (s : State), s.mayBegin tag 0x2D 1 = true → s.hostOk (s.cmd tag).ep = true → firstCode
    [(s.kdState (s.kdArg tag) == .erased, 0x0012)] = some k →
    ∃ t, exec (.keyMgmtCreate tag token) s = .next t ∧
      completes s t tag (conflict k) ∧
      (∀ k, k ≠ (tag : Nat) → t.cmd k = s.cmd k) ∧
      unchangedBut [.tags, .cmds, .cqs] (s.letGo tag) t) ∧
  (∀ (tag : TagNo) (token : List Byte) (s : State), s.mayBegin tag 0x2D 1 = true → s.hostOk (s.cmd tag).ep = true → firstCode [(s.kdState
    (s.kdArg tag) == .erased, 0x0012)] = none → (s.cmd tag).pkt.mptr = 0 →
    ∃ t, exec (.keyMgmtCreate tag token) s = .next t ∧
      completes s t tag { status := 0x0500 } ∧
      (∀ k, k ≠ (tag : Nat) → t.cmd k = s.cmd k) ∧
      unchangedBut [.tags, .cmds, .cqs] (s.letGo tag) t) ∧
  (∀ (tag : TagNo) (token : List Byte) (c : Nat) (s : State), s.mayBegin tag 0x2D 1 = true → s.hostOk (s.cmd tag).ep = true → firstCode
    [(s.kdState (s.kdArg tag) == .erased, 0x0012)] = none → (s.cmd tag).pkt.mptr ≠ 0 → s.tokenFault (s.cmd tag).ep (s.cmd tag).pkt token
    [] false = some c → s.eventRoom = true →
    ∃ t, exec (.keyMgmtCreate tag token) s = .next t ∧
      completes s t tag { status := 0x0501, r0 := c } ∧
      (t.ep (s.cmd tag).ep).nonce = none ∧
      (∀ e, e ≠ (s.cmd tag).ep → t.ep e = s.ep e) ∧
      offered t (mkMsg 15 0 3 c) ∧
      t.counter 0x010F0020 = Ctr.add 31 1 (s.counter 0x010F0020) ∧
      (∀ k, k ≠ (tag : Nat) → t.cmd k = s.cmd k) ∧
      unchangedBut [.tags, .cmds, .cqs, .eps, .flt, .ctr] (s.letGo tag) t) ∧
  (∀ (tag : TagNo) (token : List Byte) (s : State), s.mayBegin tag 0x2D 1 = true → s.hostOk (s.cmd tag).ep = true → firstCode [(s.kdState
    (s.kdArg tag) == .erased, 0x0012)] = none → (s.cmd tag).pkt.mptr ≠ 0 → s.eventRoom = true →
    ∃ t, exec (.keyMgmtCreate tag token) s = .next t ∧
      (s.tokenFault (s.cmd tag).ep (s.cmd tag).pkt token [] false = none → (t.ep (s.cmd tag).ep).nonce = none ∧ (s.kdState (s.kdArg tag) =
        .empty → (t.kd (s.kdArg tag)).st = .active ∧ (t.kd (s.kdArg tag)).good0 = true ∧ (t.kd (s.kdArg tag)).good1 = true ∧ s.kdArg tag ∈
        t.sec.keyRam ∧ completes s t tag {}) ∧ (s.kdState (s.kdArg tag) ≠ .empty → t.nor.kds = s.nor.kds ∧ completes s t tag
        { r0 := kdCode (s.kdState (s.kdArg tag)) }) ∧ (∀ j, j ≠ s.kdArg tag → t.kd j = s.kd j)) ∧
      unchangedBut [.free, .nor, .ctr, .flt, .eps, .tags, .cqs, .cmds, .sec] (s.letGo tag) t) ∧
  (∀ (tag : TagNo) (k : Nat) (s : State), s.mayBegin tag 0x2D 2 = true → firstCode [(s.barrierUses tag (s.kdArg tag), 0x0014)] = some k →
    ∃ t, exec (.keyMgmtLock tag) s = .next t ∧
      completes s t tag (conflict k) ∧
      (∀ k, k ≠ (tag : Nat) → t.cmd k = s.cmd k) ∧
      unchangedBut [.tags, .cmds, .cqs] (s.letGo tag) t) ∧
  (∀ (tag : TagNo) (s : State), s.mayBegin tag 0x2D 2 = true → firstCode [(s.barrierUses tag (s.kdArg tag), 0x0014)] = none → s.kdState
    (s.kdArg tag) = .active → s.keyInFlight (s.kdArg tag) = false →
    ∃ t, exec (.keyMgmtLock tag) s = .next t ∧
      (t.kd (s.kdArg tag)).st = .locked ∧ (t.kd (s.kdArg tag)).key = (s.kd (s.kdArg tag)).key ∧ t.sec.keyRam = s.sec.keyRam.filter (· !=
        s.kdArg tag) ∧
      completes s t tag {} ∧
      (∀ j, j ≠ s.kdArg tag → t.kd j = s.kd j) ∧
      unchangedBut [.nor, .tags, .cqs, .cmds, .mgt, .sec] (s.letGo tag) t) ∧
  (∀ (tag : TagNo) (s : State), s.mayBegin tag 0x2D 2 = true → firstCode [(s.barrierUses tag (s.kdArg tag), 0x0014)] = none → s.kdState
    (s.kdArg tag) = .active → s.keyInFlight (s.kdArg tag) = true →
    ∃ t, exec (.keyMgmtLock tag) s = .next t ∧
      t.kdState (s.kdArg tag) = .locked ∧ t.nor.kds = s.nor.kds ∧ t.sec.keyRam = s.sec.keyRam ∧
      t.cmd tag = { s.cmd tag with phase := .executing } ∧
      (∀ j, j ≠ s.kdArg tag → t.kd j = s.kd j) ∧
      (∀ k, k ≠ (tag : Nat) → t.cmd k = s.cmd k) ∧
      unchangedBut [.free, .nor, .log, .pwr, .mns, .cal, .hdas, .mus, .store, .tags, .cqs, .cmds, .mgt, .buf, .bca, .sec] s t) ∧
  (∀ (tag : TagNo) (s : State), s.mayBegin tag 0x2D 2 = true → firstCode [(s.barrierUses tag (s.kdArg tag), 0x0014)] = none → s.kdState
    (s.kdArg tag) ≠ .active →
    ∃ t, exec (.keyMgmtLock tag) s = .next t ∧
      t.nor.kds = s.nor.kds ∧
      completes s t tag {} ∧
      unchangedBut [.nor, .tags, .cqs, .cmds, .mgt, .sec] (s.letGo tag) t) ∧
  (∀ (tag : TagNo) (s : State), s.keyWaits tag 2 = true → s.keyInFlight (s.kdArg tag) = false →
    ∃ t, exec (.keyMgmtLock tag) s = .next t ∧
      ((t.kd (s.kdArg tag)).st = if (s.kd (s.kdArg tag)).st == .active then .locked else (s.kd (s.kdArg tag)).st) ∧
      (t.kd (s.kdArg tag)).key = (s.kd (s.kdArg tag)).key ∧
      t.sec = { s.sec with
          keyRam := s.sec.keyRam.filter (· != (s.kdArg tag)), keyMarks := s.sec.keyMarks.filter (· != ((s.kdArg tag), false)) } ∧
      completes s t tag {} ∧
      (∀ j, j ≠ s.kdArg tag → t.kd j = s.kd j) ∧
      unchangedBut [.free, .nor, .log, .pwr, .mns, .cal, .hdas, .mus, .store, .tags, .cqs, .cmds, .mgt, .buf, .bca, .sec] s t) ∧
  (∀ (tag : TagNo) (s : State), s.keyWaits tag 2 = true → s.keyInFlight (s.kdArg tag) = true →
    exec (.keyMgmtLock tag) s = .next s) ∧
  (∀ (tag : TagNo) (token : List Byte) (k : Nat) (s : State), s.mayBegin tag 0x2D 3 = true → s.hostOk (s.cmd tag).ep = true → firstCode
    [(s.kdState (s.kdArg tag) == .erased, 0x0012)] = some k →
    ∃ t, exec (.keyMgmtUnlock tag token) s = .next t ∧
      completes s t tag (conflict k) ∧
      (∀ k, k ≠ (tag : Nat) → t.cmd k = s.cmd k) ∧
      unchangedBut [.tags, .cmds, .cqs] (s.letGo tag) t) ∧
  (∀ (tag : TagNo) (token : List Byte) (s : State), s.mayBegin tag 0x2D 3 = true → s.hostOk (s.cmd tag).ep = true → firstCode [(s.kdState
    (s.kdArg tag) == .erased, 0x0012)] = none → (s.cmd tag).pkt.mptr = 0 →
    ∃ t, exec (.keyMgmtUnlock tag token) s = .next t ∧
      completes s t tag { status := 0x0500 } ∧
      (∀ k, k ≠ (tag : Nat) → t.cmd k = s.cmd k) ∧
      unchangedBut [.tags, .cmds, .cqs] (s.letGo tag) t) ∧
  (∀ (tag : TagNo) (token : List Byte) (c : Nat) (s : State), s.mayBegin tag 0x2D 3 = true → s.hostOk (s.cmd tag).ep = true → firstCode
    [(s.kdState (s.kdArg tag) == .erased, 0x0012)] = none → (s.cmd tag).pkt.mptr ≠ 0 → s.tokenFault (s.cmd tag).ep (s.cmd tag).pkt token
    [] false = some c → s.eventRoom = true →
    ∃ t, exec (.keyMgmtUnlock tag token) s = .next t ∧
      completes s t tag { status := 0x0501, r0 := c } ∧
      (t.ep (s.cmd tag).ep).nonce = none ∧
      (∀ e, e ≠ (s.cmd tag).ep → t.ep e = s.ep e) ∧
      offered t (mkMsg 15 0 3 c) ∧
      t.counter 0x010F0020 = Ctr.add 31 1 (s.counter 0x010F0020) ∧
      (∀ k, k ≠ (tag : Nat) → t.cmd k = s.cmd k) ∧
      unchangedBut [.tags, .cmds, .cqs, .eps, .flt, .ctr] (s.letGo tag) t) ∧
  (∀ (tag : TagNo) (token : List Byte) (s : State), s.mayBegin tag 0x2D 3 = true → s.hostOk (s.cmd tag).ep = true → firstCode [(s.kdState
    (s.kdArg tag) == .erased, 0x0012)] = none → (s.cmd tag).pkt.mptr ≠ 0 → s.eventRoom = true →
    ∃ t, exec (.keyMgmtUnlock tag token) s = .next t ∧
      (s.tokenFault (s.cmd tag).ep (s.cmd tag).pkt token [] false = none → (t.ep (s.cmd tag).ep).nonce = none ∧ ((s.kd (s.kdArg tag)).st =
        .locked → (s.kd (s.kdArg tag)).good0 = true ∨ (s.kd (s.kdArg tag)).good1 = true → (t.kd (s.kdArg tag)).st = .active ∧ s.kdArg tag
        ∈ t.sec.keyRam ∧ completes s t tag {}) ∧ ((s.kd (s.kdArg tag)).st = .locked → (s.kd (s.kdArg tag)).good0 = false → (s.kd (s.kdArg
        tag)).good1 = false → t.nor.kds = s.nor.kds ∧ completes s t tag { status := 0x0401 }) ∧ ((s.kd (s.kdArg tag)).st ≠ .locked →
        t.nor.kds = s.nor.kds ∧ completes s t tag {}) ∧ (∀ j, j ≠ s.kdArg tag → t.kd j = s.kd j)) ∧
      unchangedBut [.nor, .ctr, .flt, .eps, .tags, .cqs, .cmds, .sec] (s.letGo tag) t) ∧
  (∀ (tag : TagNo) (token : List Byte) (k : Nat) (s : State), s.mayBegin tag 0x2D 4 = true → s.hostOk (s.cmd tag).ep = true → firstCode
    [(s.barrierUses tag (s.kdArg tag), 0x0014), (s.kdState (s.kdArg tag) == .erased, 0x0012)] = some k →
    ∃ t, exec (.keyMgmtErase tag token) s = .next t ∧
      completes s t tag (conflict k) ∧
      (∀ k, k ≠ (tag : Nat) → t.cmd k = s.cmd k) ∧
      unchangedBut [.tags, .cmds, .cqs] (s.letGo tag) t) ∧
  (∀ (tag : TagNo) (token : List Byte) (s : State), s.mayBegin tag 0x2D 4 = true → s.hostOk (s.cmd tag).ep = true → firstCode
    [(s.barrierUses tag (s.kdArg tag), 0x0014), (s.kdState (s.kdArg tag) == .erased, 0x0012)] = none → (s.cmd tag).pkt.mptr = 0 →
    ∃ t, exec (.keyMgmtErase tag token) s = .next t ∧
      completes s t tag { status := 0x0500 } ∧
      (∀ k, k ≠ (tag : Nat) → t.cmd k = s.cmd k) ∧
      unchangedBut [.tags, .cmds, .cqs] (s.letGo tag) t) ∧
  (∀ (tag : TagNo) (token : List Byte) (c : Nat) (s : State), s.mayBegin tag 0x2D 4 = true → s.hostOk (s.cmd tag).ep = true → firstCode
    [(s.barrierUses tag (s.kdArg tag), 0x0014), (s.kdState (s.kdArg tag) == .erased, 0x0012)] = none → (s.cmd tag).pkt.mptr ≠ 0 →
    s.tokenFault (s.cmd tag).ep (s.cmd tag).pkt token [] false = some c → s.eventRoom = true →
    ∃ t, exec (.keyMgmtErase tag token) s = .next t ∧
      completes s t tag { status := 0x0501, r0 := c } ∧
      (t.ep (s.cmd tag).ep).nonce = none ∧
      (∀ e, e ≠ (s.cmd tag).ep → t.ep e = s.ep e) ∧
      offered t (mkMsg 15 0 3 c) ∧
      t.counter 0x010F0020 = Ctr.add 31 1 (s.counter 0x010F0020) ∧
      (∀ k, k ≠ (tag : Nat) → t.cmd k = s.cmd k) ∧
      unchangedBut [.tags, .cmds, .cqs, .eps, .flt, .ctr] (s.letGo tag) t) ∧
  (∀ (tag : TagNo) (token : List Byte) (s : State), s.mayBegin tag 0x2D 4 = true → s.hostOk (s.cmd tag).ep = true → firstCode
    [(s.barrierUses tag (s.kdArg tag), 0x0014), (s.kdState (s.kdArg tag) == .erased, 0x0012)] = none → (s.cmd tag).pkt.mptr ≠ 0 →
    s.eventRoom = true →
    ∃ t, exec (.keyMgmtErase tag token) s = .next t ∧
      (s.tokenFault (s.cmd tag).ep (s.cmd tag).pkt token [] false = none → (t.ep (s.cmd tag).ep).nonce = none ∧ (s.kdState (s.kdArg tag) =
        .empty → t.nor.kds = s.nor.kds ∧ completes s t tag {}) ∧ (s.kdState (s.kdArg tag) ≠ .empty → s.keyInFlight (s.kdArg tag) = false →
        ((t.kd (s.kdArg tag)).st = .erased ∨ (t.kd (s.kdArg tag)).st = .empty) ∧ (t.kd (s.kdArg tag)).key = 0 ∧ s.kdArg tag ∉ t.sec.keyRam
        ∧ offered t (mkMsg 15 0 6 (s.kdArg tag)) ∧ (t.tag tag).st = .posted) ∧ (s.kdState (s.kdArg tag) ≠ .empty → s.keyInFlight (s.kdArg
        tag) = true → t.kdState (s.kdArg tag) = .erased ∧ t.nor.kds = s.nor.kds ∧ t.sec.keyRam = s.sec.keyRam ∧ (t.cmd tag).phase =
        .executing) ∧ (∀ j, j ≠ s.kdArg tag → t.kd j = s.kd j)) ∧
      unchangedBut [.free, .nor, .ctr, .flt, .log, .pwr, .mns, .cal, .hdas, .mus, .store, .eps, .tags, .cqs, .cmds, .mgt, .buf, .bca,
        .sec] s t) ∧
  (∀ (tag : TagNo) (token : List Byte) (s : State), s.keyWaits tag 4 = true → s.keyInFlight (s.kdArg tag) = false → s.eventRoom = true →
    ∃ t, exec (.keyMgmtErase tag token) s = .next t ∧
      (((t.kd (s.kdArg tag)).st = .erased ∨ (t.kd (s.kdArg tag)).st = .empty) ∧ (t.kd (s.kdArg tag)).key = 0 ∧ t.sec.keyMarks =
        s.sec.keyMarks.filter (· != ((s.kdArg tag), true)) ∧ s.kdArg tag ∉ t.sec.keyRam) ∧
      offered t (mkMsg 15 0 6 (s.kdArg tag)) ∧
      (t.tag tag).st = .posted ∧
      unchangedBut [.free, .nor, .ctr, .flt, .log, .pwr, .mns, .cal, .hdas, .mus, .store, .eps, .tags, .cqs, .cmds, .mgt, .buf, .bca,
        .sec] s t) ∧
  (∀ (tag : TagNo) (c : Cmd) (s : State), s.orphan tag 0x2D 2 = some c → s.keyInFlight c.kd = false →
    ∃ t, exec (.keyMgmtLock tag) s = .next t ∧
      t.sec = { s.sec with keyRam := s.sec.keyRam.filter (· != c.kd), keyMarks := s.sec.keyMarks.filter (· != (c.kd, false)) } ∧
      t.mgt = { s.mgt with orphans := s.mgt.orphans.erase c } ∧
      ((t.kd c.kd).st = if (s.kd c.kd).st == .active then .locked else (s.kd c.kd).st) ∧
      (∀ j, j ≠ c.kd → t.kd j = s.kd j) ∧
      unchangedBut [.nor, .sec, .mgt] s t ∧ t.nor = { s.nor with kds := t.nor.kds }) ∧
  (∀ (tag : TagNo) (token : List Byte) (c : Cmd) (s : State), s.orphan tag 0x2D 4 = some c → s.keyInFlight c.kd = false → s.eventRoom =
    true →
    ∃ t, exec (.keyMgmtErase tag token) s = .next t ∧
      (((t.kd c.kd).st = .erased ∨ (t.kd c.kd).st = .empty) ∧ (t.kd c.kd).key = 0 ∧ t.sec.keyRam = s.sec.keyRam.filter (· != c.kd) ∧
        t.sec.keyMarks = s.sec.keyMarks.filter (· != (c.kd, true))) ∧
      t.mgt.orphans = s.mgt.orphans.erase c ∧
      offered t (mkMsg 15 0 6 c.kd) ∧
      unchangedBut [.free, .nor, .ctr, .flt, .log, .pwr, .mns, .cal, .hdas, .mus, .store, .eps, .tags, .cqs, .cmds, .mgt, .buf, .bca,
        .sec] s t)

/-- Those that need a token end with status 0x0500 without one and with 0x0501 where it does not verify: the nonce goes, with one event and
one count. ENROL_CUSTODIAN, which needs no token while no slot is enrolled, and ENROL_MAKER_KEY store a key that lies on the curve, and end
with INVALID_FIELD at offset 24 for another, for a key of another slot or without a free KEY_ID; REMOVE empties the slot or KEY_ID. Other
slots and KEY_IDs stay. STATUS reports the state of a domain and the number of its zones. AUTH_NONCE gives the endpoint a new nonce, drawn
as a free value, and returns it. A command that offers an event finds room in its source's buffer (R548; FaultControlAndAcceptance states
the hold). -/
def Obligations.EnrolledKeys : Prop :=
  (∀ (tag : TagNo) (token data : List Byte) (s : State), s.mayBegin tag 0x2D 5 = true → s.hostOk (s.cmd tag).ep = true → data.length =
    (s.cmd tag).pkt.p5.toNat → s.nor.custodians = [] →
    ∃ t, exec (.keyMgmtEnrolCustodian tag token data) s = .next t ∧
      (Config.onCurve data = true → s.enrolledElsewhere (s.slotArg tag) data = false → sget t.nor.custodians (s.slotArg tag) [] = data ∧
        completes s t tag {}) ∧
      (Config.onCurve data = false ∨ s.enrolledElsewhere (s.slotArg tag) data = true → t.nor.custodians = s.nor.custodians ∧ completes s t
        tag (badField 24)) ∧
      (∀ j, j ≠ s.slotArg tag → sget t.nor.custodians j [] = sget s.nor.custodians j []) ∧
      (t.tag tag).st = .posted ∧ t.cmd tag = {} ∧
      unchangedBut [.nor, .tags, .cmds, .cqs] (s.letGo tag) t) ∧
  (∀ (tag : TagNo) (token data : List Byte) (s : State), s.mayBegin tag 0x2D 5 = true → s.hostOk (s.cmd tag).ep = true → data.length =
    (s.cmd tag).pkt.p5.toNat → s.nor.custodians ≠ [] → (s.cmd tag).pkt.mptr = 0 →
    ∃ t, exec (.keyMgmtEnrolCustodian tag token data) s = .next t ∧
      completes s t tag { status := 0x0500 } ∧
      (∀ k, k ≠ (tag : Nat) → t.cmd k = s.cmd k) ∧
      unchangedBut [.tags, .cmds, .cqs] (s.letGo tag) t) ∧
  (∀ (tag : TagNo) (token data : List Byte) (c : Nat) (s : State), s.mayBegin tag 0x2D 5 = true → s.hostOk (s.cmd tag).ep = true →
    data.length = (s.cmd tag).pkt.p5.toNat → s.nor.custodians ≠ [] → (s.cmd tag).pkt.mptr ≠ 0 → s.tokenFault (s.cmd tag).ep (s.cmd
    tag).pkt token data true = some c → s.eventRoom = true →
    ∃ t, exec (.keyMgmtEnrolCustodian tag token data) s = .next t ∧
      completes s t tag { status := 0x0501, r0 := c } ∧
      (t.ep (s.cmd tag).ep).nonce = none ∧
      (∀ e, e ≠ (s.cmd tag).ep → t.ep e = s.ep e) ∧
      offered t (mkMsg 15 0 3 c) ∧
      t.counter 0x010F0020 = Ctr.add 31 1 (s.counter 0x010F0020) ∧
      (∀ k, k ≠ (tag : Nat) → t.cmd k = s.cmd k) ∧
      unchangedBut [.tags, .cmds, .cqs, .eps, .flt, .ctr] (s.letGo tag) t) ∧
  (∀ (tag : TagNo) (token data : List Byte) (s : State), s.mayBegin tag 0x2D 5 = true → s.hostOk (s.cmd tag).ep = true → data.length =
    (s.cmd tag).pkt.p5.toNat → s.nor.custodians ≠ [] → (s.cmd tag).pkt.mptr ≠ 0 → s.eventRoom = true →
    ∃ t, exec (.keyMgmtEnrolCustodian tag token data) s = .next t ∧
      (s.tokenFault (s.cmd tag).ep (s.cmd tag).pkt token data true = none → (t.ep (s.cmd tag).ep).nonce = none ∧ (Config.onCurve data =
        true → s.enrolledElsewhere (s.slotArg tag) data = false → sget t.nor.custodians (s.slotArg tag) [] = data ∧ completes s t tag {})
        ∧ (Config.onCurve data = false ∨ s.enrolledElsewhere (s.slotArg tag) data = true → t.nor.custodians = s.nor.custodians ∧ completes
        s t tag (badField 24)) ∧ (∀ j, j ≠ s.slotArg tag → sget t.nor.custodians j [] = sget s.nor.custodians j [])) ∧
      unchangedBut [.nor, .ctr, .flt, .eps, .tags, .cqs, .cmds] (s.letGo tag) t) ∧
  (∀ (tag : TagNo) (token : List Byte) (s : State), s.mayBegin tag 0x2D 6 = true → s.hostOk (s.cmd tag).ep = true → (s.cmd tag).pkt.mptr =
    0 →
    ∃ t, exec (.keyMgmtRemoveCustodian tag token) s = .next t ∧
      completes s t tag { status := 0x0500 } ∧
      (∀ k, k ≠ (tag : Nat) → t.cmd k = s.cmd k) ∧
      unchangedBut [.tags, .cmds, .cqs] (s.letGo tag) t) ∧
  (∀ (tag : TagNo) (token : List Byte) (c : Nat) (s : State), s.mayBegin tag 0x2D 6 = true → s.hostOk (s.cmd tag).ep = true → (s.cmd
    tag).pkt.mptr ≠ 0 → s.tokenFault (s.cmd tag).ep (s.cmd tag).pkt token [] false = some c → s.eventRoom = true →
    ∃ t, exec (.keyMgmtRemoveCustodian tag token) s = .next t ∧
      completes s t tag { status := 0x0501, r0 := c } ∧
      (t.ep (s.cmd tag).ep).nonce = none ∧
      (∀ e, e ≠ (s.cmd tag).ep → t.ep e = s.ep e) ∧
      offered t (mkMsg 15 0 3 c) ∧
      t.counter 0x010F0020 = Ctr.add 31 1 (s.counter 0x010F0020) ∧
      (∀ k, k ≠ (tag : Nat) → t.cmd k = s.cmd k) ∧
      unchangedBut [.tags, .cmds, .cqs, .eps, .flt, .ctr] (s.letGo tag) t) ∧
  (∀ (tag : TagNo) (token : List Byte) (s : State), s.mayBegin tag 0x2D 6 = true → s.hostOk (s.cmd tag).ep = true → (s.cmd tag).pkt.mptr ≠
    0 → s.eventRoom = true →
    ∃ t, exec (.keyMgmtRemoveCustodian tag token) s = .next t ∧
      (s.tokenFault (s.cmd tag).ep (s.cmd tag).pkt token [] false = none → (t.ep (s.cmd tag).ep).nonce = none ∧ sget t.nor.custodians
        (s.slotArg tag) [] = [] ∧ (∀ j, j ≠ s.slotArg tag → sget t.nor.custodians j [] = sget s.nor.custodians j []) ∧ completes s t tag
        {}) ∧
      unchangedBut [.nor, .ctr, .flt, .eps, .tags, .cqs, .cmds] (s.letGo tag) t) ∧
  (∀ (tag : TagNo) (token data : List Byte) (s : State), s.mayBegin tag 0x2D 7 = true → s.hostOk (s.cmd tag).ep = true → data.length =
    (s.cmd tag).pkt.p5.toNat → (s.cmd tag).pkt.mptr = 0 →
    ∃ t, exec (.keyMgmtEnrolMakerKey tag token data) s = .next t ∧
      completes s t tag { status := 0x0500 } ∧
      (∀ k, k ≠ (tag : Nat) → t.cmd k = s.cmd k) ∧
      unchangedBut [.tags, .cmds, .cqs] (s.letGo tag) t) ∧
  (∀ (tag : TagNo) (token data : List Byte) (c : Nat) (s : State), s.mayBegin tag 0x2D 7 = true → s.hostOk (s.cmd tag).ep = true →
    data.length = (s.cmd tag).pkt.p5.toNat → (s.cmd tag).pkt.mptr ≠ 0 → s.tokenFault (s.cmd tag).ep (s.cmd tag).pkt token data true = some
    c → s.eventRoom = true →
    ∃ t, exec (.keyMgmtEnrolMakerKey tag token data) s = .next t ∧
      completes s t tag { status := 0x0501, r0 := c } ∧
      (t.ep (s.cmd tag).ep).nonce = none ∧
      (∀ e, e ≠ (s.cmd tag).ep → t.ep e = s.ep e) ∧
      offered t (mkMsg 15 0 3 c) ∧
      t.counter 0x010F0020 = Ctr.add 31 1 (s.counter 0x010F0020) ∧
      (∀ k, k ≠ (tag : Nat) → t.cmd k = s.cmd k) ∧
      unchangedBut [.tags, .cmds, .cqs, .eps, .flt, .ctr] (s.letGo tag) t) ∧
  (∀ (tag : TagNo) (token data : List Byte) (s : State), s.mayBegin tag 0x2D 7 = true → s.hostOk (s.cmd tag).ep = true → data.length =
    (s.cmd tag).pkt.p5.toNat → (s.cmd tag).pkt.mptr ≠ 0 → s.eventRoom = true →
    ∃ t, exec (.keyMgmtEnrolMakerKey tag token data) s = .next t ∧
      (s.tokenFault (s.cmd tag).ep (s.cmd tag).pkt token data true = none → (t.ep (s.cmd tag).ep).nonce = none ∧ ((field data 0 4) ≠ 0 →
        Config.onCurve (data.drop 4) = true → s.nor.makers.length < 16 ∨ (s.nor.makers.map (·.1)).contains (field data 0 4) = true → sget
        t.nor.makers (field data 0 4) [] = data.drop 4 ∧ completes s t tag {}) ∧ ((field data 0 4) = 0 ∨ Config.onCurve (data.drop 4) =
        false ∨ (16 ≤ s.nor.makers.length ∧ (s.nor.makers.map (·.1)).contains (field data 0 4) = false) → t.nor.makers = s.nor.makers ∧
        completes s t tag (badField 24)) ∧ (∀ j, j ≠ (field data 0 4) → sget t.nor.makers j [] = sget s.nor.makers j [])) ∧
      unchangedBut [.nor, .ctr, .flt, .eps, .tags, .cqs, .cmds] (s.letGo tag) t) ∧
  (∀ (tag : TagNo) (token : List Byte) (s : State), s.mayBegin tag 0x2D 8 = true → s.hostOk (s.cmd tag).ep = true → (s.cmd tag).pkt.mptr =
    0 →
    ∃ t, exec (.keyMgmtRemoveMakerKey tag token) s = .next t ∧
      completes s t tag { status := 0x0500 } ∧
      (∀ k, k ≠ (tag : Nat) → t.cmd k = s.cmd k) ∧
      unchangedBut [.tags, .cmds, .cqs] (s.letGo tag) t) ∧
  (∀ (tag : TagNo) (token : List Byte) (c : Nat) (s : State), s.mayBegin tag 0x2D 8 = true → s.hostOk (s.cmd tag).ep = true → (s.cmd
    tag).pkt.mptr ≠ 0 → s.tokenFault (s.cmd tag).ep (s.cmd tag).pkt token [] false = some c → s.eventRoom = true →
    ∃ t, exec (.keyMgmtRemoveMakerKey tag token) s = .next t ∧
      completes s t tag { status := 0x0501, r0 := c } ∧
      (t.ep (s.cmd tag).ep).nonce = none ∧
      (∀ e, e ≠ (s.cmd tag).ep → t.ep e = s.ep e) ∧
      offered t (mkMsg 15 0 3 c) ∧
      t.counter 0x010F0020 = Ctr.add 31 1 (s.counter 0x010F0020) ∧
      (∀ k, k ≠ (tag : Nat) → t.cmd k = s.cmd k) ∧
      unchangedBut [.tags, .cmds, .cqs, .eps, .flt, .ctr] (s.letGo tag) t) ∧
  (∀ (tag : TagNo) (token : List Byte) (s : State), s.mayBegin tag 0x2D 8 = true → s.hostOk (s.cmd tag).ep = true → (s.cmd tag).pkt.mptr ≠
    0 → s.eventRoom = true →
    ∃ t, exec (.keyMgmtRemoveMakerKey tag token) s = .next t ∧
      (s.tokenFault (s.cmd tag).ep (s.cmd tag).pkt token [] false = none → (t.ep (s.cmd tag).ep).nonce = none ∧ sget t.nor.makers (s.cmd
        tag).pkt.p4.toNat [] = [] ∧ (∀ j, j ≠ (s.cmd tag).pkt.p4.toNat → sget t.nor.makers j [] = sget s.nor.makers j []) ∧ completes s t
        tag {}) ∧
      unchangedBut [.nor, .ctr, .flt, .eps, .tags, .cqs, .cmds] (s.letGo tag) t) ∧
  (∀ (tag : TagNo) (s : State), s.mayBegin tag 0x2D 9 = true →
    ∃ t, exec (.keyMgmtStatus tag) s = .next t ∧
      completes s t tag { r0 := kdCode (s.kd (s.kdArg tag)).st + (s.boundZones (s.kdArg tag)).length * 2 ^ 32 } ∧
      t.nor = s.nor ∧
      unchangedBut [.tags, .cqs, .cmds] (s.letGo tag) t) ∧
  (∀ (tag : TagNo) (s : State), s.mayBegin tag 0x2E 0 = true →
    ∃ t, exec (.authNonce tag) s = .next t ∧
      (t.ep (s.cmd tag).ep).nonce.isSome = true ∧
      completes s t tag
          { r0 := ((t.ep (s.cmd tag).ep).nonce.getD 0).toNat % 2 ^ 64, r1 := ((t.ep (s.cmd tag).ep).nonce.getD 0).toNat / 2 ^ 64 } ∧
      (∀ e, e ≠ (s.cmd tag).ep → t.ep e = s.ep e) ∧
      t.free = s.free + 1 ∧
      unchangedBut [.free, .eps, .tags, .cqs, .cmds] (s.letGo tag) t)

/-- IDENTIFY writes the page of the module or of a volume to host memory and succeeds. GET_FEATURE returns the value in force, the stored
value or the factory value; SET_FEATURE stores the value words in NOR and, for any feature but LINK_MODE, puts them in force at once;
features 0x0A and 0x0C need a token, which ends the command with status 0x0500 or 0x0501 where it is missing or does not verify; a zone
limit that puts the sum of all volumes above 40,960 ends it with INVALID_FIELD at offset 40; and 0x0C waits while the log has no place for
its marker. A volume of the other endpoint is refused with NOT_OWNER. A command that offers an event finds room in its source's buffer
(R548; FaultControlAndAcceptance states the hold). -/
def Obligations.IdentifyAndFeatures : Prop :=
  (∀ (tag : TagNo) (s : State), s.mayBegin tag 0x20 0 = true → s.hostOk (s.cmd tag).ep = true → s.eventRoom = true →
    ∃ t, exec (.identifyModule tag) s = .next t ∧
      lastOut t (.hostData tag 0 (s.ep (s.cmd tag).ep).relaxed (s.identifyModule (s.cmd tag).ep)) ∧
      completes s t tag {} ∧
      (∀ k, k ≠ (tag : Nat) → t.cmd k = s.cmd k) ∧
      unchangedBut [.out, .ctr, .flt, .eps, .tags, .cqs, .cmds] (s.letGo tag) t) ∧
  (∀ (tag : TagNo) (s : State), s.mayBegin tag 0x20 1 = true → s.hostOk (s.cmd tag).ep = true → s.eventRoom = true →
    ∃ t, exec (.identifyVolume tag) s = .next t ∧
      lastOut t (.hostData tag 0 (s.ep (s.cmd tag).ep).relaxed (s.identifyVolume (s.cmd tag).pkt.vol)) ∧
      completes s t tag {} ∧
      (∀ k, k ≠ (tag : Nat) → t.cmd k = s.cmd k) ∧
      unchangedBut [.out, .ctr, .flt, .eps, .tags, .cqs, .cmds] (s.letGo tag) t) ∧
  (∀ (tag : TagNo) (s : State), s.mayBegin tag 0x21 0 = true → firstCode [s.ownScoped tag] = none →
    ∃ t, exec (.getFeatureCurrent tag) s = .next t ∧
      completes s t tag (featRes (s.featShown (fidOf (s.cmd tag).pkt) (s.featCurrent (fidOf (s.cmd tag).pkt) (featIdxOf (s.cmd
        tag).pkt)))) ∧
      (∀ k, k ≠ (tag : Nat) → t.cmd k = s.cmd k) ∧
      unchangedBut [.tags, .cqs, .cmds] (s.letGo tag) t) ∧
  (∀ (tag : TagNo) (s : State), s.mayBegin tag 0x21 1 = true → firstCode [s.ownScoped tag] = none →
    ∃ t, exec (.getFeatureSaved tag) s = .next t ∧
      completes s t tag (featRes (s.featShown (fidOf (s.cmd tag).pkt) (s.savedFeature (fidOf (s.cmd tag).pkt) (featIdxOf (s.cmd
        tag).pkt)))) ∧
      (∀ k, k ≠ (tag : Nat) → t.cmd k = s.cmd k) ∧
      unchangedBut [.tags, .cqs, .cmds] (s.letGo tag) t) ∧
  (∀ (tag : TagNo) (s : State), s.mayBegin tag 0x21 2 = true → firstCode [s.ownScoped tag] = none →
    ∃ t, exec (.getFeatureDefault tag) s = .next t ∧
      completes s t tag (featRes (s.featShown (fidOf (s.cmd tag).pkt) (featDefault (fidOf (s.cmd tag).pkt)))) ∧
      (∀ k, k ≠ (tag : Nat) → t.cmd k = s.cmd k) ∧
      unchangedBut [.tags, .cqs, .cmds] (s.letGo tag) t) ∧
  (∀ (tag : TagNo) (k : Nat) (s : State), s.mayBegin tag 0x21 0 = true → firstCode [s.ownScoped tag] = some k →
    ∃ t, exec (.getFeatureCurrent tag) s = .next t ∧
      completes s t tag (conflict k) ∧
      (∀ k, k ≠ (tag : Nat) → t.cmd k = s.cmd k) ∧
      unchangedBut [.tags, .cmds, .cqs] (s.letGo tag) t) ∧
  (∀ (tag : TagNo) (k : Nat) (s : State), s.mayBegin tag 0x21 1 = true → firstCode [s.ownScoped tag] = some k →
    ∃ t, exec (.getFeatureSaved tag) s = .next t ∧
      completes s t tag (conflict k) ∧
      (∀ k, k ≠ (tag : Nat) → t.cmd k = s.cmd k) ∧
      unchangedBut [.tags, .cmds, .cqs] (s.letGo tag) t) ∧
  (∀ (tag : TagNo) (k : Nat) (s : State), s.mayBegin tag 0x21 2 = true → firstCode [s.ownScoped tag] = some k →
    ∃ t, exec (.getFeatureDefault tag) s = .next t ∧
      completes s t tag (conflict k) ∧
      (∀ k, k ≠ (tag : Nat) → t.cmd k = s.cmd k) ∧
      unchangedBut [.tags, .cmds, .cqs] (s.letGo tag) t) ∧
  (∀ (tag : TagNo) (token : List Byte) (k : Nat) (s : State), s.mayBegin tag 0x22 0 = true → fidOf (s.cmd tag).pkt ≠ 0x0A → fidOf (s.cmd
    tag).pkt ≠ 0x0C → firstCode [s.ownScoped tag] = some k →
    ∃ t, exec (.setFeature tag token) s = .next t ∧
      completes s t tag (conflict k) ∧
      (∀ k, k ≠ (tag : Nat) → t.cmd k = s.cmd k) ∧
      unchangedBut [.tags, .cmds, .cqs] (s.letGo tag) t) ∧
  (∀ (tag : TagNo) (token : List Byte) (s : State), s.mayBegin tag 0x22 0 = true → firstCode [s.ownScoped tag] = none → fidOf (s.cmd
    tag).pkt = 8 → 40960 < s.limitSum (s.cmd tag).pkt.vol (s.cmd tag).pkt.p2.toNat →
    ∃ t, exec (.setFeature tag token) s = .next t ∧
      completes s t tag (badField 40) ∧
      (∀ k, k ≠ (tag : Nat) → t.cmd k = s.cmd k) ∧
      unchangedBut [.tags, .cmds, .cqs] (s.letGo tag) t) ∧
  (∀ (tag : TagNo) (token : List Byte) (s : State), s.mayBegin tag 0x22 0 = true → firstCode [s.ownScoped tag] = none → fidOf (s.cmd
    tag).pkt ≠ 0x0A → fidOf (s.cmd tag).pkt ≠ 0x0C → (fidOf (s.cmd tag).pkt = 8 → s.limitSum (s.cmd tag).pkt.vol (s.cmd tag).pkt.p2.toNat
    ≤ 40960) → s.eventRoom = true →
    ∃ t, exec (.setFeature tag token) s = .next t ∧
      sget t.nor.feat (featKey (fidOf (s.cmd tag).pkt) (featIdxOf (s.cmd tag).pkt)) (featDefault (fidOf (s.cmd tag).pkt)) = ((s.cmd
        tag).pkt.p2, (s.cmd tag).pkt.p3, (s.cmd tag).pkt.p4, (s.cmd tag).pkt.p5) ∧
      (fidOf (s.cmd tag).pkt = 1 → t.feat = s.feat) ∧
      (fidOf (s.cmd tag).pkt ≠ 1 → t.feature (fidOf (s.cmd tag).pkt) (featIdxOf (s.cmd tag).pkt) = ((s.cmd tag).pkt.p2, (s.cmd
        tag).pkt.p3, (s.cmd tag).pkt.p4, (s.cmd tag).pkt.p5)) ∧
      completes s t tag {} ∧
      (fidOf (s.cmd tag).pkt = 0x0B → featIdxOf (s.cmd tag).pkt = 0 → t.alert = ((s.ep 0).faultSum != 0 && bit (s.cmd tag).pkt.p2.toNat
        0)) ∧
      unchangedBut [.nor, .ctr, .flt, .log, .eps, .feat, .alert, .tags, .cqs, .cmds] (s.letGo tag) t) ∧
  (∀ (tag : TagNo) (token : List Byte) (s : State), fidOf (s.cmd tag).pkt = 0x0C → s.canMark 0x0433 = false →
    exec (.setFeature tag token) s = .next s) ∧
  (∀ (tag : TagNo) (token : List Byte) (s : State), s.mayBegin tag 0x22 0 = true → s.hostOk (s.cmd tag).ep = true → firstCode [s.ownScoped
    tag] = none → (fidOf (s.cmd tag).pkt = 0x0A ∨ (fidOf (s.cmd tag).pkt = 0x0C ∧ s.canMark 0x0433 = true)) → (s.cmd tag).pkt.mptr = 0 →
    ∃ t, exec (.setFeature tag token) s = .next t ∧
      completes s t tag { status := 0x0500 } ∧
      (∀ k, k ≠ (tag : Nat) → t.cmd k = s.cmd k) ∧
      unchangedBut [.tags, .cmds, .cqs] (s.letGo tag) t) ∧
  (∀ (tag : TagNo) (token : List Byte) (c : Nat) (s : State), s.mayBegin tag 0x22 0 = true → s.hostOk (s.cmd tag).ep = true → firstCode
    [s.ownScoped tag] = none → (fidOf (s.cmd tag).pkt = 0x0A ∨ (fidOf (s.cmd tag).pkt = 0x0C ∧ s.canMark 0x0433 = true)) → (s.cmd
    tag).pkt.mptr ≠ 0 → s.tokenFault (s.cmd tag).ep (s.cmd tag).pkt token [] false = some c → s.eventRoom = true →
    ∃ t, exec (.setFeature tag token) s = .next t ∧
      completes s t tag { status := 0x0501, r0 := c } ∧
      (t.ep (s.cmd tag).ep).nonce = none ∧
      (∀ e, e ≠ (s.cmd tag).ep → t.ep e = s.ep e) ∧
      offered t (mkMsg 15 0 3 c) ∧
      t.counter 0x010F0020 = Ctr.add 31 1 (s.counter 0x010F0020) ∧
      (∀ k, k ≠ (tag : Nat) → t.cmd k = s.cmd k) ∧
      unchangedBut [.tags, .cmds, .cqs, .eps, .flt, .ctr] (s.letGo tag) t) ∧
  (∀ (tag : TagNo) (token : List Byte) (s : State), s.mayBegin tag 0x22 0 = true → s.hostOk (s.cmd tag).ep = true → firstCode [s.ownScoped
    tag] = none → (fidOf (s.cmd tag).pkt = 0x0A ∨ (fidOf (s.cmd tag).pkt = 0x0C ∧ s.canMark 0x0433 = true)) → (s.cmd tag).pkt.mptr ≠ 0 →
    s.eventRoom = true →
    ∃ t, exec (.setFeature tag token) s = .next t ∧
      (s.tokenFault (s.cmd tag).ep (s.cmd tag).pkt token [] false = none → (t.ep (s.cmd tag).ep).nonce = none ∧ sget t.nor.feat (featKey
        (fidOf (s.cmd tag).pkt) (featIdxOf (s.cmd tag).pkt)) (featDefault (fidOf (s.cmd tag).pkt)) = ((s.cmd tag).pkt.p2, (s.cmd
        tag).pkt.p3, (s.cmd tag).pkt.p4, (s.cmd tag).pkt.p5) ∧ (fidOf (s.cmd tag).pkt = 1 → t.feat = s.feat) ∧ (fidOf (s.cmd tag).pkt ≠ 1
        → t.feature (fidOf (s.cmd tag).pkt) (featIdxOf (s.cmd tag).pkt) = ((s.cmd tag).pkt.p2, (s.cmd tag).pkt.p3, (s.cmd tag).pkt.p4,
        (s.cmd tag).pkt.p5)) ∧ completes s t tag {} ∧ (fidOf (s.cmd tag).pkt = 0x0C → t.log.floor = bits (s.cmd tag).pkt.p2.toNat 1 0)) ∧
      unchangedBut [.nor, .ctr, .flt, .log, .eps, .feat, .alert, .tags, .cqs, .cmds] (s.letGo tag) t)

/-- GET_LOG writes the page from the offset on, as far as its length reaches, and returns the length of the page and of what it wrote; the
sequencer messages written leave their queue. CLEAR_LOG empties the fault history, the messages or a scrub summary at once; a clear of the
continuity log needs a token, waits for a place for its marker, and queues it. A volume of the other endpoint is refused with NOT_OWNER. A
command that offers an event finds room in its source's buffer (R548; FaultControlAndAcceptance states the hold). -/
def Obligations.LogPages : Prop :=
  (∀ (tag : TagNo) (s : State), s.mayBegin tag 0x23 0 = true → s.hostOk (s.cmd tag).ep = true → firstCode [s.ownScoped tag] = none →
    s.eventRoom = true →
    ∃ t, exec (.getLog tag) s = .next t ∧
      completes s t tag
          { r0 := (s.logPage (fidOf (s.cmd tag).pkt) (s.cmd tag).pkt.vol (bits (s.cmd tag).pkt.p0.toNat 23 16)).length, r1 := (((s.logPage
                (fidOf (s.cmd tag).pkt) (s.cmd tag).pkt.vol (bits (s.cmd tag).pkt.p0.toNat 23 16)).drop (s.cmd tag).pkt.p2.toNat).take
                (s.cmd tag).pkt.p5.toNat).length } ∧
      ((((s.logPage (fidOf (s.cmd tag).pkt) (s.cmd tag).pkt.vol (bits (s.cmd tag).pkt.p0.toNat 23 16)).drop (s.cmd tag).pkt.p2.toNat).take
        (s.cmd tag).pkt.p5.toNat) ≠ [] → lastOut t (.hostData tag 0 (s.ep (s.cmd tag).ep).relaxed (((s.logPage (fidOf (s.cmd tag).pkt)
        (s.cmd tag).pkt.vol (bits (s.cmd tag).pkt.p0.toNat 23 16)).drop (s.cmd tag).pkt.p2.toNat).take (s.cmd tag).pkt.p5.toNat))) ∧
      ((((s.logPage (fidOf (s.cmd tag).pkt) (s.cmd tag).pkt.vol (bits (s.cmd tag).pkt.p0.toNat 23 16)).drop (s.cmd tag).pkt.p2.toNat).take
        (s.cmd tag).pkt.p5.toNat) = [] → t.out = s.out) ∧
      (fidOf (s.cmd tag).pkt = 3 → t.store.msgs = s.store.msgs.drop ((((s.logPage (fidOf (s.cmd tag).pkt) (s.cmd tag).pkt.vol (bits (s.cmd
        tag).pkt.p0.toNat 23 16)).drop (s.cmd tag).pkt.p2.toNat).take (s.cmd tag).pkt.p5.toNat).length / 16)) ∧
      (fidOf (s.cmd tag).pkt ≠ 3 → t.store.msgs = s.store.msgs) ∧
      (∀ k, k ≠ (tag : Nat) → t.cmd k = s.cmd k) ∧
      unchangedBut [.out, .ctr, .flt, .store, .eps, .tags, .cqs, .cmds] (s.letGo tag) t) ∧
  (∀ (tag : TagNo) (k : Nat) (s : State), s.mayBegin tag 0x23 0 = true → s.hostOk (s.cmd tag).ep = true → firstCode [s.ownScoped tag] =
    some k →
    ∃ t, exec (.getLog tag) s = .next t ∧
      completes s t tag (conflict k) ∧
      (∀ k, k ≠ (tag : Nat) → t.cmd k = s.cmd k) ∧
      unchangedBut [.tags, .cmds, .cqs] (s.letGo tag) t) ∧
  (∀ (tag : TagNo) (token : List Byte) (s : State), s.mayBegin tag 0x24 0 = true → firstCode [s.ownScoped tag] = none → fidOf (s.cmd
    tag).pkt = 1 → s.eventRoom = true →
    ∃ t, exec (.clearLog tag token) s = .next t ∧
      t.flt = { s.flt with hist := [] } ∧
      completes s t tag {} ∧
      (∀ k, k ≠ (tag : Nat) → t.cmd k = s.cmd k) ∧
      unchangedBut [.ctr, .flt, .log, .store, .eps, .tags, .cqs, .cmds, .mgt] (s.letGo tag) t) ∧
  (∀ (tag : TagNo) (token : List Byte) (s : State), s.mayBegin tag 0x24 0 = true → firstCode [s.ownScoped tag] = none → fidOf (s.cmd
    tag).pkt = 3 → s.eventRoom = true →
    ∃ t, exec (.clearLog tag token) s = .next t ∧
      t.store.msgs = [] ∧
      completes s t tag {} ∧
      (∀ k, k ≠ (tag : Nat) → t.cmd k = s.cmd k) ∧
      unchangedBut [.ctr, .flt, .log, .store, .eps, .tags, .cqs, .cmds, .mgt] (s.letGo tag) t) ∧
  (∀ (tag : TagNo) (token : List Byte) (s : State), s.mayBegin tag 0x24 0 = true → firstCode [s.ownScoped tag] = none → fidOf (s.cmd
    tag).pkt = 4 → s.eventRoom = true →
    ∃ t, exec (.clearLog tag token) s = .next t ∧
      ((s.cmd tag).pkt.vol < 32 → sget t.mgt.scrubMedia (s.cmd tag).pkt.vol [] = []) ∧
      (32 ≤ (s.cmd tag).pkt.vol → t.mgt.scrubBuffer = []) ∧
      completes s t tag {} ∧
      (∀ k, k ≠ (tag : Nat) → t.cmd k = s.cmd k) ∧
      unchangedBut [.ctr, .flt, .log, .store, .eps, .tags, .cqs, .cmds, .mgt] (s.letGo tag) t) ∧
  (∀ (tag : TagNo) (token : List Byte) (s : State), fidOf (s.cmd tag).pkt = 2 → s.canMark 0x0432 = false →
    exec (.clearLog tag token) s = .next s) ∧
  (∀ (tag : TagNo) (token : List Byte) (s : State), s.mayBegin tag 0x24 0 = true → s.hostOk (s.cmd tag).ep = true → firstCode [s.ownScoped
    tag] = none → fidOf (s.cmd tag).pkt = 2 → s.canMark 0x0432 = true → (s.cmd tag).pkt.mptr = 0 →
    ∃ t, exec (.clearLog tag token) s = .next t ∧
      completes s t tag { status := 0x0500 } ∧
      (∀ k, k ≠ (tag : Nat) → t.cmd k = s.cmd k) ∧
      unchangedBut [.tags, .cmds, .cqs] (s.letGo tag) t) ∧
  (∀ (tag : TagNo) (token : List Byte) (c : Nat) (s : State), s.mayBegin tag 0x24 0 = true → s.hostOk (s.cmd tag).ep = true → firstCode
    [s.ownScoped tag] = none → fidOf (s.cmd tag).pkt = 2 → s.canMark 0x0432 = true → (s.cmd tag).pkt.mptr ≠ 0 → s.tokenFault (s.cmd
    tag).ep (s.cmd tag).pkt token [] false = some c → s.eventRoom = true →
    ∃ t, exec (.clearLog tag token) s = .next t ∧
      completes s t tag { status := 0x0501, r0 := c } ∧
      (t.ep (s.cmd tag).ep).nonce = none ∧
      (∀ e, e ≠ (s.cmd tag).ep → t.ep e = s.ep e) ∧
      offered t (mkMsg 15 0 3 c) ∧
      t.counter 0x010F0020 = Ctr.add 31 1 (s.counter 0x010F0020) ∧
      (∀ k, k ≠ (tag : Nat) → t.cmd k = s.cmd k) ∧
      unchangedBut [.tags, .cmds, .cqs, .eps, .flt, .ctr] (s.letGo tag) t) ∧
  (∀ (tag : TagNo) (token : List Byte) (s : State), s.mayBegin tag 0x24 0 = true → s.hostOk (s.cmd tag).ep = true → firstCode [s.ownScoped
    tag] = none → fidOf (s.cmd tag).pkt = 2 → s.canMark 0x0432 = true → (s.cmd tag).pkt.mptr ≠ 0 → s.eventRoom = true →
    ∃ t, exec (.clearLog tag token) s = .next t ∧
      (s.tokenFault (s.cmd tag).ep (s.cmd tag).pkt token [] false = none → (t.ep (s.cmd tag).ep).nonce = none ∧ (t.cmd tag).phase =
        .executing ∧ (t.tag tag).st = .accepted ∧ s.log.queue.length < t.log.queue.length) ∧
      unchangedBut [.free, .ctr, .flt, .log, .pwr, .mns, .cal, .hdas, .mus, .store, .eps, .tags, .cqs, .cmds, .mgt, .buf, .bca] s t) ∧
  (∀ (tag : TagNo) (token : List Byte) (k : Nat) (s : State), s.mayBegin tag 0x24 0 = true → fidOf (s.cmd tag).pkt ≠ 2 → firstCode
    [s.ownScoped tag] = some k →
    ∃ t, exec (.clearLog tag token) s = .next t ∧
      completes s t tag (conflict k) ∧
      (∀ k, k ≠ (tag : Nat) → t.cmd k = s.cmd k) ∧
      unchangedBut [.tags, .cmds, .cqs] (s.letGo tag) t)

/-- FW_DOWNLOAD and FW_ACTIVATE wait for their turn and end with ACTIVATION_PENDING while one is pending. PART stages its bytes, DISCARD
drops them, COMMIT ends with status 0x0401 where staged words are poisoned, with INVALID_FIELD for an image that is not whole or not legal,
and with the cause and one event for one that does not verify; it sets the slot that is not running to WRITING and, presented again, also
after an endpoint reset has discarded the command, fills it VALID from the image. NEXT_RESET sets PENDING, or clears it for the running
slot; IMMEDIATE begins an activation. After the handover the slot is verified: the new firmware runs with a slate of CAUSE 3, or the
activation ends with the cause, the selection withdrawn; it posts the completion and asks for its vendor image, or after its time the
previous slot takes over with a further slate and one event. A command that offers an event finds room in its source's buffer (R548;
FaultControlAndAcceptance states the hold). -/
def Obligations.FirmwareImages : Prop :=
  (∀ (tag : TagNo) (data : List Byte) (s : State), s.fwTurn tag = true → s.mayBegin tag 0x27 0 = true → s.hostOk (s.cmd tag).ep = true →
    data.length = (s.cmd tag).pkt.p5.toNat → firstCode [s.pendingCode] = none → s.eventRoom = true →
    ∃ t, exec (.fwDownloadPart tag data) s = .next t ∧
      (t.sec = { s.sec with
          staging := s.sec.staging ++ [((s.cmd tag).pkt.p2.toNat, data)], stagingMarks := s.sec.stagingMarks.filter fun w => !((s.cmd
          tag).pkt.p2.toNat ≤ w * 8 && w * 8 < (s.cmd tag).pkt.p2.toNat + data.length) }) ∧
      completes s t tag {} ∧
      (∀ k, k ≠ (tag : Nat) → t.cmd k = s.cmd k) ∧
      unchangedBut [.ctr, .flt, .eps, .tags, .cqs, .cmds, .sec] (s.letGo tag) t) ∧
  (∀ (tag : TagNo) (data : List Byte) (k : Nat) (s : State), s.fwTurn tag = true → s.mayBegin tag 0x27 0 = true → s.hostOk (s.cmd tag).ep
    = true → data.length = (s.cmd tag).pkt.p5.toNat → firstCode [s.pendingCode] = some k →
    ∃ t, exec (.fwDownloadPart tag data) s = .next t ∧
      completes s t tag (conflict k) ∧
      (∀ k, k ≠ (tag : Nat) → t.cmd k = s.cmd k) ∧
      unchangedBut [.tags, .cmds, .cqs] (s.letGo tag) t) ∧
  (∀ (tag : TagNo) (data : List Byte) (s : State), s.fwTurn tag = false →
    exec (.fwDownloadPart tag data) s = .next s) ∧
  (∀ (tag : TagNo) (s : State), s.fwTurn tag = true → s.mayBegin tag 0x27 1 = true → firstCode [s.pendingCode] = none →
    ((s.sec.stagingMarks.filter fun w => w * 8 < (s.cmd tag).pkt.p2.toNat).length = 0) → (staged (s.cmd tag).pkt.p2.toNat s.sec.staging =
    false ∨ imageLegal (assemble (s.cmd tag).pkt.p2.toNat s.sec.staging) (s.cmd tag).pkt.p2.toNat = false) → s.eventRoom = true →
    ∃ t, exec (.fwDownloadCommit tag) s = .next t ∧
      completes s t tag (badField 40) ∧
      t.nor = s.nor ∧
      unchangedBut [.free, .nor, .ctr, .flt, .eps, .tags, .cqs, .cmds, .mgt] (s.letGo tag) t) ∧
  (∀ (tag : TagNo) (s : State), s.fwTurn tag = true → s.mayBegin tag 0x27 1 = true → firstCode [s.pendingCode] = none →
    ((s.sec.stagingMarks.filter fun w => w * 8 < (s.cmd tag).pkt.p2.toNat).length = 0) → staged (s.cmd tag).pkt.p2.toNat s.sec.staging =
    true → imageLegal (assemble (s.cmd tag).pkt.p2.toNat s.sec.staging) (s.cmd tag).pkt.p2.toNat = true → s.eventRoom = true →
    ∃ t, exec (.fwDownloadCommit tag) s = .next t ∧
      (∀ c, s.imageFault (assemble (s.cmd tag).pkt.p2.toNat s.sec.staging) = some c → completes s t tag { status := 0x0501, r0 := c } ∧
        offered t (mkMsg 15 0 3 c) ∧ t.nor = s.nor) ∧
      (s.imageFault (assemble (s.cmd tag).pkt.p2.toNat s.sec.staging) = none → t.fwSlot (1 - s.sec.slot) = { st := .writing } ∧ t.fwSlot
        s.sec.slot = s.fwSlot s.sec.slot ∧ t.cmd tag = { s.cmd tag with phase := .executing }) ∧
      t.sec = s.sec ∧
      (∀ k, k ≠ (tag : Nat) → t.cmd k = s.cmd k) ∧
      unchangedBut [.free, .nor, .ctr, .flt, .log, .pwr, .mns, .cal, .hdas, .mus, .store, .eps, .tags, .cqs, .cmds, .mgt, .buf, .bca] s t) ∧
  (∀ (tag : TagNo) (s : State), s.fwTurn tag = true → s.mayBegin tag 0x27 1 = true → firstCode [s.pendingCode] = none →
    ((s.sec.stagingMarks.filter fun w => w * 8 < (s.cmd tag).pkt.p2.toNat).length ≠ 0) → s.eventRoom = true →
    ∃ t, exec (.fwDownloadCommit tag) s = .next t ∧
      completes s t tag { status := 0x0401 } ∧
      t.nor = s.nor ∧
      (t.counter (aBuf 0x14) = Ctr.add 31 (s.sec.stagingMarks.filter fun w => w * 8 < (s.cmd tag).pkt.p2.toNat).length (s.counter (aBuf
        0x14))) ∧
      (∀ k, k ≠ (tag : Nat) → t.cmd k = s.cmd k) ∧
      unchangedBut [.free, .nor, .ctr, .flt, .eps, .tags, .cqs, .cmds, .mgt] (s.letGo tag) t) ∧
  (∀ (tag : TagNo) (c : Cmd) (s : State), s.orphan tag 0x27 1 = some c →
    ∃ t, exec (.fwDownloadCommit tag) s = .next t ∧
      t.fwSlot (1 - s.sec.slot) = slotOf (assemble c.pkt.p2.toNat s.sec.staging) ∧ t.fwSlot s.sec.slot = s.fwSlot s.sec.slot ∧ t.mgt =
        { s.mgt with orphans := s.mgt.orphans.erase c } ∧
      unchangedBut [.nor, .mgt] s t) ∧
  (∀ (tag : TagNo) (s : State), s.committing tag = true → s.eventRoom = true →
    ∃ t, exec (.fwDownloadCommit tag) s = .next t ∧
      t.fwSlot (1 - s.sec.slot) = slotOf (assemble (s.cmd tag).pkt.p2.toNat s.sec.staging) ∧ t.fwSlot s.sec.slot = s.fwSlot s.sec.slot ∧
        t.sec = s.sec ∧
      completes s t tag {} ∧
      (∀ k, k ≠ (tag : Nat) → t.cmd k = s.cmd k) ∧
      unchangedBut [.free, .nor, .ctr, .flt, .log, .pwr, .mns, .cal, .hdas, .mus, .store, .eps, .tags, .cqs, .cmds, .mgt, .buf, .bca] s t) ∧
  (∀ (tag : TagNo) (k : Nat) (s : State), s.fwTurn tag = true → s.mayBegin tag 0x27 1 = true → firstCode [s.pendingCode] = some k →
    ∃ t, exec (.fwDownloadCommit tag) s = .next t ∧
      completes s t tag (conflict k) ∧
      (∀ k, k ≠ (tag : Nat) → t.cmd k = s.cmd k) ∧
      unchangedBut [.tags, .cmds, .cqs] (s.letGo tag) t) ∧
  (∀ (tag : TagNo) (s : State), s.fwTurn tag = true → s.mayBegin tag 0x27 2 = true → firstCode [s.pendingCode] = none →
    ∃ t, exec (.fwDownloadDiscard tag) s = .next t ∧
      t.sec = { s.sec with staging := [], stagingMarks := [] } ∧
      completes s t tag {} ∧
      (∀ k, k ≠ (tag : Nat) → t.cmd k = s.cmd k) ∧
      unchangedBut [.tags, .cqs, .cmds, .sec] (s.letGo tag) t) ∧
  (∀ (tag : TagNo) (k : Nat) (s : State), s.fwTurn tag = true → s.mayBegin tag 0x27 2 = true → firstCode [s.pendingCode] = some k →
    ∃ t, exec (.fwDownloadDiscard tag) s = .next t ∧
      completes s t tag (conflict k) ∧
      (∀ k, k ≠ (tag : Nat) → t.cmd k = s.cmd k) ∧
      unchangedBut [.tags, .cmds, .cqs] (s.letGo tag) t) ∧
  (∀ (tag : TagNo) (s : State), s.fwTurn tag = true → s.mayBegin tag 0x28 0 = true → (s.slotNamed tag) ≠ s.sec.slot → firstCode
    [s.pendingCode] = none →
    ∃ t, exec (.fwActivateNextReset tag) s = .next t ∧
      t.nor = { s.nor with pendingSlot := some (s.slotNamed tag) } ∧
      completes s t tag {} ∧
      unchangedBut [.nor, .tags, .cqs, .cmds] (s.letGo tag) t) ∧
  (∀ (tag : TagNo) (s : State), s.fwTurn tag = true → s.mayBegin tag 0x28 0 = true → (s.slotNamed tag) = s.sec.slot →
    ∃ t, exec (.fwActivateNextReset tag) s = .next t ∧
      t.nor = { s.nor with pendingSlot := none } ∧
      completes s t tag {} ∧
      unchangedBut [.nor, .tags, .cqs, .cmds] (s.letGo tag) t) ∧
  (∀ (tag : TagNo) (k : Nat) (s : State), s.fwTurn tag = true → s.mayBegin tag 0x28 0 = true → (s.slotNamed tag) ≠ s.sec.slot → firstCode
    [s.pendingCode] = some k →
    ∃ t, exec (.fwActivateNextReset tag) s = .next t ∧
      completes s t tag (conflict k) ∧
      (∀ k, k ≠ (tag : Nat) → t.cmd k = s.cmd k) ∧
      unchangedBut [.tags, .cmds, .cqs] (s.letGo tag) t) ∧
  (∀ (tag : TagNo) (s : State), s.fwTurn tag = true → s.mayBegin tag 0x28 1 = true → firstCode [s.pendingCode, (s.pwr.pstate != 0 ||
    s.pwr.transit, 0x0010)] = none →
    ∃ t, exec (.fwActivateImmediate tag) s = .next t ∧
      t.nor = { s.nor with pendingSlot := some (s.slotNamed tag) } ∧
      t.mgt.activation = some { cmd := some tag.val, ep := (s.cmd tag).ep, slot := (s.slotNamed tag), oldSlot := s.sec.slot } ∧
      t.cmd tag = { s.cmd tag with phase := .executing } ∧
      (∀ k, k ≠ (tag : Nat) → t.cmd k = s.cmd k) ∧
      unchangedBut [.free, .nor, .log, .pwr, .mns, .cal, .hdas, .mus, .store, .tags, .cqs, .cmds, .mgt, .buf, .bca] s t) ∧
  (∀ (tag : TagNo) (k : Nat) (s : State), s.fwTurn tag = true → s.mayBegin tag 0x28 1 = true → firstCode [s.pendingCode, (s.pwr.pstate !=
    0 || s.pwr.transit, 0x0010)] = some k →
    ∃ t, exec (.fwActivateImmediate tag) s = .next t ∧
      completes s t tag (conflict k) ∧
      (∀ k, k ≠ (tag : Nat) → t.cmd k = s.cmd k) ∧
      unchangedBut [.tags, .cmds, .cqs] (s.letGo tag) t) ∧
  (∀ (a : Activation) (s : State), s.mgt.activation = some a → a.step = 1 → s.eventRoom = true →
    ∃ t, exec .activationHandover s = .next t ∧
      t.mgt = { s.mgt with activation := some { a with step := 3 } } ∧
      t.free = s.free + 4 ∧
      t.buf = s.writeHandover.buf ∧
      unchangedBut [.free, .mgt, .buf, .flt, .ctr] s t) ∧
  (∀ (a : Activation) (s : State), s.mgt.activation = some a → a.step ≠ 1 →
    exec .activationHandover s = .next s) ∧
  (∀ (found : SlotCheck) (slateOk : Bool) (a : Activation) (s : State), s.mgt.activation = some a → a.step = 3 → s.slotFault a.slot
    found.sigOk found.compsOk = 0 → s.eventRoom = true →
    ∃ t, exec (.activationNewFwStart found slateOk) s = .next t ∧
      t.nor.active = a.slot ∧ t.nor.pendingSlot = none ∧ t.sec.slot = a.slot ∧
      (s.nor.bootSat = false → s.nor.bootCount + 1 < 2 ^ 32 → t.nor.bootCount = s.nor.bootCount + 1) ∧
      t.sec.slate.map (·.cause) = some 3 ∧
      (slateOk = true → t.sec.slate.map (fun x => t.nor.slates.contains x) = some true) ∧
      t.mgt.activation = some { a with step := 4 } ∧
      unchangedBut [.nor, .sec, .mgt, .free, .flt, .ctr, .cqs] s t) ∧
  (∀ (found : SlotCheck) (slateOk : Bool) (cause : Nat) (a : Activation) (s : State), cause ≠ 0 → s.mgt.activation = some a → a.step = 3 →
    s.slotFault a.slot found.sigOk found.compsOk = cause → s.eventRoom = true →
    ∃ t, exec (.activationNewFwStart found slateOk) s = .next t ∧
      t.nor = { s.nor with pendingSlot := none } ∧ t.mgt.activation = none ∧
      t.sec.slot = s.sec.slot ∧
      offered t (mkMsg 15 0 3 cause) ∧
      (∀ n, a.cmd = some n → s.live n = true → completes s t n { status := 0x0501, r0 := cause }) ∧
      unchangedBut [.free, .nor, .ctr, .flt, .log, .pwr, .mns, .cal, .hdas, .mus, .store, .eps, .tags, .cqs, .cmds, .mgt, .buf, .bca,
        .sec] s t) ∧
  (∀ (found : SlotCheck) (slateOk : Bool) (a : Activation) (s : State), s.mgt.activation = some a → a.step ≠ 3 →
    exec (.activationNewFwStart found slateOk) s = .next s) ∧
  (∀ (vendor : List Byte) (a : Activation) (s : State), s.mgt.activation = some a → a.step = 4 →
    ∃ t, exec (.activationDone vendor) s = .next t ∧
      t.mgt.activation = none ∧
      (∀ n, a.cmd = some n → s.live n = true → completes s t n { r0 := (s.fwSlot a.slot).version }) ∧
      (imageHeaderOk 1 vendor = true → s.store.swap = none → t.store.swap = some (swapOf 1 none vendor)) ∧
      (imageHeaderOk 1 vendor = true → s.store.swap ≠ none → t.store.swapNext = some (swapOf 1 none vendor)) ∧
      (imageHeaderOk 1 vendor = false → t.store.swapNext = s.store.swapNext) ∧
      unchangedBut [.free, .log, .pwr, .mns, .cal, .hdas, .mus, .store, .tags, .cqs, .cmds, .mgt, .buf, .bca] s t) ∧
  (∀ (vendor : List Byte) (a : Activation) (s : State), s.mgt.activation = some a → a.step ≠ 4 →
    exec (.activationDone vendor) s = .next s) ∧
  (∀ (slateOk : Bool) (a : Activation) (s : State), s.mgt.activation = some a → 3 ≤ a.step → s.eventRoom = true →
    ∃ t, exec (.activationTimeout slateOk) s = .next t ∧
      t.nor.active = a.oldSlot ∧ t.nor.pendingSlot = none ∧ t.sec.slot = a.oldSlot ∧
      (s.nor.bootSat = false → s.nor.bootCount + 1 < 2 ^ 32 → t.nor.bootCount = s.nor.bootCount + 1) ∧
      t.sec.slate.map (·.cause) = some 3 ∧
      (slateOk = true → t.sec.slate.map (fun x => t.nor.slates.contains x) = some true) ∧
      t.mgt.activation = none ∧
      offered t (mkMsg 15 0 4 a.slot) ∧
      (∀ n, a.cmd = some n → s.live n = true → completes s t n { status := 0x0401, r0 := 11 }) ∧
      unchangedBut [.free, .nor, .ctr, .flt, .log, .pwr, .mns, .cal, .hdas, .mus, .store, .tags, .cqs, .cmds, .mgt, .buf, .bca, .sec] s t) ∧
  (∀ (slateOk : Bool) (a : Activation) (s : State), s.mgt.activation = some a → a.step < 3 →
    exec (.activationTimeout slateOk) s = .next s)

/-- GET_SLATE writes the slate of a number, the newest one, or the oldest that is not exported, and returns its number, the oldest and
newest numbers retained, and bit 32 of RESULT1 where there is none. MARK_EXPORTED marks every slate up to a number and loses none.
ATTEST_QUOTE writes the quote signed over the nonce and returns its length, or returns the length with 1 where LEN is too short. A command
that offers an event finds room in its source's buffer (R548; FaultControlAndAcceptance states the hold). -/
def Obligations.SlatesAndQuotes : Prop :=
  (∀ (tag : TagNo) (x : Slate) (s : State), s.mayBegin tag 0x25 0 = true → s.hostOk (s.cmd tag).ep = true → s.slateOf (s.cmd
    tag).pkt.p2.toNat = some x → s.eventRoom = true →
    ∃ t, exec (.getSlateRead tag) s = .next t ∧
      lastOut t (.hostData tag 0 (s.ep (s.cmd tag).ep).relaxed x.bytes) ∧
      completes s t tag (s.slateRes (some x.number)) ∧
      t.nor = s.nor ∧
      (∀ k, k ≠ (tag : Nat) → t.cmd k = s.cmd k) ∧
      unchangedBut [.out, .ctr, .flt, .eps, .tags, .cqs, .cmds] (s.letGo tag) t) ∧
  (∀ (tag : TagNo) (s : State), s.mayBegin tag 0x25 0 = true → s.hostOk (s.cmd tag).ep = true → s.slateOf (s.cmd tag).pkt.p2.toNat = none
    → s.eventRoom = true →
    ∃ t, exec (.getSlateRead tag) s = .next t ∧
      t.out = s.out ∧
      completes s t tag (s.slateRes none) ∧
      (∀ k, k ≠ (tag : Nat) → t.cmd k = s.cmd k) ∧
      unchangedBut [.out, .ctr, .flt, .eps, .tags, .cqs, .cmds] (s.letGo tag) t) ∧
  (∀ (tag : TagNo) (x : Slate) (s : State), s.mayBegin tag 0x25 1 = true → s.hostOk (s.cmd tag).ep = true → s.slateOf s.slateNewest = some
    x → s.eventRoom = true →
    ∃ t, exec (.getSlateNewest tag) s = .next t ∧
      lastOut t (.hostData tag 0 (s.ep (s.cmd tag).ep).relaxed x.bytes) ∧
      completes s t tag (s.slateRes (some x.number)) ∧
      t.nor = s.nor ∧
      (∀ k, k ≠ (tag : Nat) → t.cmd k = s.cmd k) ∧
      unchangedBut [.out, .ctr, .flt, .eps, .tags, .cqs, .cmds] (s.letGo tag) t) ∧
  (∀ (tag : TagNo) (s : State), s.mayBegin tag 0x25 1 = true → s.hostOk (s.cmd tag).ep = true → s.nor.slates = [] → s.eventRoom = true →
    ∃ t, exec (.getSlateNewest tag) s = .next t ∧
      t.out = s.out ∧
      completes s t tag (s.slateRes none) ∧
      (∀ k, k ≠ (tag : Nat) → t.cmd k = s.cmd k) ∧
      unchangedBut [.out, .ctr, .flt, .eps, .tags, .cqs, .cmds] (s.letGo tag) t) ∧
  (∀ (tag : TagNo) (x : Slate) (s : State), s.mayBegin tag 0x25 2 = true → s.hostOk (s.cmd tag).ep = true → s.slateOf s.slateUnexported =
    some x → x.exported = false → s.eventRoom = true →
    ∃ t, exec (.getSlateOldestUnexported tag) s = .next t ∧
      lastOut t (.hostData tag 0 (s.ep (s.cmd tag).ep).relaxed x.bytes) ∧
      completes s t tag (s.slateRes (some x.number)) ∧
      t.nor = s.nor ∧
      (∀ k, k ≠ (tag : Nat) → t.cmd k = s.cmd k) ∧
      unchangedBut [.out, .ctr, .flt, .eps, .tags, .cqs, .cmds] (s.letGo tag) t) ∧
  (∀ (tag : TagNo) (s : State), s.mayBegin tag 0x25 2 = true → s.hostOk (s.cmd tag).ep = true → s.nor.slates.all (·.exported) = true →
    s.eventRoom = true →
    ∃ t, exec (.getSlateOldestUnexported tag) s = .next t ∧
      t.out = s.out ∧
      completes s t tag (s.slateRes none) ∧
      (∀ k, k ≠ (tag : Nat) → t.cmd k = s.cmd k) ∧
      unchangedBut [.out, .ctr, .flt, .eps, .tags, .cqs, .cmds] (s.letGo tag) t) ∧
  (∀ (tag : TagNo) (s : State), s.mayBegin tag 0x25 3 = true →
    ∃ t, exec (.getSlateMarkExported tag) s = .next t ∧
      (t.nor = { s.nor with
          slates := s.nor.slates.map fun x => if x.number ≤ (s.cmd tag).pkt.p2.toNat then { x with exported := true } else x }) ∧
      (completes s t tag (s.slateRes (if (s.nor.slates.filter (·.number ≤ (s.cmd tag).pkt.p2.toNat)).isEmpty then none else some
        ((s.nor.slates.filter (·.number ≤ (s.cmd tag).pkt.p2.toNat)).foldl (fun a x => Nat.max a x.number) 0)))) ∧
      (∀ k, k ≠ (tag : Nat) → t.cmd k = s.cmd k) ∧
      unchangedBut [.nor, .tags, .cqs, .cmds] (s.letGo tag) t) ∧
  (∀ (tag : TagNo) (nonce : List Byte) (s : State), nonce.length = 32 → s.mayBegin tag 0x26 0 = true → s.hostOk (s.cmd tag).ep = true →
    (s.quote nonce false).1.length ≤ (s.cmd tag).pkt.p5.toNat → s.eventRoom = true →
    ∃ t, exec (.attestQuote tag nonce) s = .next t ∧
      lastOut t (.hostData tag 0 (s.ep (s.cmd tag).ep).relaxed (s.quote nonce false).1) ∧
      completes s t tag { r0 := (s.quote nonce false).1.length } ∧
      t.free = s.free + 1 ∧
      (∀ k, k ≠ (tag : Nat) → t.cmd k = s.cmd k) ∧
      unchangedBut [.free, .out, .ctr, .flt, .eps, .tags, .cqs, .cmds] (s.letGo tag) t) ∧
  (∀ (tag : TagNo) (nonce : List Byte) (s : State), nonce.length = 32 → s.mayBegin tag 0x26 0 = true → s.hostOk (s.cmd tag).ep = true →
    (s.cmd tag).pkt.p5.toNat < (s.quote nonce false).1.length → s.eventRoom = true →
    ∃ t, exec (.attestQuote tag nonce) s = .next t ∧
      completes s t tag { r0 := (s.quote nonce false).1.length, r1 := 1 } ∧
      t.out = s.out ∧
      (∀ k, k ≠ (tag : Nat) → t.cmd k = s.cmd k) ∧
      unchangedBut [.free, .out, .ctr, .flt, .eps, .tags, .cqs, .cmds] (s.letGo tag) t) ∧
  (∀ (tag : TagNo) (nonce : List Byte) (s : State), nonce.length ≠ 32 →
    exec (.attestQuote tag nonce) s = .next s)

/-- POWER_STATE SET to the present state completes at once; from PS0 to PS1 it completes with the state reached, one event and channel
gating; any other SET is a transition towards the state, whose command waits, unless a thermal hold or a transition refuses it. GET returns
the state. HDA_CTL SET_HS between HS0 and HS1 completes at once; otherwise the HDA is in transit to the state, its spindle admitted, stopped
or its port powered as its present state needs. RELEASE begins the release, RESTART a transition to the shallowest state allowed, which ends
stops; GET returns the port state. The states of other HDAs stay. A command that offers an event finds room in its source's buffer (R548;
FaultControlAndAcceptance states the hold). -/
def Obligations.PowerStateAndHdaCtl : Prop :=
  (∀ (tag : TagNo) (s : State), s.mayBegin tag 0x29 0 = true → firstCode [(s.thp.hold && decide ((bits (s.cmd tag).pkt.p2.toNat 2 0) ≤ 2),
    0x0009), (s.psBusy, 0x0010)] = none → (bits (s.cmd tag).pkt.p2.toNat 2 0) = s.pwr.pstate → s.eventRoom = true →
    ∃ t, exec (.powerStateSet tag) s = .next t ∧
      completes s t tag {} ∧
      t.pwr.pstate = s.pwr.pstate ∧
      (∀ k, k ≠ (tag : Nat) → t.cmd k = s.cmd k) ∧
      unchangedBut [.free, .out, .ctr, .flt, .pwr, .mns, .cal, .hdas, .mus, .eps, .tags, .cqs, .cmds] (s.letGo tag) t) ∧
  (∀ (tag : TagNo) (s : State), s.mayBegin tag 0x29 0 = true → firstCode [(s.thp.hold && decide ((bits (s.cmd tag).pkt.p2.toNat 2 0) ≤ 2),
    0x0009), (s.psBusy, 0x0010)] = none → s.pwr.pstate = 0 → (bits (s.cmd tag).pkt.p2.toNat 2 0) = 1 → s.eventRoom = true →
    ∃ t, exec (.powerStateSet tag) s = .next t ∧
      t.pwr.pstate = 1 ∧ t.pwr.transit = false ∧ t.pwr.gating = true ∧
      offered t (mkMsg 18 0 0x0C 1) ∧
      (t.tag tag).st = .posted ∧
      (s.cal.converterCmds.contains (tag : Nat) = false → completes s t tag {}) ∧
      unchangedBut [.free, .out, .ctr, .flt, .log, .pwr, .mns, .cal, .hdas, .mus, .store, .eps, .tags, .cqs, .cmds, .mgt, .buf, .bca] s t) ∧
  (∀ (tag : TagNo) (s : State), s.mayBegin tag 0x29 0 = true → firstCode [(s.thp.hold && decide ((bits (s.cmd tag).pkt.p2.toNat 2 0) ≤ 2),
    0x0009), (s.psBusy, 0x0010)] = none → s.pwr.pstate = 0 → 2 ≤ (bits (s.cmd tag).pkt.p2.toNat 2 0) → s.eventRoom = true →
    ∃ t, exec (.powerStateSet tag) s = .next t ∧
      t.pwr.pstate = 1 ∧ t.pwr.transit = true ∧ t.pwr.target = (bits (s.cmd tag).pkt.p2.toNat 2 0) ∧ t.pwr.requester = some tag.val ∧
        t.pwr.gating = true ∧
      offered t (mkMsg 18 0 0x0C 1) ∧
      (s.cal.converterCmds.contains (tag : Nat) = false → (t.cmd tag).phase = .executing) ∧
      unchangedBut [.free, .out, .ctr, .flt, .log, .pwr, .mns, .cal, .hdas, .mus, .store, .eps, .tags, .cqs, .cmds, .mgt, .buf, .bca] s t) ∧
  (∀ (tag : TagNo) (s : State), s.mayBegin tag 0x29 0 = true → firstCode [(s.thp.hold && decide ((bits (s.cmd tag).pkt.p2.toNat 2 0) ≤ 2),
    0x0009), (s.psBusy, 0x0010)] = none → s.pwr.pstate ≠ 0 → s.pwr.pstate < (bits (s.cmd tag).pkt.p2.toNat 2 0) → s.eventRoom = true →
    ∃ t, exec (.powerStateSet tag) s = .next t ∧
      t.pwr.pstate = s.pwr.pstate ∧ t.pwr.transit = true ∧ t.pwr.target = (bits (s.cmd tag).pkt.p2.toNat 2 0) ∧ t.pwr.requester = some
        tag.val ∧ t.pwr.step = 1 ∧ t.pwr.gating = true ∧
      ((bits (s.cmd tag).pkt.p2.toNat 2 0) = 4 → t.pwr.ret = s.pwr.pstate) ∧
      (s.cal.converterCmds.contains (tag : Nat) = false → (t.cmd tag).phase = .executing) ∧
      unchangedBut [.free, .out, .ctr, .flt, .log, .pwr, .mns, .cal, .hdas, .mus, .store, .eps, .tags, .cqs, .cmds, .mgt, .buf, .bca] s t) ∧
  (∀ (tag : TagNo) (s : State), s.mayBegin tag 0x29 0 = true → firstCode [(s.thp.hold && decide ((bits (s.cmd tag).pkt.p2.toNat 2 0) ≤ 2),
    0x0009), (s.psBusy, 0x0010)] = none → (bits (s.cmd tag).pkt.p2.toNat 2 0) < s.pwr.pstate → s.eventRoom = true →
    ∃ t, exec (.powerStateSet tag) s = .next t ∧
      t.pwr.pstate = s.pwr.pstate ∧ t.pwr.transit = true ∧ t.pwr.target = (bits (s.cmd tag).pkt.p2.toNat 2 0) ∧ t.pwr.requester = some
        tag.val ∧
      (t.pwr.step = if s.pwr.pstate = 4 then 1 else 4) ∧
      (t.cmd tag).phase = .executing ∧
      unchangedBut [.free, .out, .ctr, .flt, .log, .pwr, .mns, .cal, .hdas, .mus, .store, .eps, .tags, .cqs, .cmds, .mgt, .buf, .bca] s t) ∧
  (∀ (tag : TagNo) (k : Nat) (s : State), s.mayBegin tag 0x29 0 = true → firstCode [(s.thp.hold && decide ((bits (s.cmd tag).pkt.p2.toNat
    2 0) ≤ 2), 0x0009), (s.psBusy, 0x0010)] = some k →
    ∃ t, exec (.powerStateSet tag) s = .next t ∧
      completes s t tag (conflict k) ∧
      (∀ k, k ≠ (tag : Nat) → t.cmd k = s.cmd k) ∧
      unchangedBut [.tags, .cmds, .cqs] (s.letGo tag) t) ∧
  (∀ (tag : TagNo) (s : State), s.mayBegin tag 0x29 1 = true →
    ∃ t, exec (.powerStateGet tag) s = .next t ∧
      completes s t tag { r0 := s.pwr.pstate } ∧
      t.pwr.pstate = s.pwr.pstate ∧
      (∀ k, k ≠ (tag : Nat) → t.cmd k = s.cmd k) ∧
      unchangedBut [.tags, .cqs, .cmds] (s.letGo tag) t) ∧
  (∀ (tag : TagNo) (s : State), (s.hda (s.hdaArg tag)).hsTransit = true →
    exec (.hdaCtlSetHs tag) s = .next s) ∧
  (∀ (tag : TagNo) (k : Nat) (s : State), (s.hda (s.hdaArg tag)).hsTransit = false → s.mayBegin tag 0x2A 1 = true → firstCode (s.hsCodes
    (s.hdaArg tag) (bits (s.cmd tag).pkt.p3.toNat 1 0)) = some k →
    ∃ t, exec (.hdaCtlSetHs tag) s = .next t ∧
      completes s t tag (conflict k) ∧
      (∀ k, k ≠ (tag : Nat) → t.cmd k = s.cmd k) ∧
      unchangedBut [.tags, .cmds, .cqs] (s.letGo tag) t) ∧
  (∀ (tag : TagNo) (s : State), (s.hda (s.hdaArg tag)).hsTransit = false → s.mayBegin tag 0x2A 1 = true → firstCode (s.hsCodes (s.hdaArg
    tag) (bits (s.cmd tag).pkt.p3.toNat 1 0)) = none → (s.hda (s.hdaArg tag)).hs < 2 → (bits (s.cmd tag).pkt.p3.toNat 1 0) < 2 →
    ∃ t, exec (.hdaCtlSetHs tag) s = .next t ∧
      (s.canonical = true → ∀ k, k ≠ (s.hdaArg tag) → (t.hda k).st = (s.hda k).st ∧ (t.hda k).hs = (s.hda k).hs ∧ (t.hda k).hsTransit =
        (s.hda k).hsTransit ∧ (t.hda k).srv.spin = (s.hda k).srv.spin) ∧
      (t.hda (s.hdaArg tag)).hs = (bits (s.cmd tag).pkt.p3.toNat 1 0) ∧ (t.hda (s.hdaArg tag)).hsTransit = false ∧
      (t.tag tag).st = .posted ∧
      (s.cal.converterCmds.contains (tag : Nat) = false → completes s t tag {}) ∧
      unchangedBut [.free, .log, .pwr, .mns, .cal, .hdas, .mus, .store, .tags, .cqs, .cmds, .mgt, .buf, .bca] s t) ∧
  (∀ (tag : TagNo) (s : State), (s.hda (s.hdaArg tag)).hsTransit = false → s.mayBegin tag 0x2A 1 = true → firstCode (s.hsCodes (s.hdaArg
    tag) (bits (s.cmd tag).pkt.p3.toNat 1 0)) = none → (s.hda (s.hdaArg tag)).hs < 2 → 2 ≤ (bits (s.cmd tag).pkt.p3.toNat 1 0) →
    s.bothParked (s.hdaArg tag) = false →
    ∃ t, exec (.hdaCtlSetHs tag) s = .next t ∧
      (s.canonical = true → ∀ k, k ≠ (s.hdaArg tag) → (t.hda k).st = (s.hda k).st ∧ (t.hda k).hs = (s.hda k).hs ∧ (t.hda k).hsTransit =
        (s.hda k).hsTransit ∧ (t.hda k).srv.spin = (s.hda k).srv.spin) ∧
      (t.hda (s.hdaArg tag)).hsTransit = true ∧ (t.hda (s.hdaArg tag)).hsTarget = (bits (s.cmd tag).pkt.p3.toNat 1 0) ∧ (t.hda (s.hdaArg
        tag)).hsCmd = some tag.val ∧ (t.hda (s.hdaArg tag)).hsRestart = false ∧
      t.cmd tag = { s.cmd tag with phase := .executing } ∧
      (t.tag tag).st = .accepted ∧
      (t.hda (s.hdaArg tag)).hs = (s.hda (s.hdaArg tag)).hs ∧
      unchangedBut [.free, .log, .pwr, .mns, .cal, .hdas, .mus, .store, .tags, .cqs, .cmds, .mgt, .buf, .bca] s t) ∧
  (∀ (tag : TagNo) (s : State), (s.hda (s.hdaArg tag)).hsTransit = false → s.mayBegin tag 0x2A 1 = true → firstCode (s.hsCodes (s.hdaArg
    tag) (bits (s.cmd tag).pkt.p3.toNat 1 0)) = none → (s.hda (s.hdaArg tag)).hs = 2 → (bits (s.cmd tag).pkt.p3.toNat 1 0) = 2 → (s.hda
    (s.hdaArg tag)).srv.spin = .spunUp →
    ∃ t, exec (.hdaCtlSetHs tag) s = .next t ∧
      (s.canonical = true → ∀ k, k ≠ (s.hdaArg tag) → (t.hda k).st = (s.hda k).st ∧ (t.hda k).hs = (s.hda k).hs ∧ (t.hda k).hsTransit =
        (s.hda k).hsTransit ∧ (t.hda k).srv.spin = (s.hda k).srv.spin) ∧
      (t.hda (s.hdaArg tag)).hs = 2 ∧ (t.hda (s.hdaArg tag)).hsTransit = false ∧
      completes s t tag {} ∧
      unchangedBut [.free, .pwr, .mns, .cal, .hdas, .mus, .tags, .cqs, .cmds] s t) ∧
  (∀ (tag : TagNo) (s : State), (s.hda (s.hdaArg tag)).hsTransit = false → s.mayBegin tag 0x2A 1 = true → firstCode (s.hsCodes (s.hdaArg
    tag) (bits (s.cmd tag).pkt.p3.toNat 1 0)) = none → (s.hda (s.hdaArg tag)).hs = 2 → (bits (s.cmd tag).pkt.p3.toNat 1 0) = 3 → (s.hda
    (s.hdaArg tag)).srv.spin = .spunUp → s.bothParked (s.hdaArg tag) = true →
    ∃ t, exec (.hdaCtlSetHs tag) s = .next t ∧
      (s.canonical = true → ∀ k, k ≠ (s.hdaArg tag) → (t.hda k).st = (s.hda k).st ∧ (t.hda k).hs = (s.hda k).hs ∧ (t.hda k).hsTransit =
        (s.hda k).hsTransit ∧ (t.hda k).srv.spin = (s.hda k).srv.spin) ∧
      (t.hda (s.hdaArg tag)).hsTransit = true ∧ (t.hda (s.hdaArg tag)).hsTarget = 3 ∧ (t.hda (s.hdaArg tag)).hsCmd = some tag.val ∧ (t.hda
        (s.hdaArg tag)).hsRestart = false ∧
      t.cmd tag = { s.cmd tag with phase := .executing } ∧
      (t.tag tag).st = .accepted ∧
      (t.hda (s.hdaArg tag)).srv.spin = .stopping ∧
      unchangedBut [.free, .log, .pwr, .mns, .cal, .hdas, .mus, .store, .tags, .cqs, .cmds, .mgt, .buf, .bca] s t) ∧
  (∀ (tag : TagNo) (s : State), (s.hda (s.hdaArg tag)).hsTransit = false → s.mayBegin tag 0x2A 1 = true → firstCode (s.hsCodes (s.hdaArg
    tag) (bits (s.cmd tag).pkt.p3.toNat 1 0)) = none → (s.hda (s.hdaArg tag)).hs = 2 → (bits (s.cmd tag).pkt.p3.toNat 1 0) < 2 → ((s.hda
    (s.hdaArg tag)).srv.spin ≠ .spunUp ∨ s.bothLoaded (s.hdaArg tag) = false) → (s.hda (s.hdaArg tag)).srv.setsValid = true → (s.mu (2 *
    (s.hdaArg tag))).stopped = false → (s.mu (2 * (s.hdaArg tag) + 1)).stopped = false →
    ∃ t, exec (.hdaCtlSetHs tag) s = .next t ∧
      (s.canonical = true → ∀ k, k ≠ (s.hdaArg tag) → (t.hda k).st = (s.hda k).st ∧ (t.hda k).hs = (s.hda k).hs ∧ (t.hda k).hsTransit =
        (s.hda k).hsTransit ∧ (t.hda k).srv.spin = (s.hda k).srv.spin) ∧
      (t.hda (s.hdaArg tag)).hsTransit = true ∧ (t.hda (s.hdaArg tag)).hsTarget = (bits (s.cmd tag).pkt.p3.toNat 1 0) ∧ (t.hda (s.hdaArg
        tag)).hsCmd = some tag.val ∧ (t.hda (s.hdaArg tag)).hsRestart = false ∧
      t.cmd tag = { s.cmd tag with phase := .executing } ∧
      (t.tag tag).st = .accepted ∧
      ((s.hda (s.hdaArg tag)).srv.spin = .stopped ∨ (s.hda (s.hdaArg tag)).srv.spin = .coasting → t.mns.waiting.contains (s.hdaArg tag) =
        true) ∧
      unchangedBut [.free, .log, .pwr, .mns, .cal, .hdas, .mus, .store, .tags, .cqs, .cmds, .mgt, .buf, .bca] s t) ∧
  (∀ (tag : TagNo) (s : State), (s.hda (s.hdaArg tag)).hsTransit = false → s.mayBegin tag 0x2A 1 = true → firstCode (s.hsCodes (s.hdaArg
    tag) (bits (s.cmd tag).pkt.p3.toNat 1 0)) = none → (s.hda (s.hdaArg tag)).hs = 3 → (bits (s.cmd tag).pkt.p3.toNat 1 0) < 3 → (s.hda
    (s.hdaArg tag)).srv.spin = .stopped →
    ∃ t, exec (.hdaCtlSetHs tag) s = .next t ∧
      (s.canonical = true → ∀ k, k ≠ (s.hdaArg tag) → (t.hda k).st = (s.hda k).st ∧ (t.hda k).hs = (s.hda k).hs ∧ (t.hda k).hsTransit =
        (s.hda k).hsTransit ∧ (t.hda k).srv.spin = (s.hda k).srv.spin) ∧
      (t.hda (s.hdaArg tag)).hsTransit = true ∧ (t.hda (s.hdaArg tag)).hsTarget = (bits (s.cmd tag).pkt.p3.toNat 1 0) ∧ (t.hda (s.hdaArg
        tag)).hsCmd = some tag.val ∧ (t.hda (s.hdaArg tag)).hsRestart = false ∧
      t.cmd tag = { s.cmd tag with phase := .executing } ∧
      (t.tag tag).st = .accepted ∧
      (sget t.pwr.port (s.hdaArg tag) {}).on = true ∧
      unchangedBut [.free, .log, .pwr, .mns, .cal, .hdas, .mus, .store, .tags, .cqs, .cmds, .mgt, .buf, .bca] s t) ∧
  (∀ (tag : TagNo) (s : State), (s.hda (s.hdaArg tag)).hsTransit = false → s.mayBegin tag 0x2A 1 = true → firstCode (s.hsCodes (s.hdaArg
    tag) (bits (s.cmd tag).pkt.p3.toNat 1 0)) = none → (s.hda (s.hdaArg tag)).hs = 3 → (bits (s.cmd tag).pkt.p3.toNat 1 0) = 3 →
    ∃ t, exec (.hdaCtlSetHs tag) s = .next t ∧
      (s.canonical = true → ∀ k, k ≠ (s.hdaArg tag) → (t.hda k).st = (s.hda k).st ∧ (t.hda k).hs = (s.hda k).hs ∧ (t.hda k).hsTransit =
        (s.hda k).hsTransit ∧ (t.hda k).srv.spin = (s.hda k).srv.spin) ∧
      (t.tag tag).st = .posted ∧
      (t.hda (s.hdaArg tag)).hs = 3 ∧ (t.hda (s.hdaArg tag)).hsTransit = false ∧
      unchangedBut [.free, .log, .pwr, .mns, .cal, .hdas, .mus, .store, .tags, .cqs, .cmds, .mgt, .buf, .bca] s t) ∧
  (∀ (tag : TagNo) (s : State), (s.hda (s.hdaArg tag)).hsTransit = true →
    exec (.hdaCtlRelease tag) s = .next s) ∧
  (∀ (tag : TagNo) (k : Nat) (s : State), (s.hda (s.hdaArg tag)).hsTransit = false → s.mayBegin tag 0x2A 2 = true → firstCode [(!(s.hda
    (s.hdaArg tag)).usable, 0x000D), ((s.mu (2 * (s.hdaArg tag))).stopped || (s.mu (2 * (s.hdaArg tag) + 1)).stopped, 0x0008)] = some k →
    ∃ t, exec (.hdaCtlRelease tag) s = .next t ∧
      completes s t tag (conflict k) ∧
      (∀ k, k ≠ (tag : Nat) → t.cmd k = s.cmd k) ∧
      unchangedBut [.tags, .cmds, .cqs] (s.letGo tag) t) ∧
  (∀ (tag : TagNo) (s : State), (s.hda (s.hdaArg tag)).hsTransit = false → s.mayBegin tag 0x2A 2 = true → firstCode [(!(s.hda (s.hdaArg
    tag)).usable, 0x000D), ((s.mu (2 * (s.hdaArg tag))).stopped || (s.mu (2 * (s.hdaArg tag) + 1)).stopped, 0x0008)] = none →
    ∃ t, exec (.hdaCtlRelease tag) s = .next t ∧
      (s.canonical = true → ∀ k, k ≠ (s.hdaArg tag) → (t.hda k).st = (s.hda k).st ∧ (t.hda k).hs = (s.hda k).hs ∧ (t.hda k).hsTransit =
        (s.hda k).hsTransit ∧ (t.hda k).srv.spin = (s.hda k).srv.spin) ∧
      (t.hda (s.hdaArg tag)).st = .releasing ∧ (t.hda (s.hdaArg tag)).releaseCmd = some tag.val ∧ (t.hda (s.hdaArg tag)).releaseOrder =
        s.accept ∧
      (s.cal.converterCmds.contains (tag : Nat) = false → t.cmd tag = { s.cmd tag with phase := .executing }) ∧
      unchangedBut [.free, .log, .pwr, .mns, .cal, .hdas, .mus, .store, .tags, .cqs, .cmds, .mgt, .buf, .bca] s t) ∧
  (∀ (tag : TagNo) (s : State), (s.hda (s.hdaArg tag)).hsTransit = true →
    exec (.hdaCtlRestart tag) s = .next s) ∧
  (∀ (tag : TagNo) (k : Nat) (s : State), (s.hda (s.hdaArg tag)).hsTransit = false → s.mayBegin tag 0x2A 3 = true → (firstCode (s.hsCodes
    (s.hdaArg tag) (if s.depth = 0 then 0 else 1)) = some k) →
    ∃ t, exec (.hdaCtlRestart tag) s = .next t ∧
      completes s t tag (conflict k) ∧
      (∀ k, k ≠ (tag : Nat) → t.cmd k = s.cmd k) ∧
      unchangedBut [.tags, .cmds, .cqs] (s.letGo tag) t) ∧
  (∀ (tag : TagNo) (s : State), (s.hda (s.hdaArg tag)).hsTransit = false → s.mayBegin tag 0x2A 3 = true → (firstCode (s.hsCodes (s.hdaArg
    tag) (if s.depth = 0 then 0 else 1)) = none) → s.bothLoaded (s.hdaArg tag) = false →
    ∃ t, exec (.hdaCtlRestart tag) s = .next t ∧
      (s.canonical = true → ∀ k, k ≠ (s.hdaArg tag) → (t.hda k).st = (s.hda k).st ∧ (t.hda k).hs = (s.hda k).hs ∧ (t.hda k).hsTransit =
        (s.hda k).hsTransit ∧ (t.hda k).srv.spin = (s.hda k).srv.spin) ∧
      ((t.hda (s.hdaArg tag)).hsTransit = true ∧ (t.hda (s.hdaArg tag)).hsTarget = (if s.depth = 0 then 0 else 1) ∧ (t.hda (s.hdaArg
        tag)).hsCmd = some tag.val ∧ (t.hda (s.hdaArg tag)).hsRestart = true) ∧
      t.cmd tag = { s.cmd tag with phase := .executing } ∧
      (t.tag tag).st = .accepted ∧
      ((s.hda (s.hdaArg tag)).srv.spin = .stopped ∨ (s.hda (s.hdaArg tag)).srv.spin = .coasting → (s.hda (s.hdaArg tag)).hs ≠ 3 →
        t.mns.waiting.contains (s.hdaArg tag) = true) ∧
      unchangedBut [.free, .log, .pwr, .mns, .cal, .hdas, .mus, .store, .tags, .cqs, .cmds, .mgt, .buf, .bca] s t) ∧
  (∀ (tag : TagNo) (s : State), (s.hda (s.hdaArg tag)).hsTransit = false → s.mayBegin tag 0x2A 3 = true → (firstCode (s.hsCodes (s.hdaArg
    tag) (if s.depth = 0 then 0 else 1)) = none) → s.bothLoaded (s.hdaArg tag) = true → (s.hda (s.hdaArg tag)).srv.spin = .spunUp →
    ∃ t, exec (.hdaCtlRestart tag) s = .next t ∧
      (s.canonical = true → ∀ k, k ≠ (s.hdaArg tag) → (t.hda k).st = (s.hda k).st ∧ (t.hda k).hs = (s.hda k).hs ∧ (t.hda k).hsTransit =
        (s.hda k).hsTransit ∧ (t.hda k).srv.spin = (s.hda k).srv.spin) ∧
      ((t.hda (s.hdaArg tag)).hs = (if s.depth = 0 then 0 else 1) ∧ (t.hda (s.hdaArg tag)).hsTransit = false) ∧
      (t.mu (2 * (s.hdaArg tag))).stopped = false ∧ (t.mu (2 * (s.hdaArg tag) + 1)).stopped = false ∧
      (t.tag tag).st = .posted ∧
      unchangedBut [.free, .log, .pwr, .mns, .cal, .hdas, .mus, .store, .tags, .cqs, .cmds, .mgt, .buf, .bca] s t) ∧
  (∀ (tag : TagNo) (s : State), s.mayBegin tag 0x2A 4 = true →
    ∃ t, exec (.hdaCtlGet tag) s = .next t ∧
      (s.canonical = true → ∀ k, k ≠ (s.hdaArg tag) → (t.hda k).st = (s.hda k).st ∧ (t.hda k).hs = (s.hda k).hs ∧ (t.hda k).hsTransit =
        (s.hda k).hsTransit ∧ (t.hda k).srv.spin = (s.hda k).srv.spin) ∧
      completes s t tag { r0 := s.portStat (s.hdaArg tag) } ∧
      (∀ k, k ≠ (tag : Nat) → t.cmd k = s.cmd k) ∧
      unchangedBut [.tags, .cqs, .cmds] (s.letGo tag) t)

/-- CLEAR_THERMAL_HOLD ends a thermal hold, also in NOR, unless a sensor is not below its release point. COUNTER_CTL clears the counters of
a range, every counter of BAR0 of its endpoint, or in factory mode the operating time, and no other counter. Each second adds 1 to OPS; at
the hour boundary OPS begins again, OPH counts or saturates with one event, and the counters and the time are saved to NOR. A command that
offers an event finds room in its source's buffer (R548; FaultControlAndAcceptance states the hold). -/
def Obligations.HoldsCountersAndTime : Prop :=
  (∀ (tag : TagNo) (s : State), s.mayBegin tag 0x30 0 = true → firstCode [(s.thp.hold && !s.belowRelease, 0x0009)] = none →
    ∃ t, exec (.clearThermalHold tag) s = .next t ∧
      t.thp.hold = false ∧ t.nor = { s.nor with hold := false } ∧
      completes s t tag {} ∧
      (∀ k, k ≠ (tag : Nat) → t.cmd k = s.cmd k) ∧
      unchangedBut [.nor, .thp, .tags, .cqs, .cmds] (s.letGo tag) t) ∧
  (∀ (tag : TagNo) (k : Nat) (s : State), s.mayBegin tag 0x30 0 = true → firstCode [(s.thp.hold && !s.belowRelease, 0x0009)] = some k →
    ∃ t, exec (.clearThermalHold tag) s = .next t ∧
      completes s t tag (conflict k) ∧
      (∀ k, k ≠ (tag : Nat) → t.cmd k = s.cmd k) ∧
      unchangedBut [.tags, .cmds, .cqs] (s.letGo tag) t) ∧
  (∀ (tag : TagNo) (s : State), s.mayBegin tag 0x31 1 = true →
    ∃ t, exec (.counterCtlClearRange tag) s = .next t ∧
      (∀ k, k ∈ (s.countersIn (s.cmd tag).pkt.p2.toNat (s.cmd tag).pkt.p3.toNat).map (ctrKey (s.cmd tag).ep) → t.counter k = {}) ∧
      (∀ k, k ∉ (s.countersIn (s.cmd tag).pkt.p2.toNat (s.cmd tag).pkt.p3.toNat).map (ctrKey (s.cmd tag).ep) → t.counter k = s.counter k)
        ∧
      completes s t tag {} ∧
      (∀ k, k ≠ (tag : Nat) → t.cmd k = s.cmd k) ∧
      unchangedBut [.ctr, .tags, .cqs, .cmds] (s.letGo tag) t) ∧
  (∀ (tag : TagNo) (s : State), s.mayBegin tag 0x31 2 = true →
    ∃ t, exec (.counterCtlClearAll tag) s = .next t ∧
      (∀ k, ctrOf (s.cmd tag).ep k = true → t.counter k = {}) ∧
      (∀ k, ctrOf (s.cmd tag).ep k = false → t.counter k = s.counter k) ∧
      completes s t tag {} ∧
      (∀ k, k ≠ (tag : Nat) → t.cmd k = s.cmd k) ∧
      unchangedBut [.ctr, .tags, .cqs, .cmds] (s.letGo tag) t) ∧
  (∀ (tag : TagNo) (s : State), s.mayBegin tag 0x31 3 = true → firstCode [(!s.factory, 0x000C)] = none →
    ∃ t, exec (.counterCtlClearTime tag) s = .next t ∧
      t.time = { up := s.time.up } ∧
      completes s t tag {} ∧
      (∀ k, k ≠ (tag : Nat) → t.cmd k = s.cmd k) ∧
      unchangedBut [.time, .tags, .cqs, .cmds] (s.letGo tag) t) ∧
  (∀ (tag : TagNo) (k : Nat) (s : State), s.mayBegin tag 0x31 3 = true → firstCode [(!s.factory, 0x000C)] = some k →
    ∃ t, exec (.counterCtlClearTime tag) s = .next t ∧
      completes s t tag (conflict k) ∧
      (∀ k, k ≠ (tag : Nat) → t.cmd k = s.cmd k) ∧
      unchangedBut [.tags, .cmds, .cqs] (s.letGo tag) t) ∧
  (∀ (s : State), s.mns.busUp = true → s.time.ops + 1 < 3600 →
    ∃ t, exec .opsTick s = .next t ∧
      t.time = { s.time with ops := s.time.ops + 1, up := s.time.up + 1 } ∧
      t.pwr = { s.pwr with timerLeft := s.pwr.timerLeft - 1 } ∧
      t.nor = s.nor ∧
      t.mns = { s.mns with bank := { s.mns.bank with sinceTest := addSat 86400 s.mns.bank.sinceTest 1 } } ∧
      unchangedBut [.time, .pwr, .mns] s t) ∧
  (∀ (s : State), s.mns.busUp = true → 3600 ≤ s.time.ops + 1 → s.time.ophSat = false → s.time.oph + 1 < 2 ^ 32 →
    ∃ t, exec .opsTick s = .next t ∧
      t.time = { s.time with ops := 0, oph := s.time.oph + 1, up := s.time.up + 1 } ∧
      t.nor = { s.nor with time := t.time, ctr := s.ctr } ∧
      t.pwr = { s.pwr with timerLeft := s.pwr.timerLeft - 1 } ∧
      t.mns = { s.mns with bank := { s.mns.bank with sinceTest := addSat 86400 s.mns.bank.sinceTest 1 } } ∧
      unchangedBut [.time, .pwr, .nor, .mns] s t) ∧
  (∀ (s : State), s.mns.busUp = true → 3600 ≤ s.time.ops + 1 → s.time.ophSat = false → 2 ^ 32 ≤ s.time.oph + 1 → s.eventRoom = true →
    ∃ t, exec .opsTick s = .next t ∧
      t.time = { s.time with ops := 0, oph := 2 ^ 32 - 1, ophSat := true, up := s.time.up + 1 } ∧
      t.nor.time = t.time ∧
      offered t (mkMsg 18 0 0x3F 0x18) ∧
      unchangedBut [.nor, .ctr, .time, .flt, .pwr, .mns] s t) ∧
  (∀ (s : State), s.mns.busUp = true → 3600 ≤ s.time.ops + 1 → s.time.ophSat = true → s.eventRoom = true →
    ∃ t, exec .opsTick s = .next t ∧
      t.time = { s.time with ops := 0, up := s.time.up + 1 } ∧
      t.nor.time = t.time ∧
      unchangedBut [.nor, .ctr, .time, .flt, .pwr, .mns] s t) ∧
  (∀ (s : State), s.mns.busUp = false →
    exec .opsTick s = .next s)

/-- A source with eight messages waiting holds the operation that detects a further occurrence: a stalled handshake of it changes nothing
but the count of such occurrences, once, until there is room. FAULT_CTL SET_MASK puts a mask in force for the sources named, also in NOR,
GET_MASK returns one, RESTORE_DEFAULTS makes every mask the default of its subsystem. INJECT, in factory mode, offers the message given, or
works the stop of the path named, marked as injected. The collector takes the oldest message of the lowest source, enters it in the fault
history with its stamp and the reactions carried out, drives FAULT_N low where the reaction has it and resets the module where it has that.
Where no core restart and no module reset follows, it queues the record where the severity reaches the floor or the mask has MGT_NMI, as
long as the log has room, else counts a drop, sets the subsystem's bit of FAULT_SUM for an ERROR or worse, and keeps a snapshot to take for
MGT_NMI. A command that offers an event finds room in its source's buffer (R548; FaultControlAndAcceptance states the hold). -/
def Obligations.FaultControlAndAcceptance : Prop :=
  (∀ (tag : TagNo) (s : State), s.mayBegin tag 0x32 1 = true → s.eventRoom = true →
    ∃ t, exec (.faultCtlSetMask tag) s = .next t ∧
      (∀ k, k ∈ (srcsOf (s.cmd tag).pkt) → t.maskOf k = (BitVec.ofNat 5 (s.cmd tag).pkt.p3.toNat) ∧ sget t.nor.masks k (defaultMask (k /
        64)) = (BitVec.ofNat 5 (s.cmd tag).pkt.p3.toNat)) ∧
      (∀ k, k ∉ (srcsOf (s.cmd tag).pkt) → t.maskOf k = s.maskOf k) ∧
      completes s t tag {} ∧
      (∀ k, k ≠ (tag : Nat) → t.cmd k = s.cmd k) ∧
      unchangedBut [.nor, .flt, .tags, .cqs, .cmds] (s.letGo tag) t) ∧
  (∀ (tag : TagNo) (s : State), s.mayBegin tag 0x32 2 = true →
    ∃ t, exec (.faultCtlGetMask tag) s = .next t ∧
      completes s t tag { r0 := (s.maskOf ((srcsOf (s.cmd tag).pkt).headD 0)).toNat } ∧
      t.flt = s.flt ∧
      (∀ k, k ≠ (tag : Nat) → t.cmd k = s.cmd k) ∧
      unchangedBut [.tags, .cqs, .cmds] (s.letGo tag) t) ∧
  (∀ (tag : TagNo) (s : State), s.mayBegin tag 0x32 3 = true → s.eventRoom = true →
    ∃ t, exec (.faultCtlRestoreDefaults tag) s = .next t ∧
      (∀ k, t.maskOf k = defaultMask (k / 64)) ∧
      t.nor.masks = [] ∧ t.flt = { s.flt with masks := [] } ∧
      completes s t tag {} ∧
      (∀ k, k ≠ (tag : Nat) → t.cmd k = s.cmd k) ∧
      unchangedBut [.nor, .flt, .tags, .cqs, .cmds] (s.letGo tag) t) ∧
  (∀ (tag : TagNo) (k : Nat) (s : State), s.mayBegin tag 0x32 4 = true → firstCode [(!s.factory, 0x000C)] = some k →
    ∃ t, exec (.faultCtlInject tag) s = .next t ∧
      completes s t tag (conflict k) ∧
      (∀ k, k ≠ (tag : Nat) → t.cmd k = s.cmd k) ∧
      unchangedBut [.tags, .cmds, .cqs] (s.letGo tag) t) ∧
  (∀ (tag : TagNo) (s : State), s.mayBegin tag 0x32 4 = true → firstCode [(!s.factory, 0x000C)] = none → bit (s.cmd tag).pkt.p3.toNat 8 =
    false → s.eventRoom = true →
    ∃ t, exec (.faultCtlInject tag) s = .next t ∧
      t.flt.offered.getLast? = some
          { msg := mkMsg (bits (s.cmd tag).pkt.p2.toNat 4 0) (bits (s.cmd tag).pkt.p2.toNat 13 8) (bits (s.cmd tag).pkt.p3.toNat 5 0)
                ((s.cmd tag).pkt.p4.toNat + bits (s.cmd tag).pkt.p5.toNat 7 0 * 2 ^ 32), injected := true } ∧
      completes s t tag {} ∧
      (∀ k, k ≠ (tag : Nat) → t.cmd k = s.cmd k) ∧
      unchangedBut [.free, .out, .ctr, .flt, .pwr, .mns, .cal, .hdas, .mus, .ldp, .tags, .cqs, .cmds, .mgt, .bca] (s.letGo tag) t) ∧
  (∀ (tag : TagNo) (s : State), s.mayBegin tag 0x32 4 = true → firstCode [(!s.factory, 0x000C)] = none → bit (s.cmd tag).pkt.p3.toNat 8 =
    true → s.eventRoom = true →
    ∃ t, exec (.faultCtlInject tag) s = .next t ∧
      ((bits (s.cmd tag).pkt.p2.toNat 4 0) = 11 → (bits (s.cmd tag).pkt.p3.toNat 5 0) ≤ 2 → (t.mu (bits (s.cmd tag).pkt.p2.toNat 13
        8)).was.wgCut = true ∧ t.flt.offered.any (fun e => e.msg == mkMsg 11 (bits (s.cmd tag).pkt.p2.toNat 13 8) (bits (s.cmd
        tag).pkt.p3.toNat 5 0) ((s.cmd tag).pkt.p4.toNat + bits (s.cmd tag).pkt.p5.toNat 7 0 * 2 ^ 32) && e.injected) = true) ∧
      ((bits (s.cmd tag).pkt.p2.toNat 4 0) = 11 → (bits (s.cmd tag).pkt.p3.toNat 5 0) = 3 → (t.mu (bits (s.cmd tag).pkt.p2.toNat 13
        8)).was.crcCut = true ∧ t.flt.offered.any (fun e => e.msg == mkMsg 11 (bits (s.cmd tag).pkt.p2.toNat 13 8) 3 ((s.cmd
        tag).pkt.p4.toNat + bits (s.cmd tag).pkt.p5.toNat 7 0 * 2 ^ 32) && e.injected) = true) ∧
      ((bits (s.cmd tag).pkt.p2.toNat 4 0) = 11 → (bits (s.cmd tag).pkt.p3.toNat 5 0) = 8 → (t.mu (bits (s.cmd tag).pkt.p2.toNat 13
        8)).was.astCut = true ∧ t.flt.offered.any (fun e => e.msg == mkMsg 11 (bits (s.cmd tag).pkt.p2.toNat 13 8) 8 ((s.cmd
        tag).pkt.p4.toNat + bits (s.cmd tag).pkt.p5.toNat 7 0 * 2 ^ 32) && e.injected) = true) ∧
      ((bits (s.cmd tag).pkt.p2.toNat 4 0) = 12 → (bits (s.cmd tag).pkt.p3.toNat 5 0) = 1 → t.flt.offered.any (fun e => e.msg == mkMsg 12
        (bits (s.cmd tag).pkt.p2.toNat 13 8) 1 (1 + ((s.cmd tag).pkt.p4.toNat + bits (s.cmd tag).pkt.p5.toNat 7 0 * 2 ^ 32) / 16 * 16) &&
        e.injected) = true) ∧
      ((bits (s.cmd tag).pkt.p2.toNat 4 0) = 12 → (bits (s.cmd tag).pkt.p3.toNat 5 0) = 3 → t.flt.offered.any (fun e => e.msg == mkMsg 12
        (bits (s.cmd tag).pkt.p2.toNat 13 8) 3 ((s.cmd tag).pkt.p4.toNat + bits (s.cmd tag).pkt.p5.toNat 7 0 * 2 ^ 32) && e.injected) =
        true) ∧
      ((bits (s.cmd tag).pkt.p2.toNat 4 0) = 13 → (bits (s.cmd tag).pkt.p3.toNat 5 0) = 1 → t.flt.offered.any (fun e => e.msg == mkMsg 13
        (bits (s.cmd tag).pkt.p2.toNat 13 8) 1 ((s.cmd tag).pkt.p4.toNat + bits (s.cmd tag).pkt.p5.toNat 7 0 * 2 ^ 32) && e.injected) =
        true) ∧
      (t.tag tag).st = .posted ∧
      unchangedBut [.free, .out, .ctr, .flt, .log, .pwr, .mns, .cal, .hdas, .mus, .store, .ldp, .tags, .cqs, .cmds, .mgt, .buf, .bca] s t) ∧
  (∀ (e : Ev) (s : State), s.mns.busUp = true → (s.flt.offered.find? (fun x => msgSrc x.msg == lowestSrc s.flt.offered) = some e) →
    ∃ t, exec .faultEventAccept s = .next t ∧
      t.flt.hist.getLast? = some
          { msg := e.msg, oph := (e.stamp.getD s.time).oph, ops := (e.stamp.getD s.time).ops, logged := (decide (s.log.floor ≤ msgSev
                e.msg) || (s.reactionOf e.msg).getLsbD 1) && decide (logCount s.log.queue < 255), injected := e.injected, react :=
                (s.reactionOf e.msg), hseq := s.flt.hseq } ∧
      (t.flt.hist.length = Nat.min 64 (s.flt.hist.length + 1) ∨ 64 < s.flt.hist.length) ∧
      t.flt.hseq = (s.flt.hseq + 1) % 256 ∧
      (∀ x, x ∈ dropFirst (fun y : Ev => msgSrc y.msg == lowestSrc s.flt.offered) s.flt.offered → x ∈ t.flt.offered) ∧
      ((s.reactionOf e.msg).getLsbD 4 = true → t.flt.pin = true ∧ t.flt.firstSrc = if s.flt.pin then s.flt.firstSrc else msgSrc e.msg) ∧
      ((s.reactionOf e.msg).getLsbD 3 = true → t.start.phase = .inReset) ∧
      unchangedBut [.free, .out, .nor, .ctr, .time, .flt, .log, .thp, .pwr, .mns, .cal, .start, .hdas, .mus, .store, .ldp, .eps, .dual,
        .feat, .owners, .mctpEid, .alert, .ports, .tags, .cqs, .cmds, .accept, .mgt, .buf, .bca, .vlt, .sec] s t) ∧
  (∀ (e : Ev) (s : State), s.mns.busUp = true → (s.flt.offered.find? (fun x => msgSrc x.msg == lowestSrc s.flt.offered) = some e) →
    (s.reactionOf e.msg).getLsbD 2 = false → (s.reactionOf e.msg).getLsbD 3 = false →
    ∃ t, exec .faultEventAccept s = .next t ∧
      ((decide (s.log.floor ≤ msgSev e.msg) || (s.reactionOf e.msg).getLsbD 1) = true → logCount s.log.queue < 255 → t.log.queue =
        s.log.queue ++ s.droppedMarker ++ [.record (s.eventHeader e (s.reactionOf e.msg))]) ∧
      ((decide (s.log.floor ≤ msgSev e.msg) || (s.reactionOf e.msg).getLsbD 1) = true → ¬logCount s.log.queue < 255 → t.log.queue =
        s.log.queue ∧ t.log.pendingDrops = s.log.pendingDrops + 1) ∧
      ((decide (s.log.floor ≤ msgSev e.msg) || (s.reactionOf e.msg).getLsbD 1) = false → t.log.queue = s.log.queue) ∧
      (2 ≤ msgSev e.msg → (t.ep 0).faultSum = (s.ep 0).faultSum ||| (1#32 <<< msgSub e.msg)) ∧
      (t.log.nmi.length = s.log.nmi.length + if (s.reactionOf e.msg).getLsbD 1 then 1 else 0) ∧
      unchangedBut [.flt, .ctr, .eps, .alert, .log, .cqs] s t) ∧
  (∀ (sub inst sender sinst cls : Nat) (s : State), s.islandsRun = true → inst < instancesOf sub → sinst < instancesOf sender → cls < 4 →
    s.channelOpen sub inst = true → s.channelOpen sender sinst = true → 8 ≤ s.waitingOf (sub * 64 + inst) → s.flt.holding.contains (sub *
    64 + inst) = false →
    ∃ t, exec (.handshakeStall sub inst sender sinst cls) s = .next t ∧
      t.counter 0x01110008 = Ctr.add 31 1 (s.counter 0x01110008) ∧
      t.flt.holding = (sub * 64 + inst) :: s.flt.holding ∧
      (s.saturates 0x01110008 31 1 = false → t.flt.offered = s.flt.offered) ∧
      unchangedBut [.ctr, .flt] s t) ∧
  (∀ (sub inst sender sinst cls : Nat) (s : State), s.islandsRun = true → inst < instancesOf sub → sinst < instancesOf sender → cls < 4 →
    s.channelOpen sub inst = true → s.channelOpen sender sinst = true → 8 ≤ s.waitingOf (sub * 64 + inst) → s.flt.holding.contains (sub *
    64 + inst) = true →
    exec (.handshakeStall sub inst sender sinst cls) s = .next s) ∧
  (∀ (s : State), s.flt.offered = [] →
    exec .faultEventAccept s = .next s) ∧
  (∀ (s : State), s.mns.busUp = false →
    exec .faultEventAccept s = .next s)

/-- The log writer programs the START marker that is due, or the first queued record whose ring has room, with the next write index; a
program that fails retires the slot with one event, and the record stays. A CLEARED marker discards every earlier record and completes its
command with their number. The erase of the oldest segment frees it, or retires it with one event. A snapshot is queued as its records. A
stalled handshake, a hung core, a saturated core load and a failed latent test each raise their event and set their bits. A command that
offers an event finds room in its source's buffer (R548; FaultControlAndAcceptance states the hold). -/
def Obligations.LogWriterAndMonitors : Prop :=
  (∀ (r : LogRec) (s : State), s.log.running = true → s.mns.busUp = true → (s.mns.powerFail = true ∨ s.booksMayRun = true) → s.startNow =
    some r → (s.ring true).room = true → s.eventRoom = true →
    ∃ t, exec (.logRecordWrite true) s = .next t ∧
      (((t.ring true).segs.getLast?).bind (·.recs.getLast?)) = some { index := s.nor.windex, entry := r } ∧
      t.log.startDue = none ∧ t.log.queue = dropBoundary s.log.queue ∧
      t.nor.windex = (s.nor.windex + 1) % 2 ^ 32 ∧
      t.ring false = s.ring false ∧
      unchangedBut [.nor, .ctr, .flt, .log, .tags, .cqs, .cmds] s t) ∧
  (∀ (r : LogRec) (s : State), s.log.running = true → s.mns.busUp = true → (s.mns.powerFail = true ∨ s.booksMayRun = true) → s.startNow =
    some r → (s.ring true).room = false →
    exec (.logRecordWrite true) s = .next s) ∧
  (∀ (r : LogRec) (q : List LogItem) (s : State), s.log.running = true → s.mns.busUp = true → (s.mns.powerFail = true ∨ s.booksMayRun =
    true) → s.startNow = none → s.nextRecord s.log.queue true = some (r, q) → (r.event == 0x0432 && r.isMarker) = false → s.eventRoom =
    true →
    ∃ t, exec (.logRecordWrite true) s = .next t ∧
      (((t.ring r.inH).segs.getLast?).bind (·.recs.getLast?)) = some { index := s.nor.windex, entry := r } ∧
      t.log = { s.log with queue := q } ∧
      t.nor.windex = (s.nor.windex + 1) % 2 ^ 32 ∧
      t.ring (!r.inH) = s.ring (!r.inH) ∧
      unchangedBut [.nor, .ctr, .flt, .log, .tags, .cqs, .cmds] s t) ∧
  (∀ (r : LogRec) (q : List LogItem) (s : State), s.log.running = true → s.mns.busUp = true → (s.mns.powerFail = true ∨ s.booksMayRun =
    true) → s.startNow = none → s.nextRecord s.log.queue true = some (r, q) → (r.event == 0x0432 && r.isMarker) = true → s.eventRoom =
    true →
    ∃ t, exec (.logRecordWrite true) s = .next t ∧
      (t.ring true).held.length = 1 ∧ (t.ring false).held = [] ∧
      t.log = { s.log with queue := q } ∧
      (∀ n, r.cmd = some n → s.live n = true → completes s t n { r0 := s.logHeld.length }) ∧
      unchangedBut [.nor, .ctr, .flt, .log, .tags, .cqs, .cmds] s t) ∧
  (∀ (r : LogRec) (q : List LogItem) (s : State), s.log.running = true → s.mns.busUp = true → (s.mns.powerFail = true ∨ s.booksMayRun =
    true) → s.startNow = none → s.nextRecord s.log.queue true = some (r, q) → s.eventRoom = true →
    ∃ t, exec (.logRecordWrite false) s = .next t ∧
      t.log = s.log ∧
      offered t (mkMsg 16 0 1 (s.ring r.inH).ready.slot) ∧
      (t.ring r.inH).used = (s.ring r.inH).ready.used + 1 ∧ (t.ring r.inH).segs = (s.ring r.inH).ready.segs ∧
      t.nor.windex = s.nor.windex ∧
      unchangedBut [.nor, .ctr, .flt, .log, .tags, .cqs, .cmds] s t) ∧
  (∀ (ok : Bool) (s : State), s.startNow = none → s.nextRecord s.log.queue true = none →
    exec (.logRecordWrite ok) s = .next s) ∧
  (∀ (ok : Bool) (s : State), s.mns.powerFail = false → s.booksMayRun = false →
    exec (.logRecordWrite ok) s = .next s) ∧
  (∀ (ok : Bool) (s : State), s.log.running = false →
    exec (.logRecordWrite ok) s = .next s) ∧
  (∀ (ringH ok : Bool) (g : LogSeg) (r : List LogSeg) (s : State), s.log.running = true → s.mns.busUp = true → (s.ring ringH).erased = []
    → (s.ring ringH).segs = g :: r → r ≠ [] → s.backgroundMayRun = true → s.eventRoom = true →
    ∃ t, exec (.logSegmentErase ringH ok) s = .next t ∧
      (t.ring ringH).segs = r ∧
      ((t.ring ringH).erased = if ok then [g.no] else []) ∧
      ((t.ring ringH).retired = (s.ring ringH).retired + if ok then 0 else 1) ∧
      t.ring (!ringH) = s.ring (!ringH) ∧
      (ok = false → offered t (mkMsg 16 0 2 g.no)) ∧
      unchangedBut [.nor, .ctr, .flt] s t) ∧
  (∀ (ringH ok : Bool) (s : State), ((s.ring ringH).segs.length < 2 ∨ (s.ring ringH).erased ≠ []) →
    exec (.logSegmentErase ringH ok) s = .next s) ∧
  (∀ (p : NmiPending) (r : List NmiPending) (s : State), s.log.running = true → s.log.nmi = p :: r → s.activationRuns = false →
    s.log.pendingDrops = 0 → logCount s.log.queue + (s.snapshotRecords p.src p.header).length ≤ 255 →
    ∃ t, exec .nmiSnapshot s = .next t ∧
      t.log = { s.log with
          nmi := r, queue := s.log.queue ++ (s.snapshotRecords p.src p.header).map .record, pendingDrops := 0, dropSev := 0 } ∧
      unchangedBut [.log] s t) ∧
  (∀ (p : NmiPending) (r : List NmiPending) (s : State), s.log.running = true → s.log.nmi = p :: r → s.activationRuns = false →
    s.eventRoom = true →
    ∃ t, exec .nmiSnapshot s = .next t ∧
      t.log.nmi = r ∧
      unchangedBut [.ctr, .flt, .log] s t) ∧
  (∀ (s : State), (s.log.nmi = [] ∨ s.activationRuns = true) →
    exec .nmiSnapshot s = .next s) ∧
  (∀ (sub inst sender sinst cls : Nat) (s : State), s.islandsRun = true → inst < instancesOf sub → sinst < instancesOf sender → cls < 4 →
    s.channelOpen sub inst = true → s.channelOpen sender sinst = true → s.eventRoom = true →
    ∃ t, exec (.handshakeStall sub inst sender sinst cls) s = .next t ∧
      offered t (mkMsg sub inst 0x3C (sender + sinst * 32 + cls * 2048)) ∧
      unchangedBut [.ctr, .flt] s t) ∧
  (∀ (sub inst sender sinst cls : Nat) (s : State), (s.islandsRun = false ∨ instancesOf sub ≤ inst ∨ instancesOf sender ≤ sinst ∨ 4 ≤ cls
    ∨ s.channelOpen sub inst = false ∨ s.channelOpen sender sinst = false) →
    exec (.handshakeStall sub inst sender sinst cls) s = .next s) ∧
  (∀ (core : Nat) (task : HungTask) (s : State), core < 4 → s.islandsRun = true → s.mgt.hung.getLsbD core = false → (core = 0 ∨
    s.pwr.coresHalted = false) → s.inHands task = true → s.eventRoom = true →
    ∃ t, exec (.mgtHang core task) s = .next t ∧
      t.mgt.hung = s.mgt.hung ||| (1#4 <<< core) ∧ t.mgt.hungSeen = s.mgt.hungSeen ||| (1#4 <<< core) ∧ sget t.mgt.hungTasks core .none =
        task ∧
      offered t (mkMsg 14 0 2 core) ∧
      (∀ n, task = .command n → s.at_ n .managed = true → t.cmd n = { s.cmd n with phase := .executing }) ∧
      unchangedBut [.free, .ctr, .flt, .hdas, .mus, .cmds, .mgt] s t) ∧
  (∀ (core : Nat) (task : HungTask) (s : State), (4 ≤ core ∨ s.mgt.hung.getLsbD core = true ∨ s.inHands task = false) →
    exec (.mgtHang core task) s = .next s) ∧
  (∀ (load : Nat) (s : State), s.islandsRun = true → load ≤ 100 → s.eventRoom = true →
    ∃ t, exec (.mgtLoadPublish load) s = .next t ∧
      t.mgt.load = load ∧
      (90 < load → t.mgt.highRun = Nat.min 100 (s.mgt.highRun + 1)) ∧
      (load ≤ 90 → t.mgt.highRun = 0 ∧ t.mgt.saturated = false) ∧
      (90 < load → s.mgt.highRun = 99 → offered t (mkMsg 14 0 1 load) ∧ t.counter 0x010E0008 = Ctr.add 31 1 (s.counter 0x010E0008)) ∧
      unchangedBut [.ctr, .flt, .mgt] s t) ∧
  (∀ (load : Nat) (s : State), (100 < load ∨ s.islandsRun = false) →
    exec (.mgtLoadPublish load) s = .next s) ∧
  (∀ (test sub inst part : Nat) (s : State), s.islandsRun = true → s.latentMay test sub inst part = true → s.eventRoom = true →
    ∃ t, exec (.latentTest test sub inst part true) s = .next t ∧
      t.flt = { s.flt with latent := s.flt.latent &&& ~~~(1#9 <<< (test - 1)) } ∧
      unchangedBut [.ctr, .flt] s t) ∧
  (∀ (test sub inst part : Nat) (s : State), s.islandsRun = true → s.latentMay test sub inst part = true → s.eventRoom = true →
    ∃ t, exec (.latentTest test sub inst part false) s = .next t ∧
      t.flt.latent = s.flt.latent ||| (1#9 <<< (test - 1)) ∧
      offered t (mkMsg sub inst 0x3B (test + part * 256)) ∧
      unchangedBut [.ctr, .flt] s t) ∧
  (∀ (test sub inst part : Nat) (pass : Bool) (s : State), s.latentMay test sub inst part = false →
    exec (.latentTest test sub inst part pass) s = .next s)

/-- CALIBRATE HOLDUP_TEST waits for the next health test. CALREF, with a token and CALREF connected, begins the measurements, one command at
a time; a correction out of range ends the command with its item and one event, otherwise a new module record is in force, with five events.
CONVERTER counts nine periods of every converter from now on, or completes where none is waited for. CHANNEL plans its takes and, after the
last, changes the entries of the zones that converged, takes the trims in and returns the counts, also where an endpoint reset has discarded
its command. STORE writes the record of the HDA with the next sequence number. A command that offers an event finds room in its source's
buffer (R548; FaultControlAndAcceptance states the hold). -/
def Obligations.Calibration : Prop :=
  (∀ (tag : TagNo) (s : State), s.mayBegin tag 0x2B 1 = true →
    ∃ t, exec (.calibrateHoldupTest tag) s = .next t ∧
      t.mns = { s.mns with bank := { s.mns.bank with hostRequests := s.mns.bank.hostRequests ++ [tag.val] } } ∧
      t.cmd tag = { s.cmd tag with phase := .executing } ∧
      (∀ k, k ≠ (tag : Nat) → t.cmd k = s.cmd k) ∧
      unchangedBut [.free, .log, .pwr, .mns, .cal, .hdas, .mus, .store, .tags, .cqs, .cmds, .mgt, .buf, .bca] s t) ∧
  (∀ (tag : TagNo) (token : List Byte) (s : State), s.cal.busy = true →
    exec (.calibrateCalref tag token) s = .next s) ∧
  (∀ (tag : TagNo) (token : List Byte) (k : Nat) (s : State), s.cal.busy = false → s.mayBegin tag 0x2B 2 = true → s.hostOk (s.cmd tag).ep
    = true → firstCode [(!s.mns.calref, 0x000E)] = some k →
    ∃ t, exec (.calibrateCalref tag token) s = .next t ∧
      completes s t tag (conflict k) ∧
      (∀ k, k ≠ (tag : Nat) → t.cmd k = s.cmd k) ∧
      unchangedBut [.tags, .cmds, .cqs] (s.letGo tag) t) ∧
  (∀ (tag : TagNo) (token : List Byte) (s : State), s.cal.busy = false → s.mayBegin tag 0x2B 2 = true → s.hostOk (s.cmd tag).ep = true →
    s.mns.calref = true → (s.cmd tag).pkt.mptr = 0 →
    ∃ t, exec (.calibrateCalref tag token) s = .next t ∧
      completes s t tag { status := 0x0500 } ∧
      (∀ k, k ≠ (tag : Nat) → t.cmd k = s.cmd k) ∧
      unchangedBut [.tags, .cmds, .cqs] (s.letGo tag) t) ∧
  (∀ (tag : TagNo) (token : List Byte) (c : Nat) (s : State), s.cal.busy = false → s.mayBegin tag 0x2B 2 = true → s.hostOk (s.cmd tag).ep
    = true → s.mns.calref = true → (s.cmd tag).pkt.mptr ≠ 0 → s.tokenFault (s.cmd tag).ep (s.cmd tag).pkt token [] false = some c →
    s.eventRoom = true →
    ∃ t, exec (.calibrateCalref tag token) s = .next t ∧
      completes s t tag { status := 0x0501, r0 := c } ∧
      (t.ep (s.cmd tag).ep).nonce = none ∧
      (∀ e, e ≠ (s.cmd tag).ep → t.ep e = s.ep e) ∧
      offered t (mkMsg 15 0 3 c) ∧
      t.counter 0x010F0020 = Ctr.add 31 1 (s.counter 0x010F0020) ∧
      (∀ k, k ≠ (tag : Nat) → t.cmd k = s.cmd k) ∧
      unchangedBut [.tags, .cmds, .cqs, .eps, .flt, .ctr] (s.letGo tag) t) ∧
  (∀ (tag : TagNo) (token : List Byte) (s : State), s.cal.busy = false → s.mayBegin tag 0x2B 2 = true → s.hostOk (s.cmd tag).ep = true →
    s.mns.calref = true → (s.cmd tag).pkt.mptr ≠ 0 → s.eventRoom = true →
    ∃ t, exec (.calibrateCalref tag token) s = .next t ∧
      (s.tokenFault (s.cmd tag).ep (s.cmd tag).pkt token [] false = none → (t.ep (s.cmd tag).ep).nonce = none ∧ t.cal =
        { s.cal with busy := true, calrefCmd := some tag.val } ∧ t.cmd tag = { s.cmd tag with phase := .executing }) ∧
      unchangedBut [.free, .ctr, .flt, .log, .pwr, .mns, .cal, .hdas, .mus, .store, .eps, .tags, .cqs, .cmds, .mgt, .buf, .bca] s t) ∧
  (∀ (found : CalrefIn) (k : Nat) (s : State), s.cal.busy = true → s.mns.calref = true → calrefBad found = some k → s.eventRoom = true →
    ∃ t, exec (.calrefMeasurementDone found) s = .next t ∧
      t.cal = { s.cal with busy := false, calrefCmd := none } ∧
      t.nor = s.nor ∧
      offered t (mkMsg 19 0 2 k) ∧
      t.counter (aCal 0x1104) = Ctr.add 31 1 (s.counter (aCal 0x1104)) ∧
      (∀ n, s.cal.calrefCmd = some n → s.live n = true → completes s t n { status := 0x0401, r0 := k }) ∧
      unchangedBut [.nor, .ctr, .flt, .cal, .tags, .cqs, .cmds] s t) ∧
  (∀ (found : CalrefIn) (s : State), s.cal.busy = true → s.mns.calref = true → calrefBad found = none → s.eventRoom = true →
    ∃ t, exec (.calrefMeasurementDone found) s = .next t ∧
      t.cal.busy = false ∧ t.cal.uncompensated = false ∧ t.cal.oscCorr = found.osc ∧ t.cal.coreCorr = found.core ∧ t.cal.vrefCorr =
        found.vref ∧
      t.cal.refs = [s.newCoef 0 15 found.osc, s.newCoef 1 0 found.core, s.newCoef 2 15 found.vref] ∧
      (t.nor.cal.getLast?.map (fun r => (r.recno, r.good, r.refs, r.adc)) = some (0, true, t.cal.refs, found.adc)) ∧
      t.nor.cal.filter (·.recno != 0) = s.nor.cal.filter (·.recno != 0) ∧
      (∀ k, k ∈ [1, 2, 3, 4, 5] → offered t (mkMsg 19 0 3 k)) ∧
      (∀ n, s.cal.calrefCmd = some n → s.live n = true → completes s t n {}) ∧
      unchangedBut [.nor, .ctr, .flt, .cal, .tags, .cqs, .cmds] s t) ∧
  (∀ (found : CalrefIn) (s : State), (s.cal.busy = false ∨ s.mns.calref = false) →
    exec (.calrefMeasurementDone found) s = .next s) ∧
  (∀ (tag : TagNo) (s : State), s.asleep = true →
    exec (.calibrateConverter tag) s = .next s) ∧
  (∀ (tag : TagNo) (k : Nat) (s : State), s.asleep = false → s.mayBegin tag 0x2B 5 = true → firstCode [s.ps4Code] = some k →
    ∃ t, exec (.calibrateConverter tag) s = .next t ∧
      completes s t tag (conflict k) ∧
      (∀ k, k ≠ (tag : Nat) → t.cmd k = s.cmd k) ∧
      unchangedBut [.tags, .cmds, .cqs] (s.letGo tag) t) ∧
  (∀ (tag : TagNo) (s : State), s.asleep = false → s.mayBegin tag 0x2B 5 = true → firstCode [s.ps4Code] = none → (List.range 64).any
    s.convWaited = true →
    ∃ t, exec (.calibrateConverter tag) s = .next t ∧
      t.cal.converterCmds = s.cal.converterCmds ++ [tag.val] ∧ t.cal.periods = [] ∧
      (∀ c, c < 64 → s.convWaited c = true → t.cal.stalled.getLsbD c = false) ∧
      t.cmd tag = { s.cmd tag with phase := .executing } ∧
      (∀ k, k ≠ (tag : Nat) → t.cmd k = s.cmd k) ∧
      unchangedBut [.free, .log, .pwr, .mns, .cal, .hdas, .mus, .store, .tags, .cqs, .cmds, .mgt, .buf, .bca] s t) ∧
  (∀ (tag : TagNo) (s : State), s.asleep = false → s.mayBegin tag 0x2B 5 = true → firstCode [s.ps4Code] = none → (List.range 64).any
    s.convWaited = false →
    ∃ t, exec (.calibrateConverter tag) s = .next t ∧
      t.cal.converterCmds = [] ∧
      (t.tag tag).st = .posted ∧
      (s.cal.converterCmds.contains (tag : Nat) = false → completes s t tag { r0 := s.convResult }) ∧
      unchangedBut [.free, .log, .pwr, .mns, .cal, .hdas, .mus, .store, .tags, .cqs, .cmds, .mgt, .buf, .bca] s t) ∧
  (∀ (tag : TagNo) (token : List Byte) (adapted : List (Nat × List Byte)) (s : State), (s.mu (s.cmd tag).pkt.vol).sch.calib = none →
    s.mayBegin tag 0x2B 3 = true → s.hostOk (s.cmd tag).ep = true → firstCode [s.ownScoped tag, s.absentCode tag, s.stoppedCode tag] =
    none → (s.cmd tag).pkt.mptr = 0 →
    ∃ t, exec (.calibrateChannel tag token adapted) s = .next t ∧
      completes s t tag { status := 0x0500 } ∧
      (∀ k, k ≠ (tag : Nat) → t.cmd k = s.cmd k) ∧
      unchangedBut [.tags, .cmds, .cqs] (s.letGo tag) t) ∧
  (∀ (tag : TagNo) (token : List Byte) (adapted : List (Nat × List Byte)) (c : Nat) (s : State), (s.mu (s.cmd tag).pkt.vol).sch.calib =
    none → s.mayBegin tag 0x2B 3 = true → s.hostOk (s.cmd tag).ep = true → firstCode [s.ownScoped tag, s.absentCode tag, s.stoppedCode
    tag] = none → (s.cmd tag).pkt.mptr ≠ 0 → s.tokenFault (s.cmd tag).ep (s.cmd tag).pkt token [] false = some c → s.eventRoom = true →
    ∃ t, exec (.calibrateChannel tag token adapted) s = .next t ∧
      completes s t tag { status := 0x0501, r0 := c } ∧
      (t.ep (s.cmd tag).ep).nonce = none ∧
      (∀ e, e ≠ (s.cmd tag).ep → t.ep e = s.ep e) ∧
      offered t (mkMsg 15 0 3 c) ∧
      t.counter 0x010F0020 = Ctr.add 31 1 (s.counter 0x010F0020) ∧
      (∀ k, k ≠ (tag : Nat) → t.cmd k = s.cmd k) ∧
      unchangedBut [.tags, .cmds, .cqs, .eps, .flt, .ctr] (s.letGo tag) t) ∧
  (∀ (tag : TagNo) (token : List Byte) (adapted : List (Nat × List Byte)) (s : State), (s.mu (s.cmd tag).pkt.vol).sch.calib = none →
    s.mayBegin tag 0x2B 3 = true → s.hostOk (s.cmd tag).ep = true → firstCode [s.ownScoped tag, s.absentCode tag, s.stoppedCode tag] =
    none → (s.cmd tag).pkt.mptr ≠ 0 → s.eventRoom = true →
    ∃ t, exec (.calibrateChannel tag token adapted) s = .next t ∧
      (s.tokenFault (s.cmd tag).ep (s.cmd tag).pkt token [] false = none → (t.ep (s.cmd tag).ep).nonce = none ∧ (t.mu (s.cmd
        tag).pkt.vol).sch.calib = some
          { cmd := some tag.val, plan := (s.rateKeys (s.cmd tag).pkt.vol).flatMap fun k => s.calTakes (s.cmd tag).pkt.vol k, band :=
                (s.hda ((s.cmd tag).pkt.vol / 2)).clk.band } ∧ t.cmd tag = { s.cmd tag with phase := .executing }) ∧
      unchangedBut [.free, .ctr, .flt, .log, .pwr, .mns, .cal, .hdas, .mus, .store, .eps, .tags, .cqs, .cmds, .mgt, .buf, .bca] s t) ∧
  (∀ (tag : TagNo) (token : List Byte) (adapted : List (Nat × List Byte)) (k : Nat) (s : State), (s.mu (s.cmd tag).pkt.vol).sch.calib =
    none → s.mayBegin tag 0x2B 3 = true → s.hostOk (s.cmd tag).ep = true → firstCode [s.ownScoped tag, s.absentCode tag, s.stoppedCode
    tag] = some k →
    ∃ t, exec (.calibrateChannel tag token adapted) s = .next t ∧
      completes s t tag (conflict k) ∧
      (∀ k, k ≠ (tag : Nat) → t.cmd k = s.cmd k) ∧
      unchangedBut [.tags, .cmds, .cqs] (s.letGo tag) t) ∧
  (∀ (tag : TagNo) (token : List Byte) (adapted : List (Nat × List Byte)) (k : CalWork) (s : State), s.at_ tag .executing = true → (s.mu
    (s.cmd tag).pkt.vol).sch.calib = some k → k.cmd = some tag.val → s.hungCommand tag = false → s.channelDone (s.cmd tag).pkt.vol k
    adapted = true → s.eventRoom = true →
    ∃ t, exec (.calibrateChannel tag token adapted) s = .next t ∧
      ((t.mu (s.cmd tag).pkt.vol).sch.calib = none ∧ (t.mu (s.cmd tag).pkt.vol).was.trim = [] ∧ (t.mu (s.cmd tag).pkt.vol).chanTable =
        adaptTable k.band adapted ((s.rateKeys (s.cmd tag).pkt.vol).filter fun z => 512 ≤ sget k.counts z 0) (s.mu (s.cmd
        tag).pkt.vol).chanTable) ∧
      (completes s t tag
          { r0 := ((s.rateKeys (s.cmd tag).pkt.vol).filter fun z => 512 ≤ sget k.counts z 0).length + ((s.rateKeys (s.cmd
                tag).pkt.vol).length - ((s.rateKeys (s.cmd tag).pkt.vol).filter fun z => 512 ≤ sget k.counts z 0).length) * 2 ^ 32 }) ∧
      unchangedBut [.ctr, .flt, .mus, .eps, .tags, .cqs, .cmds, .mgt] (s.letGo tag) t) ∧
  (∀ (tag : TagNo) (token : List Byte) (adapted : List (Nat × List Byte)) (k : CalWork) (s : State), s.orphan tag 0x2B 3 = none → (s.mu
    (s.cmd tag).pkt.vol).sch.calib = some k → (k.cmd ≠ some tag.val ∨ s.hungCommand tag = true ∨ s.channelDone (s.cmd tag).pkt.vol k
    adapted = false) →
    exec (.calibrateChannel tag token adapted) s = .next s) ∧
  (∀ (tag : TagNo) (token : List Byte) (adapted : List (Nat × List Byte)) (c : Cmd) (k : CalWork) (s : State), s.orphan tag 0x2B 3 = some
    c → (s.mu c.pkt.vol).sch.calib = some k → k.cmd = none → s.channelDone c.pkt.vol k adapted = true →
    ∃ t, exec (.calibrateChannel tag token adapted) s = .next t ∧
      ((t.mu c.pkt.vol).sch.calib = none ∧ (t.mu c.pkt.vol).was.trim = [] ∧ (t.mu c.pkt.vol).chanTable = adaptTable k.band adapted
        ((s.rateKeys c.pkt.vol).filter fun z => 512 ≤ sget k.counts z 0) (s.mu c.pkt.vol).chanTable) ∧
      t.mgt = { s.mgt with orphans := s.mgt.orphans.erase c } ∧
      (∀ v, v ≠ c.pkt.vol → t.mu v = s.mu v) ∧
      unchangedBut [.mus, .mgt] s t) ∧
  (∀ (tag : TagNo) (token : List Byte) (s : State), s.asleep = true →
    exec (.calibrateStore tag token) s = .next s) ∧
  (∀ (tag : TagNo) (token : List Byte) (k : Nat) (s : State), s.asleep = false → s.mayBegin tag 0x2B 4 = true → s.hostOk (s.cmd tag).ep =
    true → (firstCode [s.ownScoped tag, ((!s.nor.cal.any fun r => r.recno == (s.cmd tag).pkt.vol / 2 + 1) && !s.factory, 0x000C),
    s.absentCode tag, s.ps4Code] = some k) →
    ∃ t, exec (.calibrateStore tag token) s = .next t ∧
      completes s t tag (conflict k) ∧
      (∀ k, k ≠ (tag : Nat) → t.cmd k = s.cmd k) ∧
      unchangedBut [.tags, .cmds, .cqs] (s.letGo tag) t) ∧
  (∀ (tag : TagNo) (token : List Byte) (s : State), s.asleep = false → s.mayBegin tag 0x2B 4 = true → s.hostOk (s.cmd tag).ep = true →
    (firstCode [s.ownScoped tag, ((!s.nor.cal.any fun r => r.recno == (s.cmd tag).pkt.vol / 2 + 1) && !s.factory, 0x000C), s.absentCode
    tag, s.ps4Code] = none) → (s.cmd tag).pkt.mptr = 0 →
    ∃ t, exec (.calibrateStore tag token) s = .next t ∧
      completes s t tag { status := 0x0500 } ∧
      (∀ k, k ≠ (tag : Nat) → t.cmd k = s.cmd k) ∧
      unchangedBut [.tags, .cmds, .cqs] (s.letGo tag) t) ∧
  (∀ (tag : TagNo) (token : List Byte) (c : Nat) (s : State), s.asleep = false → s.mayBegin tag 0x2B 4 = true → s.hostOk (s.cmd tag).ep =
    true → (firstCode [s.ownScoped tag, ((!s.nor.cal.any fun r => r.recno == (s.cmd tag).pkt.vol / 2 + 1) && !s.factory, 0x000C),
    s.absentCode tag, s.ps4Code] = none) → (s.cmd tag).pkt.mptr ≠ 0 → s.tokenFault (s.cmd tag).ep (s.cmd tag).pkt token [] false = some c
    → s.eventRoom = true →
    ∃ t, exec (.calibrateStore tag token) s = .next t ∧
      completes s t tag { status := 0x0501, r0 := c } ∧
      (t.ep (s.cmd tag).ep).nonce = none ∧
      (∀ e, e ≠ (s.cmd tag).ep → t.ep e = s.ep e) ∧
      offered t (mkMsg 15 0 3 c) ∧
      t.counter 0x010F0020 = Ctr.add 31 1 (s.counter 0x010F0020) ∧
      (∀ k, k ≠ (tag : Nat) → t.cmd k = s.cmd k) ∧
      unchangedBut [.tags, .cmds, .cqs, .eps, .flt, .ctr] (s.letGo tag) t) ∧
  (∀ (tag : TagNo) (token : List Byte) (s : State), s.asleep = false → s.mayBegin tag 0x2B 4 = true → s.hostOk (s.cmd tag).ep = true →
    (firstCode [s.ownScoped tag, ((!s.nor.cal.any fun r => r.recno == (s.cmd tag).pkt.vol / 2 + 1) && !s.factory, 0x000C), s.absentCode
    tag, s.ps4Code] = none) → (s.cmd tag).pkt.mptr ≠ 0 → s.eventRoom = true →
    ∃ t, exec (.calibrateStore tag token) s = .next t ∧
      (s.tokenFault (s.cmd tag).ep (s.cmd tag).pkt token [] false = none → (t.ep (s.cmd tag).ep).nonce = none ∧ t.nor.cal.getLast?.map
        (fun r => (r.recno, r.good, r.seq)) = some ((s.cmd tag).pkt.vol / 2 + 1, true, (s.nor.cal.filter (·.recno == (s.cmd tag).pkt.vol /
        2 + 1)).foldl (fun a x => Nat.max a x.seq) 0 + 1) ∧ t.nor.cal.filter (·.recno != (s.cmd tag).pkt.vol / 2 + 1) = s.nor.cal.filter
        (·.recno != (s.cmd tag).pkt.vol / 2 + 1) ∧ (t.mu ((s.cmd tag).pkt.vol / 2 * 2)).was.trim = [] ∧ (t.mu ((s.cmd tag).pkt.vol / 2 * 2
        + 1)).was.trim = [] ∧ ((s.cmd tag).pkt.vol < 32 → t.cal.foreign.getLsbD ((s.cmd tag).pkt.vol / 2) = false) ∧ completes s t tag {})
        ∧
      unchangedBut [.nor, .ctr, .flt, .cal, .mus, .eps, .tags, .cqs, .cmds] (s.letGo tag) t)

/-- MICROCODE_LOAD LOAD makes a signed and legal image the pending replacement, whose command waits; otherwise it ends with AUTH_FAILED, one
event, or with INVALID_FIELD and the address in error. CLEAR makes an empty replacement pending; BIND and UNBIND set and clear the bits of
the hooks named; ROM_MODE, in factory mode, ends service. SERVO_TUNE START begins a capture, and sends STOP to the sequencer that holds a
take, or ends with MU_STOPPED; STOP ends the capture of the actuator; REPLACE queues the replacement of a set or table for the next wedge 0
sample, or ends with INVALID_FIELD and the word in error. A command that offers an event finds room in its source's buffer (R548;
FaultControlAndAcceptance states the hold). -/
def Obligations.MicrocodeAndServoTune : Prop :=
  (∀ (tag : TagNo) (data : List Byte) (k : Nat) (s : State), s.mayBegin tag 0x2C 1 = true → s.hostOk (s.cmd tag).ep = true → data.length =
    (s.cmd tag).pkt.p5.toNat → firstCode [s.inUseCode] = some k →
    ∃ t, exec (.microcodeLoadLoad tag data) s = .next t ∧
      completes s t tag (conflict k) ∧
      (∀ k, k ≠ (tag : Nat) → t.cmd k = s.cmd k) ∧
      unchangedBut [.tags, .cmds, .cqs] (s.letGo tag) t) ∧
  (∀ (tag : TagNo) (data : List Byte) (s : State), s.mayBegin tag 0x2C 1 = true → s.hostOk (s.cmd tag).ep = true → data.length = (s.cmd
    tag).pkt.p5.toNat → firstCode [s.inUseCode] = none → s.eventRoom = true →
    ∃ t, exec (.microcodeLoadLoad tag data) s = .next t ∧
      (s.imageSigned data = false → completes s t tag { status := 0x0501, r0 := 6 } ∧ offered t (mkMsg 15 0 3 6) ∧ t.store = s.store) ∧
      (∀ a, s.imageSigned data = true → imageBad data = some a → completes s t tag
          { status := 0x0101, r0 := if a = 0 then Config.free s.free % 2 ^ 64 else a, r1 := Config.free (s.free + 1) % 2 ^ 64 } ∧ t.store
                = s.store) ∧
      (s.imageSigned data = true → imageBad data = none → t.cmd tag = { s.cmd tag with phase := .executing } ∧ t.store = { s.store with
          swap := some
            { cmd := some tag.val, version := field data 16 4, hooks := BitVec.ofNat 4 (field data 14 1), mbase := microBase data, micro
                  := microWords data, nbase := nanoBase data, nano := nanoWords data } }) ∧
      unchangedBut [.free, .ctr, .flt, .log, .pwr, .mns, .cal, .hdas, .mus, .store, .eps, .tags, .cqs, .cmds, .mgt, .buf, .bca] s t) ∧
  (∀ (tag : TagNo) (k : Nat) (s : State), s.mayBegin tag 0x2C 2 = true → firstCode [s.inUseCode] = some k →
    ∃ t, exec (.microcodeLoadClear tag) s = .next t ∧
      completes s t tag (conflict k) ∧
      (∀ k, k ≠ (tag : Nat) → t.cmd k = s.cmd k) ∧
      unchangedBut [.tags, .cmds, .cqs] (s.letGo tag) t) ∧
  (∀ (tag : TagNo) (s : State), s.mayBegin tag 0x2C 2 = true → firstCode [s.inUseCode] = none →
    ∃ t, exec (.microcodeLoadClear tag) s = .next t ∧
      t.store = { s.store with swap := some { cmd := some tag.val, clear := true, mbase := 0xC00, nbase := 0x600 } } ∧
      t.cmd tag = { s.cmd tag with phase := .executing } ∧
      (∀ k, k ≠ (tag : Nat) → t.cmd k = s.cmd k) ∧
      unchangedBut [.free, .log, .pwr, .mns, .cal, .hdas, .mus, .store, .tags, .cqs, .cmds, .mgt, .buf, .bca] s t) ∧
  (∀ (tag : TagNo) (k : Nat) (s : State), s.mayBegin tag 0x2C 3 = true → firstCode [(s.store.swap.isSome, 0x000B)] = some k →
    ∃ t, exec (.microcodeLoadBind tag) s = .next t ∧
      completes s t tag (conflict k) ∧
      (∀ k, k ≠ (tag : Nat) → t.cmd k = s.cmd k) ∧
      unchangedBut [.tags, .cmds, .cqs] (s.letGo tag) t) ∧
  (∀ (tag : TagNo) (s : State), s.mayBegin tag 0x2C 3 = true → s.store.swap = none → (BitVec.ofNat 4 (bits (s.cmd tag).pkt.p2.toNat 3 0)
    &&& ~~~s.store.custHooks) ≠ 0 →
    ∃ t, exec (.microcodeLoadBind tag) s = .next t ∧
      completes s t tag (badField 40) ∧
      t.store = s.store ∧
      (∀ k, k ≠ (tag : Nat) → t.cmd k = s.cmd k) ∧
      unchangedBut [.store, .tags, .cqs, .cmds] (s.letGo tag) t) ∧
  (∀ (tag : TagNo) (s : State), s.mayBegin tag 0x2C 3 = true → s.store.swap = none → (BitVec.ofNat 4 (bits (s.cmd tag).pkt.p2.toNat 3 0)
    &&& ~~~s.store.custHooks) = 0 →
    ∃ t, exec (.microcodeLoadBind tag) s = .next t ∧
      (t.store.bind0 = if bit (bits (s.cmd tag).pkt.p2.toNat 3 0) 0 then s.store.bind0 ||| (s.cmd tag).pkt.p3 else s.store.bind0) ∧
      (t.store.bind1 = if bit (bits (s.cmd tag).pkt.p2.toNat 3 0) 1 then s.store.bind1 ||| (s.cmd tag).pkt.p3 else s.store.bind1) ∧
      (t.store.bind2 = if bit (bits (s.cmd tag).pkt.p2.toNat 3 0) 2 then s.store.bind2 ||| (s.cmd tag).pkt.p3 else s.store.bind2) ∧
      (t.store.bind3 = if bit (bits (s.cmd tag).pkt.p2.toNat 3 0) 3 then s.store.bind3 ||| (s.cmd tag).pkt.p3 else s.store.bind3) ∧
      completes s t tag {} ∧
      (∀ k, k ≠ (tag : Nat) → t.cmd k = s.cmd k) ∧
      unchangedBut [.store, .tags, .cqs, .cmds] (s.letGo tag) t) ∧
  (∀ (tag : TagNo) (s : State), s.mayBegin tag 0x2C 4 = true →
    ∃ t, exec (.microcodeLoadUnbind tag) s = .next t ∧
      (t.store.bind0 = if bit (bits (s.cmd tag).pkt.p2.toNat 3 0) 0 then s.store.bind0 &&& ~~~(s.cmd tag).pkt.p3 else s.store.bind0) ∧
      (t.store.bind1 = if bit (bits (s.cmd tag).pkt.p2.toNat 3 0) 1 then s.store.bind1 &&& ~~~(s.cmd tag).pkt.p3 else s.store.bind1) ∧
      (t.store.bind2 = if bit (bits (s.cmd tag).pkt.p2.toNat 3 0) 2 then s.store.bind2 &&& ~~~(s.cmd tag).pkt.p3 else s.store.bind2) ∧
      (t.store.bind3 = if bit (bits (s.cmd tag).pkt.p2.toNat 3 0) 3 then s.store.bind3 &&& ~~~(s.cmd tag).pkt.p3 else s.store.bind3) ∧
      completes s t tag {} ∧
      (∀ k, k ≠ (tag : Nat) → t.cmd k = s.cmd k) ∧
      unchangedBut [.store, .tags, .cqs, .cmds] (s.letGo tag) t) ∧
  (∀ (tag : TagNo) (s : State), s.mayBegin tag 0x2C 5 = true → firstCode [(!s.factory, 0x000C)] = none →
    ∃ t, exec (.microcodeLoadRomMode tag) s = .next t ∧
      t.store.service = false ∧
      completes s t tag {} ∧
      (∀ k, k ≠ (tag : Nat) → t.cmd k = s.cmd k) ∧
      unchangedBut [.store, .tags, .cqs, .cmds] (s.letGo tag) t) ∧
  (∀ (tag : TagNo) (k : Nat) (s : State), s.mayBegin tag 0x2C 5 = true → firstCode [(!s.factory, 0x000C)] = some k →
    ∃ t, exec (.microcodeLoadRomMode tag) s = .next t ∧
      completes s t tag (conflict k) ∧
      (∀ k, k ≠ (tag : Nat) → t.cmd k = s.cmd k) ∧
      unchangedBut [.tags, .cmds, .cqs] (s.letGo tag) t) ∧
  (∀ (tag : TagNo) (k : Nat) (s : State), s.mayBegin tag 0x2F 1 = true → firstCode [s.ownScoped tag, s.absentCode tag] = some k →
    ∃ t, exec (.servoTuneStart tag) s = .next t ∧
      completes s t tag (conflict k) ∧
      (∀ k, k ≠ (tag : Nat) → t.cmd k = s.cmd k) ∧
      unchangedBut [.tags, .cmds, .cqs] (s.letGo tag) t) ∧
  (∀ (tag : TagNo) (s : State), s.mayBegin tag 0x2F 1 = true → firstCode [s.ownScoped tag, s.absentCode tag] = none → s.tuneBlocked (s.cmd
    tag).pkt.vol (bits (s.cmd tag).pkt.p2.toNat 2 0) = true → s.eventRoom = true →
    ∃ t, exec (.servoTuneStart tag) s = .next t ∧
      completes s t tag
          { status := 0x0200, state := 8, r0 := flag (s.tuneQueued (s.cmd tag).pkt.vol (bits (s.cmd tag).pkt.p2.toNat 2 0)) } ∧
      (∀ k, k ≠ (tag : Nat) → t.cmd k = s.cmd k) ∧
      unchangedBut [.free, .out, .ctr, .flt, .hdas, .mus, .ldp, .tags, .cqs, .cmds, .bca] (s.letGo tag) t) ∧
  (∀ (tag : TagNo) (s : State), s.mayBegin tag 0x2F 1 = true → firstCode [s.ownScoped tag, s.absentCode tag] = none → s.tuneBlocked (s.cmd
    tag).pkt.vol (bits (s.cmd tag).pkt.p2.toNat 2 0) = false → s.eventRoom = true →
    ∃ t, exec (.servoTuneStart tag) s = .next t ∧
      (t.hda ((s.cmd tag).pkt.vol / 2)).srv.tune = some (tuneOf tag (s.cmd tag).pkt.vol (s.cmd tag).pkt) ∧ (t.mu (s.cmd
        tag).pkt.vol).act.st = .tuning ∧
      (t.cmd tag).phase = .executing ∧
      ((s.mu (s.cmd tag).pkt.vol).tsq.desc ≠ none → (s.mu (s.cmd tag).pkt.vol).tsq.st ≠ .stopped → (t.mu (s.cmd tag).pkt.vol).tsq =
        { (s.mu (s.cmd tag).pkt.vol).tsq with stopPend := true }) ∧
      ((s.mu (s.cmd tag).pkt.vol).tsq.desc = none ∨ (s.mu (s.cmd tag).pkt.vol).tsq.st ≠ .stopped → t.cmd tag =
        { s.cmd tag with phase := .executing } ∧ (∀ k, k ≠ (tag : Nat) → t.cmd k = s.cmd k) ∧ (∀ h, h ≠ (s.cmd tag).pkt.vol / 2 → t.hda h
        = s.hda h) ∧ ∀ m, m ≠ (s.cmd tag).pkt.vol → t.mu m = s.mu m) ∧
      unchangedBut [.free, .out, .ctr, .flt, .log, .pwr, .mns, .cal, .hdas, .mus, .store, .ldp, .tags, .cqs, .cmds, .mgt, .buf, .bca] s t) ∧
  (∀ (tag : TagNo) (k : Nat) (s : State), s.mayBegin tag 0x2F 2 = true → firstCode [s.ownScoped tag] = some k →
    ∃ t, exec (.servoTuneStop tag) s = .next t ∧
      completes s t tag (conflict k) ∧
      (∀ k, k ≠ (tag : Nat) → t.cmd k = s.cmd k) ∧
      unchangedBut [.tags, .cmds, .cqs] (s.letGo tag) t) ∧
  (∀ (tag : TagNo) (s : State), s.mayBegin tag 0x2F 2 = true → firstCode [s.ownScoped tag] = none → (s.hda ((s.cmd tag).pkt.vol /
    2)).srv.tune = none →
    ∃ t, exec (.servoTuneStop tag) s = .next t ∧
      completes s t tag {} ∧
      t.mgt.capture = s.mgt.capture ∧
      unchangedBut [.hdas, .mus, .tags, .cqs, .cmds, .mgt] (s.letGo tag) t) ∧
  (∀ (tag : TagNo) (x : Tune) (s : State), s.mayBegin tag 0x2F 2 = true → firstCode [s.ownScoped tag] = none → (s.hda ((s.cmd tag).pkt.vol
    / 2)).srv.tune = some x → x.act = (s.cmd tag).pkt.vol % 2 →
    ∃ t, exec (.servoTuneStop tag) s = .next t ∧
      (t.hda ((s.cmd tag).pkt.vol / 2)).srv.tune = none ∧ sget t.mgt.capture ((s.cmd tag).pkt.vol / 2) [] = x.page true ∧
      ((s.mu ((s.cmd tag).pkt.vol / 2 * 2 + x.act)).act.st = .tuning → (t.mu ((s.cmd tag).pkt.vol / 2 * 2 + x.act)).act.st = .settling) ∧
      (∀ n, x.cmd = some n → s.live n = true → (t.tag n).st = .posted) ∧
      (t.tag tag).st = .posted ∧
      (x.cmd ≠ some tag.val → completes s t tag {}) ∧
      unchangedBut [.free, .log, .pwr, .mns, .cal, .hdas, .mus, .store, .tags, .cqs, .cmds, .mgt, .buf, .bca] s t) ∧
  (∀ (tag : TagNo) (x : Tune) (s : State), s.mayBegin tag 0x2F 2 = true → firstCode [s.ownScoped tag] = none → (s.hda ((s.cmd tag).pkt.vol
    / 2)).srv.tune = some x → x.act ≠ (s.cmd tag).pkt.vol % 2 →
    ∃ t, exec (.servoTuneStop tag) s = .next t ∧
      completes s t tag {} ∧
      t.mgt.capture = s.mgt.capture ∧
      unchangedBut [.hdas, .mus, .tags, .cqs, .cmds, .mgt] (s.letGo tag) t) ∧
  (∀ (tag : TagNo) (token data : List Byte) (s : State), s.asleep = true →
    exec (.servoTuneReplace tag token data) s = .next s) ∧
  (∀ (tag : TagNo) (token data : List Byte) (k : Nat) (s : State), s.asleep = false → s.mayBegin tag 0x2F 3 = true → s.hostOk (s.cmd
    tag).ep = true → data.length = (s.cmd tag).pkt.p5.toNat → firstCode [s.ownScoped tag, s.ps4Code] = some k →
    ∃ t, exec (.servoTuneReplace tag token data) s = .next t ∧
      completes s t tag (conflict k) ∧
      (∀ k, k ≠ (tag : Nat) → t.cmd k = s.cmd k) ∧
      unchangedBut [.tags, .cmds, .cqs] (s.letGo tag) t) ∧
  (∀ (tag : TagNo) (token data : List Byte) (s : State), s.asleep = false → s.mayBegin tag 0x2F 3 = true → s.hostOk (s.cmd tag).ep = true
    → data.length = (s.cmd tag).pkt.p5.toNat → firstCode [s.ownScoped tag, s.ps4Code] = none → (s.cmd tag).pkt.mptr = 0 →
    ∃ t, exec (.servoTuneReplace tag token data) s = .next t ∧
      completes s t tag { status := 0x0500 } ∧
      (∀ k, k ≠ (tag : Nat) → t.cmd k = s.cmd k) ∧
      unchangedBut [.tags, .cmds, .cqs] (s.letGo tag) t) ∧
  (∀ (tag : TagNo) (token data : List Byte) (c : Nat) (s : State), s.asleep = false → s.mayBegin tag 0x2F 3 = true → s.hostOk (s.cmd
    tag).ep = true → data.length = (s.cmd tag).pkt.p5.toNat → firstCode [s.ownScoped tag, s.ps4Code] = none → (s.cmd tag).pkt.mptr ≠ 0 →
    s.tokenFault (s.cmd tag).ep (s.cmd tag).pkt token data true = some c → s.eventRoom = true →
    ∃ t, exec (.servoTuneReplace tag token data) s = .next t ∧
      completes s t tag { status := 0x0501, r0 := c } ∧
      (t.ep (s.cmd tag).ep).nonce = none ∧
      (∀ e, e ≠ (s.cmd tag).ep → t.ep e = s.ep e) ∧
      offered t (mkMsg 15 0 3 c) ∧
      t.counter 0x010F0020 = Ctr.add 31 1 (s.counter 0x010F0020) ∧
      (∀ k, k ≠ (tag : Nat) → t.cmd k = s.cmd k) ∧
      unchangedBut [.tags, .cmds, .cqs, .eps, .flt, .ctr] (s.letGo tag) t) ∧
  (∀ (tag : TagNo) (token data : List Byte) (s : State), s.asleep = false → s.mayBegin tag 0x2F 3 = true → s.hostOk (s.cmd tag).ep = true
    → data.length = (s.cmd tag).pkt.p5.toNat → firstCode [s.ownScoped tag, s.ps4Code] = none → (s.cmd tag).pkt.mptr ≠ 0 → s.eventRoom =
    true →
    ∃ t, exec (.servoTuneReplace tag token data) s = .next t ∧
      (s.tokenFault (s.cmd tag).ep (s.cmd tag).pkt token data true = none → (t.ep (s.cmd tag).ep).nonce = none ∧ (∀ j, imageWordBad (bits
        (s.cmd tag).pkt.p2.toNat 3 0) ((s.cmd tag).pkt.vol % 2) (bits (s.cmd tag).pkt.p2.toNat 11 8) (wordsOf data) = some j → completes s
        t tag { status := 0x0101, r0 := 0xFFFE + j * 2 ^ 32 }) ∧ (imageWordBad (bits (s.cmd tag).pkt.p2.toNat 3 0) ((s.cmd tag).pkt.vol %
        2) (bits (s.cmd tag).pkt.p2.toNat 11 8) (wordsOf data) = none → (t.hda ((s.cmd tag).pkt.vol / 2)).srv.replacements = (s.hda
        ((s.cmd tag).pkt.vol / 2)).srv.replacements ++ replacementsOf (bits (s.cmd tag).pkt.p2.toNat 3 0) ((s.cmd tag).pkt.vol % 2) (bits
        (s.cmd tag).pkt.p2.toNat 11 8) (bits (s.cmd tag).pkt.p2.toNat 19 16) (wordsOf data) ∧ completes s t tag {})) ∧
      unchangedBut [.nor, .ctr, .flt, .hdas, .eps, .tags, .cqs, .cmds] (s.letGo tag) t)

/-- A data object is answered, waits in the mailbox or is discarded; Abort empties the mailboxes. Each SPDM request, in its turn, is
answered with its response or with ERROR: a wrong version, an order the connection does not allow, a short request, a slot other than 0, a
measurement that does not exist. A response longer than the transfer unit is fetched in chunks; one that signing delays is deferred. An
unsupported request is counted. Over MCTP, a request in PS4 fires the wake. The message layouts are the model's (log entry 30). A command
that offers an event finds room in its source's buffer (R548; FaultControlAndAcceptance states the hold). -/
def Obligations.SpdmResponder : Prop :=
  (∀ (conn : Fin 3) (request : List Byte) (s : State), s.mgmtServes = true → spdmCode request = 0x84 → request ≠ [] → ((conn : Nat) = 2 ∨
    ((s.ep conn).doeRequest = request ∧ s.doeTurn conn = true)) → ((conn : Nat) = 2 → (s.pwr.wakeable && bit (s.feat0 0x0D) 1) = false) →
    ∃ t, exec (.spdmGetVersion conn request) s = .next t ∧
      (t.spdmOf conn) = { version := true, handle := (s.spdmOf conn).handle } ∧
      lastOut t (.answer conn [0x10, 0x04, 0, 0, 0, 1, 0x00, 0x12]) ∧
      ((conn : Nat) < 2 → (t.ep conn).doeRequest = [] ∧ (t.ep conn).doeResponse = [0x10, 0x04, 0, 0, 0, 1, 0x00, 0x12]) ∧
      (∀ e, e ≠ (conn : Nat) → t.ep e = s.ep e) ∧
      unchangedBut [.out, .eps, .sec] s t) ∧
  (∀ (conn : Fin 3) (request : List Byte) (s : State), s.mgmtServes = true → spdmCode request = 0x84 → request ≠ [] → (conn : Nat) = 2 →
    (s.pwr.wakeable && bit (s.feat0 0x0D) 1) = true →
    exec (.spdmGetVersion conn request) s = .next (s.fireWake 1)) ∧
  (∀ (conn : Fin 3) (request : List Byte) (s : State), s.mgmtServes = false →
    exec (.spdmGetVersion conn request) s = .next s) ∧
  (∀ (conn : Fin 3) (request : List Byte) (k : Nat) (s : State), s.mgmtServes = true → spdmCode request = 0xE1 → request ≠ [] → ((conn :
    Nat) = 2 ∨ ((s.ep conn).doeRequest = request ∧ s.doeTurn conn = true)) → ((conn : Nat) = 2 → (s.pwr.wakeable && bit (s.feat0 0x0D) 1)
    = false) → (s.spdmOf conn).refusal 1 4 request = some k →
    ∃ t, exec (.spdmGetCapabilities conn request) s = .next t ∧
      lastOut t (.answer conn (spdmError k 0)) ∧
      ((conn : Nat) < 2 → (t.ep conn).doeRequest = [] ∧ (t.ep conn).doeResponse = (spdmError k 0)) ∧
      (∀ e, e ≠ (conn : Nat) → t.ep e = s.ep e) ∧
      unchangedBut [.out, .eps, .sec] s t) ∧
  (∀ (conn : Fin 3) (request : List Byte) (s : State), s.mgmtServes = true → spdmCode request = 0xE1 → request ≠ [] → ((conn : Nat) = 2 ∨
    ((s.ep conn).doeRequest = request ∧ s.doeTurn conn = true)) → ((conn : Nat) = 2 → (s.pwr.wakeable && bit (s.feat0 0x0D) 1) = false) →
    (s.spdmOf conn).refusal 1 4 request = none →
    ∃ t, exec (.spdmGetCapabilities conn request) s = .next t ∧
      (t.spdmOf conn) = { s.spdmOf conn with caps := true, algs := false, chunk := [], deferred := none } ∧
      lastOut t (.answer conn (spdmHead 0x61 0 0 ++ [0, 20, 0, 0, 0x16, 0, 2, 0] ++ leBytes 4 (spdmUnit conn) ++ [0, 0x20, 0, 0])) ∧
      ((conn : Nat) < 2 → (t.ep conn).doeRequest = [] ∧ (t.ep conn).doeResponse = (spdmHead 0x61 0 0 ++ [0, 20, 0, 0, 0x16, 0, 2, 0] ++
        leBytes 4 (spdmUnit conn) ++ [0, 0x20, 0, 0])) ∧
      (∀ e, e ≠ (conn : Nat) → t.ep e = s.ep e) ∧
      unchangedBut [.out, .eps, .sec] s t) ∧
  (∀ (conn : Fin 3) (request : List Byte) (k : Nat) (s : State), s.mgmtServes = true → spdmCode request = 0xE3 → request ≠ [] → ((conn :
    Nat) = 2 ∨ ((s.ep conn).doeRequest = request ∧ s.doeTurn conn = true)) → ((conn : Nat) = 2 → (s.pwr.wakeable && bit (s.feat0 0x0D) 1)
    = false) → (s.spdmOf conn).refusal 2 32 request = some k →
    ∃ t, exec (.spdmNegotiateAlgorithms conn request) s = .next t ∧
      lastOut t (.answer conn (spdmError k 0)) ∧
      ((conn : Nat) < 2 → (t.ep conn).doeRequest = [] ∧ (t.ep conn).doeResponse = (spdmError k 0)) ∧
      (∀ e, e ≠ (conn : Nat) → t.ep e = s.ep e) ∧
      unchangedBut [.out, .eps, .sec] s t) ∧
  (∀ (conn : Fin 3) (request : List Byte) (s : State), s.mgmtServes = true → spdmCode request = 0xE3 → request ≠ [] → ((conn : Nat) = 2 ∨
    ((s.ep conn).doeRequest = request ∧ s.doeTurn conn = true)) → ((conn : Nat) = 2 → (s.pwr.wakeable && bit (s.feat0 0x0D) 1) = false) →
    (s.spdmOf conn).refusal 2 32 request = none → (bit (field request 6 1) 0 || bit (field request 8 4) 9 || bit (field request 12 4) 6) =
    false →
    ∃ t, exec (.spdmNegotiateAlgorithms conn request) s = .next t ∧
      lastOut t (.answer conn (spdmError 1 0)) ∧
      ((conn : Nat) < 2 → (t.ep conn).doeRequest = [] ∧ (t.ep conn).doeResponse = (spdmError 1 0)) ∧
      (∀ e, e ≠ (conn : Nat) → t.ep e = s.ep e) ∧
      unchangedBut [.out, .eps, .sec] s t) ∧
  (∀ (conn : Fin 3) (request : List Byte) (s : State), s.mgmtServes = true → spdmCode request = 0xE3 → request ≠ [] → ((conn : Nat) = 2 ∨
    ((s.ep conn).doeRequest = request ∧ s.doeTurn conn = true)) → ((conn : Nat) = 2 → (s.pwr.wakeable && bit (s.feat0 0x0D) 1) = false) →
    (s.spdmOf conn).refusal 2 32 request = none → (bit (field request 6 1) 0 || bit (field request 8 4) 9 || bit (field request 12 4) 6) =
    true →
    ∃ t, exec (.spdmNegotiateAlgorithms conn request) s = .next t ∧
      (t.spdmOf conn).algs = (bit (field request 8 4) 9 && bit (field request 12 4) 6) ∧
      lastOut t (.answer conn (spdmHead 0x63 0 0 ++ leBytes 2 36 ++ leBytes 1 (flag (bit (field request 6 1) 0)) ++ leBytes 1 0 ++ leBytes
        4 (flag (bit (field request 6 1) 0) * 0x80) ++ leBytes 4 (flag (bit (field request 8 4) 9) * 0x200) ++ leBytes 4 (flag (bit (field
        request 12 4) 6) * 0x40) ++ leBytes 16 0)) ∧
      (∀ e, e ≠ (conn : Nat) → t.ep e = s.ep e) ∧
      unchangedBut [.out, .eps, .sec] s t) ∧
  (∀ (conn : Fin 3) (request : List Byte) (k : Nat) (s : State), s.mgmtServes = true → spdmCode request = 0x81 → request ≠ [] → ((conn :
    Nat) = 2 ∨ ((s.ep conn).doeRequest = request ∧ s.doeTurn conn = true)) → ((conn : Nat) = 2 → (s.pwr.wakeable && bit (s.feat0 0x0D) 1)
    = false) → (s.spdmOf conn).refusal 3 4 request = some k →
    ∃ t, exec (.spdmGetDigests conn request) s = .next t ∧
      lastOut t (.answer conn (spdmError k 0)) ∧
      ((conn : Nat) < 2 → (t.ep conn).doeRequest = [] ∧ (t.ep conn).doeResponse = (spdmError k 0)) ∧
      (∀ e, e ≠ (conn : Nat) → t.ep e = s.ep e) ∧
      unchangedBut [.out, .eps, .sec] s t) ∧
  (∀ (conn : Fin 3) (request : List Byte) (s : State), s.mgmtServes = true → spdmCode request = 0x81 → request ≠ [] → ((conn : Nat) = 2 ∨
    ((s.ep conn).doeRequest = request ∧ s.doeTurn conn = true)) → ((conn : Nat) = 2 → (s.pwr.wakeable && bit (s.feat0 0x0D) 1) = false) →
    (s.spdmOf conn).refusal 3 4 request = none →
    ∃ t, exec (.spdmGetDigests conn request) s = .next t ∧
      lastOut t (.answer conn (spdmHead 0x01 0 1 ++ digestBytes (Config.sm3 spdmChain))) ∧
      ((conn : Nat) < 2 → (t.ep conn).doeRequest = [] ∧ (t.ep conn).doeResponse = (spdmHead 0x01 0 1 ++ digestBytes (Config.sm3
        spdmChain))) ∧
      (∀ e, e ≠ (conn : Nat) → t.ep e = s.ep e) ∧
      unchangedBut [.out, .eps, .sec] s t) ∧
  (∀ (conn : Fin 3) (request : List Byte) (k : Nat) (s : State), s.mgmtServes = true → spdmCode request = 0x82 → request ≠ [] → ((conn :
    Nat) = 2 ∨ ((s.ep conn).doeRequest = request ∧ s.doeTurn conn = true)) → ((conn : Nat) = 2 → (s.pwr.wakeable && bit (s.feat0 0x0D) 1)
    = false) → (s.spdmOf conn).refusal 3 8 request = some k →
    ∃ t, exec (.spdmGetCertificate conn request) s = .next t ∧
      lastOut t (.answer conn (spdmError k 0)) ∧
      ((conn : Nat) < 2 → (t.ep conn).doeRequest = [] ∧ (t.ep conn).doeResponse = (spdmError k 0)) ∧
      (∀ e, e ≠ (conn : Nat) → t.ep e = s.ep e) ∧
      unchangedBut [.out, .eps, .sec] s t) ∧
  (∀ (conn : Fin 3) (request : List Byte) (s : State), s.mgmtServes = true → spdmCode request = 0x82 → request ≠ [] → ((conn : Nat) = 2 ∨
    ((s.ep conn).doeRequest = request ∧ s.doeTurn conn = true)) → ((conn : Nat) = 2 → (s.pwr.wakeable && bit (s.feat0 0x0D) 1) = false) →
    (s.spdmOf conn).refusal 3 8 request = none → (field request 2 1 % 16 ≠ 0 ∨ spdmChain.length ≤ (field request 4 2)) →
    ∃ t, exec (.spdmGetCertificate conn request) s = .next t ∧
      lastOut t (.answer conn (spdmError 1 0)) ∧
      ((conn : Nat) < 2 → (t.ep conn).doeRequest = [] ∧ (t.ep conn).doeResponse = (spdmError 1 0)) ∧
      (∀ e, e ≠ (conn : Nat) → t.ep e = s.ep e) ∧
      unchangedBut [.out, .eps, .sec] s t) ∧
  (∀ (conn : Fin 3) (request : List Byte) (s : State), s.mgmtServes = true → spdmCode request = 0x82 → request ≠ [] → ((conn : Nat) = 2 ∨
    ((s.ep conn).doeRequest = request ∧ s.doeTurn conn = true)) → ((conn : Nat) = 2 → (s.pwr.wakeable && bit (s.feat0 0x0D) 1) = false) →
    (s.spdmOf conn).refusal 3 8 request = none → field request 2 1 % 16 = 0 → (field request 4 2) < spdmChain.length →
    ∃ t, exec (.spdmGetCertificate conn request) s = .next t ∧
      ((spdmHead 0x02 0 0 ++ leBytes 2 ((spdmChain.drop (field request 4 2)).take (field request 6 2)).length ++ leBytes 2
        (spdmChain.length - (field request 4 2) - ((spdmChain.drop (field request 4 2)).take (field request 6 2)).length) ++
        ((spdmChain.drop (field request 4 2)).take (field request 6 2))).length ≤ spdmUnit conn → lastOut t (.answer conn (spdmHead 0x02 0
        0 ++ leBytes 2 ((spdmChain.drop (field request 4 2)).take (field request 6 2)).length ++ leBytes 2 (spdmChain.length - (field
        request 4 2) - ((spdmChain.drop (field request 4 2)).take (field request 6 2)).length) ++ ((spdmChain.drop (field request 4
        2)).take (field request 6 2))))) ∧
      (spdmUnit conn < (spdmHead 0x02 0 0 ++ leBytes 2 ((spdmChain.drop (field request 4 2)).take (field request 6 2)).length ++ leBytes 2
        (spdmChain.length - (field request 4 2) - ((spdmChain.drop (field request 4 2)).take (field request 6 2)).length) ++
        ((spdmChain.drop (field request 4 2)).take (field request 6 2))).length → (t.spdmOf conn).chunk = (spdmHead 0x02 0 0 ++ leBytes 2
        ((spdmChain.drop (field request 4 2)).take (field request 6 2)).length ++ leBytes 2 (spdmChain.length - (field request 4 2) -
        ((spdmChain.drop (field request 4 2)).take (field request 6 2)).length) ++ ((spdmChain.drop (field request 4 2)).take (field
        request 6 2))) ∧ (t.spdmOf conn).chunkSeq = 0 ∧ (t.spdmOf conn).handle = ((s.spdmOf conn).handle + 1) % 256 ∧ lastOut t (.answer
        conn (spdmError 0x0F 0 ++ leBytes 1 (((s.spdmOf conn).handle + 1) % 256)))) ∧
      (∀ e, e ≠ (conn : Nat) → t.ep e = s.ep e) ∧
      unchangedBut [.out, .eps, .sec] s t) ∧
  (∀ (conn : Fin 3) (request : List Byte) (ready : Bool) (k : Nat) (s : State), s.mgmtServes = true → spdmCode request = 0x83 → request ≠
    [] → ((conn : Nat) = 2 ∨ ((s.ep conn).doeRequest = request ∧ s.doeTurn conn = true)) → ((conn : Nat) = 2 → (s.pwr.wakeable && bit
    (s.feat0 0x0D) 1) = false) → (s.spdmOf conn).refusal 3 36 request = some k →
    ∃ t, exec (.spdmChallenge conn request ready) s = .next t ∧
      lastOut t (.answer conn (spdmError k 0)) ∧
      ((conn : Nat) < 2 → (t.ep conn).doeRequest = [] ∧ (t.ep conn).doeResponse = (spdmError k 0)) ∧
      (∀ e, e ≠ (conn : Nat) → t.ep e = s.ep e) ∧
      unchangedBut [.free, .out, .eps, .sec] s t) ∧
  (∀ (conn : Fin 3) (request : List Byte) (ready : Bool) (s : State), s.mgmtServes = true → spdmCode request = 0x83 → request ≠ [] →
    ((conn : Nat) = 2 ∨ ((s.ep conn).doeRequest = request ∧ s.doeTurn conn = true)) → ((conn : Nat) = 2 → (s.pwr.wakeable && bit (s.feat0
    0x0D) 1) = false) → (s.spdmOf conn).refusal 3 36 request = none → (field request 2 1 % 16 ≠ 0 ∨ (field request 3 1 ≠ 0 ∧ field request
    3 1 ≠ 0xFF)) →
    ∃ t, exec (.spdmChallenge conn request ready) s = .next t ∧
      lastOut t (.answer conn (spdmError 1 0)) ∧
      ((conn : Nat) < 2 → (t.ep conn).doeRequest = [] ∧ (t.ep conn).doeResponse = (spdmError 1 0)) ∧
      (∀ e, e ≠ (conn : Nat) → t.ep e = s.ep e) ∧
      unchangedBut [.free, .out, .eps, .sec] s t) ∧
  (∀ (conn : Fin 3) (request : List Byte) (s : State), s.mgmtServes = true → spdmCode request = 0x83 → request ≠ [] → ((conn : Nat) = 2 ∨
    ((s.ep conn).doeRequest = request ∧ s.doeTurn conn = true)) → ((conn : Nat) = 2 → (s.pwr.wakeable && bit (s.feat0 0x0D) 1) = false) →
    (s.spdmOf conn).refusal 3 36 request = none → field request 2 1 % 16 = 0 → (field request 3 1 = 0 ∨ field request 3 1 = 0xFF) →
    ∃ t, exec (.spdmChallenge conn request true) s = .next t ∧
      ((spdmHead 0x03 0 1 ++ digestBytes (Config.sm3 spdmChain) ++ leBytes 32 (Config.free s.free) ++ (if field request 3 1 = 0 then []
        else digestBytes (Config.sm3 (measureBlocks 1 s.measurements))) ++ leBytes 2 0 ++ leBytes 64 (Config.free (s.free + 1))).length ≤
        spdmUnit conn → lastOut t (.answer conn (spdmHead 0x03 0 1 ++ digestBytes (Config.sm3 spdmChain) ++ leBytes 32 (Config.free
        s.free) ++ (if field request 3 1 = 0 then [] else digestBytes (Config.sm3 (measureBlocks 1 s.measurements))) ++ leBytes 2 0 ++
        leBytes 64 (Config.free (s.free + 1))))) ∧
      (spdmUnit conn < (spdmHead 0x03 0 1 ++ digestBytes (Config.sm3 spdmChain) ++ leBytes 32 (Config.free s.free) ++ (if field request 3
        1 = 0 then [] else digestBytes (Config.sm3 (measureBlocks 1 s.measurements))) ++ leBytes 2 0 ++ leBytes 64 (Config.free (s.free +
        1))).length → (t.spdmOf conn).chunk = (spdmHead 0x03 0 1 ++ digestBytes (Config.sm3 spdmChain) ++ leBytes 32 (Config.free s.free)
        ++ (if field request 3 1 = 0 then [] else digestBytes (Config.sm3 (measureBlocks 1 s.measurements))) ++ leBytes 2 0 ++ leBytes 64
        (Config.free (s.free + 1))) ∧ (t.spdmOf conn).chunkSeq = 0 ∧ (t.spdmOf conn).handle = ((s.spdmOf conn).handle + 1) % 256 ∧ lastOut
        t (.answer conn (spdmError 0x0F 0 ++ leBytes 1 (((s.spdmOf conn).handle + 1) % 256)))) ∧
      t.free = s.free + 2 ∧
      (∀ e, e ≠ (conn : Nat) → t.ep e = s.ep e) ∧
      unchangedBut [.free, .out, .eps, .sec] s t) ∧
  (∀ (conn : Fin 3) (request : List Byte) (s : State), s.mgmtServes = true → spdmCode request = 0x83 → request ≠ [] → ((conn : Nat) = 2 ∨
    ((s.ep conn).doeRequest = request ∧ s.doeTurn conn = true)) → ((conn : Nat) = 2 → (s.pwr.wakeable && bit (s.feat0 0x0D) 1) = false) →
    (s.spdmOf conn).refusal 3 36 request = none → field request 2 1 % 16 = 0 → (field request 3 1 = 0 ∨ field request 3 1 = 0xFF) →
    ∃ t, exec (.spdmChallenge conn request false) s = .next t ∧
      ((t.spdmOf conn).deferred = some (spdmHead 0x03 0 1 ++ digestBytes (Config.sm3 spdmChain) ++ leBytes 32 (Config.free s.free) ++ (if
        field request 3 1 = 0 then [] else digestBytes (Config.sm3 (measureBlocks 1 s.measurements))) ++ leBytes 2 0 ++ leBytes 64
        (Config.free (s.free + 1)))) ∧
      lastOut t (.answer conn (spdmError 0x42 0 ++ leBytes 1 20 ++ leBytes 1 0x83 ++ leBytes 1 0 ++ leBytes 1 1)) ∧
      (∀ e, e ≠ (conn : Nat) → t.ep e = s.ep e) ∧
      unchangedBut [.free, .out, .eps, .sec] s t) ∧
  (∀ (conn : Fin 3) (request : List Byte) (ready : Bool) (k : Nat) (s : State), s.mgmtServes = true → spdmCode request = 0xE0 → request ≠
    [] → ((conn : Nat) = 2 ∨ ((s.ep conn).doeRequest = request ∧ s.doeTurn conn = true)) → ((conn : Nat) = 2 → (s.pwr.wakeable && bit
    (s.feat0 0x0D) 1) = false) → ((s.spdmOf conn).refusal 3 (if bit (field request 2 1) 0 then 37 else 4) request = some k) →
    ∃ t, exec (.spdmGetMeasurements conn request ready) s = .next t ∧
      lastOut t (.answer conn (spdmError k 0)) ∧
      ((conn : Nat) < 2 → (t.ep conn).doeRequest = [] ∧ (t.ep conn).doeResponse = (spdmError k 0)) ∧
      (∀ e, e ≠ (conn : Nat) → t.ep e = s.ep e) ∧
      unchangedBut [.free, .out, .eps, .sec] s t) ∧
  (∀ (conn : Fin 3) (request : List Byte) (ready : Bool) (s : State), s.mgmtServes = true → spdmCode request = 0xE0 → request ≠ [] →
    ((conn : Nat) = 2 ∨ ((s.ep conn).doeRequest = request ∧ s.doeTurn conn = true)) → ((conn : Nat) = 2 → (s.pwr.wakeable && bit (s.feat0
    0x0D) 1) = false) → ((s.spdmOf conn).refusal 3 (if bit (field request 2 1) 0 then 37 else 4) request = none) → s.measuredBlocks (field
    request 3 1) = none →
    ∃ t, exec (.spdmGetMeasurements conn request ready) s = .next t ∧
      lastOut t (.answer conn (spdmError 1 0)) ∧
      ((conn : Nat) < 2 → (t.ep conn).doeRequest = [] ∧ (t.ep conn).doeResponse = (spdmError 1 0)) ∧
      (∀ e, e ≠ (conn : Nat) → t.ep e = s.ep e) ∧
      unchangedBut [.free, .out, .eps, .sec] s t) ∧
  (∀ (conn : Fin 3) (request : List Byte) (ready : Bool) (n : Nat) (b : List Byte) (s : State), s.mgmtServes = true → spdmCode request =
    0xE0 → request ≠ [] → ((conn : Nat) = 2 ∨ ((s.ep conn).doeRequest = request ∧ s.doeTurn conn = true)) → ((conn : Nat) = 2 →
    (s.pwr.wakeable && bit (s.feat0 0x0D) 1) = false) → ((s.spdmOf conn).refusal 3 (if bit (field request 2 1) 0 then 37 else 4) request =
    none) → s.measuredBlocks (field request 3 1) = some (n, b) → bit (field request 2 1) 0 = true → field request 36 1 % 16 ≠ 0 →
    ∃ t, exec (.spdmGetMeasurements conn request ready) s = .next t ∧
      lastOut t (.answer conn (spdmError 1 0)) ∧
      ((conn : Nat) < 2 → (t.ep conn).doeRequest = [] ∧ (t.ep conn).doeResponse = (spdmError 1 0)) ∧
      (∀ e, e ≠ (conn : Nat) → t.ep e = s.ep e) ∧
      unchangedBut [.free, .out, .eps, .sec] s t) ∧
  (∀ (conn : Fin 3) (request : List Byte) (n : Nat) (b : List Byte) (s : State), s.mgmtServes = true → spdmCode request = 0xE0 → request ≠
    [] → ((conn : Nat) = 2 ∨ ((s.ep conn).doeRequest = request ∧ s.doeTurn conn = true)) → ((conn : Nat) = 2 → (s.pwr.wakeable && bit
    (s.feat0 0x0D) 1) = false) → ((s.spdmOf conn).refusal 3 (if bit (field request 2 1) 0 then 37 else 4) request = none) →
    s.measuredBlocks (field request 3 1) = some (n, b) → bit (field request 2 1) 0 = true → field request 36 1 % 16 = 0 →
    ∃ t, exec (.spdmGetMeasurements conn request true) s = .next t ∧
      (((spdmHead 0x60 (if field request 3 1 = 0 then s.measurements.length else 0) 0 ++ leBytes 1 n ++ leBytes 3 b.length ++ b ++ leBytes
        32 (Config.free s.free) ++ leBytes 2 0) ++ leBytes 64 (Config.free (s.free + 1))).length ≤ spdmUnit conn → lastOut t (.answer conn
        ((spdmHead 0x60 (if field request 3 1 = 0 then s.measurements.length else 0) 0 ++ leBytes 1 n ++ leBytes 3 b.length ++ b ++
        leBytes 32 (Config.free s.free) ++ leBytes 2 0) ++ leBytes 64 (Config.free (s.free + 1))))) ∧
      (spdmUnit conn < ((spdmHead 0x60 (if field request 3 1 = 0 then s.measurements.length else 0) 0 ++ leBytes 1 n ++ leBytes 3 b.length
        ++ b ++ leBytes 32 (Config.free s.free) ++ leBytes 2 0) ++ leBytes 64 (Config.free (s.free + 1))).length → (t.spdmOf conn).chunk =
        ((spdmHead 0x60 (if field request 3 1 = 0 then s.measurements.length else 0) 0 ++ leBytes 1 n ++ leBytes 3 b.length ++ b ++
        leBytes 32 (Config.free s.free) ++ leBytes 2 0) ++ leBytes 64 (Config.free (s.free + 1))) ∧ (t.spdmOf conn).chunkSeq = 0 ∧
        (t.spdmOf conn).handle = ((s.spdmOf conn).handle + 1) % 256 ∧ lastOut t (.answer conn (spdmError 0x0F 0 ++ leBytes 1 (((s.spdmOf
        conn).handle + 1) % 256)))) ∧
      t.free = s.free + 2 ∧
      (∀ e, e ≠ (conn : Nat) → t.ep e = s.ep e) ∧
      unchangedBut [.free, .out, .eps, .sec] s t) ∧
  (∀ (conn : Fin 3) (request : List Byte) (n : Nat) (b : List Byte) (s : State), s.mgmtServes = true → spdmCode request = 0xE0 → request ≠
    [] → ((conn : Nat) = 2 ∨ ((s.ep conn).doeRequest = request ∧ s.doeTurn conn = true)) → ((conn : Nat) = 2 → (s.pwr.wakeable && bit
    (s.feat0 0x0D) 1) = false) → ((s.spdmOf conn).refusal 3 (if bit (field request 2 1) 0 then 37 else 4) request = none) →
    s.measuredBlocks (field request 3 1) = some (n, b) → bit (field request 2 1) 0 = true → field request 36 1 % 16 = 0 →
    ∃ t, exec (.spdmGetMeasurements conn request false) s = .next t ∧
      ((t.spdmOf conn).deferred = some ((spdmHead 0x60 (if field request 3 1 = 0 then s.measurements.length else 0) 0 ++ leBytes 1 n ++
        leBytes 3 b.length ++ b ++ leBytes 32 (Config.free s.free) ++ leBytes 2 0) ++ leBytes 64 (Config.free (s.free + 1)))) ∧
      lastOut t (.answer conn (spdmError 0x42 0 ++ leBytes 1 20 ++ leBytes 1 0xE0 ++ leBytes 1 0 ++ leBytes 1 1)) ∧
      t.free = s.free + 2 ∧
      (∀ e, e ≠ (conn : Nat) → t.ep e = s.ep e) ∧
      unchangedBut [.free, .out, .eps, .sec] s t) ∧
  (∀ (conn : Fin 3) (request : List Byte) (n : Nat) (b : List Byte) (s : State), s.mgmtServes = true → spdmCode request = 0xE0 → request ≠
    [] → ((conn : Nat) = 2 ∨ ((s.ep conn).doeRequest = request ∧ s.doeTurn conn = true)) → ((conn : Nat) = 2 → (s.pwr.wakeable && bit
    (s.feat0 0x0D) 1) = false) → ((s.spdmOf conn).refusal 3 (if bit (field request 2 1) 0 then 37 else 4) request = none) →
    s.measuredBlocks (field request 3 1) = some (n, b) → bit (field request 2 1) 0 = false →
    ∃ t, exec (.spdmGetMeasurements conn request true) s = .next t ∧
      ((spdmHead 0x60 (if field request 3 1 = 0 then s.measurements.length else 0) 0 ++ leBytes 1 n ++ leBytes 3 b.length ++ b ++ leBytes
        32 (Config.free s.free) ++ leBytes 2 0).length ≤ spdmUnit conn → lastOut t (.answer conn (spdmHead 0x60 (if field request 3 1 = 0
        then s.measurements.length else 0) 0 ++ leBytes 1 n ++ leBytes 3 b.length ++ b ++ leBytes 32 (Config.free s.free) ++ leBytes 2
        0))) ∧
      (spdmUnit conn < (spdmHead 0x60 (if field request 3 1 = 0 then s.measurements.length else 0) 0 ++ leBytes 1 n ++ leBytes 3 b.length
        ++ b ++ leBytes 32 (Config.free s.free) ++ leBytes 2 0).length → (t.spdmOf conn).chunk = (spdmHead 0x60 (if field request 3 1 = 0
        then s.measurements.length else 0) 0 ++ leBytes 1 n ++ leBytes 3 b.length ++ b ++ leBytes 32 (Config.free s.free) ++ leBytes 2 0)
        ∧ (t.spdmOf conn).chunkSeq = 0 ∧ (t.spdmOf conn).handle = ((s.spdmOf conn).handle + 1) % 256 ∧ lastOut t (.answer conn (spdmError
        0x0F 0 ++ leBytes 1 (((s.spdmOf conn).handle + 1) % 256)))) ∧
      t.free = s.free + 1 ∧
      (∀ e, e ≠ (conn : Nat) → t.ep e = s.ep e) ∧
      unchangedBut [.free, .out, .eps, .sec] s t) ∧
  (∀ (conn : Fin 3) (request : List Byte) (n : Nat) (b : List Byte) (s : State), s.mgmtServes = true → spdmCode request = 0xE0 → request ≠
    [] → ((conn : Nat) = 2 ∨ ((s.ep conn).doeRequest = request ∧ s.doeTurn conn = true)) → ((conn : Nat) = 2 → (s.pwr.wakeable && bit
    (s.feat0 0x0D) 1) = false) → ((s.spdmOf conn).refusal 3 (if bit (field request 2 1) 0 then 37 else 4) request = none) →
    s.measuredBlocks (field request 3 1) = some (n, b) → bit (field request 2 1) 0 = false →
    ∃ t, exec (.spdmGetMeasurements conn request false) s = .next t ∧
      ((t.spdmOf conn).deferred = some (spdmHead 0x60 (if field request 3 1 = 0 then s.measurements.length else 0) 0 ++ leBytes 1 n ++
        leBytes 3 b.length ++ b ++ leBytes 32 (Config.free s.free) ++ leBytes 2 0)) ∧
      lastOut t (.answer conn (spdmError 0x42 0 ++ leBytes 1 20 ++ leBytes 1 0xE0 ++ leBytes 1 0 ++ leBytes 1 1)) ∧
      t.free = s.free + 1 ∧
      (∀ e, e ≠ (conn : Nat) → t.ep e = s.ep e) ∧
      unchangedBut [.free, .out, .eps, .sec] s t) ∧
  (∀ (conn : Fin 3) (request : List Byte) (k : Nat) (s : State), s.mgmtServes = true → spdmCode request = 0x86 → request ≠ [] → ((conn :
    Nat) = 2 ∨ ((s.ep conn).doeRequest = request ∧ s.doeTurn conn = true)) → ((conn : Nat) = 2 → (s.pwr.wakeable && bit (s.feat0 0x0D) 1)
    = false) → (s.spdmOf conn).refusal 3 6 request = some k →
    ∃ t, exec (.spdmChunkGet conn request) s = .next t ∧
      lastOut t (.answer conn (spdmError k 0)) ∧
      ((conn : Nat) < 2 → (t.ep conn).doeRequest = [] ∧ (t.ep conn).doeResponse = (spdmError k 0)) ∧
      (t.spdmOf conn) = (s.spdmOf conn) ∧
      (∀ e, e ≠ (conn : Nat) → t.ep e = s.ep e) ∧
      unchangedBut [.out, .eps, .sec] s t) ∧
  (∀ (conn : Fin 3) (request : List Byte) (s : State), s.mgmtServes = true → spdmCode request = 0x86 → request ≠ [] → ((conn : Nat) = 2 ∨
    ((s.ep conn).doeRequest = request ∧ s.doeTurn conn = true)) → ((conn : Nat) = 2 → (s.pwr.wakeable && bit (s.feat0 0x0D) 1) = false) →
    (s.spdmOf conn).refusal 3 6 request = none → (s.spdmOf conn).chunk = [] →
    ∃ t, exec (.spdmChunkGet conn request) s = .next t ∧
      lastOut t (.answer conn (spdmError 4 0)) ∧
      ((conn : Nat) < 2 → (t.ep conn).doeRequest = [] ∧ (t.ep conn).doeResponse = (spdmError 4 0)) ∧
      (∀ e, e ≠ (conn : Nat) → t.ep e = s.ep e) ∧
      unchangedBut [.out, .eps, .sec] s t) ∧
  (∀ (conn : Fin 3) (request : List Byte) (s : State), s.mgmtServes = true → spdmCode request = 0x86 → request ≠ [] → ((conn : Nat) = 2 ∨
    ((s.ep conn).doeRequest = request ∧ s.doeTurn conn = true)) → ((conn : Nat) = 2 → (s.pwr.wakeable && bit (s.feat0 0x0D) 1) = false) →
    (s.spdmOf conn).refusal 3 6 request = none → (s.spdmOf conn).chunk ≠ [] → (field request 3 1 ≠ (s.spdmOf conn).handle ∨ field request
    4 2 ≠ (s.spdmOf conn).chunkSeq) →
    ∃ t, exec (.spdmChunkGet conn request) s = .next t ∧
      lastOut t (.answer conn (spdmError 1 0)) ∧
      ((conn : Nat) < 2 → (t.ep conn).doeRequest = [] ∧ (t.ep conn).doeResponse = (spdmError 1 0)) ∧
      (t.spdmOf conn) = (s.spdmOf conn) ∧
      (∀ e, e ≠ (conn : Nat) → t.ep e = s.ep e) ∧
      unchangedBut [.out, .eps, .sec] s t) ∧
  (∀ (conn : Fin 3) (request : List Byte) (s : State), s.mgmtServes = true → spdmCode request = 0x86 → request ≠ [] → ((conn : Nat) = 2 ∨
    ((s.ep conn).doeRequest = request ∧ s.doeTurn conn = true)) → ((conn : Nat) = 2 → (s.pwr.wakeable && bit (s.feat0 0x0D) 1) = false) →
    (s.spdmOf conn).refusal 3 6 request = none → (s.spdmOf conn).chunk ≠ [] → field request 3 1 = (s.spdmOf conn).handle → field request 4
    2 = (s.spdmOf conn).chunkSeq →
    ∃ t, exec (.spdmChunkGet conn request) s = .next t ∧
      (t.spdmOf conn) = ((s.spdmOf conn).part (spdmUnit conn)).2 ∧
      ((t.spdmOf conn).chunk = (s.spdmOf conn).chunk.drop (spdmUnit conn - if (s.spdmOf conn).chunkSeq = 0 then 16 else 12)) ∧
      lastOut t (.answer conn ((s.spdmOf conn).part (spdmUnit conn)).1) ∧
      ((conn : Nat) < 2 → (t.ep conn).doeRequest = [] ∧ (t.ep conn).doeResponse = ((s.spdmOf conn).part (spdmUnit conn)).1) ∧
      (∀ e, e ≠ (conn : Nat) → t.ep e = s.ep e) ∧
      unchangedBut [.out, .eps, .sec] s t) ∧
  (∀ (conn : Fin 3) (request : List Byte) (k : Nat) (s : State), s.mgmtServes = true → spdmCode request = 0xFF → request ≠ [] → ((conn :
    Nat) = 2 ∨ ((s.ep conn).doeRequest = request ∧ s.doeTurn conn = true)) → ((conn : Nat) = 2 → (s.pwr.wakeable && bit (s.feat0 0x0D) 1)
    = false) → (s.spdmOf conn).refusal 3 4 request = some k →
    ∃ t, exec (.spdmRespondIfReady conn request) s = .next t ∧
      lastOut t (.answer conn (spdmError k 0)) ∧
      ((conn : Nat) < 2 → (t.ep conn).doeRequest = [] ∧ (t.ep conn).doeResponse = (spdmError k 0)) ∧
      (∀ e, e ≠ (conn : Nat) → t.ep e = s.ep e) ∧
      unchangedBut [.out, .eps, .sec] s t) ∧
  (∀ (conn : Fin 3) (request : List Byte) (s : State), s.mgmtServes = true → spdmCode request = 0xFF → request ≠ [] → ((conn : Nat) = 2 ∨
    ((s.ep conn).doeRequest = request ∧ s.doeTurn conn = true)) → ((conn : Nat) = 2 → (s.pwr.wakeable && bit (s.feat0 0x0D) 1) = false) →
    (s.spdmOf conn).refusal 3 4 request = none → (s.spdmOf conn).deferred = none →
    ∃ t, exec (.spdmRespondIfReady conn request) s = .next t ∧
      lastOut t (.answer conn (spdmError 4 0)) ∧
      ((conn : Nat) < 2 → (t.ep conn).doeRequest = [] ∧ (t.ep conn).doeResponse = (spdmError 4 0)) ∧
      (∀ e, e ≠ (conn : Nat) → t.ep e = s.ep e) ∧
      unchangedBut [.out, .eps, .sec] s t) ∧
  (∀ (conn : Fin 3) (request r : List Byte) (s : State), s.mgmtServes = true → spdmCode request = 0xFF → request ≠ [] → ((conn : Nat) = 2
    ∨ ((s.ep conn).doeRequest = request ∧ s.doeTurn conn = true)) → ((conn : Nat) = 2 → (s.pwr.wakeable && bit (s.feat0 0x0D) 1) = false)
    → (s.spdmOf conn).refusal 3 4 request = none → (s.spdmOf conn).deferred = some r → (field request 2 1 ≠ field r 1 1 + 0x80 ∨ field
    request 3 1 ≠ 0) →
    ∃ t, exec (.spdmRespondIfReady conn request) s = .next t ∧
      lastOut t (.answer conn (spdmError 1 0)) ∧
      ((conn : Nat) < 2 → (t.ep conn).doeRequest = [] ∧ (t.ep conn).doeResponse = (spdmError 1 0)) ∧
      (∀ e, e ≠ (conn : Nat) → t.ep e = s.ep e) ∧
      unchangedBut [.out, .eps, .sec] s t) ∧
  (∀ (conn : Fin 3) (request r : List Byte) (s : State), s.mgmtServes = true → spdmCode request = 0xFF → request ≠ [] → ((conn : Nat) = 2
    ∨ ((s.ep conn).doeRequest = request ∧ s.doeTurn conn = true)) → ((conn : Nat) = 2 → (s.pwr.wakeable && bit (s.feat0 0x0D) 1) = false)
    → (s.spdmOf conn).refusal 3 4 request = none → (s.spdmOf conn).deferred = some r → field request 2 1 = field r 1 1 + 0x80 → field
    request 3 1 = 0 →
    ∃ t, exec (.spdmRespondIfReady conn request) s = .next t ∧
      (t.spdmOf conn).deferred = none ∧
      (r.length ≤ spdmUnit conn → lastOut t (.answer conn r)) ∧
      (spdmUnit conn < r.length → (t.spdmOf conn).chunk = r ∧ (t.spdmOf conn).chunkSeq = 0 ∧ (t.spdmOf conn).handle = ((s.spdmOf
        conn).handle + 1) % 256 ∧ lastOut t (.answer conn (spdmError 0x0F 0 ++ leBytes 1 (((s.spdmOf conn).handle + 1) % 256)))) ∧
      (∀ e, e ≠ (conn : Nat) → t.ep e = s.ep e) ∧
      unchangedBut [.out, .eps, .sec] s t) ∧
  (∀ (conn : Fin 3) (request : List Byte) (s : State), s.mgmtServes = true → spdmCode request ∉ spdmServed → request ≠ [] → ((conn : Nat)
    = 2 ∨ ((s.ep conn).doeRequest = request ∧ s.doeTurn conn = true)) → ((conn : Nat) = 2 → (s.pwr.wakeable && bit (s.feat0 0x0D) 1) =
    false) → s.eventRoom = true →
    ∃ t, exec (.spdmUnsupported conn request) s = .next t ∧
      t.counter 0x010F002C = Ctr.add 31 1 (s.counter 0x010F002C) ∧
      lastOut t (.answer conn (spdmError 7 (spdmCode request))) ∧
      ((conn : Nat) < 2 → (t.ep conn).doeRequest = [] ∧ (t.ep conn).doeResponse = (spdmError 7 (spdmCode request))) ∧
      (∀ e, e ≠ (conn : Nat) → t.ep e = s.ep e) ∧
      unchangedBut [.out, .ctr, .flt, .eps] s t) ∧
  (∀ (ep : EpNo) (bytes : List Byte) (s : State), s.epUsed ep = true → s.hlkRuns = true → (s.ep ep).linkUp = true → (s.ep ep).doeRequest =
    [] → bytes ≠ [] → bytes.length ≤ 8184 →
    ∃ t, exec (.doeRequest ep 0 bytes) s = .next t ∧
      lastOut t (.answer ep (doeDiscovery (field bytes 0 1))) ∧
      (t.ep ep).doeResponse = doeDiscovery (field bytes 0 1) ∧ (t.ep ep).doeRequest = [] ∧
      unchangedBut [.out, .eps] s t) ∧
  (∀ (ep : EpNo) (bytes : List Byte) (s : State), s.epUsed ep = true → s.hlkRuns = true → (s.ep ep).linkUp = true → (s.ep ep).doeRequest =
    [] → bytes ≠ [] → bytes.length ≤ 8184 →
    ∃ t, exec (.doeRequest ep 1 bytes) s = .next t ∧
      (t.ep ep).doeRequest = bytes ∧ (t.ep ep).doeResponse = [] ∧ (t.ep ep).doeSecond = !(s.ep (1 - ep)).doeRequest.isEmpty ∧
      (t.ep (1 - ep)).doeSecond = false ∧
      unchangedBut [.out, .eps] s t) ∧
  (∀ (ep : EpNo) (kind : Nat) (bytes : List Byte) (s : State), 2 ≤ kind →
    exec (.doeRequest ep kind bytes) s = .next s) ∧
  (∀ (ep : EpNo) (kind : Nat) (bytes : List Byte) (s : State), (s.ep ep).doeRequest ≠ [] →
    exec (.doeRequest ep kind bytes) s = .next s) ∧
  (∀ (ep : EpNo) (s : State), s.epUsed ep = true → s.hlkRuns = true → (s.ep ep).linkUp = true →
    ∃ t, exec (.doeAbort ep) s = .next t ∧
      (t.ep ep).doeRequest = [] ∧ (t.ep ep).doeResponse = [] ∧
      (∀ e, e ≠ (ep : Nat) → t.ep e = s.ep e) ∧
      unchangedBut [.eps] s t) ∧
  (∀ (ep : EpNo) (s : State), (s.ep ep).linkUp = false →
    exec (.doeAbort ep) s = .next s)

/-- An endpoint ID from 1 to 0xFE is taken over and returned; other IDs, operations and message types are answered with their completion
code. A register read of 1 to 16 words within the permitted windows returns them, another is refused with code 1. A task packet in a message
is answered with the completion entry of its refusal, or of what it does with its data. An asserted alert is answered with the module's
address. In PS4, with the source enabled, a message fires the wake. The control layouts are the model's (log entry 30). -/
def Obligations.ManagementBus : Prop :=
  (∀ (inst op eid : Nat) (s : State), s.mctpOk = true → (s.pwr.wakeable && bit (s.feat0 0x0D) 1) = false → op ≤ 1 → 1 ≤ eid → eid ≤ 0xFE →
    ∃ t, exec (.mctpSetEndpointId inst op eid) s = .next t ∧
      t.mctpEid = eid ∧
      lastOut t (.answer 2 (mctpAnswer inst 1 0 [0, BitVec.ofNat 8 eid, 0])) ∧
      unchangedBut [.out, .mctpEid] s t) ∧
  (∀ (inst op eid : Nat) (s : State), s.mctpOk = true → (s.pwr.wakeable && bit (s.feat0 0x0D) 1) = false → (1 < op ∨ eid = 0 ∨ 0xFE < eid)
    →
    ∃ t, exec (.mctpSetEndpointId inst op eid) s = .next t ∧
      t.mctpEid = s.mctpEid ∧
      lastOut t (.answer 2 (mctpAnswer inst 1 2 [])) ∧
      unchangedBut [.out, .mctpEid] s t) ∧
  (∀ (inst op eid : Nat) (s : State), s.mctpOk = true → (s.pwr.wakeable && bit (s.feat0 0x0D) 1) = true →
    exec (.mctpSetEndpointId inst op eid) s = .next (s.fireWake 1)) ∧
  (∀ (inst op eid : Nat) (s : State), s.mctpOk = false →
    exec (.mctpSetEndpointId inst op eid) s = .next s) ∧
  (∀ (inst : Nat) (s : State), s.mctpOk = true → (s.pwr.wakeable && bit (s.feat0 0x0D) 1) = false →
    ∃ t, exec (.mctpGetEndpointId inst) s = .next t ∧
      lastOut t (.answer 2 (mctpAnswer inst 2 0 [BitVec.ofNat 8 s.mctpEid, 0, 0])) ∧
      unchangedBut [.out] s t) ∧
  (∀ (inst msgType : Nat) (s : State), s.mctpOk = true → (s.pwr.wakeable && bit (s.feat0 0x0D) 1) = false → msgType ∈ mctpTypes →
    ∃ t, exec (.mctpGetVersionSupport inst msgType) s = .next t ∧
      lastOut t (.answer 2 (mctpAnswer inst 4 0 (1 :: leBytes 4 (Config.free s.free)))) ∧
      t.free = s.free + 1 ∧
      unchangedBut [.free, .out] s t) ∧
  (∀ (inst msgType : Nat) (s : State), s.mctpOk = true → (s.pwr.wakeable && bit (s.feat0 0x0D) 1) = false → msgType ∉ mctpTypes →
    ∃ t, exec (.mctpGetVersionSupport inst msgType) s = .next t ∧
      lastOut t (.answer 2 (mctpAnswer inst 4 0x80 [])) ∧
      unchangedBut [.free, .out] s t) ∧
  (∀ (inst : Nat) (s : State), s.mctpOk = true → (s.pwr.wakeable && bit (s.feat0 0x0D) 1) = false →
    ∃ t, exec (.mctpGetMessageTypeSupport inst) s = .next t ∧
      lastOut t (.answer 2 (mctpAnswer inst 5 0 [2, 0x05, 0x7E])) ∧
      unchangedBut [.out] s t) ∧
  (∀ (addr count : Nat) (s : State), s.mctpOk = true → (s.pwr.wakeable && bit (s.feat0 0x0D) 1) = false → ohmithRange addr count = true →
    ∃ t, exec (.ohmithRegisterRead addr count) s = .next t ∧
      lastOut t (.words 2 (s.readWords addr count)) ∧
      unchangedBut [.out] s t) ∧
  (∀ (addr count : Nat) (s : State), s.mctpOk = true → (s.pwr.wakeable && bit (s.feat0 0x0D) 1) = false → ohmithRange addr count = false →
    ∃ t, exec (.ohmithRegisterRead addr count) s = .next t ∧
      lastOut t (.refused 1) ∧
      unchangedBut [.out] s t) ∧
  (∀ (bytes : List Byte) (r : Res) (s : State), s.mctpOk = true → (s.pwr.wakeable && bit (s.feat0 0x0D) 1) = false → bytes.length = 64 →
    s.activating = false → s.ohmithBad (parsePacket bytes) bytes = some r →
    ∃ t, exec (.ohmithTaskPacket bytes) s = .next t ∧
      lastOut t (.answer 2 (ohmithEntry (parsePacket bytes) r)) ∧
      t.nor = s.nor ∧ t.store = s.store ∧
      unchangedBut [.free, .out, .nor, .store] s t) ∧
  (∀ (bytes : List Byte) (s : State), s.mctpOk = true → (s.pwr.wakeable && bit (s.feat0 0x0D) 1) = false → bytes.length = 64 →
    s.activating = false → s.ohmithBad (parsePacket bytes) bytes = none →
    ∃ t, exec (.ohmithTaskPacket bytes) s = .next t ∧
      lastOut t (.answer 2 (ohmithEntry (parsePacket bytes) (s.ohmithRun (parsePacket bytes) ((bytes.drop 24).take 32)).1 ++ (s.ohmithRun
        (parsePacket bytes) ((bytes.drop 24).take 32)).2.1)) ∧
      t.nor = (s.ohmithRun (parsePacket bytes) ((bytes.drop 24).take 32)).2.2.nor ∧ t.store = (s.ohmithRun (parsePacket bytes)
        ((bytes.drop 24).take 32)).2.2.store ∧
      ((parsePacket bytes).opc = 0x20 → (parsePacket bytes).sub = 0 → lastOut t (.answer 2 (ohmithEntry (parsePacket bytes) {} ++
        s.identifyModule 0)) ∧ t.nor = s.nor) ∧
      ((parsePacket bytes).opc = 0x21 → t.nor = s.nor ∧ t.store = s.store) ∧
      unchangedBut [.free, .out, .nor, .store] s t) ∧
  (∀ (bytes : List Byte) (s : State), (bytes.length ≠ 64 ∨ s.activating = true) →
    exec (.ohmithTaskPacket bytes) s = .next s) ∧
  (∀ (s : State), s.alert = true →
    ∃ t, exec .smbusAlertResponse s = .next t ∧
      lastOut t (.answer 2 [0x32]) ∧
      unchangedBut [.out] s t) ∧
  (∀ (s : State), s.alert = false →
    exec .smbusAlertResponse s = .next s)

/-- For every command c and state s, a step of s with c at the front of its queue is exec of c on s with the rest of the queue. With an
empty queue the block idles: the model's choice (log entry 5). -/
def Obligations.StepTakesTheFront : Prop :=
  (∀ (c : Instr) (r : List Instr) (s : State), step { s with pending := c :: r } = exec c { s with pending := r }) ∧
  (∀ s : State, s.pending = [] → step s = .next s)

/-- Every command, presented in any state, answers a next state: nothing stops the module. It leaves the queue of waiting commands as it is.
That a command whose condition does not hold leaves the state unchanged is the model's choice (log entry 1). -/
def Obligations.EveryCommandAnswers : Prop :=
  ∀ (i : Instr) (s : State), ∃ t, exec i s = .next t ∧ t.pending = s.pending

/-- From every state whose stores of tags, commands, queues, endpoints, HDAs, media units and counters are in canonical form (keys strictly
rising, no default listed), as is the copy of the counters in NOR, a step leaves such a state. Equal contents are therefore equal data. -/
def Obligations.CanonicalKept : Prop :=
  ∀ s t : State, s.canonical = true → step s = .next t → t.canonical = true

/-- At reset the module is unpowered: it is in its first phase with no bus, no command waits, every store is canonical, every tag is FREE,
every counter is zero, every task port has its 64 tags and its PORT_CQ, no HDA is present, no link is up, and key domain 0 is ACTIVE. The
values of registers without a stated reset value are the model's (log entry 4); nothing here rests on them. -/
def Obligations.StateAtReset : Prop :=
  State.reset.canonical = true ∧ State.reset.pending = [] ∧ State.reset.start.phase = .off ∧ State.reset.mns.busUp = false ∧
  (∀ n, (State.reset.tag n).st = .free) ∧ (∀ a, State.reset.counter a = {}) ∧
  (∀ m, (State.reset.port m).free = (List.range 64).map (· + 64 * m) ∧ (State.reset.port m).count = 64 ∧ (State.reset.port m).cq = m % 128) ∧
  (∀ h, (State.reset.hda h).st = .empty) ∧ (∀ e, (State.reset.ep e).linkUp = false) ∧ (∀ q, (State.reset.cq q).enable = false) ∧
  (sget State.reset.nor.kds 0 {}).st = .active

/-- When the module reaches READY on an image whose SVN exceeds SVN_MIN, SVN_MIN becomes that SVN; otherwise it stays; the sources have room
for the events it raises (R548). A VALID slot whose SVN is then below SVN_MIN becomes ROLLED_BACK. No step lowers SVN_MIN, and no step
restores the fuse of a revoked key. -/
def Obligations.SecurityVersionFloor : Prop :=
  (∀ (slateOk : Bool) (s : State), s.start.phase = .service → s.mns.powerFail = false → s.eventRoom = true →
    ∃ t, exec (.bootReady slateOk) s = .next t ∧ t.start.phase = .ready ∧
      t.nor.svnMin = (if s.nor.svnMin < (s.fwSlot s.sec.slot).svn then (s.fwSlot s.sec.slot).svn else s.nor.svnMin) ∧
      (∀ n, (s.fwSlot n).st = .valid → (s.fwSlot n).svn < t.nor.svnMin → (t.fwSlot n).st = .rolledBack)) ∧
  (∀ s t : State, step s = .next t → s.nor.svnMin ≤ t.nor.svnMin ∧ ∀ i, s.nor.revoked.getLsbD i = true → t.nor.revoked.getLsbD i = true)

/-- Whatever command a step takes, a tag that is ACCEPTED after it was ACCEPTED or CLAIMED before, and a tag that is POSTED after it was not
FREE before. -/
def Obligations.TagsMoveInOrder : Prop :=
  ∀ (s t : State) (k : Nat), step s = .next t →
    ((t.tag k).st = .accepted → (s.tag k).st = .accepted ∨ (s.tag k).st = .claimed) ∧ ((t.tag k).st = .posted → (s.tag k).st ≠ .free)

/-- The completion of an accepted command posts its tag, releases its record and puts its entry behind the others of its queue. A second
completion, and one of a command that is not accepted or whose endpoint has been reset since, changes nothing. No other command and no other
queue is touched. -/
def Obligations.CompletionIsOnce : Prop :=
  (∀ (s : State) (n : Nat) (r : Res), s.live n = true → completes s (s.complete n r) n r ∧
    (∀ k, k ≠ n → (s.complete n r).cmd k = s.cmd k ∧ (s.complete n r).tag k = s.tag k) ∧
    (∀ q, q ≠ moduleNo (s.cmd n).ep (s.cmd n).pkt.cqid → (s.complete n r).cq q = s.cq q) ∧ unchangedBut [.tags, .cmds, .cqs] s (s.complete n r)) ∧
  (∀ (s : State) (n : Nat) (r : Res), s.live n = false → s.complete n r = s) ∧
  (∀ (s : State) (n : Nat) (r r' : Res), (s.complete n r).complete n r' = s.complete n r)

/-- The CRC-32C reflects the Castagnoli polynomial 0x1EDC6F41, starts at all ones and ends with an exclusive-or with all ones, takes the
bits of a byte from the least significant one on, is stored little-endian, and gives 0xE3069283 over the bytes of "123456789". Sixty bytes
followed by their stored CRC pass the check of a packet. -/
def Obligations.Crc32c : Prop :=
  (∀ c : BitVec 32, crcBit c = if c.getLsbD 0 then (c >>> 1) ^^^ (0x1EDC6F41#32).reverse else c >>> 1) ∧
  (∀ bs : List Byte, crc32c bs =
    (bs.foldl (fun c b => (List.range 8).foldl (fun c _ => crcBit c) (c ^^^ b.setWidth 32)) 0xFFFFFFFF#32) ^^^ 0xFFFFFFFF#32) ∧
  crc32c [0x31, 0x32, 0x33, 0x34, 0x35, 0x36, 0x37, 0x38, 0x39] = 0xE3069283#32 ∧ leBytes 4 0xE3069283 = [0x83, 0x92, 0x06, 0xE3] ∧
  (∀ b : List Byte, b.length = 60 →
    crc32c ((b ++ leBytes 4 (crc32c b).toNat).take 60) = BitVec.ofNat 32 (field (b ++ leBytes 4 (crc32c b).toNat) 60 4))

/-- An event is carried as one 64-bit message: SUBSYS in bits 63:59, INST in 58:53, KIND in 52:47, SEV in 46:45 and SAFETY in 44 as the kind
has them, zero in 43:40, ADDR in 39:0. SRC, bits 63:53, is SUBSYS times 64 plus INST. There are 174 sources. Raising an event offers this
message at the source's port, behind the others. -/
def Obligations.FaultMessages : Prop :=
  (∀ (sub inst k a sev : Nat) (saf : Bool), sub < 32 → inst < 64 → k < 64 → a < 2 ^ 40 → kindOf sub k a = some (sev, saf) →
    (mkMsg sub inst k a).extractLsb' 59 5 = BitVec.ofNat 5 sub ∧ (mkMsg sub inst k a).extractLsb' 53 6 = BitVec.ofNat 6 inst ∧
    (mkMsg sub inst k a).extractLsb' 47 6 = BitVec.ofNat 6 k ∧ (mkMsg sub inst k a).extractLsb' 45 2 = BitVec.ofNat 2 sev ∧ sev < 4 ∧
    (mkMsg sub inst k a).getLsbD 44 = saf ∧ (mkMsg sub inst k a).extractLsb' 40 4 = 0 ∧ (mkMsg sub inst k a).extractLsb' 0 40 = BitVec.ofNat 40 a ∧
    msgSrc (mkMsg sub inst k a) = sub * 64 + inst) ∧
  allSources.length = 174 ∧
  (∀ (sub inst k a : Nat) (s : State), (s.raise sub inst k a).flt.offered.getLast? = some { msg := mkMsg sub inst k a } ∧
    ∀ e, e ∈ s.flt.offered → e ∈ (s.raise sub inst k a).flt.offered)

/-- After a measurement of the bank, E_BOUND in units of 256 MiB is the largest number k, at most 96 (24 GiB), for which 2 × (80 J + 40.27 J
per GiB × k/4) is at most E_USABLE as reported, that is 160,000 + 20,135 k at most 1,000 E_USABLE. It is zero when E_USABLE is at most 160
J, and while the bank is FAILED. -/
def Obligations.EnergyBound : Prop :=
  ∀ (m : Measured) (s : State), s.mns.busUp = true → ∃ t, exec (.eUsableUpdate m) s = .next t ∧ t.mns.bank.eBound ≤ 96 ∧
    (t.mns.bank.eUsable ≤ 160 → t.mns.bank.eBound = 0) ∧ (t.mns.bank.st = .failed → t.mns.bank.eBound = 0) ∧
    (t.mns.bank.st ≠ .failed → 160 < t.mns.bank.eUsable → ∀ k, k ≤ 96 → (k ≤ t.mns.bank.eBound ↔ 160000 + 20135 * k ≤ 1000 * t.mns.bank.eUsable)) ∧
    unchangedBut [.mns] s t

/-- A module reset, with no take in progress, keeps every dirty sector of the preserved index with its place in staging, and the poison
marks of buffer memory. Lines of the cache are gone until the warm fill installs the dirty ones again. -/
def Obligations.DirtyDataKept : Prop :=
  ∀ s : State, s.mns.busUp = true → s.start.phase ≠ .off →
    (∀ m, m < 32 → (s.mu m).tsq.desc = none) → swf {} s.bca.index = true →
    ∃ t, exec .moduleReset s = .next t ∧ t.bca.lines = [] ∧ t.buf.poison = s.buf.poison ∧
      ∀ k, (sget t.bca.index k {}).sector = (sget s.bca.index k {}).sector ∧ (sget t.bca.index k {}).staged = (sget s.bca.index k {}).staged
end

