-- ==== Sys2Proof/Laws/Sparse.lean ====
section
/-! SUPPORT. Laws of indexed stores: what a read finds after a write, and that every operation keeps the canonical form. -/

namespace Sys2Proof.Machine

variable {α : Type}

/-! ### Reads after writes -/

theorem sget_sdel_same (m : Sparse α) (k : Nat) (d : α) : sget (sdel m k) k d = d := by
  induction m with
  | nil => rfl
  | cons e r ih =>
    obtain ⟨j, w⟩ := e
    by_cases h : j = k
    · simpa [sdel, h] using ih
    · simpa [sdel, h, sget] using ih

theorem sget_sdel_ne (m : Sparse α) (k k' : Nat) (d : α) (h : k' ≠ k) : sget (sdel m k) k' d = sget m k' d := by
  induction m with
  | nil => rfl
  | cons e r ih =>
    obtain ⟨j, w⟩ := e
    by_cases hj : j = k
    · subst hj
      simpa [sdel, sget, Ne.symm h] using ih
    · by_cases hk : j = k'
      · subst hk
        simp [sdel, sget, h]
      · simpa [sdel, sget, hj, hk] using ih

theorem sget_sins_ne (m : Sparse α) (k k' : Nat) (v d : α) (h : k' ≠ k) : sget (sins m k v) k' d = sget m k' d := by
  induction m with
  | nil => simp [sins, sget, Ne.symm h]
  | cons e r ih =>
    obtain ⟨j, w⟩ := e
    by_cases hj : k < j
    · simp [sins, hj, sget, Ne.symm h]
    · by_cases hk : j = k'
      · subst hk
        simp [sins, hj, sget]
      · simpa [sins, hj, sget, hk] using ih

theorem sget_sins_sdel_same (m : Sparse α) (k : Nat) (v d : α) : sget (sins (sdel m k) k v) k d = v := by
  induction m with
  | nil => simp [sdel, sins, sget]
  | cons e r ih =>
    obtain ⟨j, w⟩ := e
    by_cases hj : j = k
    · simpa [sdel, hj] using ih
    · by_cases hk : k < j
      · simp [sdel, hj, sins, hk, sget]
      · simpa [sdel, hj, sins, hk, sget] using ih

variable [DecidableEq α]

@[simp] theorem sget_sset_same (m : Sparse α) (k : Nat) (v d : α) : sget (sset m k v d) k d = v := by
  unfold sset
  split
  · next h => rw [sget_sdel_same, h]
  · exact sget_sins_sdel_same m k v d

theorem sget_sset_ne (m : Sparse α) (k k' : Nat) (v d d' : α) (h : k' ≠ k) : sget (sset m k v d) k' d' = sget m k' d' := by
  unfold sset
  split
  · exact sget_sdel_ne m k k' d' h
  · rw [sget_sins_ne _ _ _ _ _ h, sget_sdel_ne _ _ _ _ h]

theorem sget_sset (m : Sparse α) (k k' : Nat) (v d : α) :
    sget (sset m k v d) k' d = if k' = k then v else sget m k' d := by
  by_cases h : k' = k
  · simp [h]
  · simp [h, sget_sset_ne m k k' v d d h]

@[simp] theorem sget_supd_same (m : Sparse α) (k : Nat) (d : α) (f : α → α) : sget (supd m k d f) k d = f (sget m k d) := by
  simp [supd]

theorem sget_supd_ne (m : Sparse α) (k k' : Nat) (d d' : α) (f : α → α) (h : k' ≠ k) :
    sget (supd m k d f) k' d' = sget m k' d' := sget_sset_ne m k k' _ d d' h

theorem sget_supd (m : Sparse α) (k k' : Nat) (d : α) (f : α → α) :
    sget (supd m k d f) k' d = if k' = k then f (sget m k d) else sget m k' d := sget_sset m k k' _ d

/-! ### The canonical form is kept -/

/-- A bound that a key must exceed. -/
def aboveBound (b : Option Nat) (k : Nat) : Prop := ∀ x, b = some x → x < k

theorem sortedAbove_cons (d : α) (b : Option Nat) (k : Nat) (v : α) (r : Sparse α) :
    sortedAbove d b ((k, v) :: r) = true ↔ aboveBound b k ∧ v ≠ d ∧ sortedAbove d (some k) r = true := by
  cases b <;> simp [sortedAbove, aboveBound, and_assoc]

theorem sortedAbove_weaken (d : α) (b c : Option Nat) (m : Sparse α) (h : ∀ k, aboveBound c k → aboveBound b k)
    (hm : sortedAbove d c m = true) : sortedAbove d b m = true := by
  cases m with
  | nil => rfl
  | cons e r =>
    obtain ⟨k, v⟩ := e
    rw [sortedAbove_cons] at hm ⊢
    exact ⟨h k hm.1, hm.2⟩

theorem sdel_sorted (d : α) (k : Nat) (m : Sparse α) : ∀ b, sortedAbove d b m = true → sortedAbove d b (sdel m k) = true := by
  induction m with
  | nil => intro b h; exact h
  | cons e r ih =>
    obtain ⟨j, w⟩ := e
    intro b h
    rw [sortedAbove_cons] at h
    by_cases hj : j = k
    · simp only [sdel, hj, if_true]
      refine sortedAbove_weaken d b (some j) _ ?_ (by simpa [hj] using ih (some j) h.2.2)
      intro x hx y hy
      exact Nat.lt_trans (h.1 y hy) (hx j rfl)
    · simp only [sdel, hj, if_false]
      rw [sortedAbove_cons]
      exact ⟨h.1, h.2.1, ih _ h.2.2⟩

theorem sins_sorted (d : α) (k : Nat) (v : α) (hv : v ≠ d) (m : Sparse α) :
    ∀ b, aboveBound b k → sortedAbove d b (sdel m k) = true → sortedAbove d b (sins (sdel m k) k v) = true := by
  induction m with
  | nil => intro b hb _; rw [sdel, sins, sortedAbove_cons]; exact ⟨hb, hv, rfl⟩
  | cons e r ih =>
    obtain ⟨j, w⟩ := e
    intro b hb h
    by_cases hj : j = k
    · simp only [sdel, hj, if_true] at h ⊢
      exact ih b hb h
    · simp only [sdel, hj, if_false] at h ⊢
      rw [sortedAbove_cons] at h
      by_cases hk : k < j
      · simp only [sins, hk, if_true]
        rw [sortedAbove_cons, sortedAbove_cons]
        refine ⟨hb, hv, ?_, h.2.1, h.2.2⟩
        intro x hx
        cases hx
        exact hk
      · simp only [sins, hk, if_false]
        rw [sortedAbove_cons]
        refine ⟨h.1, h.2.1, ih (some j) ?_ h.2.2⟩
        intro x hx
        cases hx
        omega

/-- A write keeps the canonical form. -/
theorem swf_sset (m : Sparse α) (k : Nat) (v d : α) (h : swf d m = true) : swf d (sset m k v d) = true := by
  unfold sset
  split
  · exact sdel_sorted d k m none h
  · next hv => exact sins_sorted d k v hv m none (by intro x hx; cases hx) (sdel_sorted d k m none h)

/-- An update keeps the canonical form. -/
theorem swf_supd (m : Sparse α) (k : Nat) (d : α) (f : α → α) (h : swf d m = true) : swf d (supd m k d f) = true :=
  swf_sset m k _ d h

theorem filter_sorted (d : α) (p : Nat × α → Bool) (m : Sparse α) :
    ∀ b, sortedAbove d b m = true → sortedAbove d b (m.filter p) = true := by
  induction m with
  | nil => intro b h; exact h
  | cons e r ih =>
    obtain ⟨j, w⟩ := e
    intro b h
    rw [sortedAbove_cons] at h
    by_cases hp : p (j, w) = true
    · rw [List.filter_cons_of_pos hp, sortedAbove_cons]
      exact ⟨h.1, h.2.1, ih _ h.2.2⟩
    · rw [List.filter_cons_of_neg hp]
      refine sortedAbove_weaken d b (some j) _ ?_ (ih (some j) h.2.2)
      intro x hx y hy
      exact Nat.lt_trans (h.1 y hy) (hx j rfl)

/-- Dropping keys keeps the canonical form. -/
theorem swf_sdrop (m : Sparse α) (p : Nat → Bool) (d : α) (h : swf d m = true) : swf d (sdrop m p) = true :=
  filter_sorted d _ m none h

theorem smap_sorted (d e : α) (f : α → α) (m : Sparse α) :
    ∀ b, sortedAbove e b m = true → sortedAbove d b (smap m d f) = true := by
  induction m with
  | nil => intro b _; rfl
  | cons x r ih =>
    obtain ⟨j, w⟩ := x
    intro b h
    rw [sortedAbove_cons] at h
    have hr : sortedAbove d (some j) (smap r d f) = true := ih (some j) h.2.2
    by_cases hw : f w = d
    · have : smap ((j, w) :: r) d f = smap r d f := by simp [smap, hw]
      rw [this]
      refine sortedAbove_weaken d b (some j) _ ?_ hr
      intro x hx y hy
      exact Nat.lt_trans (h.1 y hy) (hx j rfl)
    · have : smap ((j, w) :: r) d f = (j, f w) :: smap r d f := by simp [smap, hw]
      rw [this, sortedAbove_cons]
      exact ⟨h.1, hw, hr⟩

/-- A change of every listed value keeps the canonical form. -/
theorem swf_smap (m : Sparse α) (d : α) (f : α → α) (h : swf d m = true) : swf d (smap m d f) = true :=
  smap_sorted d d f m none h

end Sys2Proof.Machine
end

