-- ==== Sys2Proof/Laws/State.lean ====
section
/-! SUPPORT. What each update of the state leaves of every field, and what a read of an indexed part finds after its update. -/

namespace Sys2Proof.Machine

variable (s : State)

/-! ### updHda -/

@[simp] theorem updHda_pending (h : Nat) (f : Hda → Hda) : (s.updHda h f).pending = s.pending := rfl
@[simp] theorem updHda_free (h : Nat) (f : Hda → Hda) : (s.updHda h f).free = s.free := rfl
@[simp] theorem updHda_out (h : Nat) (f : Hda → Hda) : (s.updHda h f).out = s.out := rfl
@[simp] theorem updHda_nor (h : Nat) (f : Hda → Hda) : (s.updHda h f).nor = s.nor := rfl
@[simp] theorem updHda_ctr (h : Nat) (f : Hda → Hda) : (s.updHda h f).ctr = s.ctr := rfl
@[simp] theorem updHda_time (h : Nat) (f : Hda → Hda) : (s.updHda h f).time = s.time := rfl
@[simp] theorem updHda_flt (h : Nat) (f : Hda → Hda) : (s.updHda h f).flt = s.flt := rfl
@[simp] theorem updHda_log (h : Nat) (f : Hda → Hda) : (s.updHda h f).log = s.log := rfl
@[simp] theorem updHda_thp (h : Nat) (f : Hda → Hda) : (s.updHda h f).thp = s.thp := rfl
@[simp] theorem updHda_pwr (h : Nat) (f : Hda → Hda) : (s.updHda h f).pwr = s.pwr := rfl
@[simp] theorem updHda_mns (h : Nat) (f : Hda → Hda) : (s.updHda h f).mns = s.mns := rfl
@[simp] theorem updHda_cal (h : Nat) (f : Hda → Hda) : (s.updHda h f).cal = s.cal := rfl
@[simp] theorem updHda_start (h : Nat) (f : Hda → Hda) : (s.updHda h f).start = s.start := rfl
@[simp] theorem updHda_mus (h : Nat) (f : Hda → Hda) : (s.updHda h f).mus = s.mus := rfl
@[simp] theorem updHda_store (h : Nat) (f : Hda → Hda) : (s.updHda h f).store = s.store := rfl
@[simp] theorem updHda_ldp (h : Nat) (f : Hda → Hda) : (s.updHda h f).ldp = s.ldp := rfl
@[simp] theorem updHda_eps (h : Nat) (f : Hda → Hda) : (s.updHda h f).eps = s.eps := rfl
@[simp] theorem updHda_dual (h : Nat) (f : Hda → Hda) : (s.updHda h f).dual = s.dual := rfl
@[simp] theorem updHda_feat (h : Nat) (f : Hda → Hda) : (s.updHda h f).feat = s.feat := rfl
@[simp] theorem updHda_owners (h : Nat) (f : Hda → Hda) : (s.updHda h f).owners = s.owners := rfl
@[simp] theorem updHda_mctpEid (h : Nat) (f : Hda → Hda) : (s.updHda h f).mctpEid = s.mctpEid := rfl
@[simp] theorem updHda_alert (h : Nat) (f : Hda → Hda) : (s.updHda h f).alert = s.alert := rfl
@[simp] theorem updHda_ports (h : Nat) (f : Hda → Hda) : (s.updHda h f).ports = s.ports := rfl
@[simp] theorem updHda_tags (h : Nat) (f : Hda → Hda) : (s.updHda h f).tags = s.tags := rfl
@[simp] theorem updHda_cqs (h : Nat) (f : Hda → Hda) : (s.updHda h f).cqs = s.cqs := rfl
@[simp] theorem updHda_cmds (h : Nat) (f : Hda → Hda) : (s.updHda h f).cmds = s.cmds := rfl
@[simp] theorem updHda_accept (h : Nat) (f : Hda → Hda) : (s.updHda h f).accept = s.accept := rfl
@[simp] theorem updHda_mgt (h : Nat) (f : Hda → Hda) : (s.updHda h f).mgt = s.mgt := rfl
@[simp] theorem updHda_buf (h : Nat) (f : Hda → Hda) : (s.updHda h f).buf = s.buf := rfl
@[simp] theorem updHda_bca (h : Nat) (f : Hda → Hda) : (s.updHda h f).bca = s.bca := rfl
@[simp] theorem updHda_vlt (h : Nat) (f : Hda → Hda) : (s.updHda h f).vlt = s.vlt := rfl
@[simp] theorem updHda_sec (h : Nat) (f : Hda → Hda) : (s.updHda h f).sec = s.sec := rfl

/-! ### updMu -/

@[simp] theorem updMu_pending (m : Nat) (f : Mu → Mu) : (s.updMu m f).pending = s.pending := rfl
@[simp] theorem updMu_free (m : Nat) (f : Mu → Mu) : (s.updMu m f).free = s.free := rfl
@[simp] theorem updMu_out (m : Nat) (f : Mu → Mu) : (s.updMu m f).out = s.out := rfl
@[simp] theorem updMu_nor (m : Nat) (f : Mu → Mu) : (s.updMu m f).nor = s.nor := rfl
@[simp] theorem updMu_ctr (m : Nat) (f : Mu → Mu) : (s.updMu m f).ctr = s.ctr := rfl
@[simp] theorem updMu_time (m : Nat) (f : Mu → Mu) : (s.updMu m f).time = s.time := rfl
@[simp] theorem updMu_flt (m : Nat) (f : Mu → Mu) : (s.updMu m f).flt = s.flt := rfl
@[simp] theorem updMu_log (m : Nat) (f : Mu → Mu) : (s.updMu m f).log = s.log := rfl
@[simp] theorem updMu_thp (m : Nat) (f : Mu → Mu) : (s.updMu m f).thp = s.thp := rfl
@[simp] theorem updMu_pwr (m : Nat) (f : Mu → Mu) : (s.updMu m f).pwr = s.pwr := rfl
@[simp] theorem updMu_mns (m : Nat) (f : Mu → Mu) : (s.updMu m f).mns = s.mns := rfl
@[simp] theorem updMu_cal (m : Nat) (f : Mu → Mu) : (s.updMu m f).cal = s.cal := rfl
@[simp] theorem updMu_start (m : Nat) (f : Mu → Mu) : (s.updMu m f).start = s.start := rfl
@[simp] theorem updMu_hdas (m : Nat) (f : Mu → Mu) : (s.updMu m f).hdas = s.hdas := rfl
@[simp] theorem updMu_store (m : Nat) (f : Mu → Mu) : (s.updMu m f).store = s.store := rfl
@[simp] theorem updMu_ldp (m : Nat) (f : Mu → Mu) : (s.updMu m f).ldp = s.ldp := rfl
@[simp] theorem updMu_eps (m : Nat) (f : Mu → Mu) : (s.updMu m f).eps = s.eps := rfl
@[simp] theorem updMu_dual (m : Nat) (f : Mu → Mu) : (s.updMu m f).dual = s.dual := rfl
@[simp] theorem updMu_feat (m : Nat) (f : Mu → Mu) : (s.updMu m f).feat = s.feat := rfl
@[simp] theorem updMu_owners (m : Nat) (f : Mu → Mu) : (s.updMu m f).owners = s.owners := rfl
@[simp] theorem updMu_mctpEid (m : Nat) (f : Mu → Mu) : (s.updMu m f).mctpEid = s.mctpEid := rfl
@[simp] theorem updMu_alert (m : Nat) (f : Mu → Mu) : (s.updMu m f).alert = s.alert := rfl
@[simp] theorem updMu_ports (m : Nat) (f : Mu → Mu) : (s.updMu m f).ports = s.ports := rfl
@[simp] theorem updMu_tags (m : Nat) (f : Mu → Mu) : (s.updMu m f).tags = s.tags := rfl
@[simp] theorem updMu_cqs (m : Nat) (f : Mu → Mu) : (s.updMu m f).cqs = s.cqs := rfl
@[simp] theorem updMu_cmds (m : Nat) (f : Mu → Mu) : (s.updMu m f).cmds = s.cmds := rfl
@[simp] theorem updMu_accept (m : Nat) (f : Mu → Mu) : (s.updMu m f).accept = s.accept := rfl
@[simp] theorem updMu_mgt (m : Nat) (f : Mu → Mu) : (s.updMu m f).mgt = s.mgt := rfl
@[simp] theorem updMu_buf (m : Nat) (f : Mu → Mu) : (s.updMu m f).buf = s.buf := rfl
@[simp] theorem updMu_bca (m : Nat) (f : Mu → Mu) : (s.updMu m f).bca = s.bca := rfl
@[simp] theorem updMu_vlt (m : Nat) (f : Mu → Mu) : (s.updMu m f).vlt = s.vlt := rfl
@[simp] theorem updMu_sec (m : Nat) (f : Mu → Mu) : (s.updMu m f).sec = s.sec := rfl

/-! ### updEp -/

@[simp] theorem updEp_pending (e : Nat) (f : Endpoint → Endpoint) : (s.updEp e f).pending = s.pending := rfl
@[simp] theorem updEp_free (e : Nat) (f : Endpoint → Endpoint) : (s.updEp e f).free = s.free := rfl
@[simp] theorem updEp_out (e : Nat) (f : Endpoint → Endpoint) : (s.updEp e f).out = s.out := rfl
@[simp] theorem updEp_nor (e : Nat) (f : Endpoint → Endpoint) : (s.updEp e f).nor = s.nor := rfl
@[simp] theorem updEp_ctr (e : Nat) (f : Endpoint → Endpoint) : (s.updEp e f).ctr = s.ctr := rfl
@[simp] theorem updEp_time (e : Nat) (f : Endpoint → Endpoint) : (s.updEp e f).time = s.time := rfl
@[simp] theorem updEp_flt (e : Nat) (f : Endpoint → Endpoint) : (s.updEp e f).flt = s.flt := rfl
@[simp] theorem updEp_log (e : Nat) (f : Endpoint → Endpoint) : (s.updEp e f).log = s.log := rfl
@[simp] theorem updEp_thp (e : Nat) (f : Endpoint → Endpoint) : (s.updEp e f).thp = s.thp := rfl
@[simp] theorem updEp_pwr (e : Nat) (f : Endpoint → Endpoint) : (s.updEp e f).pwr = s.pwr := rfl
@[simp] theorem updEp_mns (e : Nat) (f : Endpoint → Endpoint) : (s.updEp e f).mns = s.mns := rfl
@[simp] theorem updEp_cal (e : Nat) (f : Endpoint → Endpoint) : (s.updEp e f).cal = s.cal := rfl
@[simp] theorem updEp_start (e : Nat) (f : Endpoint → Endpoint) : (s.updEp e f).start = s.start := rfl
@[simp] theorem updEp_hdas (e : Nat) (f : Endpoint → Endpoint) : (s.updEp e f).hdas = s.hdas := rfl
@[simp] theorem updEp_mus (e : Nat) (f : Endpoint → Endpoint) : (s.updEp e f).mus = s.mus := rfl
@[simp] theorem updEp_store (e : Nat) (f : Endpoint → Endpoint) : (s.updEp e f).store = s.store := rfl
@[simp] theorem updEp_ldp (e : Nat) (f : Endpoint → Endpoint) : (s.updEp e f).ldp = s.ldp := rfl
@[simp] theorem updEp_dual (e : Nat) (f : Endpoint → Endpoint) : (s.updEp e f).dual = s.dual := rfl
@[simp] theorem updEp_feat (e : Nat) (f : Endpoint → Endpoint) : (s.updEp e f).feat = s.feat := rfl
@[simp] theorem updEp_owners (e : Nat) (f : Endpoint → Endpoint) : (s.updEp e f).owners = s.owners := rfl
@[simp] theorem updEp_mctpEid (e : Nat) (f : Endpoint → Endpoint) : (s.updEp e f).mctpEid = s.mctpEid := rfl
@[simp] theorem updEp_alert (e : Nat) (f : Endpoint → Endpoint) : (s.updEp e f).alert = s.alert := rfl
@[simp] theorem updEp_ports (e : Nat) (f : Endpoint → Endpoint) : (s.updEp e f).ports = s.ports := rfl
@[simp] theorem updEp_tags (e : Nat) (f : Endpoint → Endpoint) : (s.updEp e f).tags = s.tags := rfl
@[simp] theorem updEp_cqs (e : Nat) (f : Endpoint → Endpoint) : (s.updEp e f).cqs = s.cqs := rfl
@[simp] theorem updEp_cmds (e : Nat) (f : Endpoint → Endpoint) : (s.updEp e f).cmds = s.cmds := rfl
@[simp] theorem updEp_accept (e : Nat) (f : Endpoint → Endpoint) : (s.updEp e f).accept = s.accept := rfl
@[simp] theorem updEp_mgt (e : Nat) (f : Endpoint → Endpoint) : (s.updEp e f).mgt = s.mgt := rfl
@[simp] theorem updEp_buf (e : Nat) (f : Endpoint → Endpoint) : (s.updEp e f).buf = s.buf := rfl
@[simp] theorem updEp_bca (e : Nat) (f : Endpoint → Endpoint) : (s.updEp e f).bca = s.bca := rfl
@[simp] theorem updEp_vlt (e : Nat) (f : Endpoint → Endpoint) : (s.updEp e f).vlt = s.vlt := rfl
@[simp] theorem updEp_sec (e : Nat) (f : Endpoint → Endpoint) : (s.updEp e f).sec = s.sec := rfl

/-! ### updCmd -/

@[simp] theorem updCmd_pending (t : Nat) (f : Cmd → Cmd) : (s.updCmd t f).pending = s.pending := rfl
@[simp] theorem updCmd_free (t : Nat) (f : Cmd → Cmd) : (s.updCmd t f).free = s.free := rfl
@[simp] theorem updCmd_out (t : Nat) (f : Cmd → Cmd) : (s.updCmd t f).out = s.out := rfl
@[simp] theorem updCmd_nor (t : Nat) (f : Cmd → Cmd) : (s.updCmd t f).nor = s.nor := rfl
@[simp] theorem updCmd_ctr (t : Nat) (f : Cmd → Cmd) : (s.updCmd t f).ctr = s.ctr := rfl
@[simp] theorem updCmd_time (t : Nat) (f : Cmd → Cmd) : (s.updCmd t f).time = s.time := rfl
@[simp] theorem updCmd_flt (t : Nat) (f : Cmd → Cmd) : (s.updCmd t f).flt = s.flt := rfl
@[simp] theorem updCmd_log (t : Nat) (f : Cmd → Cmd) : (s.updCmd t f).log = s.log := rfl
@[simp] theorem updCmd_thp (t : Nat) (f : Cmd → Cmd) : (s.updCmd t f).thp = s.thp := rfl
@[simp] theorem updCmd_pwr (t : Nat) (f : Cmd → Cmd) : (s.updCmd t f).pwr = s.pwr := rfl
@[simp] theorem updCmd_mns (t : Nat) (f : Cmd → Cmd) : (s.updCmd t f).mns = s.mns := rfl
@[simp] theorem updCmd_cal (t : Nat) (f : Cmd → Cmd) : (s.updCmd t f).cal = s.cal := rfl
@[simp] theorem updCmd_start (t : Nat) (f : Cmd → Cmd) : (s.updCmd t f).start = s.start := rfl
@[simp] theorem updCmd_hdas (t : Nat) (f : Cmd → Cmd) : (s.updCmd t f).hdas = s.hdas := rfl
@[simp] theorem updCmd_mus (t : Nat) (f : Cmd → Cmd) : (s.updCmd t f).mus = s.mus := rfl
@[simp] theorem updCmd_store (t : Nat) (f : Cmd → Cmd) : (s.updCmd t f).store = s.store := rfl
@[simp] theorem updCmd_ldp (t : Nat) (f : Cmd → Cmd) : (s.updCmd t f).ldp = s.ldp := rfl
@[simp] theorem updCmd_eps (t : Nat) (f : Cmd → Cmd) : (s.updCmd t f).eps = s.eps := rfl
@[simp] theorem updCmd_dual (t : Nat) (f : Cmd → Cmd) : (s.updCmd t f).dual = s.dual := rfl
@[simp] theorem updCmd_feat (t : Nat) (f : Cmd → Cmd) : (s.updCmd t f).feat = s.feat := rfl
@[simp] theorem updCmd_owners (t : Nat) (f : Cmd → Cmd) : (s.updCmd t f).owners = s.owners := rfl
@[simp] theorem updCmd_mctpEid (t : Nat) (f : Cmd → Cmd) : (s.updCmd t f).mctpEid = s.mctpEid := rfl
@[simp] theorem updCmd_alert (t : Nat) (f : Cmd → Cmd) : (s.updCmd t f).alert = s.alert := rfl
@[simp] theorem updCmd_ports (t : Nat) (f : Cmd → Cmd) : (s.updCmd t f).ports = s.ports := rfl
@[simp] theorem updCmd_tags (t : Nat) (f : Cmd → Cmd) : (s.updCmd t f).tags = s.tags := rfl
@[simp] theorem updCmd_cqs (t : Nat) (f : Cmd → Cmd) : (s.updCmd t f).cqs = s.cqs := rfl
@[simp] theorem updCmd_accept (t : Nat) (f : Cmd → Cmd) : (s.updCmd t f).accept = s.accept := rfl
@[simp] theorem updCmd_mgt (t : Nat) (f : Cmd → Cmd) : (s.updCmd t f).mgt = s.mgt := rfl
@[simp] theorem updCmd_buf (t : Nat) (f : Cmd → Cmd) : (s.updCmd t f).buf = s.buf := rfl
@[simp] theorem updCmd_bca (t : Nat) (f : Cmd → Cmd) : (s.updCmd t f).bca = s.bca := rfl
@[simp] theorem updCmd_vlt (t : Nat) (f : Cmd → Cmd) : (s.updCmd t f).vlt = s.vlt := rfl
@[simp] theorem updCmd_sec (t : Nat) (f : Cmd → Cmd) : (s.updCmd t f).sec = s.sec := rfl

/-! ### setTag -/

@[simp] theorem setTag_pending (t : Nat) (r : TagRec) : (s.setTag t r).pending = s.pending := rfl
@[simp] theorem setTag_free (t : Nat) (r : TagRec) : (s.setTag t r).free = s.free := rfl
@[simp] theorem setTag_out (t : Nat) (r : TagRec) : (s.setTag t r).out = s.out := rfl
@[simp] theorem setTag_nor (t : Nat) (r : TagRec) : (s.setTag t r).nor = s.nor := rfl
@[simp] theorem setTag_ctr (t : Nat) (r : TagRec) : (s.setTag t r).ctr = s.ctr := rfl
@[simp] theorem setTag_time (t : Nat) (r : TagRec) : (s.setTag t r).time = s.time := rfl
@[simp] theorem setTag_flt (t : Nat) (r : TagRec) : (s.setTag t r).flt = s.flt := rfl
@[simp] theorem setTag_log (t : Nat) (r : TagRec) : (s.setTag t r).log = s.log := rfl
@[simp] theorem setTag_thp (t : Nat) (r : TagRec) : (s.setTag t r).thp = s.thp := rfl
@[simp] theorem setTag_pwr (t : Nat) (r : TagRec) : (s.setTag t r).pwr = s.pwr := rfl
@[simp] theorem setTag_mns (t : Nat) (r : TagRec) : (s.setTag t r).mns = s.mns := rfl
@[simp] theorem setTag_cal (t : Nat) (r : TagRec) : (s.setTag t r).cal = s.cal := rfl
@[simp] theorem setTag_start (t : Nat) (r : TagRec) : (s.setTag t r).start = s.start := rfl
@[simp] theorem setTag_hdas (t : Nat) (r : TagRec) : (s.setTag t r).hdas = s.hdas := rfl
@[simp] theorem setTag_mus (t : Nat) (r : TagRec) : (s.setTag t r).mus = s.mus := rfl
@[simp] theorem setTag_store (t : Nat) (r : TagRec) : (s.setTag t r).store = s.store := rfl
@[simp] theorem setTag_ldp (t : Nat) (r : TagRec) : (s.setTag t r).ldp = s.ldp := rfl
@[simp] theorem setTag_eps (t : Nat) (r : TagRec) : (s.setTag t r).eps = s.eps := rfl
@[simp] theorem setTag_dual (t : Nat) (r : TagRec) : (s.setTag t r).dual = s.dual := rfl
@[simp] theorem setTag_feat (t : Nat) (r : TagRec) : (s.setTag t r).feat = s.feat := rfl
@[simp] theorem setTag_owners (t : Nat) (r : TagRec) : (s.setTag t r).owners = s.owners := rfl
@[simp] theorem setTag_mctpEid (t : Nat) (r : TagRec) : (s.setTag t r).mctpEid = s.mctpEid := rfl
@[simp] theorem setTag_alert (t : Nat) (r : TagRec) : (s.setTag t r).alert = s.alert := rfl
@[simp] theorem setTag_ports (t : Nat) (r : TagRec) : (s.setTag t r).ports = s.ports := rfl
@[simp] theorem setTag_cqs (t : Nat) (r : TagRec) : (s.setTag t r).cqs = s.cqs := rfl
@[simp] theorem setTag_cmds (t : Nat) (r : TagRec) : (s.setTag t r).cmds = s.cmds := rfl
@[simp] theorem setTag_accept (t : Nat) (r : TagRec) : (s.setTag t r).accept = s.accept := rfl
@[simp] theorem setTag_mgt (t : Nat) (r : TagRec) : (s.setTag t r).mgt = s.mgt := rfl
@[simp] theorem setTag_buf (t : Nat) (r : TagRec) : (s.setTag t r).buf = s.buf := rfl
@[simp] theorem setTag_bca (t : Nat) (r : TagRec) : (s.setTag t r).bca = s.bca := rfl
@[simp] theorem setTag_vlt (t : Nat) (r : TagRec) : (s.setTag t r).vlt = s.vlt := rfl
@[simp] theorem setTag_sec (t : Nat) (r : TagRec) : (s.setTag t r).sec = s.sec := rfl

/-! ### updCq -/

@[simp] theorem updCq_pending (q : Nat) (f : Cq → Cq) : (s.updCq q f).pending = s.pending := rfl
@[simp] theorem updCq_free (q : Nat) (f : Cq → Cq) : (s.updCq q f).free = s.free := rfl
@[simp] theorem updCq_out (q : Nat) (f : Cq → Cq) : (s.updCq q f).out = s.out := rfl
@[simp] theorem updCq_nor (q : Nat) (f : Cq → Cq) : (s.updCq q f).nor = s.nor := rfl
@[simp] theorem updCq_ctr (q : Nat) (f : Cq → Cq) : (s.updCq q f).ctr = s.ctr := rfl
@[simp] theorem updCq_time (q : Nat) (f : Cq → Cq) : (s.updCq q f).time = s.time := rfl
@[simp] theorem updCq_flt (q : Nat) (f : Cq → Cq) : (s.updCq q f).flt = s.flt := rfl
@[simp] theorem updCq_log (q : Nat) (f : Cq → Cq) : (s.updCq q f).log = s.log := rfl
@[simp] theorem updCq_thp (q : Nat) (f : Cq → Cq) : (s.updCq q f).thp = s.thp := rfl
@[simp] theorem updCq_pwr (q : Nat) (f : Cq → Cq) : (s.updCq q f).pwr = s.pwr := rfl
@[simp] theorem updCq_mns (q : Nat) (f : Cq → Cq) : (s.updCq q f).mns = s.mns := rfl
@[simp] theorem updCq_cal (q : Nat) (f : Cq → Cq) : (s.updCq q f).cal = s.cal := rfl
@[simp] theorem updCq_start (q : Nat) (f : Cq → Cq) : (s.updCq q f).start = s.start := rfl
@[simp] theorem updCq_hdas (q : Nat) (f : Cq → Cq) : (s.updCq q f).hdas = s.hdas := rfl
@[simp] theorem updCq_mus (q : Nat) (f : Cq → Cq) : (s.updCq q f).mus = s.mus := rfl
@[simp] theorem updCq_store (q : Nat) (f : Cq → Cq) : (s.updCq q f).store = s.store := rfl
@[simp] theorem updCq_ldp (q : Nat) (f : Cq → Cq) : (s.updCq q f).ldp = s.ldp := rfl
@[simp] theorem updCq_eps (q : Nat) (f : Cq → Cq) : (s.updCq q f).eps = s.eps := rfl
@[simp] theorem updCq_dual (q : Nat) (f : Cq → Cq) : (s.updCq q f).dual = s.dual := rfl
@[simp] theorem updCq_feat (q : Nat) (f : Cq → Cq) : (s.updCq q f).feat = s.feat := rfl
@[simp] theorem updCq_owners (q : Nat) (f : Cq → Cq) : (s.updCq q f).owners = s.owners := rfl
@[simp] theorem updCq_mctpEid (q : Nat) (f : Cq → Cq) : (s.updCq q f).mctpEid = s.mctpEid := rfl
@[simp] theorem updCq_alert (q : Nat) (f : Cq → Cq) : (s.updCq q f).alert = s.alert := rfl
@[simp] theorem updCq_ports (q : Nat) (f : Cq → Cq) : (s.updCq q f).ports = s.ports := rfl
@[simp] theorem updCq_tags (q : Nat) (f : Cq → Cq) : (s.updCq q f).tags = s.tags := rfl
@[simp] theorem updCq_cmds (q : Nat) (f : Cq → Cq) : (s.updCq q f).cmds = s.cmds := rfl
@[simp] theorem updCq_accept (q : Nat) (f : Cq → Cq) : (s.updCq q f).accept = s.accept := rfl
@[simp] theorem updCq_mgt (q : Nat) (f : Cq → Cq) : (s.updCq q f).mgt = s.mgt := rfl
@[simp] theorem updCq_buf (q : Nat) (f : Cq → Cq) : (s.updCq q f).buf = s.buf := rfl
@[simp] theorem updCq_bca (q : Nat) (f : Cq → Cq) : (s.updCq q f).bca = s.bca := rfl
@[simp] theorem updCq_vlt (q : Nat) (f : Cq → Cq) : (s.updCq q f).vlt = s.vlt := rfl
@[simp] theorem updCq_sec (q : Nat) (f : Cq → Cq) : (s.updCq q f).sec = s.sec := rfl

/-! ### updPort -/

@[simp] theorem updPort_pending (m : Nat) (f : Port → Port) : (s.updPort m f).pending = s.pending := rfl
@[simp] theorem updPort_free (m : Nat) (f : Port → Port) : (s.updPort m f).free = s.free := rfl
@[simp] theorem updPort_out (m : Nat) (f : Port → Port) : (s.updPort m f).out = s.out := rfl
@[simp] theorem updPort_nor (m : Nat) (f : Port → Port) : (s.updPort m f).nor = s.nor := rfl
@[simp] theorem updPort_ctr (m : Nat) (f : Port → Port) : (s.updPort m f).ctr = s.ctr := rfl
@[simp] theorem updPort_time (m : Nat) (f : Port → Port) : (s.updPort m f).time = s.time := rfl
@[simp] theorem updPort_flt (m : Nat) (f : Port → Port) : (s.updPort m f).flt = s.flt := rfl
@[simp] theorem updPort_log (m : Nat) (f : Port → Port) : (s.updPort m f).log = s.log := rfl
@[simp] theorem updPort_thp (m : Nat) (f : Port → Port) : (s.updPort m f).thp = s.thp := rfl
@[simp] theorem updPort_pwr (m : Nat) (f : Port → Port) : (s.updPort m f).pwr = s.pwr := rfl
@[simp] theorem updPort_mns (m : Nat) (f : Port → Port) : (s.updPort m f).mns = s.mns := rfl
@[simp] theorem updPort_cal (m : Nat) (f : Port → Port) : (s.updPort m f).cal = s.cal := rfl
@[simp] theorem updPort_start (m : Nat) (f : Port → Port) : (s.updPort m f).start = s.start := rfl
@[simp] theorem updPort_hdas (m : Nat) (f : Port → Port) : (s.updPort m f).hdas = s.hdas := rfl
@[simp] theorem updPort_mus (m : Nat) (f : Port → Port) : (s.updPort m f).mus = s.mus := rfl
@[simp] theorem updPort_store (m : Nat) (f : Port → Port) : (s.updPort m f).store = s.store := rfl
@[simp] theorem updPort_ldp (m : Nat) (f : Port → Port) : (s.updPort m f).ldp = s.ldp := rfl
@[simp] theorem updPort_eps (m : Nat) (f : Port → Port) : (s.updPort m f).eps = s.eps := rfl
@[simp] theorem updPort_dual (m : Nat) (f : Port → Port) : (s.updPort m f).dual = s.dual := rfl
@[simp] theorem updPort_feat (m : Nat) (f : Port → Port) : (s.updPort m f).feat = s.feat := rfl
@[simp] theorem updPort_owners (m : Nat) (f : Port → Port) : (s.updPort m f).owners = s.owners := rfl
@[simp] theorem updPort_mctpEid (m : Nat) (f : Port → Port) : (s.updPort m f).mctpEid = s.mctpEid := rfl
@[simp] theorem updPort_alert (m : Nat) (f : Port → Port) : (s.updPort m f).alert = s.alert := rfl
@[simp] theorem updPort_tags (m : Nat) (f : Port → Port) : (s.updPort m f).tags = s.tags := rfl
@[simp] theorem updPort_cqs (m : Nat) (f : Port → Port) : (s.updPort m f).cqs = s.cqs := rfl
@[simp] theorem updPort_cmds (m : Nat) (f : Port → Port) : (s.updPort m f).cmds = s.cmds := rfl
@[simp] theorem updPort_accept (m : Nat) (f : Port → Port) : (s.updPort m f).accept = s.accept := rfl
@[simp] theorem updPort_mgt (m : Nat) (f : Port → Port) : (s.updPort m f).mgt = s.mgt := rfl
@[simp] theorem updPort_buf (m : Nat) (f : Port → Port) : (s.updPort m f).buf = s.buf := rfl
@[simp] theorem updPort_bca (m : Nat) (f : Port → Port) : (s.updPort m f).bca = s.bca := rfl
@[simp] theorem updPort_vlt (m : Nat) (f : Port → Port) : (s.updPort m f).vlt = s.vlt := rfl
@[simp] theorem updPort_sec (m : Nat) (f : Port → Port) : (s.updPort m f).sec = s.sec := rfl

/-! ### updZone -/

@[simp] theorem updZone_pending (v z : Nat) (f : Zone → Zone) : (s.updZone v z f).pending = s.pending := rfl
@[simp] theorem updZone_free (v z : Nat) (f : Zone → Zone) : (s.updZone v z f).free = s.free := rfl
@[simp] theorem updZone_out (v z : Nat) (f : Zone → Zone) : (s.updZone v z f).out = s.out := rfl
@[simp] theorem updZone_nor (v z : Nat) (f : Zone → Zone) : (s.updZone v z f).nor = s.nor := rfl
@[simp] theorem updZone_ctr (v z : Nat) (f : Zone → Zone) : (s.updZone v z f).ctr = s.ctr := rfl
@[simp] theorem updZone_time (v z : Nat) (f : Zone → Zone) : (s.updZone v z f).time = s.time := rfl
@[simp] theorem updZone_flt (v z : Nat) (f : Zone → Zone) : (s.updZone v z f).flt = s.flt := rfl
@[simp] theorem updZone_log (v z : Nat) (f : Zone → Zone) : (s.updZone v z f).log = s.log := rfl
@[simp] theorem updZone_thp (v z : Nat) (f : Zone → Zone) : (s.updZone v z f).thp = s.thp := rfl
@[simp] theorem updZone_pwr (v z : Nat) (f : Zone → Zone) : (s.updZone v z f).pwr = s.pwr := rfl
@[simp] theorem updZone_mns (v z : Nat) (f : Zone → Zone) : (s.updZone v z f).mns = s.mns := rfl
@[simp] theorem updZone_cal (v z : Nat) (f : Zone → Zone) : (s.updZone v z f).cal = s.cal := rfl
@[simp] theorem updZone_start (v z : Nat) (f : Zone → Zone) : (s.updZone v z f).start = s.start := rfl
@[simp] theorem updZone_hdas (v z : Nat) (f : Zone → Zone) : (s.updZone v z f).hdas = s.hdas := rfl
@[simp] theorem updZone_store (v z : Nat) (f : Zone → Zone) : (s.updZone v z f).store = s.store := rfl
@[simp] theorem updZone_ldp (v z : Nat) (f : Zone → Zone) : (s.updZone v z f).ldp = s.ldp := rfl
@[simp] theorem updZone_eps (v z : Nat) (f : Zone → Zone) : (s.updZone v z f).eps = s.eps := rfl
@[simp] theorem updZone_dual (v z : Nat) (f : Zone → Zone) : (s.updZone v z f).dual = s.dual := rfl
@[simp] theorem updZone_feat (v z : Nat) (f : Zone → Zone) : (s.updZone v z f).feat = s.feat := rfl
@[simp] theorem updZone_owners (v z : Nat) (f : Zone → Zone) : (s.updZone v z f).owners = s.owners := rfl
@[simp] theorem updZone_mctpEid (v z : Nat) (f : Zone → Zone) : (s.updZone v z f).mctpEid = s.mctpEid := rfl
@[simp] theorem updZone_alert (v z : Nat) (f : Zone → Zone) : (s.updZone v z f).alert = s.alert := rfl
@[simp] theorem updZone_ports (v z : Nat) (f : Zone → Zone) : (s.updZone v z f).ports = s.ports := rfl
@[simp] theorem updZone_tags (v z : Nat) (f : Zone → Zone) : (s.updZone v z f).tags = s.tags := rfl
@[simp] theorem updZone_cqs (v z : Nat) (f : Zone → Zone) : (s.updZone v z f).cqs = s.cqs := rfl
@[simp] theorem updZone_cmds (v z : Nat) (f : Zone → Zone) : (s.updZone v z f).cmds = s.cmds := rfl
@[simp] theorem updZone_accept (v z : Nat) (f : Zone → Zone) : (s.updZone v z f).accept = s.accept := rfl
@[simp] theorem updZone_mgt (v z : Nat) (f : Zone → Zone) : (s.updZone v z f).mgt = s.mgt := rfl
@[simp] theorem updZone_buf (v z : Nat) (f : Zone → Zone) : (s.updZone v z f).buf = s.buf := rfl
@[simp] theorem updZone_bca (v z : Nat) (f : Zone → Zone) : (s.updZone v z f).bca = s.bca := rfl
@[simp] theorem updZone_vlt (v z : Nat) (f : Zone → Zone) : (s.updZone v z f).vlt = s.vlt := rfl
@[simp] theorem updZone_sec (v z : Nat) (f : Zone → Zone) : (s.updZone v z f).sec = s.sec := rfl

/-! ### emit -/

@[simp] theorem emit_pending (o : Output) : (s.emit o).pending = s.pending := rfl
@[simp] theorem emit_free (o : Output) : (s.emit o).free = s.free := rfl
@[simp] theorem emit_nor (o : Output) : (s.emit o).nor = s.nor := rfl
@[simp] theorem emit_ctr (o : Output) : (s.emit o).ctr = s.ctr := rfl
@[simp] theorem emit_time (o : Output) : (s.emit o).time = s.time := rfl
@[simp] theorem emit_flt (o : Output) : (s.emit o).flt = s.flt := rfl
@[simp] theorem emit_log (o : Output) : (s.emit o).log = s.log := rfl
@[simp] theorem emit_thp (o : Output) : (s.emit o).thp = s.thp := rfl
@[simp] theorem emit_pwr (o : Output) : (s.emit o).pwr = s.pwr := rfl
@[simp] theorem emit_mns (o : Output) : (s.emit o).mns = s.mns := rfl
@[simp] theorem emit_cal (o : Output) : (s.emit o).cal = s.cal := rfl
@[simp] theorem emit_start (o : Output) : (s.emit o).start = s.start := rfl
@[simp] theorem emit_hdas (o : Output) : (s.emit o).hdas = s.hdas := rfl
@[simp] theorem emit_mus (o : Output) : (s.emit o).mus = s.mus := rfl
@[simp] theorem emit_store (o : Output) : (s.emit o).store = s.store := rfl
@[simp] theorem emit_ldp (o : Output) : (s.emit o).ldp = s.ldp := rfl
@[simp] theorem emit_eps (o : Output) : (s.emit o).eps = s.eps := rfl
@[simp] theorem emit_dual (o : Output) : (s.emit o).dual = s.dual := rfl
@[simp] theorem emit_feat (o : Output) : (s.emit o).feat = s.feat := rfl
@[simp] theorem emit_owners (o : Output) : (s.emit o).owners = s.owners := rfl
@[simp] theorem emit_mctpEid (o : Output) : (s.emit o).mctpEid = s.mctpEid := rfl
@[simp] theorem emit_alert (o : Output) : (s.emit o).alert = s.alert := rfl
@[simp] theorem emit_ports (o : Output) : (s.emit o).ports = s.ports := rfl
@[simp] theorem emit_tags (o : Output) : (s.emit o).tags = s.tags := rfl
@[simp] theorem emit_cqs (o : Output) : (s.emit o).cqs = s.cqs := rfl
@[simp] theorem emit_cmds (o : Output) : (s.emit o).cmds = s.cmds := rfl
@[simp] theorem emit_accept (o : Output) : (s.emit o).accept = s.accept := rfl
@[simp] theorem emit_mgt (o : Output) : (s.emit o).mgt = s.mgt := rfl
@[simp] theorem emit_buf (o : Output) : (s.emit o).buf = s.buf := rfl
@[simp] theorem emit_bca (o : Output) : (s.emit o).bca = s.bca := rfl
@[simp] theorem emit_vlt (o : Output) : (s.emit o).vlt = s.vlt := rfl
@[simp] theorem emit_sec (o : Output) : (s.emit o).sec = s.sec := rfl

/-! ### offerRaw -/

@[simp] theorem offerRaw_pending (e : Ev) : (s.offerRaw e).pending = s.pending := rfl
@[simp] theorem offerRaw_free (e : Ev) : (s.offerRaw e).free = s.free := rfl
@[simp] theorem offerRaw_out (e : Ev) : (s.offerRaw e).out = s.out := rfl
@[simp] theorem offerRaw_nor (e : Ev) : (s.offerRaw e).nor = s.nor := rfl
@[simp] theorem offerRaw_ctr (e : Ev) : (s.offerRaw e).ctr = s.ctr := rfl
@[simp] theorem offerRaw_time (e : Ev) : (s.offerRaw e).time = s.time := rfl
@[simp] theorem offerRaw_log (e : Ev) : (s.offerRaw e).log = s.log := rfl
@[simp] theorem offerRaw_thp (e : Ev) : (s.offerRaw e).thp = s.thp := rfl
@[simp] theorem offerRaw_pwr (e : Ev) : (s.offerRaw e).pwr = s.pwr := rfl
@[simp] theorem offerRaw_mns (e : Ev) : (s.offerRaw e).mns = s.mns := rfl
@[simp] theorem offerRaw_cal (e : Ev) : (s.offerRaw e).cal = s.cal := rfl
@[simp] theorem offerRaw_start (e : Ev) : (s.offerRaw e).start = s.start := rfl
@[simp] theorem offerRaw_hdas (e : Ev) : (s.offerRaw e).hdas = s.hdas := rfl
@[simp] theorem offerRaw_mus (e : Ev) : (s.offerRaw e).mus = s.mus := rfl
@[simp] theorem offerRaw_store (e : Ev) : (s.offerRaw e).store = s.store := rfl
@[simp] theorem offerRaw_ldp (e : Ev) : (s.offerRaw e).ldp = s.ldp := rfl
@[simp] theorem offerRaw_eps (e : Ev) : (s.offerRaw e).eps = s.eps := rfl
@[simp] theorem offerRaw_dual (e : Ev) : (s.offerRaw e).dual = s.dual := rfl
@[simp] theorem offerRaw_feat (e : Ev) : (s.offerRaw e).feat = s.feat := rfl
@[simp] theorem offerRaw_owners (e : Ev) : (s.offerRaw e).owners = s.owners := rfl
@[simp] theorem offerRaw_mctpEid (e : Ev) : (s.offerRaw e).mctpEid = s.mctpEid := rfl
@[simp] theorem offerRaw_alert (e : Ev) : (s.offerRaw e).alert = s.alert := rfl
@[simp] theorem offerRaw_ports (e : Ev) : (s.offerRaw e).ports = s.ports := rfl
@[simp] theorem offerRaw_tags (e : Ev) : (s.offerRaw e).tags = s.tags := rfl
@[simp] theorem offerRaw_cqs (e : Ev) : (s.offerRaw e).cqs = s.cqs := rfl
@[simp] theorem offerRaw_cmds (e : Ev) : (s.offerRaw e).cmds = s.cmds := rfl
@[simp] theorem offerRaw_accept (e : Ev) : (s.offerRaw e).accept = s.accept := rfl
@[simp] theorem offerRaw_mgt (e : Ev) : (s.offerRaw e).mgt = s.mgt := rfl
@[simp] theorem offerRaw_buf (e : Ev) : (s.offerRaw e).buf = s.buf := rfl
@[simp] theorem offerRaw_bca (e : Ev) : (s.offerRaw e).bca = s.bca := rfl
@[simp] theorem offerRaw_vlt (e : Ev) : (s.offerRaw e).vlt = s.vlt := rfl
@[simp] theorem offerRaw_sec (e : Ev) : (s.offerRaw e).sec = s.sec := rfl

/-! ### bumpRaw -/

@[simp] theorem bumpRaw_pending (a w n : Nat) : (s.bumpRaw a w n).pending = s.pending := rfl
@[simp] theorem bumpRaw_free (a w n : Nat) : (s.bumpRaw a w n).free = s.free := rfl
@[simp] theorem bumpRaw_out (a w n : Nat) : (s.bumpRaw a w n).out = s.out := rfl
@[simp] theorem bumpRaw_nor (a w n : Nat) : (s.bumpRaw a w n).nor = s.nor := rfl
@[simp] theorem bumpRaw_time (a w n : Nat) : (s.bumpRaw a w n).time = s.time := rfl
@[simp] theorem bumpRaw_flt (a w n : Nat) : (s.bumpRaw a w n).flt = s.flt := rfl
@[simp] theorem bumpRaw_log (a w n : Nat) : (s.bumpRaw a w n).log = s.log := rfl
@[simp] theorem bumpRaw_thp (a w n : Nat) : (s.bumpRaw a w n).thp = s.thp := rfl
@[simp] theorem bumpRaw_pwr (a w n : Nat) : (s.bumpRaw a w n).pwr = s.pwr := rfl
@[simp] theorem bumpRaw_mns (a w n : Nat) : (s.bumpRaw a w n).mns = s.mns := rfl
@[simp] theorem bumpRaw_cal (a w n : Nat) : (s.bumpRaw a w n).cal = s.cal := rfl
@[simp] theorem bumpRaw_start (a w n : Nat) : (s.bumpRaw a w n).start = s.start := rfl
@[simp] theorem bumpRaw_hdas (a w n : Nat) : (s.bumpRaw a w n).hdas = s.hdas := rfl
@[simp] theorem bumpRaw_mus (a w n : Nat) : (s.bumpRaw a w n).mus = s.mus := rfl
@[simp] theorem bumpRaw_store (a w n : Nat) : (s.bumpRaw a w n).store = s.store := rfl
@[simp] theorem bumpRaw_ldp (a w n : Nat) : (s.bumpRaw a w n).ldp = s.ldp := rfl
@[simp] theorem bumpRaw_eps (a w n : Nat) : (s.bumpRaw a w n).eps = s.eps := rfl
@[simp] theorem bumpRaw_dual (a w n : Nat) : (s.bumpRaw a w n).dual = s.dual := rfl
@[simp] theorem bumpRaw_feat (a w n : Nat) : (s.bumpRaw a w n).feat = s.feat := rfl
@[simp] theorem bumpRaw_owners (a w n : Nat) : (s.bumpRaw a w n).owners = s.owners := rfl
@[simp] theorem bumpRaw_mctpEid (a w n : Nat) : (s.bumpRaw a w n).mctpEid = s.mctpEid := rfl
@[simp] theorem bumpRaw_alert (a w n : Nat) : (s.bumpRaw a w n).alert = s.alert := rfl
@[simp] theorem bumpRaw_ports (a w n : Nat) : (s.bumpRaw a w n).ports = s.ports := rfl
@[simp] theorem bumpRaw_tags (a w n : Nat) : (s.bumpRaw a w n).tags = s.tags := rfl
@[simp] theorem bumpRaw_cqs (a w n : Nat) : (s.bumpRaw a w n).cqs = s.cqs := rfl
@[simp] theorem bumpRaw_cmds (a w n : Nat) : (s.bumpRaw a w n).cmds = s.cmds := rfl
@[simp] theorem bumpRaw_accept (a w n : Nat) : (s.bumpRaw a w n).accept = s.accept := rfl
@[simp] theorem bumpRaw_mgt (a w n : Nat) : (s.bumpRaw a w n).mgt = s.mgt := rfl
@[simp] theorem bumpRaw_buf (a w n : Nat) : (s.bumpRaw a w n).buf = s.buf := rfl
@[simp] theorem bumpRaw_bca (a w n : Nat) : (s.bumpRaw a w n).bca = s.bca := rfl
@[simp] theorem bumpRaw_vlt (a w n : Nat) : (s.bumpRaw a w n).vlt = s.vlt := rfl
@[simp] theorem bumpRaw_sec (a w n : Nat) : (s.bumpRaw a w n).sec = s.sec := rfl

/-! ### post -/

@[simp] theorem post_pending (t q port : Nat) (r : Res) : (s.post t q port r).pending = s.pending := rfl
@[simp] theorem post_free (t q port : Nat) (r : Res) : (s.post t q port r).free = s.free := rfl
@[simp] theorem post_out (t q port : Nat) (r : Res) : (s.post t q port r).out = s.out := rfl
@[simp] theorem post_nor (t q port : Nat) (r : Res) : (s.post t q port r).nor = s.nor := rfl
@[simp] theorem post_ctr (t q port : Nat) (r : Res) : (s.post t q port r).ctr = s.ctr := rfl
@[simp] theorem post_time (t q port : Nat) (r : Res) : (s.post t q port r).time = s.time := rfl
@[simp] theorem post_flt (t q port : Nat) (r : Res) : (s.post t q port r).flt = s.flt := rfl
@[simp] theorem post_log (t q port : Nat) (r : Res) : (s.post t q port r).log = s.log := rfl
@[simp] theorem post_thp (t q port : Nat) (r : Res) : (s.post t q port r).thp = s.thp := rfl
@[simp] theorem post_pwr (t q port : Nat) (r : Res) : (s.post t q port r).pwr = s.pwr := rfl
@[simp] theorem post_mns (t q port : Nat) (r : Res) : (s.post t q port r).mns = s.mns := rfl
@[simp] theorem post_cal (t q port : Nat) (r : Res) : (s.post t q port r).cal = s.cal := rfl
@[simp] theorem post_start (t q port : Nat) (r : Res) : (s.post t q port r).start = s.start := rfl
@[simp] theorem post_hdas (t q port : Nat) (r : Res) : (s.post t q port r).hdas = s.hdas := rfl
@[simp] theorem post_mus (t q port : Nat) (r : Res) : (s.post t q port r).mus = s.mus := rfl
@[simp] theorem post_store (t q port : Nat) (r : Res) : (s.post t q port r).store = s.store := rfl
@[simp] theorem post_ldp (t q port : Nat) (r : Res) : (s.post t q port r).ldp = s.ldp := rfl
@[simp] theorem post_eps (t q port : Nat) (r : Res) : (s.post t q port r).eps = s.eps := rfl
@[simp] theorem post_dual (t q port : Nat) (r : Res) : (s.post t q port r).dual = s.dual := rfl
@[simp] theorem post_feat (t q port : Nat) (r : Res) : (s.post t q port r).feat = s.feat := rfl
@[simp] theorem post_owners (t q port : Nat) (r : Res) : (s.post t q port r).owners = s.owners := rfl
@[simp] theorem post_mctpEid (t q port : Nat) (r : Res) : (s.post t q port r).mctpEid = s.mctpEid := rfl
@[simp] theorem post_alert (t q port : Nat) (r : Res) : (s.post t q port r).alert = s.alert := rfl
@[simp] theorem post_ports (t q port : Nat) (r : Res) : (s.post t q port r).ports = s.ports := rfl
@[simp] theorem post_cmds (t q port : Nat) (r : Res) : (s.post t q port r).cmds = s.cmds := rfl
@[simp] theorem post_accept (t q port : Nat) (r : Res) : (s.post t q port r).accept = s.accept := rfl
@[simp] theorem post_mgt (t q port : Nat) (r : Res) : (s.post t q port r).mgt = s.mgt := rfl
@[simp] theorem post_buf (t q port : Nat) (r : Res) : (s.post t q port r).buf = s.buf := rfl
@[simp] theorem post_bca (t q port : Nat) (r : Res) : (s.post t q port r).bca = s.bca := rfl
@[simp] theorem post_vlt (t q port : Nat) (r : Res) : (s.post t q port r).vlt = s.vlt := rfl
@[simp] theorem post_sec (t q port : Nat) (r : Res) : (s.post t q port r).sec = s.sec := rfl

/-! ### setPhase -/

@[simp] theorem setPhase_pending (t : Nat) (p : Phase) : (s.setPhase t p).pending = s.pending := rfl
@[simp] theorem setPhase_free (t : Nat) (p : Phase) : (s.setPhase t p).free = s.free := rfl
@[simp] theorem setPhase_out (t : Nat) (p : Phase) : (s.setPhase t p).out = s.out := rfl
@[simp] theorem setPhase_nor (t : Nat) (p : Phase) : (s.setPhase t p).nor = s.nor := rfl
@[simp] theorem setPhase_ctr (t : Nat) (p : Phase) : (s.setPhase t p).ctr = s.ctr := rfl
@[simp] theorem setPhase_time (t : Nat) (p : Phase) : (s.setPhase t p).time = s.time := rfl
@[simp] theorem setPhase_flt (t : Nat) (p : Phase) : (s.setPhase t p).flt = s.flt := rfl
@[simp] theorem setPhase_log (t : Nat) (p : Phase) : (s.setPhase t p).log = s.log := rfl
@[simp] theorem setPhase_thp (t : Nat) (p : Phase) : (s.setPhase t p).thp = s.thp := rfl
@[simp] theorem setPhase_pwr (t : Nat) (p : Phase) : (s.setPhase t p).pwr = s.pwr := rfl
@[simp] theorem setPhase_mns (t : Nat) (p : Phase) : (s.setPhase t p).mns = s.mns := rfl
@[simp] theorem setPhase_cal (t : Nat) (p : Phase) : (s.setPhase t p).cal = s.cal := rfl
@[simp] theorem setPhase_start (t : Nat) (p : Phase) : (s.setPhase t p).start = s.start := rfl
@[simp] theorem setPhase_hdas (t : Nat) (p : Phase) : (s.setPhase t p).hdas = s.hdas := rfl
@[simp] theorem setPhase_mus (t : Nat) (p : Phase) : (s.setPhase t p).mus = s.mus := rfl
@[simp] theorem setPhase_store (t : Nat) (p : Phase) : (s.setPhase t p).store = s.store := rfl
@[simp] theorem setPhase_ldp (t : Nat) (p : Phase) : (s.setPhase t p).ldp = s.ldp := rfl
@[simp] theorem setPhase_eps (t : Nat) (p : Phase) : (s.setPhase t p).eps = s.eps := rfl
@[simp] theorem setPhase_dual (t : Nat) (p : Phase) : (s.setPhase t p).dual = s.dual := rfl
@[simp] theorem setPhase_feat (t : Nat) (p : Phase) : (s.setPhase t p).feat = s.feat := rfl
@[simp] theorem setPhase_owners (t : Nat) (p : Phase) : (s.setPhase t p).owners = s.owners := rfl
@[simp] theorem setPhase_mctpEid (t : Nat) (p : Phase) : (s.setPhase t p).mctpEid = s.mctpEid := rfl
@[simp] theorem setPhase_alert (t : Nat) (p : Phase) : (s.setPhase t p).alert = s.alert := rfl
@[simp] theorem setPhase_ports (t : Nat) (p : Phase) : (s.setPhase t p).ports = s.ports := rfl
@[simp] theorem setPhase_tags (t : Nat) (p : Phase) : (s.setPhase t p).tags = s.tags := rfl
@[simp] theorem setPhase_cqs (t : Nat) (p : Phase) : (s.setPhase t p).cqs = s.cqs := rfl
@[simp] theorem setPhase_accept (t : Nat) (p : Phase) : (s.setPhase t p).accept = s.accept := rfl
@[simp] theorem setPhase_mgt (t : Nat) (p : Phase) : (s.setPhase t p).mgt = s.mgt := rfl
@[simp] theorem setPhase_buf (t : Nat) (p : Phase) : (s.setPhase t p).buf = s.buf := rfl
@[simp] theorem setPhase_bca (t : Nat) (p : Phase) : (s.setPhase t p).bca = s.bca := rfl
@[simp] theorem setPhase_vlt (t : Nat) (p : Phase) : (s.setPhase t p).vlt = s.vlt := rfl
@[simp] theorem setPhase_sec (t : Nat) (p : Phase) : (s.setPhase t p).sec = s.sec := rfl

/-! ### forget -/

@[simp] theorem forget_pending (t : Nat) : (s.forget t).pending = s.pending := rfl
@[simp] theorem forget_free (t : Nat) : (s.forget t).free = s.free := rfl
@[simp] theorem forget_out (t : Nat) : (s.forget t).out = s.out := rfl
@[simp] theorem forget_nor (t : Nat) : (s.forget t).nor = s.nor := rfl
@[simp] theorem forget_ctr (t : Nat) : (s.forget t).ctr = s.ctr := rfl
@[simp] theorem forget_time (t : Nat) : (s.forget t).time = s.time := rfl
@[simp] theorem forget_flt (t : Nat) : (s.forget t).flt = s.flt := rfl
@[simp] theorem forget_thp (t : Nat) : (s.forget t).thp = s.thp := rfl
@[simp] theorem forget_start (t : Nat) : (s.forget t).start = s.start := rfl
@[simp] theorem forget_ldp (t : Nat) : (s.forget t).ldp = s.ldp := rfl
@[simp] theorem forget_eps (t : Nat) : (s.forget t).eps = s.eps := rfl
@[simp] theorem forget_dual (t : Nat) : (s.forget t).dual = s.dual := rfl
@[simp] theorem forget_feat (t : Nat) : (s.forget t).feat = s.feat := rfl
@[simp] theorem forget_owners (t : Nat) : (s.forget t).owners = s.owners := rfl
@[simp] theorem forget_mctpEid (t : Nat) : (s.forget t).mctpEid = s.mctpEid := rfl
@[simp] theorem forget_alert (t : Nat) : (s.forget t).alert = s.alert := rfl
@[simp] theorem forget_ports (t : Nat) : (s.forget t).ports = s.ports := rfl
@[simp] theorem forget_tags (t : Nat) : (s.forget t).tags = s.tags := rfl
@[simp] theorem forget_cqs (t : Nat) : (s.forget t).cqs = s.cqs := rfl
@[simp] theorem forget_cmds (t : Nat) : (s.forget t).cmds = s.cmds := rfl
@[simp] theorem forget_accept (t : Nat) : (s.forget t).accept = s.accept := rfl
@[simp] theorem forget_vlt (t : Nat) : (s.forget t).vlt = s.vlt := rfl
@[simp] theorem forget_sec (t : Nat) : (s.forget t).sec = s.sec := rfl

/-! ### draw -/

@[simp] theorem draw_pending : s.draw.2.pending = s.pending := rfl
@[simp] theorem draw_out : s.draw.2.out = s.out := rfl
@[simp] theorem draw_nor : s.draw.2.nor = s.nor := rfl
@[simp] theorem draw_ctr : s.draw.2.ctr = s.ctr := rfl
@[simp] theorem draw_time : s.draw.2.time = s.time := rfl
@[simp] theorem draw_flt : s.draw.2.flt = s.flt := rfl
@[simp] theorem draw_log : s.draw.2.log = s.log := rfl
@[simp] theorem draw_thp : s.draw.2.thp = s.thp := rfl
@[simp] theorem draw_pwr : s.draw.2.pwr = s.pwr := rfl
@[simp] theorem draw_mns : s.draw.2.mns = s.mns := rfl
@[simp] theorem draw_cal : s.draw.2.cal = s.cal := rfl
@[simp] theorem draw_start : s.draw.2.start = s.start := rfl
@[simp] theorem draw_hdas : s.draw.2.hdas = s.hdas := rfl
@[simp] theorem draw_mus : s.draw.2.mus = s.mus := rfl
@[simp] theorem draw_store : s.draw.2.store = s.store := rfl
@[simp] theorem draw_ldp : s.draw.2.ldp = s.ldp := rfl
@[simp] theorem draw_eps : s.draw.2.eps = s.eps := rfl
@[simp] theorem draw_dual : s.draw.2.dual = s.dual := rfl
@[simp] theorem draw_feat : s.draw.2.feat = s.feat := rfl
@[simp] theorem draw_owners : s.draw.2.owners = s.owners := rfl
@[simp] theorem draw_mctpEid : s.draw.2.mctpEid = s.mctpEid := rfl
@[simp] theorem draw_alert : s.draw.2.alert = s.alert := rfl
@[simp] theorem draw_ports : s.draw.2.ports = s.ports := rfl
@[simp] theorem draw_tags : s.draw.2.tags = s.tags := rfl
@[simp] theorem draw_cqs : s.draw.2.cqs = s.cqs := rfl
@[simp] theorem draw_cmds : s.draw.2.cmds = s.cmds := rfl
@[simp] theorem draw_accept : s.draw.2.accept = s.accept := rfl
@[simp] theorem draw_mgt : s.draw.2.mgt = s.mgt := rfl
@[simp] theorem draw_buf : s.draw.2.buf = s.buf := rfl
@[simp] theorem draw_bca : s.draw.2.bca = s.bca := rfl
@[simp] theorem draw_vlt : s.draw.2.vlt = s.vlt := rfl
@[simp] theorem draw_sec : s.draw.2.sec = s.sec := rfl
@[simp] theorem draw_free : s.draw.2.free = s.free + 1 := rfl
@[simp] theorem draw_value : s.draw.1 = Config.free s.free := rfl

/-! ### Reads of indexed parts after their updates -/

@[simp] theorem hda_updHda (k : Nat) (f : Hda → Hda) : (s.updHda k f).hda k = f (s.hda k) := by simp [State.hda, State.updHda]
theorem hda_updHda_ne (k j : Nat) (f : Hda → Hda) (h : j ≠ k) : (s.updHda k f).hda j = s.hda j := by
  simp only [State.hda, State.updHda]; exact sget_supd_ne _ _ _ _ _ _ h
@[simp] theorem mu_updMu (k : Nat) (f : Mu → Mu) : (s.updMu k f).mu k = f (s.mu k) := by simp [State.mu, State.updMu]
theorem mu_updMu_ne (k j : Nat) (f : Mu → Mu) (h : j ≠ k) : (s.updMu k f).mu j = s.mu j := by
  simp only [State.mu, State.updMu]; exact sget_supd_ne _ _ _ _ _ _ h
@[simp] theorem ep_updEp (k : Nat) (f : Endpoint → Endpoint) : (s.updEp k f).ep k = f (s.ep k) := by simp [State.ep, State.updEp]
theorem ep_updEp_ne (k j : Nat) (f : Endpoint → Endpoint) (h : j ≠ k) : (s.updEp k f).ep j = s.ep j := by
  simp only [State.ep, State.updEp]; exact sget_supd_ne _ _ _ _ _ _ h
@[simp] theorem cmd_updCmd (k : Nat) (f : Cmd → Cmd) : (s.updCmd k f).cmd k = f (s.cmd k) := by simp [State.cmd, State.updCmd]
theorem cmd_updCmd_ne (k j : Nat) (f : Cmd → Cmd) (h : j ≠ k) : (s.updCmd k f).cmd j = s.cmd j := by
  simp only [State.cmd, State.updCmd]; exact sget_supd_ne _ _ _ _ _ _ h
@[simp] theorem cq_updCq (k : Nat) (f : Cq → Cq) : (s.updCq k f).cq k = f (s.cq k) := by simp [State.cq, State.updCq]
theorem cq_updCq_ne (k j : Nat) (f : Cq → Cq) (h : j ≠ k) : (s.updCq k f).cq j = s.cq j := by
  simp only [State.cq, State.updCq]; exact sget_supd_ne _ _ _ _ _ _ h
@[simp] theorem port_updPort (k : Nat) (f : Port → Port) : (s.updPort k f).port k = f (s.port k) := by simp [State.port, State.updPort]
theorem port_updPort_ne (k j : Nat) (f : Port → Port) (h : j ≠ k) : (s.updPort k f).port j = s.port j := by
  simp only [State.port, State.updPort]; exact sget_supd_ne _ _ _ _ _ _ h
@[simp] theorem tag_setTag (k : Nat) (r : TagRec) : (s.setTag k r).tag k = r := by simp [State.tag, State.setTag]
theorem tag_setTag_ne (k j : Nat) (r : TagRec) (h : j ≠ k) : (s.setTag k r).tag j = s.tag j := by
  simp only [State.tag, State.setTag]; exact sget_sset_ne _ _ _ _ _ _ h
@[simp] theorem counter_bumpRaw (a w n : Nat) : (s.bumpRaw a w n).counter a = Ctr.add w n (s.counter a) := by simp [State.counter, State.bumpRaw]
theorem counter_bumpRaw_ne (a w n b : Nat) (h : b ≠ a) : (s.bumpRaw a w n).counter b = s.counter b := by
  simp only [State.counter, State.bumpRaw]; exact sget_supd_ne _ _ _ _ _ _ h
@[simp] theorem hda_updMu_other (m : Nat) (f : Mu → Mu) (k : Nat) : (s.updMu m f).hda k = s.hda k := rfl
@[simp] theorem hda_updEp_other (e : Nat) (f : Endpoint → Endpoint) (k : Nat) : (s.updEp e f).hda k = s.hda k := rfl
@[simp] theorem hda_updCmd_other (t : Nat) (f : Cmd → Cmd) (k : Nat) : (s.updCmd t f).hda k = s.hda k := rfl
@[simp] theorem hda_setTag_other (t : Nat) (r : TagRec) (k : Nat) : (s.setTag t r).hda k = s.hda k := rfl
@[simp] theorem hda_updCq_other (q : Nat) (f : Cq → Cq) (k : Nat) : (s.updCq q f).hda k = s.hda k := rfl
@[simp] theorem hda_updPort_other (m : Nat) (f : Port → Port) (k : Nat) : (s.updPort m f).hda k = s.hda k := rfl
@[simp] theorem hda_updZone_other (v z : Nat) (f : Zone → Zone) (k : Nat) : (s.updZone v z f).hda k = s.hda k := rfl
@[simp] theorem hda_emit_other (o : Output) (k : Nat) : (s.emit o).hda k = s.hda k := rfl
@[simp] theorem hda_offerRaw_other (e : Ev) (k : Nat) : (s.offerRaw e).hda k = s.hda k := rfl
@[simp] theorem hda_bumpRaw_other (a w n : Nat) (k : Nat) : (s.bumpRaw a w n).hda k = s.hda k := rfl
@[simp] theorem hda_post_other (t q port : Nat) (r : Res) (k : Nat) : (s.post t q port r).hda k = s.hda k := rfl
@[simp] theorem hda_setPhase_other (t : Nat) (p : Phase) (k : Nat) : (s.setPhase t p).hda k = s.hda k := rfl
@[simp] theorem mu_updHda_other (h : Nat) (f : Hda → Hda) (k : Nat) : (s.updHda h f).mu k = s.mu k := rfl
@[simp] theorem mu_updEp_other (e : Nat) (f : Endpoint → Endpoint) (k : Nat) : (s.updEp e f).mu k = s.mu k := rfl
@[simp] theorem mu_updCmd_other (t : Nat) (f : Cmd → Cmd) (k : Nat) : (s.updCmd t f).mu k = s.mu k := rfl
@[simp] theorem mu_setTag_other (t : Nat) (r : TagRec) (k : Nat) : (s.setTag t r).mu k = s.mu k := rfl
@[simp] theorem mu_updCq_other (q : Nat) (f : Cq → Cq) (k : Nat) : (s.updCq q f).mu k = s.mu k := rfl
@[simp] theorem mu_updPort_other (m : Nat) (f : Port → Port) (k : Nat) : (s.updPort m f).mu k = s.mu k := rfl
@[simp] theorem mu_emit_other (o : Output) (k : Nat) : (s.emit o).mu k = s.mu k := rfl
@[simp] theorem mu_offerRaw_other (e : Ev) (k : Nat) : (s.offerRaw e).mu k = s.mu k := rfl
@[simp] theorem mu_bumpRaw_other (a w n : Nat) (k : Nat) : (s.bumpRaw a w n).mu k = s.mu k := rfl
@[simp] theorem mu_post_other (t q port : Nat) (r : Res) (k : Nat) : (s.post t q port r).mu k = s.mu k := rfl
@[simp] theorem mu_setPhase_other (t : Nat) (p : Phase) (k : Nat) : (s.setPhase t p).mu k = s.mu k := rfl
@[simp] theorem ep_updHda_other (h : Nat) (f : Hda → Hda) (k : Nat) : (s.updHda h f).ep k = s.ep k := rfl
@[simp] theorem ep_updMu_other (m : Nat) (f : Mu → Mu) (k : Nat) : (s.updMu m f).ep k = s.ep k := rfl
@[simp] theorem ep_updCmd_other (t : Nat) (f : Cmd → Cmd) (k : Nat) : (s.updCmd t f).ep k = s.ep k := rfl
@[simp] theorem ep_setTag_other (t : Nat) (r : TagRec) (k : Nat) : (s.setTag t r).ep k = s.ep k := rfl
@[simp] theorem ep_updCq_other (q : Nat) (f : Cq → Cq) (k : Nat) : (s.updCq q f).ep k = s.ep k := rfl
@[simp] theorem ep_updPort_other (m : Nat) (f : Port → Port) (k : Nat) : (s.updPort m f).ep k = s.ep k := rfl
@[simp] theorem ep_updZone_other (v z : Nat) (f : Zone → Zone) (k : Nat) : (s.updZone v z f).ep k = s.ep k := rfl
@[simp] theorem ep_emit_other (o : Output) (k : Nat) : (s.emit o).ep k = s.ep k := rfl
@[simp] theorem ep_offerRaw_other (e : Ev) (k : Nat) : (s.offerRaw e).ep k = s.ep k := rfl
@[simp] theorem ep_bumpRaw_other (a w n : Nat) (k : Nat) : (s.bumpRaw a w n).ep k = s.ep k := rfl
@[simp] theorem ep_post_other (t q port : Nat) (r : Res) (k : Nat) : (s.post t q port r).ep k = s.ep k := rfl
@[simp] theorem ep_setPhase_other (t : Nat) (p : Phase) (k : Nat) : (s.setPhase t p).ep k = s.ep k := rfl
@[simp] theorem cmd_updHda_other (h : Nat) (f : Hda → Hda) (k : Nat) : (s.updHda h f).cmd k = s.cmd k := rfl
@[simp] theorem cmd_updMu_other (m : Nat) (f : Mu → Mu) (k : Nat) : (s.updMu m f).cmd k = s.cmd k := rfl
@[simp] theorem cmd_updEp_other (e : Nat) (f : Endpoint → Endpoint) (k : Nat) : (s.updEp e f).cmd k = s.cmd k := rfl
@[simp] theorem cmd_setTag_other (t : Nat) (r : TagRec) (k : Nat) : (s.setTag t r).cmd k = s.cmd k := rfl
@[simp] theorem cmd_updCq_other (q : Nat) (f : Cq → Cq) (k : Nat) : (s.updCq q f).cmd k = s.cmd k := rfl
@[simp] theorem cmd_updPort_other (m : Nat) (f : Port → Port) (k : Nat) : (s.updPort m f).cmd k = s.cmd k := rfl
@[simp] theorem cmd_updZone_other (v z : Nat) (f : Zone → Zone) (k : Nat) : (s.updZone v z f).cmd k = s.cmd k := rfl
@[simp] theorem cmd_emit_other (o : Output) (k : Nat) : (s.emit o).cmd k = s.cmd k := rfl
@[simp] theorem cmd_offerRaw_other (e : Ev) (k : Nat) : (s.offerRaw e).cmd k = s.cmd k := rfl
@[simp] theorem cmd_bumpRaw_other (a w n : Nat) (k : Nat) : (s.bumpRaw a w n).cmd k = s.cmd k := rfl
@[simp] theorem cmd_post_other (t q port : Nat) (r : Res) (k : Nat) : (s.post t q port r).cmd k = s.cmd k := rfl
@[simp] theorem cq_updHda_other (h : Nat) (f : Hda → Hda) (k : Nat) : (s.updHda h f).cq k = s.cq k := rfl
@[simp] theorem cq_updMu_other (m : Nat) (f : Mu → Mu) (k : Nat) : (s.updMu m f).cq k = s.cq k := rfl
@[simp] theorem cq_updEp_other (e : Nat) (f : Endpoint → Endpoint) (k : Nat) : (s.updEp e f).cq k = s.cq k := rfl
@[simp] theorem cq_updCmd_other (t : Nat) (f : Cmd → Cmd) (k : Nat) : (s.updCmd t f).cq k = s.cq k := rfl
@[simp] theorem cq_setTag_other (t : Nat) (r : TagRec) (k : Nat) : (s.setTag t r).cq k = s.cq k := rfl
@[simp] theorem cq_updPort_other (m : Nat) (f : Port → Port) (k : Nat) : (s.updPort m f).cq k = s.cq k := rfl
@[simp] theorem cq_updZone_other (v z : Nat) (f : Zone → Zone) (k : Nat) : (s.updZone v z f).cq k = s.cq k := rfl
@[simp] theorem cq_emit_other (o : Output) (k : Nat) : (s.emit o).cq k = s.cq k := rfl
@[simp] theorem cq_offerRaw_other (e : Ev) (k : Nat) : (s.offerRaw e).cq k = s.cq k := rfl
@[simp] theorem cq_bumpRaw_other (a w n : Nat) (k : Nat) : (s.bumpRaw a w n).cq k = s.cq k := rfl
@[simp] theorem cq_setPhase_other (t : Nat) (p : Phase) (k : Nat) : (s.setPhase t p).cq k = s.cq k := rfl
@[simp] theorem tag_updHda_other (h : Nat) (f : Hda → Hda) (k : Nat) : (s.updHda h f).tag k = s.tag k := rfl
@[simp] theorem tag_updMu_other (m : Nat) (f : Mu → Mu) (k : Nat) : (s.updMu m f).tag k = s.tag k := rfl
@[simp] theorem tag_updEp_other (e : Nat) (f : Endpoint → Endpoint) (k : Nat) : (s.updEp e f).tag k = s.tag k := rfl
@[simp] theorem tag_updCmd_other (t : Nat) (f : Cmd → Cmd) (k : Nat) : (s.updCmd t f).tag k = s.tag k := rfl
@[simp] theorem tag_updCq_other (q : Nat) (f : Cq → Cq) (k : Nat) : (s.updCq q f).tag k = s.tag k := rfl
@[simp] theorem tag_updPort_other (m : Nat) (f : Port → Port) (k : Nat) : (s.updPort m f).tag k = s.tag k := rfl
@[simp] theorem tag_updZone_other (v z : Nat) (f : Zone → Zone) (k : Nat) : (s.updZone v z f).tag k = s.tag k := rfl
@[simp] theorem tag_emit_other (o : Output) (k : Nat) : (s.emit o).tag k = s.tag k := rfl
@[simp] theorem tag_offerRaw_other (e : Ev) (k : Nat) : (s.offerRaw e).tag k = s.tag k := rfl
@[simp] theorem tag_bumpRaw_other (a w n : Nat) (k : Nat) : (s.bumpRaw a w n).tag k = s.tag k := rfl
@[simp] theorem tag_setPhase_other (t : Nat) (p : Phase) (k : Nat) : (s.setPhase t p).tag k = s.tag k := rfl

end Sys2Proof.Machine
end

