-- ==== Sys2Proof/Laws/Ops.lean ====
section
/-! SUPPORT. What each shared operation can do: the fields it leaves, and that it keeps the queue, the fuses and the canonical form. -/

namespace Sys2Proof.Machine

variable (s : State)

/-! ### pressure -/

@[simp] theorem pressure_pending  : s.pressure.pending = s.pending := by unfold State.pressure; split <;> rfl
@[simp] theorem pressure_free  : s.pressure.free = s.free := by unfold State.pressure; split <;> rfl
@[simp] theorem pressure_out  : s.pressure.out = s.out := by unfold State.pressure; split <;> rfl
@[simp] theorem pressure_nor  : s.pressure.nor = s.nor := by unfold State.pressure; split <;> rfl
@[simp] theorem pressure_time  : s.pressure.time = s.time := by unfold State.pressure; split <;> rfl
@[simp] theorem pressure_log  : s.pressure.log = s.log := by unfold State.pressure; split <;> rfl
@[simp] theorem pressure_thp  : s.pressure.thp = s.thp := by unfold State.pressure; split <;> rfl
@[simp] theorem pressure_pwr  : s.pressure.pwr = s.pwr := by unfold State.pressure; split <;> rfl
@[simp] theorem pressure_mns  : s.pressure.mns = s.mns := by unfold State.pressure; split <;> rfl
@[simp] theorem pressure_cal  : s.pressure.cal = s.cal := by unfold State.pressure; split <;> rfl
@[simp] theorem pressure_start  : s.pressure.start = s.start := by unfold State.pressure; split <;> rfl
@[simp] theorem pressure_hdas  : s.pressure.hdas = s.hdas := by unfold State.pressure; split <;> rfl
@[simp] theorem pressure_mus  : s.pressure.mus = s.mus := by unfold State.pressure; split <;> rfl
@[simp] theorem pressure_store  : s.pressure.store = s.store := by unfold State.pressure; split <;> rfl
@[simp] theorem pressure_ldp  : s.pressure.ldp = s.ldp := by unfold State.pressure; split <;> rfl
@[simp] theorem pressure_eps  : s.pressure.eps = s.eps := by unfold State.pressure; split <;> rfl
@[simp] theorem pressure_dual  : s.pressure.dual = s.dual := by unfold State.pressure; split <;> rfl
@[simp] theorem pressure_feat  : s.pressure.feat = s.feat := by unfold State.pressure; split <;> rfl
@[simp] theorem pressure_owners  : s.pressure.owners = s.owners := by unfold State.pressure; split <;> rfl
@[simp] theorem pressure_mctpEid  : s.pressure.mctpEid = s.mctpEid := by unfold State.pressure; split <;> rfl
@[simp] theorem pressure_alert  : s.pressure.alert = s.alert := by unfold State.pressure; split <;> rfl
@[simp] theorem pressure_ports  : s.pressure.ports = s.ports := by unfold State.pressure; split <;> rfl
@[simp] theorem pressure_tags  : s.pressure.tags = s.tags := by unfold State.pressure; split <;> rfl
@[simp] theorem pressure_cqs  : s.pressure.cqs = s.cqs := by unfold State.pressure; split <;> rfl
@[simp] theorem pressure_cmds  : s.pressure.cmds = s.cmds := by unfold State.pressure; split <;> rfl
@[simp] theorem pressure_accept  : s.pressure.accept = s.accept := by unfold State.pressure; split <;> rfl
@[simp] theorem pressure_mgt  : s.pressure.mgt = s.mgt := by unfold State.pressure; split <;> rfl
@[simp] theorem pressure_buf  : s.pressure.buf = s.buf := by unfold State.pressure; split <;> rfl
@[simp] theorem pressure_bca  : s.pressure.bca = s.bca := by unfold State.pressure; split <;> rfl
@[simp] theorem pressure_vlt  : s.pressure.vlt = s.vlt := by unfold State.pressure; split <;> rfl
@[simp] theorem pressure_sec  : s.pressure.sec = s.sec := by unfold State.pressure; split <;> rfl

theorem pressure_frame  : unchangedBut [.ctr, .flt] s s.pressure := by
  intro p hp; cases p <;> first | (exact absurd (by decide) hp) | simp [Part.same]

/-! ### offer -/

@[simp] theorem offer_pending (e : Ev) : (s.offer e).pending = s.pending := by unfold State.offer; split <;> simp
@[simp] theorem offer_free (e : Ev) : (s.offer e).free = s.free := by unfold State.offer; split <;> simp
@[simp] theorem offer_out (e : Ev) : (s.offer e).out = s.out := by unfold State.offer; split <;> simp
@[simp] theorem offer_nor (e : Ev) : (s.offer e).nor = s.nor := by unfold State.offer; split <;> simp
@[simp] theorem offer_time (e : Ev) : (s.offer e).time = s.time := by unfold State.offer; split <;> simp
@[simp] theorem offer_log (e : Ev) : (s.offer e).log = s.log := by unfold State.offer; split <;> simp
@[simp] theorem offer_thp (e : Ev) : (s.offer e).thp = s.thp := by unfold State.offer; split <;> simp
@[simp] theorem offer_pwr (e : Ev) : (s.offer e).pwr = s.pwr := by unfold State.offer; split <;> simp
@[simp] theorem offer_mns (e : Ev) : (s.offer e).mns = s.mns := by unfold State.offer; split <;> simp
@[simp] theorem offer_cal (e : Ev) : (s.offer e).cal = s.cal := by unfold State.offer; split <;> simp
@[simp] theorem offer_start (e : Ev) : (s.offer e).start = s.start := by unfold State.offer; split <;> simp
@[simp] theorem offer_hdas (e : Ev) : (s.offer e).hdas = s.hdas := by unfold State.offer; split <;> simp
@[simp] theorem offer_mus (e : Ev) : (s.offer e).mus = s.mus := by unfold State.offer; split <;> simp
@[simp] theorem offer_store (e : Ev) : (s.offer e).store = s.store := by unfold State.offer; split <;> simp
@[simp] theorem offer_ldp (e : Ev) : (s.offer e).ldp = s.ldp := by unfold State.offer; split <;> simp
@[simp] theorem offer_eps (e : Ev) : (s.offer e).eps = s.eps := by unfold State.offer; split <;> simp
@[simp] theorem offer_dual (e : Ev) : (s.offer e).dual = s.dual := by unfold State.offer; split <;> simp
@[simp] theorem offer_feat (e : Ev) : (s.offer e).feat = s.feat := by unfold State.offer; split <;> simp
@[simp] theorem offer_owners (e : Ev) : (s.offer e).owners = s.owners := by unfold State.offer; split <;> simp
@[simp] theorem offer_mctpEid (e : Ev) : (s.offer e).mctpEid = s.mctpEid := by unfold State.offer; split <;> simp
@[simp] theorem offer_alert (e : Ev) : (s.offer e).alert = s.alert := by unfold State.offer; split <;> simp
@[simp] theorem offer_ports (e : Ev) : (s.offer e).ports = s.ports := by unfold State.offer; split <;> simp
@[simp] theorem offer_tags (e : Ev) : (s.offer e).tags = s.tags := by unfold State.offer; split <;> simp
@[simp] theorem offer_cqs (e : Ev) : (s.offer e).cqs = s.cqs := by unfold State.offer; split <;> simp
@[simp] theorem offer_cmds (e : Ev) : (s.offer e).cmds = s.cmds := by unfold State.offer; split <;> simp
@[simp] theorem offer_accept (e : Ev) : (s.offer e).accept = s.accept := by unfold State.offer; split <;> simp
@[simp] theorem offer_mgt (e : Ev) : (s.offer e).mgt = s.mgt := by unfold State.offer; split <;> simp
@[simp] theorem offer_buf (e : Ev) : (s.offer e).buf = s.buf := by unfold State.offer; split <;> simp
@[simp] theorem offer_bca (e : Ev) : (s.offer e).bca = s.bca := by unfold State.offer; split <;> simp
@[simp] theorem offer_vlt (e : Ev) : (s.offer e).vlt = s.vlt := by unfold State.offer; split <;> simp
@[simp] theorem offer_sec (e : Ev) : (s.offer e).sec = s.sec := by unfold State.offer; split <;> simp

theorem offer_frame (e : Ev) : unchangedBut [.ctr, .flt] s (s.offer e) := by
  intro p hp; cases p <;> first | (exact absurd (by decide) hp) | simp [Part.same]

/-! ### bumpW -/

@[simp] theorem bumpW_pending (sub inst a w n : Nat) : (s.bumpW sub inst a w n).pending = s.pending := by unfold State.bumpW; split <;> simp
@[simp] theorem bumpW_free (sub inst a w n : Nat) : (s.bumpW sub inst a w n).free = s.free := by unfold State.bumpW; split <;> simp
@[simp] theorem bumpW_out (sub inst a w n : Nat) : (s.bumpW sub inst a w n).out = s.out := by unfold State.bumpW; split <;> simp
@[simp] theorem bumpW_nor (sub inst a w n : Nat) : (s.bumpW sub inst a w n).nor = s.nor := by unfold State.bumpW; split <;> simp
@[simp] theorem bumpW_time (sub inst a w n : Nat) : (s.bumpW sub inst a w n).time = s.time := by unfold State.bumpW; split <;> simp
@[simp] theorem bumpW_log (sub inst a w n : Nat) : (s.bumpW sub inst a w n).log = s.log := by unfold State.bumpW; split <;> simp
@[simp] theorem bumpW_thp (sub inst a w n : Nat) : (s.bumpW sub inst a w n).thp = s.thp := by unfold State.bumpW; split <;> simp
@[simp] theorem bumpW_pwr (sub inst a w n : Nat) : (s.bumpW sub inst a w n).pwr = s.pwr := by unfold State.bumpW; split <;> simp
@[simp] theorem bumpW_mns (sub inst a w n : Nat) : (s.bumpW sub inst a w n).mns = s.mns := by unfold State.bumpW; split <;> simp
@[simp] theorem bumpW_cal (sub inst a w n : Nat) : (s.bumpW sub inst a w n).cal = s.cal := by unfold State.bumpW; split <;> simp
@[simp] theorem bumpW_start (sub inst a w n : Nat) : (s.bumpW sub inst a w n).start = s.start := by unfold State.bumpW; split <;> simp
@[simp] theorem bumpW_hdas (sub inst a w n : Nat) : (s.bumpW sub inst a w n).hdas = s.hdas := by unfold State.bumpW; split <;> simp
@[simp] theorem bumpW_mus (sub inst a w n : Nat) : (s.bumpW sub inst a w n).mus = s.mus := by unfold State.bumpW; split <;> simp
@[simp] theorem bumpW_store (sub inst a w n : Nat) : (s.bumpW sub inst a w n).store = s.store := by unfold State.bumpW; split <;> simp
@[simp] theorem bumpW_ldp (sub inst a w n : Nat) : (s.bumpW sub inst a w n).ldp = s.ldp := by unfold State.bumpW; split <;> simp
@[simp] theorem bumpW_eps (sub inst a w n : Nat) : (s.bumpW sub inst a w n).eps = s.eps := by unfold State.bumpW; split <;> simp
@[simp] theorem bumpW_dual (sub inst a w n : Nat) : (s.bumpW sub inst a w n).dual = s.dual := by unfold State.bumpW; split <;> simp
@[simp] theorem bumpW_feat (sub inst a w n : Nat) : (s.bumpW sub inst a w n).feat = s.feat := by unfold State.bumpW; split <;> simp
@[simp] theorem bumpW_owners (sub inst a w n : Nat) : (s.bumpW sub inst a w n).owners = s.owners := by unfold State.bumpW; split <;> simp
@[simp] theorem bumpW_mctpEid (sub inst a w n : Nat) : (s.bumpW sub inst a w n).mctpEid = s.mctpEid := by unfold State.bumpW; split <;> simp
@[simp] theorem bumpW_alert (sub inst a w n : Nat) : (s.bumpW sub inst a w n).alert = s.alert := by unfold State.bumpW; split <;> simp
@[simp] theorem bumpW_ports (sub inst a w n : Nat) : (s.bumpW sub inst a w n).ports = s.ports := by unfold State.bumpW; split <;> simp
@[simp] theorem bumpW_tags (sub inst a w n : Nat) : (s.bumpW sub inst a w n).tags = s.tags := by unfold State.bumpW; split <;> simp
@[simp] theorem bumpW_cqs (sub inst a w n : Nat) : (s.bumpW sub inst a w n).cqs = s.cqs := by unfold State.bumpW; split <;> simp
@[simp] theorem bumpW_cmds (sub inst a w n : Nat) : (s.bumpW sub inst a w n).cmds = s.cmds := by unfold State.bumpW; split <;> simp
@[simp] theorem bumpW_accept (sub inst a w n : Nat) : (s.bumpW sub inst a w n).accept = s.accept := by unfold State.bumpW; split <;> simp
@[simp] theorem bumpW_mgt (sub inst a w n : Nat) : (s.bumpW sub inst a w n).mgt = s.mgt := by unfold State.bumpW; split <;> simp
@[simp] theorem bumpW_buf (sub inst a w n : Nat) : (s.bumpW sub inst a w n).buf = s.buf := by unfold State.bumpW; split <;> simp
@[simp] theorem bumpW_bca (sub inst a w n : Nat) : (s.bumpW sub inst a w n).bca = s.bca := by unfold State.bumpW; split <;> simp
@[simp] theorem bumpW_vlt (sub inst a w n : Nat) : (s.bumpW sub inst a w n).vlt = s.vlt := by unfold State.bumpW; split <;> simp
@[simp] theorem bumpW_sec (sub inst a w n : Nat) : (s.bumpW sub inst a w n).sec = s.sec := by unfold State.bumpW; split <;> simp

theorem bumpW_frame (sub inst a w n : Nat) : unchangedBut [.ctr, .flt] s (s.bumpW sub inst a w n) := by
  intro p hp; cases p <;> first | (exact absurd (by decide) hp) | simp [Part.same]

/-! ### bump -/

@[simp] theorem bump_pending (sub inst a n : Nat) : (s.bump sub inst a n).pending = s.pending := by simp [State.bump]
@[simp] theorem bump_free (sub inst a n : Nat) : (s.bump sub inst a n).free = s.free := by simp [State.bump]
@[simp] theorem bump_out (sub inst a n : Nat) : (s.bump sub inst a n).out = s.out := by simp [State.bump]
@[simp] theorem bump_nor (sub inst a n : Nat) : (s.bump sub inst a n).nor = s.nor := by simp [State.bump]
@[simp] theorem bump_time (sub inst a n : Nat) : (s.bump sub inst a n).time = s.time := by simp [State.bump]
@[simp] theorem bump_log (sub inst a n : Nat) : (s.bump sub inst a n).log = s.log := by simp [State.bump]
@[simp] theorem bump_thp (sub inst a n : Nat) : (s.bump sub inst a n).thp = s.thp := by simp [State.bump]
@[simp] theorem bump_pwr (sub inst a n : Nat) : (s.bump sub inst a n).pwr = s.pwr := by simp [State.bump]
@[simp] theorem bump_mns (sub inst a n : Nat) : (s.bump sub inst a n).mns = s.mns := by simp [State.bump]
@[simp] theorem bump_cal (sub inst a n : Nat) : (s.bump sub inst a n).cal = s.cal := by simp [State.bump]
@[simp] theorem bump_start (sub inst a n : Nat) : (s.bump sub inst a n).start = s.start := by simp [State.bump]
@[simp] theorem bump_hdas (sub inst a n : Nat) : (s.bump sub inst a n).hdas = s.hdas := by simp [State.bump]
@[simp] theorem bump_mus (sub inst a n : Nat) : (s.bump sub inst a n).mus = s.mus := by simp [State.bump]
@[simp] theorem bump_store (sub inst a n : Nat) : (s.bump sub inst a n).store = s.store := by simp [State.bump]
@[simp] theorem bump_ldp (sub inst a n : Nat) : (s.bump sub inst a n).ldp = s.ldp := by simp [State.bump]
@[simp] theorem bump_eps (sub inst a n : Nat) : (s.bump sub inst a n).eps = s.eps := by simp [State.bump]
@[simp] theorem bump_dual (sub inst a n : Nat) : (s.bump sub inst a n).dual = s.dual := by simp [State.bump]
@[simp] theorem bump_feat (sub inst a n : Nat) : (s.bump sub inst a n).feat = s.feat := by simp [State.bump]
@[simp] theorem bump_owners (sub inst a n : Nat) : (s.bump sub inst a n).owners = s.owners := by simp [State.bump]
@[simp] theorem bump_mctpEid (sub inst a n : Nat) : (s.bump sub inst a n).mctpEid = s.mctpEid := by simp [State.bump]
@[simp] theorem bump_alert (sub inst a n : Nat) : (s.bump sub inst a n).alert = s.alert := by simp [State.bump]
@[simp] theorem bump_ports (sub inst a n : Nat) : (s.bump sub inst a n).ports = s.ports := by simp [State.bump]
@[simp] theorem bump_tags (sub inst a n : Nat) : (s.bump sub inst a n).tags = s.tags := by simp [State.bump]
@[simp] theorem bump_cqs (sub inst a n : Nat) : (s.bump sub inst a n).cqs = s.cqs := by simp [State.bump]
@[simp] theorem bump_cmds (sub inst a n : Nat) : (s.bump sub inst a n).cmds = s.cmds := by simp [State.bump]
@[simp] theorem bump_accept (sub inst a n : Nat) : (s.bump sub inst a n).accept = s.accept := by simp [State.bump]
@[simp] theorem bump_mgt (sub inst a n : Nat) : (s.bump sub inst a n).mgt = s.mgt := by simp [State.bump]
@[simp] theorem bump_buf (sub inst a n : Nat) : (s.bump sub inst a n).buf = s.buf := by simp [State.bump]
@[simp] theorem bump_bca (sub inst a n : Nat) : (s.bump sub inst a n).bca = s.bca := by simp [State.bump]
@[simp] theorem bump_vlt (sub inst a n : Nat) : (s.bump sub inst a n).vlt = s.vlt := by simp [State.bump]
@[simp] theorem bump_sec (sub inst a n : Nat) : (s.bump sub inst a n).sec = s.sec := by simp [State.bump]

theorem bump_frame (sub inst a n : Nat) : unchangedBut [.ctr, .flt] s (s.bump sub inst a n) := by
  intro p hp; cases p <;> first | (exact absurd (by decide) hp) | simp [Part.same]

/-! ### raise -/

@[simp] theorem raise_pending (sub inst k a : Nat) : (s.raise sub inst k a).pending = s.pending := by simp [State.raise]
@[simp] theorem raise_free (sub inst k a : Nat) : (s.raise sub inst k a).free = s.free := by simp [State.raise]
@[simp] theorem raise_out (sub inst k a : Nat) : (s.raise sub inst k a).out = s.out := by simp [State.raise]
@[simp] theorem raise_nor (sub inst k a : Nat) : (s.raise sub inst k a).nor = s.nor := by simp [State.raise]
@[simp] theorem raise_time (sub inst k a : Nat) : (s.raise sub inst k a).time = s.time := by simp [State.raise]
@[simp] theorem raise_log (sub inst k a : Nat) : (s.raise sub inst k a).log = s.log := by simp [State.raise]
@[simp] theorem raise_thp (sub inst k a : Nat) : (s.raise sub inst k a).thp = s.thp := by simp [State.raise]
@[simp] theorem raise_pwr (sub inst k a : Nat) : (s.raise sub inst k a).pwr = s.pwr := by simp [State.raise]
@[simp] theorem raise_mns (sub inst k a : Nat) : (s.raise sub inst k a).mns = s.mns := by simp [State.raise]
@[simp] theorem raise_cal (sub inst k a : Nat) : (s.raise sub inst k a).cal = s.cal := by simp [State.raise]
@[simp] theorem raise_start (sub inst k a : Nat) : (s.raise sub inst k a).start = s.start := by simp [State.raise]
@[simp] theorem raise_hdas (sub inst k a : Nat) : (s.raise sub inst k a).hdas = s.hdas := by simp [State.raise]
@[simp] theorem raise_mus (sub inst k a : Nat) : (s.raise sub inst k a).mus = s.mus := by simp [State.raise]
@[simp] theorem raise_store (sub inst k a : Nat) : (s.raise sub inst k a).store = s.store := by simp [State.raise]
@[simp] theorem raise_ldp (sub inst k a : Nat) : (s.raise sub inst k a).ldp = s.ldp := by simp [State.raise]
@[simp] theorem raise_eps (sub inst k a : Nat) : (s.raise sub inst k a).eps = s.eps := by simp [State.raise]
@[simp] theorem raise_dual (sub inst k a : Nat) : (s.raise sub inst k a).dual = s.dual := by simp [State.raise]
@[simp] theorem raise_feat (sub inst k a : Nat) : (s.raise sub inst k a).feat = s.feat := by simp [State.raise]
@[simp] theorem raise_owners (sub inst k a : Nat) : (s.raise sub inst k a).owners = s.owners := by simp [State.raise]
@[simp] theorem raise_mctpEid (sub inst k a : Nat) : (s.raise sub inst k a).mctpEid = s.mctpEid := by simp [State.raise]
@[simp] theorem raise_alert (sub inst k a : Nat) : (s.raise sub inst k a).alert = s.alert := by simp [State.raise]
@[simp] theorem raise_ports (sub inst k a : Nat) : (s.raise sub inst k a).ports = s.ports := by simp [State.raise]
@[simp] theorem raise_tags (sub inst k a : Nat) : (s.raise sub inst k a).tags = s.tags := by simp [State.raise]
@[simp] theorem raise_cqs (sub inst k a : Nat) : (s.raise sub inst k a).cqs = s.cqs := by simp [State.raise]
@[simp] theorem raise_cmds (sub inst k a : Nat) : (s.raise sub inst k a).cmds = s.cmds := by simp [State.raise]
@[simp] theorem raise_accept (sub inst k a : Nat) : (s.raise sub inst k a).accept = s.accept := by simp [State.raise]
@[simp] theorem raise_mgt (sub inst k a : Nat) : (s.raise sub inst k a).mgt = s.mgt := by simp [State.raise]
@[simp] theorem raise_buf (sub inst k a : Nat) : (s.raise sub inst k a).buf = s.buf := by simp [State.raise]
@[simp] theorem raise_bca (sub inst k a : Nat) : (s.raise sub inst k a).bca = s.bca := by simp [State.raise]
@[simp] theorem raise_vlt (sub inst k a : Nat) : (s.raise sub inst k a).vlt = s.vlt := by simp [State.raise]
@[simp] theorem raise_sec (sub inst k a : Nat) : (s.raise sub inst k a).sec = s.sec := by simp [State.raise]

theorem raise_frame (sub inst k a : Nat) : unchangedBut [.ctr, .flt] s (s.raise sub inst k a) := by
  intro p hp; cases p <;> first | (exact absurd (by decide) hp) | simp [Part.same]

/-! ### latentFail -/

@[simp] theorem latentFail_pending (sub inst t part : Nat) : (s.latentFail sub inst t part).pending = s.pending := by simp [State.latentFail]
@[simp] theorem latentFail_free (sub inst t part : Nat) : (s.latentFail sub inst t part).free = s.free := by simp [State.latentFail]
@[simp] theorem latentFail_out (sub inst t part : Nat) : (s.latentFail sub inst t part).out = s.out := by simp [State.latentFail]
@[simp] theorem latentFail_nor (sub inst t part : Nat) : (s.latentFail sub inst t part).nor = s.nor := by simp [State.latentFail]
@[simp] theorem latentFail_time (sub inst t part : Nat) : (s.latentFail sub inst t part).time = s.time := by simp [State.latentFail]
@[simp] theorem latentFail_log (sub inst t part : Nat) : (s.latentFail sub inst t part).log = s.log := by simp [State.latentFail]
@[simp] theorem latentFail_thp (sub inst t part : Nat) : (s.latentFail sub inst t part).thp = s.thp := by simp [State.latentFail]
@[simp] theorem latentFail_pwr (sub inst t part : Nat) : (s.latentFail sub inst t part).pwr = s.pwr := by simp [State.latentFail]
@[simp] theorem latentFail_mns (sub inst t part : Nat) : (s.latentFail sub inst t part).mns = s.mns := by simp [State.latentFail]
@[simp] theorem latentFail_cal (sub inst t part : Nat) : (s.latentFail sub inst t part).cal = s.cal := by simp [State.latentFail]
@[simp] theorem latentFail_start (sub inst t part : Nat) : (s.latentFail sub inst t part).start = s.start := by simp [State.latentFail]
@[simp] theorem latentFail_hdas (sub inst t part : Nat) : (s.latentFail sub inst t part).hdas = s.hdas := by simp [State.latentFail]
@[simp] theorem latentFail_mus (sub inst t part : Nat) : (s.latentFail sub inst t part).mus = s.mus := by simp [State.latentFail]
@[simp] theorem latentFail_store (sub inst t part : Nat) : (s.latentFail sub inst t part).store = s.store := by simp [State.latentFail]
@[simp] theorem latentFail_ldp (sub inst t part : Nat) : (s.latentFail sub inst t part).ldp = s.ldp := by simp [State.latentFail]
@[simp] theorem latentFail_eps (sub inst t part : Nat) : (s.latentFail sub inst t part).eps = s.eps := by simp [State.latentFail]
@[simp] theorem latentFail_dual (sub inst t part : Nat) : (s.latentFail sub inst t part).dual = s.dual := by simp [State.latentFail]
@[simp] theorem latentFail_feat (sub inst t part : Nat) : (s.latentFail sub inst t part).feat = s.feat := by simp [State.latentFail]
@[simp] theorem latentFail_owners (sub inst t part : Nat) : (s.latentFail sub inst t part).owners = s.owners := by simp [State.latentFail]
@[simp] theorem latentFail_mctpEid (sub inst t part : Nat) : (s.latentFail sub inst t part).mctpEid = s.mctpEid := by simp [State.latentFail]
@[simp] theorem latentFail_alert (sub inst t part : Nat) : (s.latentFail sub inst t part).alert = s.alert := by simp [State.latentFail]
@[simp] theorem latentFail_ports (sub inst t part : Nat) : (s.latentFail sub inst t part).ports = s.ports := by simp [State.latentFail]
@[simp] theorem latentFail_tags (sub inst t part : Nat) : (s.latentFail sub inst t part).tags = s.tags := by simp [State.latentFail]
@[simp] theorem latentFail_cqs (sub inst t part : Nat) : (s.latentFail sub inst t part).cqs = s.cqs := by simp [State.latentFail]
@[simp] theorem latentFail_cmds (sub inst t part : Nat) : (s.latentFail sub inst t part).cmds = s.cmds := by simp [State.latentFail]
@[simp] theorem latentFail_accept (sub inst t part : Nat) : (s.latentFail sub inst t part).accept = s.accept := by simp [State.latentFail]
@[simp] theorem latentFail_mgt (sub inst t part : Nat) : (s.latentFail sub inst t part).mgt = s.mgt := by simp [State.latentFail]
@[simp] theorem latentFail_buf (sub inst t part : Nat) : (s.latentFail sub inst t part).buf = s.buf := by simp [State.latentFail]
@[simp] theorem latentFail_bca (sub inst t part : Nat) : (s.latentFail sub inst t part).bca = s.bca := by simp [State.latentFail]
@[simp] theorem latentFail_vlt (sub inst t part : Nat) : (s.latentFail sub inst t part).vlt = s.vlt := by simp [State.latentFail]
@[simp] theorem latentFail_sec (sub inst t part : Nat) : (s.latentFail sub inst t part).sec = s.sec := by simp [State.latentFail]

theorem latentFail_frame (sub inst t part : Nat) : unchangedBut [.ctr, .flt] s (s.latentFail sub inst t part) := by
  intro p hp; cases p <;> first | (exact absurd (by decide) hp) | simp [Part.same]

/-! ### latentPass -/

@[simp] theorem latentPass_pending (t : Nat) : (s.latentPass t).pending = s.pending := rfl
@[simp] theorem latentPass_free (t : Nat) : (s.latentPass t).free = s.free := rfl
@[simp] theorem latentPass_out (t : Nat) : (s.latentPass t).out = s.out := rfl
@[simp] theorem latentPass_nor (t : Nat) : (s.latentPass t).nor = s.nor := rfl
@[simp] theorem latentPass_ctr (t : Nat) : (s.latentPass t).ctr = s.ctr := rfl
@[simp] theorem latentPass_time (t : Nat) : (s.latentPass t).time = s.time := rfl
@[simp] theorem latentPass_log (t : Nat) : (s.latentPass t).log = s.log := rfl
@[simp] theorem latentPass_thp (t : Nat) : (s.latentPass t).thp = s.thp := rfl
@[simp] theorem latentPass_pwr (t : Nat) : (s.latentPass t).pwr = s.pwr := rfl
@[simp] theorem latentPass_mns (t : Nat) : (s.latentPass t).mns = s.mns := rfl
@[simp] theorem latentPass_cal (t : Nat) : (s.latentPass t).cal = s.cal := rfl
@[simp] theorem latentPass_start (t : Nat) : (s.latentPass t).start = s.start := rfl
@[simp] theorem latentPass_hdas (t : Nat) : (s.latentPass t).hdas = s.hdas := rfl
@[simp] theorem latentPass_mus (t : Nat) : (s.latentPass t).mus = s.mus := rfl
@[simp] theorem latentPass_store (t : Nat) : (s.latentPass t).store = s.store := rfl
@[simp] theorem latentPass_ldp (t : Nat) : (s.latentPass t).ldp = s.ldp := rfl
@[simp] theorem latentPass_eps (t : Nat) : (s.latentPass t).eps = s.eps := rfl
@[simp] theorem latentPass_dual (t : Nat) : (s.latentPass t).dual = s.dual := rfl
@[simp] theorem latentPass_feat (t : Nat) : (s.latentPass t).feat = s.feat := rfl
@[simp] theorem latentPass_owners (t : Nat) : (s.latentPass t).owners = s.owners := rfl
@[simp] theorem latentPass_mctpEid (t : Nat) : (s.latentPass t).mctpEid = s.mctpEid := rfl
@[simp] theorem latentPass_alert (t : Nat) : (s.latentPass t).alert = s.alert := rfl
@[simp] theorem latentPass_ports (t : Nat) : (s.latentPass t).ports = s.ports := rfl
@[simp] theorem latentPass_tags (t : Nat) : (s.latentPass t).tags = s.tags := rfl
@[simp] theorem latentPass_cqs (t : Nat) : (s.latentPass t).cqs = s.cqs := rfl
@[simp] theorem latentPass_cmds (t : Nat) : (s.latentPass t).cmds = s.cmds := rfl
@[simp] theorem latentPass_accept (t : Nat) : (s.latentPass t).accept = s.accept := rfl
@[simp] theorem latentPass_mgt (t : Nat) : (s.latentPass t).mgt = s.mgt := rfl
@[simp] theorem latentPass_buf (t : Nat) : (s.latentPass t).buf = s.buf := rfl
@[simp] theorem latentPass_bca (t : Nat) : (s.latentPass t).bca = s.bca := rfl
@[simp] theorem latentPass_vlt (t : Nat) : (s.latentPass t).vlt = s.vlt := rfl
@[simp] theorem latentPass_sec (t : Nat) : (s.latentPass t).sec = s.sec := rfl

theorem latentPass_frame (t : Nat) : unchangedBut [.flt] s (s.latentPass t) := by
  intro p hp; cases p <;> first | (exact absurd (by decide) hp) | simp [Part.same]

/-! ### logQueue -/

@[simp] theorem logQueue_pending (r : LogRec) : (s.logQueue r).pending = s.pending := by unfold State.logQueue; split <;> simp
@[simp] theorem logQueue_free (r : LogRec) : (s.logQueue r).free = s.free := by unfold State.logQueue; split <;> simp
@[simp] theorem logQueue_out (r : LogRec) : (s.logQueue r).out = s.out := by unfold State.logQueue; split <;> simp
@[simp] theorem logQueue_nor (r : LogRec) : (s.logQueue r).nor = s.nor := by unfold State.logQueue; split <;> simp
@[simp] theorem logQueue_time (r : LogRec) : (s.logQueue r).time = s.time := by unfold State.logQueue; split <;> simp
@[simp] theorem logQueue_thp (r : LogRec) : (s.logQueue r).thp = s.thp := by unfold State.logQueue; split <;> simp
@[simp] theorem logQueue_pwr (r : LogRec) : (s.logQueue r).pwr = s.pwr := by unfold State.logQueue; split <;> simp
@[simp] theorem logQueue_mns (r : LogRec) : (s.logQueue r).mns = s.mns := by unfold State.logQueue; split <;> simp
@[simp] theorem logQueue_cal (r : LogRec) : (s.logQueue r).cal = s.cal := by unfold State.logQueue; split <;> simp
@[simp] theorem logQueue_start (r : LogRec) : (s.logQueue r).start = s.start := by unfold State.logQueue; split <;> simp
@[simp] theorem logQueue_hdas (r : LogRec) : (s.logQueue r).hdas = s.hdas := by unfold State.logQueue; split <;> simp
@[simp] theorem logQueue_mus (r : LogRec) : (s.logQueue r).mus = s.mus := by unfold State.logQueue; split <;> simp
@[simp] theorem logQueue_store (r : LogRec) : (s.logQueue r).store = s.store := by unfold State.logQueue; split <;> simp
@[simp] theorem logQueue_ldp (r : LogRec) : (s.logQueue r).ldp = s.ldp := by unfold State.logQueue; split <;> simp
@[simp] theorem logQueue_eps (r : LogRec) : (s.logQueue r).eps = s.eps := by unfold State.logQueue; split <;> simp
@[simp] theorem logQueue_dual (r : LogRec) : (s.logQueue r).dual = s.dual := by unfold State.logQueue; split <;> simp
@[simp] theorem logQueue_feat (r : LogRec) : (s.logQueue r).feat = s.feat := by unfold State.logQueue; split <;> simp
@[simp] theorem logQueue_owners (r : LogRec) : (s.logQueue r).owners = s.owners := by unfold State.logQueue; split <;> simp
@[simp] theorem logQueue_mctpEid (r : LogRec) : (s.logQueue r).mctpEid = s.mctpEid := by unfold State.logQueue; split <;> simp
@[simp] theorem logQueue_alert (r : LogRec) : (s.logQueue r).alert = s.alert := by unfold State.logQueue; split <;> simp
@[simp] theorem logQueue_ports (r : LogRec) : (s.logQueue r).ports = s.ports := by unfold State.logQueue; split <;> simp
@[simp] theorem logQueue_tags (r : LogRec) : (s.logQueue r).tags = s.tags := by unfold State.logQueue; split <;> simp
@[simp] theorem logQueue_cqs (r : LogRec) : (s.logQueue r).cqs = s.cqs := by unfold State.logQueue; split <;> simp
@[simp] theorem logQueue_cmds (r : LogRec) : (s.logQueue r).cmds = s.cmds := by unfold State.logQueue; split <;> simp
@[simp] theorem logQueue_accept (r : LogRec) : (s.logQueue r).accept = s.accept := by unfold State.logQueue; split <;> simp
@[simp] theorem logQueue_mgt (r : LogRec) : (s.logQueue r).mgt = s.mgt := by unfold State.logQueue; split <;> simp
@[simp] theorem logQueue_buf (r : LogRec) : (s.logQueue r).buf = s.buf := by unfold State.logQueue; split <;> simp
@[simp] theorem logQueue_bca (r : LogRec) : (s.logQueue r).bca = s.bca := by unfold State.logQueue; split <;> simp
@[simp] theorem logQueue_vlt (r : LogRec) : (s.logQueue r).vlt = s.vlt := by unfold State.logQueue; split <;> simp
@[simp] theorem logQueue_sec (r : LogRec) : (s.logQueue r).sec = s.sec := by unfold State.logQueue; split <;> simp

theorem logQueue_frame (r : LogRec) : unchangedBut [.ctr, .flt, .log] s (s.logQueue r) := by
  intro p hp; cases p <;> first | (exact absurd (by decide) hp) | simp [Part.same]

/-! ### logMark -/

@[simp] theorem logMark_pending (r : LogRec) : (s.logMark r).pending = s.pending := by unfold State.logMark; split <;> simp
@[simp] theorem logMark_free (r : LogRec) : (s.logMark r).free = s.free := by unfold State.logMark; split <;> simp
@[simp] theorem logMark_out (r : LogRec) : (s.logMark r).out = s.out := by unfold State.logMark; split <;> simp
@[simp] theorem logMark_nor (r : LogRec) : (s.logMark r).nor = s.nor := by unfold State.logMark; split <;> simp
@[simp] theorem logMark_time (r : LogRec) : (s.logMark r).time = s.time := by unfold State.logMark; split <;> simp
@[simp] theorem logMark_thp (r : LogRec) : (s.logMark r).thp = s.thp := by unfold State.logMark; split <;> simp
@[simp] theorem logMark_pwr (r : LogRec) : (s.logMark r).pwr = s.pwr := by unfold State.logMark; split <;> simp
@[simp] theorem logMark_mns (r : LogRec) : (s.logMark r).mns = s.mns := by unfold State.logMark; split <;> simp
@[simp] theorem logMark_cal (r : LogRec) : (s.logMark r).cal = s.cal := by unfold State.logMark; split <;> simp
@[simp] theorem logMark_start (r : LogRec) : (s.logMark r).start = s.start := by unfold State.logMark; split <;> simp
@[simp] theorem logMark_hdas (r : LogRec) : (s.logMark r).hdas = s.hdas := by unfold State.logMark; split <;> simp
@[simp] theorem logMark_mus (r : LogRec) : (s.logMark r).mus = s.mus := by unfold State.logMark; split <;> simp
@[simp] theorem logMark_store (r : LogRec) : (s.logMark r).store = s.store := by unfold State.logMark; split <;> simp
@[simp] theorem logMark_ldp (r : LogRec) : (s.logMark r).ldp = s.ldp := by unfold State.logMark; split <;> simp
@[simp] theorem logMark_eps (r : LogRec) : (s.logMark r).eps = s.eps := by unfold State.logMark; split <;> simp
@[simp] theorem logMark_dual (r : LogRec) : (s.logMark r).dual = s.dual := by unfold State.logMark; split <;> simp
@[simp] theorem logMark_feat (r : LogRec) : (s.logMark r).feat = s.feat := by unfold State.logMark; split <;> simp
@[simp] theorem logMark_owners (r : LogRec) : (s.logMark r).owners = s.owners := by unfold State.logMark; split <;> simp
@[simp] theorem logMark_mctpEid (r : LogRec) : (s.logMark r).mctpEid = s.mctpEid := by unfold State.logMark; split <;> simp
@[simp] theorem logMark_alert (r : LogRec) : (s.logMark r).alert = s.alert := by unfold State.logMark; split <;> simp
@[simp] theorem logMark_ports (r : LogRec) : (s.logMark r).ports = s.ports := by unfold State.logMark; split <;> simp
@[simp] theorem logMark_tags (r : LogRec) : (s.logMark r).tags = s.tags := by unfold State.logMark; split <;> simp
@[simp] theorem logMark_cqs (r : LogRec) : (s.logMark r).cqs = s.cqs := by unfold State.logMark; split <;> simp
@[simp] theorem logMark_cmds (r : LogRec) : (s.logMark r).cmds = s.cmds := by unfold State.logMark; split <;> simp
@[simp] theorem logMark_accept (r : LogRec) : (s.logMark r).accept = s.accept := by unfold State.logMark; split <;> simp
@[simp] theorem logMark_mgt (r : LogRec) : (s.logMark r).mgt = s.mgt := by unfold State.logMark; split <;> simp
@[simp] theorem logMark_buf (r : LogRec) : (s.logMark r).buf = s.buf := by unfold State.logMark; split <;> simp
@[simp] theorem logMark_bca (r : LogRec) : (s.logMark r).bca = s.bca := by unfold State.logMark; split <;> simp
@[simp] theorem logMark_vlt (r : LogRec) : (s.logMark r).vlt = s.vlt := by unfold State.logMark; split <;> simp
@[simp] theorem logMark_sec (r : LogRec) : (s.logMark r).sec = s.sec := by unfold State.logMark; split <;> simp

theorem logMark_frame (r : LogRec) : unchangedBut [.ctr, .flt, .log] s (s.logMark r) := by
  intro p hp; cases p <;> first | (exact absurd (by decide) hp) | simp [Part.same]

/-! ### noticeTo -/

@[simp] theorem noticeTo_pending (e : Entry) (l : List Nat) : (s.noticeTo e l).pending = s.pending := by
  induction l generalizing s with
  | nil => rfl
  | cons q r ih => simp [State.noticeTo, ih]
@[simp] theorem noticeTo_free (e : Entry) (l : List Nat) : (s.noticeTo e l).free = s.free := by
  induction l generalizing s with
  | nil => rfl
  | cons q r ih => simp [State.noticeTo, ih]
@[simp] theorem noticeTo_out (e : Entry) (l : List Nat) : (s.noticeTo e l).out = s.out := by
  induction l generalizing s with
  | nil => rfl
  | cons q r ih => simp [State.noticeTo, ih]
@[simp] theorem noticeTo_nor (e : Entry) (l : List Nat) : (s.noticeTo e l).nor = s.nor := by
  induction l generalizing s with
  | nil => rfl
  | cons q r ih => simp [State.noticeTo, ih]
@[simp] theorem noticeTo_ctr (e : Entry) (l : List Nat) : (s.noticeTo e l).ctr = s.ctr := by
  induction l generalizing s with
  | nil => rfl
  | cons q r ih => simp [State.noticeTo, ih]
@[simp] theorem noticeTo_time (e : Entry) (l : List Nat) : (s.noticeTo e l).time = s.time := by
  induction l generalizing s with
  | nil => rfl
  | cons q r ih => simp [State.noticeTo, ih]
@[simp] theorem noticeTo_flt (e : Entry) (l : List Nat) : (s.noticeTo e l).flt = s.flt := by
  induction l generalizing s with
  | nil => rfl
  | cons q r ih => simp [State.noticeTo, ih]
@[simp] theorem noticeTo_log (e : Entry) (l : List Nat) : (s.noticeTo e l).log = s.log := by
  induction l generalizing s with
  | nil => rfl
  | cons q r ih => simp [State.noticeTo, ih]
@[simp] theorem noticeTo_thp (e : Entry) (l : List Nat) : (s.noticeTo e l).thp = s.thp := by
  induction l generalizing s with
  | nil => rfl
  | cons q r ih => simp [State.noticeTo, ih]
@[simp] theorem noticeTo_pwr (e : Entry) (l : List Nat) : (s.noticeTo e l).pwr = s.pwr := by
  induction l generalizing s with
  | nil => rfl
  | cons q r ih => simp [State.noticeTo, ih]
@[simp] theorem noticeTo_mns (e : Entry) (l : List Nat) : (s.noticeTo e l).mns = s.mns := by
  induction l generalizing s with
  | nil => rfl
  | cons q r ih => simp [State.noticeTo, ih]
@[simp] theorem noticeTo_cal (e : Entry) (l : List Nat) : (s.noticeTo e l).cal = s.cal := by
  induction l generalizing s with
  | nil => rfl
  | cons q r ih => simp [State.noticeTo, ih]
@[simp] theorem noticeTo_start (e : Entry) (l : List Nat) : (s.noticeTo e l).start = s.start := by
  induction l generalizing s with
  | nil => rfl
  | cons q r ih => simp [State.noticeTo, ih]
@[simp] theorem noticeTo_hdas (e : Entry) (l : List Nat) : (s.noticeTo e l).hdas = s.hdas := by
  induction l generalizing s with
  | nil => rfl
  | cons q r ih => simp [State.noticeTo, ih]
@[simp] theorem noticeTo_mus (e : Entry) (l : List Nat) : (s.noticeTo e l).mus = s.mus := by
  induction l generalizing s with
  | nil => rfl
  | cons q r ih => simp [State.noticeTo, ih]
@[simp] theorem noticeTo_store (e : Entry) (l : List Nat) : (s.noticeTo e l).store = s.store := by
  induction l generalizing s with
  | nil => rfl
  | cons q r ih => simp [State.noticeTo, ih]
@[simp] theorem noticeTo_ldp (e : Entry) (l : List Nat) : (s.noticeTo e l).ldp = s.ldp := by
  induction l generalizing s with
  | nil => rfl
  | cons q r ih => simp [State.noticeTo, ih]
@[simp] theorem noticeTo_eps (e : Entry) (l : List Nat) : (s.noticeTo e l).eps = s.eps := by
  induction l generalizing s with
  | nil => rfl
  | cons q r ih => simp [State.noticeTo, ih]
@[simp] theorem noticeTo_dual (e : Entry) (l : List Nat) : (s.noticeTo e l).dual = s.dual := by
  induction l generalizing s with
  | nil => rfl
  | cons q r ih => simp [State.noticeTo, ih]
@[simp] theorem noticeTo_feat (e : Entry) (l : List Nat) : (s.noticeTo e l).feat = s.feat := by
  induction l generalizing s with
  | nil => rfl
  | cons q r ih => simp [State.noticeTo, ih]
@[simp] theorem noticeTo_owners (e : Entry) (l : List Nat) : (s.noticeTo e l).owners = s.owners := by
  induction l generalizing s with
  | nil => rfl
  | cons q r ih => simp [State.noticeTo, ih]
@[simp] theorem noticeTo_mctpEid (e : Entry) (l : List Nat) : (s.noticeTo e l).mctpEid = s.mctpEid := by
  induction l generalizing s with
  | nil => rfl
  | cons q r ih => simp [State.noticeTo, ih]
@[simp] theorem noticeTo_alert (e : Entry) (l : List Nat) : (s.noticeTo e l).alert = s.alert := by
  induction l generalizing s with
  | nil => rfl
  | cons q r ih => simp [State.noticeTo, ih]
@[simp] theorem noticeTo_ports (e : Entry) (l : List Nat) : (s.noticeTo e l).ports = s.ports := by
  induction l generalizing s with
  | nil => rfl
  | cons q r ih => simp [State.noticeTo, ih]
@[simp] theorem noticeTo_tags (e : Entry) (l : List Nat) : (s.noticeTo e l).tags = s.tags := by
  induction l generalizing s with
  | nil => rfl
  | cons q r ih => simp [State.noticeTo, ih]
@[simp] theorem noticeTo_cmds (e : Entry) (l : List Nat) : (s.noticeTo e l).cmds = s.cmds := by
  induction l generalizing s with
  | nil => rfl
  | cons q r ih => simp [State.noticeTo, ih]
@[simp] theorem noticeTo_accept (e : Entry) (l : List Nat) : (s.noticeTo e l).accept = s.accept := by
  induction l generalizing s with
  | nil => rfl
  | cons q r ih => simp [State.noticeTo, ih]
@[simp] theorem noticeTo_mgt (e : Entry) (l : List Nat) : (s.noticeTo e l).mgt = s.mgt := by
  induction l generalizing s with
  | nil => rfl
  | cons q r ih => simp [State.noticeTo, ih]
@[simp] theorem noticeTo_buf (e : Entry) (l : List Nat) : (s.noticeTo e l).buf = s.buf := by
  induction l generalizing s with
  | nil => rfl
  | cons q r ih => simp [State.noticeTo, ih]
@[simp] theorem noticeTo_bca (e : Entry) (l : List Nat) : (s.noticeTo e l).bca = s.bca := by
  induction l generalizing s with
  | nil => rfl
  | cons q r ih => simp [State.noticeTo, ih]
@[simp] theorem noticeTo_vlt (e : Entry) (l : List Nat) : (s.noticeTo e l).vlt = s.vlt := by
  induction l generalizing s with
  | nil => rfl
  | cons q r ih => simp [State.noticeTo, ih]
@[simp] theorem noticeTo_sec (e : Entry) (l : List Nat) : (s.noticeTo e l).sec = s.sec := by
  induction l generalizing s with
  | nil => rfl
  | cons q r ih => simp [State.noticeTo, ih]

theorem noticeTo_frame (e : Entry) (l : List Nat) : unchangedBut [.cqs] s (s.noticeTo e l) := by
  intro p hp; cases p <;> first | (exact absurd (by decide) hp) | simp [Part.same]

/-! ### notice -/

@[simp] theorem notice_pending (scope code r0 r1 r2 status : Nat) (defer : Bool) : (s.notice scope code r0 r1 r2 status defer).pending = s.pending := by simp [State.notice]
@[simp] theorem notice_free (scope code r0 r1 r2 status : Nat) (defer : Bool) : (s.notice scope code r0 r1 r2 status defer).free = s.free := by simp [State.notice]
@[simp] theorem notice_out (scope code r0 r1 r2 status : Nat) (defer : Bool) : (s.notice scope code r0 r1 r2 status defer).out = s.out := by simp [State.notice]
@[simp] theorem notice_nor (scope code r0 r1 r2 status : Nat) (defer : Bool) : (s.notice scope code r0 r1 r2 status defer).nor = s.nor := by simp [State.notice]
@[simp] theorem notice_ctr (scope code r0 r1 r2 status : Nat) (defer : Bool) : (s.notice scope code r0 r1 r2 status defer).ctr = s.ctr := by simp [State.notice]
@[simp] theorem notice_time (scope code r0 r1 r2 status : Nat) (defer : Bool) : (s.notice scope code r0 r1 r2 status defer).time = s.time := by simp [State.notice]
@[simp] theorem notice_flt (scope code r0 r1 r2 status : Nat) (defer : Bool) : (s.notice scope code r0 r1 r2 status defer).flt = s.flt := by simp [State.notice]
@[simp] theorem notice_log (scope code r0 r1 r2 status : Nat) (defer : Bool) : (s.notice scope code r0 r1 r2 status defer).log = s.log := by simp [State.notice]
@[simp] theorem notice_thp (scope code r0 r1 r2 status : Nat) (defer : Bool) : (s.notice scope code r0 r1 r2 status defer).thp = s.thp := by simp [State.notice]
@[simp] theorem notice_pwr (scope code r0 r1 r2 status : Nat) (defer : Bool) : (s.notice scope code r0 r1 r2 status defer).pwr = s.pwr := by simp [State.notice]
@[simp] theorem notice_mns (scope code r0 r1 r2 status : Nat) (defer : Bool) : (s.notice scope code r0 r1 r2 status defer).mns = s.mns := by simp [State.notice]
@[simp] theorem notice_cal (scope code r0 r1 r2 status : Nat) (defer : Bool) : (s.notice scope code r0 r1 r2 status defer).cal = s.cal := by simp [State.notice]
@[simp] theorem notice_start (scope code r0 r1 r2 status : Nat) (defer : Bool) : (s.notice scope code r0 r1 r2 status defer).start = s.start := by simp [State.notice]
@[simp] theorem notice_hdas (scope code r0 r1 r2 status : Nat) (defer : Bool) : (s.notice scope code r0 r1 r2 status defer).hdas = s.hdas := by simp [State.notice]
@[simp] theorem notice_mus (scope code r0 r1 r2 status : Nat) (defer : Bool) : (s.notice scope code r0 r1 r2 status defer).mus = s.mus := by simp [State.notice]
@[simp] theorem notice_store (scope code r0 r1 r2 status : Nat) (defer : Bool) : (s.notice scope code r0 r1 r2 status defer).store = s.store := by simp [State.notice]
@[simp] theorem notice_ldp (scope code r0 r1 r2 status : Nat) (defer : Bool) : (s.notice scope code r0 r1 r2 status defer).ldp = s.ldp := by simp [State.notice]
@[simp] theorem notice_eps (scope code r0 r1 r2 status : Nat) (defer : Bool) : (s.notice scope code r0 r1 r2 status defer).eps = s.eps := by simp [State.notice]
@[simp] theorem notice_dual (scope code r0 r1 r2 status : Nat) (defer : Bool) : (s.notice scope code r0 r1 r2 status defer).dual = s.dual := by simp [State.notice]
@[simp] theorem notice_feat (scope code r0 r1 r2 status : Nat) (defer : Bool) : (s.notice scope code r0 r1 r2 status defer).feat = s.feat := by simp [State.notice]
@[simp] theorem notice_owners (scope code r0 r1 r2 status : Nat) (defer : Bool) : (s.notice scope code r0 r1 r2 status defer).owners = s.owners := by simp [State.notice]
@[simp] theorem notice_mctpEid (scope code r0 r1 r2 status : Nat) (defer : Bool) : (s.notice scope code r0 r1 r2 status defer).mctpEid = s.mctpEid := by simp [State.notice]
@[simp] theorem notice_alert (scope code r0 r1 r2 status : Nat) (defer : Bool) : (s.notice scope code r0 r1 r2 status defer).alert = s.alert := by simp [State.notice]
@[simp] theorem notice_ports (scope code r0 r1 r2 status : Nat) (defer : Bool) : (s.notice scope code r0 r1 r2 status defer).ports = s.ports := by simp [State.notice]
@[simp] theorem notice_tags (scope code r0 r1 r2 status : Nat) (defer : Bool) : (s.notice scope code r0 r1 r2 status defer).tags = s.tags := by simp [State.notice]
@[simp] theorem notice_cmds (scope code r0 r1 r2 status : Nat) (defer : Bool) : (s.notice scope code r0 r1 r2 status defer).cmds = s.cmds := by simp [State.notice]
@[simp] theorem notice_accept (scope code r0 r1 r2 status : Nat) (defer : Bool) : (s.notice scope code r0 r1 r2 status defer).accept = s.accept := by simp [State.notice]
@[simp] theorem notice_mgt (scope code r0 r1 r2 status : Nat) (defer : Bool) : (s.notice scope code r0 r1 r2 status defer).mgt = s.mgt := by simp [State.notice]
@[simp] theorem notice_buf (scope code r0 r1 r2 status : Nat) (defer : Bool) : (s.notice scope code r0 r1 r2 status defer).buf = s.buf := by simp [State.notice]
@[simp] theorem notice_bca (scope code r0 r1 r2 status : Nat) (defer : Bool) : (s.notice scope code r0 r1 r2 status defer).bca = s.bca := by simp [State.notice]
@[simp] theorem notice_vlt (scope code r0 r1 r2 status : Nat) (defer : Bool) : (s.notice scope code r0 r1 r2 status defer).vlt = s.vlt := by simp [State.notice]
@[simp] theorem notice_sec (scope code r0 r1 r2 status : Nat) (defer : Bool) : (s.notice scope code r0 r1 r2 status defer).sec = s.sec := by simp [State.notice]

theorem notice_frame (scope code r0 r1 r2 status : Nat) (defer : Bool) : unchangedBut [.cqs] s (s.notice scope code r0 r1 r2 status defer) := by
  intro p hp; cases p <;> first | (exact absurd (by decide) hp) | simp [Part.same]

/-! ### complete -/

@[simp] theorem complete_pending (t : Nat) (r : Res) : (s.complete t r).pending = s.pending := by unfold State.complete; split <;> rfl
@[simp] theorem complete_free (t : Nat) (r : Res) : (s.complete t r).free = s.free := by unfold State.complete; split <;> rfl
@[simp] theorem complete_out (t : Nat) (r : Res) : (s.complete t r).out = s.out := by unfold State.complete; split <;> rfl
@[simp] theorem complete_nor (t : Nat) (r : Res) : (s.complete t r).nor = s.nor := by unfold State.complete; split <;> rfl
@[simp] theorem complete_ctr (t : Nat) (r : Res) : (s.complete t r).ctr = s.ctr := by unfold State.complete; split <;> rfl
@[simp] theorem complete_time (t : Nat) (r : Res) : (s.complete t r).time = s.time := by unfold State.complete; split <;> rfl
@[simp] theorem complete_flt (t : Nat) (r : Res) : (s.complete t r).flt = s.flt := by unfold State.complete; split <;> rfl
@[simp] theorem complete_log (t : Nat) (r : Res) : (s.complete t r).log = s.log := by unfold State.complete; split <;> rfl
@[simp] theorem complete_thp (t : Nat) (r : Res) : (s.complete t r).thp = s.thp := by unfold State.complete; split <;> rfl
@[simp] theorem complete_pwr (t : Nat) (r : Res) : (s.complete t r).pwr = s.pwr := by unfold State.complete; split <;> rfl
@[simp] theorem complete_mns (t : Nat) (r : Res) : (s.complete t r).mns = s.mns := by unfold State.complete; split <;> rfl
@[simp] theorem complete_cal (t : Nat) (r : Res) : (s.complete t r).cal = s.cal := by unfold State.complete; split <;> rfl
@[simp] theorem complete_start (t : Nat) (r : Res) : (s.complete t r).start = s.start := by unfold State.complete; split <;> rfl
@[simp] theorem complete_hdas (t : Nat) (r : Res) : (s.complete t r).hdas = s.hdas := by unfold State.complete; split <;> rfl
@[simp] theorem complete_mus (t : Nat) (r : Res) : (s.complete t r).mus = s.mus := by unfold State.complete; split <;> rfl
@[simp] theorem complete_store (t : Nat) (r : Res) : (s.complete t r).store = s.store := by unfold State.complete; split <;> rfl
@[simp] theorem complete_ldp (t : Nat) (r : Res) : (s.complete t r).ldp = s.ldp := by unfold State.complete; split <;> rfl
@[simp] theorem complete_eps (t : Nat) (r : Res) : (s.complete t r).eps = s.eps := by unfold State.complete; split <;> rfl
@[simp] theorem complete_dual (t : Nat) (r : Res) : (s.complete t r).dual = s.dual := by unfold State.complete; split <;> rfl
@[simp] theorem complete_feat (t : Nat) (r : Res) : (s.complete t r).feat = s.feat := by unfold State.complete; split <;> rfl
@[simp] theorem complete_owners (t : Nat) (r : Res) : (s.complete t r).owners = s.owners := by unfold State.complete; split <;> rfl
@[simp] theorem complete_mctpEid (t : Nat) (r : Res) : (s.complete t r).mctpEid = s.mctpEid := by unfold State.complete; split <;> rfl
@[simp] theorem complete_alert (t : Nat) (r : Res) : (s.complete t r).alert = s.alert := by unfold State.complete; split <;> rfl
@[simp] theorem complete_ports (t : Nat) (r : Res) : (s.complete t r).ports = s.ports := by unfold State.complete; split <;> rfl
@[simp] theorem complete_accept (t : Nat) (r : Res) : (s.complete t r).accept = s.accept := by unfold State.complete; split <;> rfl
@[simp] theorem complete_mgt (t : Nat) (r : Res) : (s.complete t r).mgt = s.mgt := by unfold State.complete; split <;> rfl
@[simp] theorem complete_buf (t : Nat) (r : Res) : (s.complete t r).buf = s.buf := by unfold State.complete; split <;> rfl
@[simp] theorem complete_bca (t : Nat) (r : Res) : (s.complete t r).bca = s.bca := by unfold State.complete; split <;> rfl
@[simp] theorem complete_vlt (t : Nat) (r : Res) : (s.complete t r).vlt = s.vlt := by unfold State.complete; split <;> rfl
@[simp] theorem complete_sec (t : Nat) (r : Res) : (s.complete t r).sec = s.sec := by unfold State.complete; split <;> rfl

theorem complete_frame (t : Nat) (r : Res) : unchangedBut [.tags, .cqs, .cmds] s (s.complete t r) := by
  intro p hp; cases p <;> first | (exact absurd (by decide) hp) | simp [Part.same]

/-! ### fireWake -/

@[simp] theorem fireWake_pending (src : Nat) : (s.fireWake src).pending = s.pending := by unfold State.fireWake; split <;> rfl
@[simp] theorem fireWake_free (src : Nat) : (s.fireWake src).free = s.free := by unfold State.fireWake; split <;> rfl
@[simp] theorem fireWake_out (src : Nat) : (s.fireWake src).out = s.out := by unfold State.fireWake; split <;> rfl
@[simp] theorem fireWake_nor (src : Nat) : (s.fireWake src).nor = s.nor := by unfold State.fireWake; split <;> rfl
@[simp] theorem fireWake_ctr (src : Nat) : (s.fireWake src).ctr = s.ctr := by unfold State.fireWake; split <;> rfl
@[simp] theorem fireWake_time (src : Nat) : (s.fireWake src).time = s.time := by unfold State.fireWake; split <;> rfl
@[simp] theorem fireWake_flt (src : Nat) : (s.fireWake src).flt = s.flt := by unfold State.fireWake; split <;> rfl
@[simp] theorem fireWake_log (src : Nat) : (s.fireWake src).log = s.log := by unfold State.fireWake; split <;> rfl
@[simp] theorem fireWake_thp (src : Nat) : (s.fireWake src).thp = s.thp := by unfold State.fireWake; split <;> rfl
@[simp] theorem fireWake_cal (src : Nat) : (s.fireWake src).cal = s.cal := by unfold State.fireWake; split <;> rfl
@[simp] theorem fireWake_start (src : Nat) : (s.fireWake src).start = s.start := by unfold State.fireWake; split <;> rfl
@[simp] theorem fireWake_hdas (src : Nat) : (s.fireWake src).hdas = s.hdas := by unfold State.fireWake; split <;> rfl
@[simp] theorem fireWake_mus (src : Nat) : (s.fireWake src).mus = s.mus := by unfold State.fireWake; split <;> rfl
@[simp] theorem fireWake_store (src : Nat) : (s.fireWake src).store = s.store := by unfold State.fireWake; split <;> rfl
@[simp] theorem fireWake_ldp (src : Nat) : (s.fireWake src).ldp = s.ldp := by unfold State.fireWake; split <;> rfl
@[simp] theorem fireWake_eps (src : Nat) : (s.fireWake src).eps = s.eps := by unfold State.fireWake; split <;> rfl
@[simp] theorem fireWake_dual (src : Nat) : (s.fireWake src).dual = s.dual := by unfold State.fireWake; split <;> rfl
@[simp] theorem fireWake_feat (src : Nat) : (s.fireWake src).feat = s.feat := by unfold State.fireWake; split <;> rfl
@[simp] theorem fireWake_owners (src : Nat) : (s.fireWake src).owners = s.owners := by unfold State.fireWake; split <;> rfl
@[simp] theorem fireWake_mctpEid (src : Nat) : (s.fireWake src).mctpEid = s.mctpEid := by unfold State.fireWake; split <;> rfl
@[simp] theorem fireWake_alert (src : Nat) : (s.fireWake src).alert = s.alert := by unfold State.fireWake; split <;> rfl
@[simp] theorem fireWake_ports (src : Nat) : (s.fireWake src).ports = s.ports := by unfold State.fireWake; split <;> rfl
@[simp] theorem fireWake_tags (src : Nat) : (s.fireWake src).tags = s.tags := by unfold State.fireWake; split <;> rfl
@[simp] theorem fireWake_cqs (src : Nat) : (s.fireWake src).cqs = s.cqs := by unfold State.fireWake; split <;> rfl
@[simp] theorem fireWake_cmds (src : Nat) : (s.fireWake src).cmds = s.cmds := by unfold State.fireWake; split <;> rfl
@[simp] theorem fireWake_accept (src : Nat) : (s.fireWake src).accept = s.accept := by unfold State.fireWake; split <;> rfl
@[simp] theorem fireWake_mgt (src : Nat) : (s.fireWake src).mgt = s.mgt := by unfold State.fireWake; split <;> rfl
@[simp] theorem fireWake_buf (src : Nat) : (s.fireWake src).buf = s.buf := by unfold State.fireWake; split <;> rfl
@[simp] theorem fireWake_bca (src : Nat) : (s.fireWake src).bca = s.bca := by unfold State.fireWake; split <;> rfl
@[simp] theorem fireWake_vlt (src : Nat) : (s.fireWake src).vlt = s.vlt := by unfold State.fireWake; split <;> rfl
@[simp] theorem fireWake_sec (src : Nat) : (s.fireWake src).sec = s.sec := by unfold State.fireWake; split <;> rfl

theorem fireWake_frame (src : Nat) : unchangedBut [.pwr, .mns] s (s.fireWake src) := by
  intro p hp; cases p <;> first | (exact absurd (by decide) hp) | simp [Part.same]

/-! ### unwrite -/

@[simp] theorem unwrite_pending (t : Nat) : (s.unwrite t).pending = s.pending := by unfold State.unwrite; dsimp only; split; (split <;> rfl); rfl
@[simp] theorem unwrite_free (t : Nat) : (s.unwrite t).free = s.free := by unfold State.unwrite; dsimp only; split; (split <;> rfl); rfl
@[simp] theorem unwrite_out (t : Nat) : (s.unwrite t).out = s.out := by unfold State.unwrite; dsimp only; split; (split <;> rfl); rfl
@[simp] theorem unwrite_nor (t : Nat) : (s.unwrite t).nor = s.nor := by unfold State.unwrite; dsimp only; split; (split <;> rfl); rfl
@[simp] theorem unwrite_ctr (t : Nat) : (s.unwrite t).ctr = s.ctr := by unfold State.unwrite; dsimp only; split; (split <;> rfl); rfl
@[simp] theorem unwrite_time (t : Nat) : (s.unwrite t).time = s.time := by unfold State.unwrite; dsimp only; split; (split <;> rfl); rfl
@[simp] theorem unwrite_flt (t : Nat) : (s.unwrite t).flt = s.flt := by unfold State.unwrite; dsimp only; split; (split <;> rfl); rfl
@[simp] theorem unwrite_log (t : Nat) : (s.unwrite t).log = s.log := by unfold State.unwrite; dsimp only; split; (split <;> rfl); rfl
@[simp] theorem unwrite_thp (t : Nat) : (s.unwrite t).thp = s.thp := by unfold State.unwrite; dsimp only; split; (split <;> rfl); rfl
@[simp] theorem unwrite_pwr (t : Nat) : (s.unwrite t).pwr = s.pwr := by unfold State.unwrite; dsimp only; split; (split <;> rfl); rfl
@[simp] theorem unwrite_mns (t : Nat) : (s.unwrite t).mns = s.mns := by unfold State.unwrite; dsimp only; split; (split <;> rfl); rfl
@[simp] theorem unwrite_cal (t : Nat) : (s.unwrite t).cal = s.cal := by unfold State.unwrite; dsimp only; split; (split <;> rfl); rfl
@[simp] theorem unwrite_start (t : Nat) : (s.unwrite t).start = s.start := by unfold State.unwrite; dsimp only; split; (split <;> rfl); rfl
@[simp] theorem unwrite_hdas (t : Nat) : (s.unwrite t).hdas = s.hdas := by unfold State.unwrite; dsimp only; split; (split <;> rfl); rfl
@[simp] theorem unwrite_store (t : Nat) : (s.unwrite t).store = s.store := by unfold State.unwrite; dsimp only; split; (split <;> rfl); rfl
@[simp] theorem unwrite_ldp (t : Nat) : (s.unwrite t).ldp = s.ldp := by unfold State.unwrite; dsimp only; split; (split <;> rfl); rfl
@[simp] theorem unwrite_eps (t : Nat) : (s.unwrite t).eps = s.eps := by unfold State.unwrite; dsimp only; split; (split <;> rfl); rfl
@[simp] theorem unwrite_dual (t : Nat) : (s.unwrite t).dual = s.dual := by unfold State.unwrite; dsimp only; split; (split <;> rfl); rfl
@[simp] theorem unwrite_feat (t : Nat) : (s.unwrite t).feat = s.feat := by unfold State.unwrite; dsimp only; split; (split <;> rfl); rfl
@[simp] theorem unwrite_owners (t : Nat) : (s.unwrite t).owners = s.owners := by unfold State.unwrite; dsimp only; split; (split <;> rfl); rfl
@[simp] theorem unwrite_mctpEid (t : Nat) : (s.unwrite t).mctpEid = s.mctpEid := by unfold State.unwrite; dsimp only; split; (split <;> rfl); rfl
@[simp] theorem unwrite_alert (t : Nat) : (s.unwrite t).alert = s.alert := by unfold State.unwrite; dsimp only; split; (split <;> rfl); rfl
@[simp] theorem unwrite_ports (t : Nat) : (s.unwrite t).ports = s.ports := by unfold State.unwrite; dsimp only; split; (split <;> rfl); rfl
@[simp] theorem unwrite_tags (t : Nat) : (s.unwrite t).tags = s.tags := by unfold State.unwrite; dsimp only; split; (split <;> rfl); rfl
@[simp] theorem unwrite_cqs (t : Nat) : (s.unwrite t).cqs = s.cqs := by unfold State.unwrite; dsimp only; split; (split <;> rfl); rfl
@[simp] theorem unwrite_cmds (t : Nat) : (s.unwrite t).cmds = s.cmds := by unfold State.unwrite; dsimp only; split; (split <;> rfl); rfl
@[simp] theorem unwrite_accept (t : Nat) : (s.unwrite t).accept = s.accept := by unfold State.unwrite; dsimp only; split; (split <;> rfl); rfl
@[simp] theorem unwrite_mgt (t : Nat) : (s.unwrite t).mgt = s.mgt := by unfold State.unwrite; dsimp only; split; (split <;> rfl); rfl
@[simp] theorem unwrite_buf (t : Nat) : (s.unwrite t).buf = s.buf := by unfold State.unwrite; dsimp only; split; (split <;> rfl); rfl
@[simp] theorem unwrite_vlt (t : Nat) : (s.unwrite t).vlt = s.vlt := by unfold State.unwrite; dsimp only; split; (split <;> rfl); rfl
@[simp] theorem unwrite_sec (t : Nat) : (s.unwrite t).sec = s.sec := by unfold State.unwrite; dsimp only; split; (split <;> rfl); rfl

theorem unwrite_frame (t : Nat) : unchangedBut [.mus, .bca] s (s.unwrite t) := by
  intro p hp; cases p <;> first | (exact absurd (by decide) hp) | simp [Part.same]

/-! ### dropWriter -/

@[simp] theorem dropWriter_pending (t : Nat) : (s.dropWriter t).pending = s.pending := rfl
@[simp] theorem dropWriter_free (t : Nat) : (s.dropWriter t).free = s.free := rfl
@[simp] theorem dropWriter_out (t : Nat) : (s.dropWriter t).out = s.out := rfl
@[simp] theorem dropWriter_nor (t : Nat) : (s.dropWriter t).nor = s.nor := rfl
@[simp] theorem dropWriter_ctr (t : Nat) : (s.dropWriter t).ctr = s.ctr := rfl
@[simp] theorem dropWriter_time (t : Nat) : (s.dropWriter t).time = s.time := rfl
@[simp] theorem dropWriter_flt (t : Nat) : (s.dropWriter t).flt = s.flt := rfl
@[simp] theorem dropWriter_log (t : Nat) : (s.dropWriter t).log = s.log := rfl
@[simp] theorem dropWriter_thp (t : Nat) : (s.dropWriter t).thp = s.thp := rfl
@[simp] theorem dropWriter_pwr (t : Nat) : (s.dropWriter t).pwr = s.pwr := rfl
@[simp] theorem dropWriter_mns (t : Nat) : (s.dropWriter t).mns = s.mns := rfl
@[simp] theorem dropWriter_cal (t : Nat) : (s.dropWriter t).cal = s.cal := rfl
@[simp] theorem dropWriter_start (t : Nat) : (s.dropWriter t).start = s.start := rfl
@[simp] theorem dropWriter_hdas (t : Nat) : (s.dropWriter t).hdas = s.hdas := rfl
@[simp] theorem dropWriter_mus (t : Nat) : (s.dropWriter t).mus = s.mus := rfl
@[simp] theorem dropWriter_store (t : Nat) : (s.dropWriter t).store = s.store := rfl
@[simp] theorem dropWriter_ldp (t : Nat) : (s.dropWriter t).ldp = s.ldp := rfl
@[simp] theorem dropWriter_eps (t : Nat) : (s.dropWriter t).eps = s.eps := rfl
@[simp] theorem dropWriter_dual (t : Nat) : (s.dropWriter t).dual = s.dual := rfl
@[simp] theorem dropWriter_feat (t : Nat) : (s.dropWriter t).feat = s.feat := rfl
@[simp] theorem dropWriter_owners (t : Nat) : (s.dropWriter t).owners = s.owners := rfl
@[simp] theorem dropWriter_mctpEid (t : Nat) : (s.dropWriter t).mctpEid = s.mctpEid := rfl
@[simp] theorem dropWriter_alert (t : Nat) : (s.dropWriter t).alert = s.alert := rfl
@[simp] theorem dropWriter_ports (t : Nat) : (s.dropWriter t).ports = s.ports := rfl
@[simp] theorem dropWriter_tags (t : Nat) : (s.dropWriter t).tags = s.tags := rfl
@[simp] theorem dropWriter_cqs (t : Nat) : (s.dropWriter t).cqs = s.cqs := rfl
@[simp] theorem dropWriter_cmds (t : Nat) : (s.dropWriter t).cmds = s.cmds := rfl
@[simp] theorem dropWriter_accept (t : Nat) : (s.dropWriter t).accept = s.accept := rfl
@[simp] theorem dropWriter_mgt (t : Nat) : (s.dropWriter t).mgt = s.mgt := rfl
@[simp] theorem dropWriter_buf (t : Nat) : (s.dropWriter t).buf = s.buf := rfl
@[simp] theorem dropWriter_vlt (t : Nat) : (s.dropWriter t).vlt = s.vlt := rfl
@[simp] theorem dropWriter_sec (t : Nat) : (s.dropWriter t).sec = s.sec := rfl

theorem dropWriter_frame (t : Nat) : unchangedBut [.bca] s (s.dropWriter t) := by
  intro p hp; cases p <;> first | (exact absurd (by decide) hp) | simp [Part.same]

/-! ### orphaned -/

@[simp] theorem orphaned_pending (t : Nat) : (s.orphaned t).pending = s.pending := by unfold State.orphaned; dsimp only; split <;> rfl
@[simp] theorem orphaned_free (t : Nat) : (s.orphaned t).free = s.free := by unfold State.orphaned; dsimp only; split <;> rfl
@[simp] theorem orphaned_out (t : Nat) : (s.orphaned t).out = s.out := by unfold State.orphaned; dsimp only; split <;> rfl
@[simp] theorem orphaned_nor (t : Nat) : (s.orphaned t).nor = s.nor := by unfold State.orphaned; dsimp only; split <;> rfl
@[simp] theorem orphaned_ctr (t : Nat) : (s.orphaned t).ctr = s.ctr := by unfold State.orphaned; dsimp only; split <;> rfl
@[simp] theorem orphaned_time (t : Nat) : (s.orphaned t).time = s.time := by unfold State.orphaned; dsimp only; split <;> rfl
@[simp] theorem orphaned_flt (t : Nat) : (s.orphaned t).flt = s.flt := by unfold State.orphaned; dsimp only; split <;> rfl
@[simp] theorem orphaned_log (t : Nat) : (s.orphaned t).log = s.log := by unfold State.orphaned; dsimp only; split <;> rfl
@[simp] theorem orphaned_thp (t : Nat) : (s.orphaned t).thp = s.thp := by unfold State.orphaned; dsimp only; split <;> rfl
@[simp] theorem orphaned_pwr (t : Nat) : (s.orphaned t).pwr = s.pwr := by unfold State.orphaned; dsimp only; split <;> rfl
@[simp] theorem orphaned_mns (t : Nat) : (s.orphaned t).mns = s.mns := by unfold State.orphaned; dsimp only; split <;> rfl
@[simp] theorem orphaned_cal (t : Nat) : (s.orphaned t).cal = s.cal := by unfold State.orphaned; dsimp only; split <;> rfl
@[simp] theorem orphaned_start (t : Nat) : (s.orphaned t).start = s.start := by unfold State.orphaned; dsimp only; split <;> rfl
@[simp] theorem orphaned_hdas (t : Nat) : (s.orphaned t).hdas = s.hdas := by unfold State.orphaned; dsimp only; split <;> rfl
@[simp] theorem orphaned_store (t : Nat) : (s.orphaned t).store = s.store := by unfold State.orphaned; dsimp only; split <;> rfl
@[simp] theorem orphaned_ldp (t : Nat) : (s.orphaned t).ldp = s.ldp := by unfold State.orphaned; dsimp only; split <;> rfl
@[simp] theorem orphaned_eps (t : Nat) : (s.orphaned t).eps = s.eps := by unfold State.orphaned; dsimp only; split <;> rfl
@[simp] theorem orphaned_dual (t : Nat) : (s.orphaned t).dual = s.dual := by unfold State.orphaned; dsimp only; split <;> rfl
@[simp] theorem orphaned_feat (t : Nat) : (s.orphaned t).feat = s.feat := by unfold State.orphaned; dsimp only; split <;> rfl
@[simp] theorem orphaned_owners (t : Nat) : (s.orphaned t).owners = s.owners := by unfold State.orphaned; dsimp only; split <;> rfl
@[simp] theorem orphaned_mctpEid (t : Nat) : (s.orphaned t).mctpEid = s.mctpEid := by unfold State.orphaned; dsimp only; split <;> rfl
@[simp] theorem orphaned_alert (t : Nat) : (s.orphaned t).alert = s.alert := by unfold State.orphaned; dsimp only; split <;> rfl
@[simp] theorem orphaned_ports (t : Nat) : (s.orphaned t).ports = s.ports := by unfold State.orphaned; dsimp only; split <;> rfl
@[simp] theorem orphaned_tags (t : Nat) : (s.orphaned t).tags = s.tags := by unfold State.orphaned; dsimp only; split <;> rfl
@[simp] theorem orphaned_cqs (t : Nat) : (s.orphaned t).cqs = s.cqs := by unfold State.orphaned; dsimp only; split <;> rfl
@[simp] theorem orphaned_cmds (t : Nat) : (s.orphaned t).cmds = s.cmds := by unfold State.orphaned; dsimp only; split <;> rfl
@[simp] theorem orphaned_accept (t : Nat) : (s.orphaned t).accept = s.accept := by unfold State.orphaned; dsimp only; split <;> rfl
@[simp] theorem orphaned_buf (t : Nat) : (s.orphaned t).buf = s.buf := by unfold State.orphaned; dsimp only; split <;> rfl
@[simp] theorem orphaned_bca (t : Nat) : (s.orphaned t).bca = s.bca := by unfold State.orphaned; dsimp only; split <;> rfl
@[simp] theorem orphaned_vlt (t : Nat) : (s.orphaned t).vlt = s.vlt := by unfold State.orphaned; dsimp only; split <;> rfl
@[simp] theorem orphaned_sec (t : Nat) : (s.orphaned t).sec = s.sec := by unfold State.orphaned; dsimp only; split <;> rfl

theorem orphaned_frame (t : Nat) : unchangedBut [.mus, .mgt] s (s.orphaned t) := by
  intro p hp; cases p <;> first | (exact absurd (by decide) hp) | simp [Part.same]

/-! ### letGo -/

@[simp] theorem letGo_pending (t : Nat) : (s.letGo t).pending = s.pending := by simp [State.letGo]
@[simp] theorem letGo_free (t : Nat) : (s.letGo t).free = s.free := by simp [State.letGo]
@[simp] theorem letGo_out (t : Nat) : (s.letGo t).out = s.out := by simp [State.letGo]
@[simp] theorem letGo_nor (t : Nat) : (s.letGo t).nor = s.nor := by simp [State.letGo]
@[simp] theorem letGo_ctr (t : Nat) : (s.letGo t).ctr = s.ctr := by simp [State.letGo]
@[simp] theorem letGo_time (t : Nat) : (s.letGo t).time = s.time := by simp [State.letGo]
@[simp] theorem letGo_flt (t : Nat) : (s.letGo t).flt = s.flt := by simp [State.letGo]
@[simp] theorem letGo_thp (t : Nat) : (s.letGo t).thp = s.thp := by simp [State.letGo]
@[simp] theorem letGo_start (t : Nat) : (s.letGo t).start = s.start := by simp [State.letGo]
@[simp] theorem letGo_ldp (t : Nat) : (s.letGo t).ldp = s.ldp := by simp [State.letGo]
@[simp] theorem letGo_eps (t : Nat) : (s.letGo t).eps = s.eps := by simp [State.letGo]
@[simp] theorem letGo_dual (t : Nat) : (s.letGo t).dual = s.dual := by simp [State.letGo]
@[simp] theorem letGo_feat (t : Nat) : (s.letGo t).feat = s.feat := by simp [State.letGo]
@[simp] theorem letGo_owners (t : Nat) : (s.letGo t).owners = s.owners := by simp [State.letGo]
@[simp] theorem letGo_mctpEid (t : Nat) : (s.letGo t).mctpEid = s.mctpEid := by simp [State.letGo]
@[simp] theorem letGo_alert (t : Nat) : (s.letGo t).alert = s.alert := by simp [State.letGo]
@[simp] theorem letGo_ports (t : Nat) : (s.letGo t).ports = s.ports := by simp [State.letGo]
@[simp] theorem letGo_tags (t : Nat) : (s.letGo t).tags = s.tags := by simp [State.letGo]
@[simp] theorem letGo_cqs (t : Nat) : (s.letGo t).cqs = s.cqs := by simp [State.letGo]
@[simp] theorem letGo_cmds (t : Nat) : (s.letGo t).cmds = s.cmds := by simp [State.letGo]
@[simp] theorem letGo_accept (t : Nat) : (s.letGo t).accept = s.accept := by simp [State.letGo]
@[simp] theorem letGo_vlt (t : Nat) : (s.letGo t).vlt = s.vlt := by simp [State.letGo]
@[simp] theorem letGo_sec (t : Nat) : (s.letGo t).sec = s.sec := by simp [State.letGo]

theorem letGo_frame (t : Nat) : unchangedBut [.log, .pwr, .mns, .cal, .hdas, .mus, .store, .mgt, .buf, .bca] s (s.letGo t) := by
  intro p hp; cases p <;> first | (exact absurd (by decide) hp) | simp [Part.same]

/-! ### endWith -/

@[simp] theorem endWith_pending (t : Nat) (r : Res) : (s.endWith t r).pending = s.pending := by simp [State.endWith]
@[simp] theorem endWith_free (t : Nat) (r : Res) : (s.endWith t r).free = s.free := by simp [State.endWith]
@[simp] theorem endWith_out (t : Nat) (r : Res) : (s.endWith t r).out = s.out := by simp [State.endWith]
@[simp] theorem endWith_nor (t : Nat) (r : Res) : (s.endWith t r).nor = s.nor := by simp [State.endWith]
@[simp] theorem endWith_ctr (t : Nat) (r : Res) : (s.endWith t r).ctr = s.ctr := by simp [State.endWith]
@[simp] theorem endWith_time (t : Nat) (r : Res) : (s.endWith t r).time = s.time := by simp [State.endWith]
@[simp] theorem endWith_flt (t : Nat) (r : Res) : (s.endWith t r).flt = s.flt := by simp [State.endWith]
@[simp] theorem endWith_thp (t : Nat) (r : Res) : (s.endWith t r).thp = s.thp := by simp [State.endWith]
@[simp] theorem endWith_start (t : Nat) (r : Res) : (s.endWith t r).start = s.start := by simp [State.endWith]
@[simp] theorem endWith_ldp (t : Nat) (r : Res) : (s.endWith t r).ldp = s.ldp := by simp [State.endWith]
@[simp] theorem endWith_eps (t : Nat) (r : Res) : (s.endWith t r).eps = s.eps := by simp [State.endWith]
@[simp] theorem endWith_dual (t : Nat) (r : Res) : (s.endWith t r).dual = s.dual := by simp [State.endWith]
@[simp] theorem endWith_feat (t : Nat) (r : Res) : (s.endWith t r).feat = s.feat := by simp [State.endWith]
@[simp] theorem endWith_owners (t : Nat) (r : Res) : (s.endWith t r).owners = s.owners := by simp [State.endWith]
@[simp] theorem endWith_mctpEid (t : Nat) (r : Res) : (s.endWith t r).mctpEid = s.mctpEid := by simp [State.endWith]
@[simp] theorem endWith_alert (t : Nat) (r : Res) : (s.endWith t r).alert = s.alert := by simp [State.endWith]
@[simp] theorem endWith_ports (t : Nat) (r : Res) : (s.endWith t r).ports = s.ports := by simp [State.endWith]
@[simp] theorem endWith_accept (t : Nat) (r : Res) : (s.endWith t r).accept = s.accept := by simp [State.endWith]
@[simp] theorem endWith_vlt (t : Nat) (r : Res) : (s.endWith t r).vlt = s.vlt := by simp [State.endWith]
@[simp] theorem endWith_sec (t : Nat) (r : Res) : (s.endWith t r).sec = s.sec := by simp [State.endWith]

theorem endWith_frame (t : Nat) (r : Res) : unchangedBut [.log, .pwr, .mns, .cal, .hdas, .mus, .store, .tags, .cqs, .cmds, .mgt, .buf, .bca] s (s.endWith t r) := by
  intro p hp; cases p <;> first | (exact absurd (by decide) hp) | simp [Part.same]

/-! ### discard -/

@[simp] theorem discard_pending (t : Nat) : (s.discard t).pending = s.pending := by simp [State.discard]
@[simp] theorem discard_free (t : Nat) : (s.discard t).free = s.free := by simp [State.discard]
@[simp] theorem discard_out (t : Nat) : (s.discard t).out = s.out := by simp [State.discard]
@[simp] theorem discard_nor (t : Nat) : (s.discard t).nor = s.nor := by simp [State.discard]
@[simp] theorem discard_ctr (t : Nat) : (s.discard t).ctr = s.ctr := by simp [State.discard]
@[simp] theorem discard_time (t : Nat) : (s.discard t).time = s.time := by simp [State.discard]
@[simp] theorem discard_flt (t : Nat) : (s.discard t).flt = s.flt := by simp [State.discard]
@[simp] theorem discard_thp (t : Nat) : (s.discard t).thp = s.thp := by simp [State.discard]
@[simp] theorem discard_start (t : Nat) : (s.discard t).start = s.start := by simp [State.discard]
@[simp] theorem discard_ldp (t : Nat) : (s.discard t).ldp = s.ldp := by simp [State.discard]
@[simp] theorem discard_eps (t : Nat) : (s.discard t).eps = s.eps := by simp [State.discard]
@[simp] theorem discard_dual (t : Nat) : (s.discard t).dual = s.dual := by simp [State.discard]
@[simp] theorem discard_feat (t : Nat) : (s.discard t).feat = s.feat := by simp [State.discard]
@[simp] theorem discard_owners (t : Nat) : (s.discard t).owners = s.owners := by simp [State.discard]
@[simp] theorem discard_mctpEid (t : Nat) : (s.discard t).mctpEid = s.mctpEid := by simp [State.discard]
@[simp] theorem discard_alert (t : Nat) : (s.discard t).alert = s.alert := by simp [State.discard]
@[simp] theorem discard_ports (t : Nat) : (s.discard t).ports = s.ports := by simp [State.discard]
@[simp] theorem discard_tags (t : Nat) : (s.discard t).tags = s.tags := by simp [State.discard]
@[simp] theorem discard_cqs (t : Nat) : (s.discard t).cqs = s.cqs := by simp [State.discard]
@[simp] theorem discard_accept (t : Nat) : (s.discard t).accept = s.accept := by simp [State.discard]
@[simp] theorem discard_vlt (t : Nat) : (s.discard t).vlt = s.vlt := by simp [State.discard]
@[simp] theorem discard_sec (t : Nat) : (s.discard t).sec = s.sec := by simp [State.discard]

theorem discard_frame (t : Nat) : unchangedBut [.log, .pwr, .mns, .cal, .hdas, .mus, .store, .cmds, .mgt, .buf, .bca] s (s.discard t) := by
  intro p hp; cases p <;> first | (exact absurd (by decide) hp) | simp [Part.same]

/-! ### Frames -/

theorem unchangedBut.refl (ps : List Part) : unchangedBut ps s s := by
  intro p _; cases p <;> rfl

theorem unchangedBut.trans {ps : List Part} {s t u : State} (h : unchangedBut ps s t) (k : unchangedBut ps t u) : unchangedBut ps s u := by
  intro p hp
  have a := h p hp
  have b := k p hp
  cases p <;> exact Eq.trans b a

theorem unchangedBut.mono {ps qs : List Part} {s t : State} (h : unchangedBut ps s t) (hq : ∀ p ∈ ps, p ∈ qs) : unchangedBut qs s t :=
  fun p hp => h p fun c => hp (hq p c)

theorem unchangedBut.foldl {α : Type} {ps : List Part} (f : State → α → State) (h : ∀ s a, unchangedBut ps s (f s a)) (l : List α) (s : State) :
    unchangedBut ps s (l.foldl f s) := by
  induction l generalizing s with
  | nil => exact unchangedBut.refl s ps
  | cons a r ih => exact (h s a).trans (ih (f s a))

/-! ### What every operation keeps -/

/-- From `s` to `t` the queue stays, SVN_MIN and the fuses of revoked keys do not fall, and the canonical form stays. -/
def Keeps (s t : State) : Prop :=
  t.pending = s.pending ∧ s.nor.svnMin ≤ t.nor.svnMin ∧ (∀ i, s.nor.revoked.getLsbD i = true → t.nor.revoked.getLsbD i = true) ∧
  (s.canonical = true → t.canonical = true)

theorem Keeps.refl : Keeps s s := ⟨rfl, Nat.le_refl _, fun _ h => h, fun h => h⟩

theorem Keeps.trans {s t u : State} (h : Keeps s t) (k : Keeps t u) : Keeps s u :=
  ⟨k.1.trans h.1, Nat.le_trans h.2.1 k.2.1, fun i c => k.2.2.1 i (h.2.2.1 i c), fun c => k.2.2.2 (h.2.2.2 c)⟩

theorem Keeps.foldl {α : Type} (f : State → α → State) (h : ∀ s a, Keeps s (f s a)) (l : List α) (s : State) : Keeps s (l.foldl f s) := by
  induction l generalizing s with
  | nil => exact Keeps.refl s
  | cons a r ih => exact (h s a).trans (ih (f s a))

theorem Keeps.ite {s t u : State} {c : Prop} [Decidable c] (h : Keeps s t) (k : Keeps s u) : Keeps s (if c then t else u) := by
  split
  · exact h
  · exact k

/-- A change outside NOR and the stores of the canonical form. -/
theorem Keeps.of_same {s t : State} (a : t.pending = s.pending) (b : t.nor.svnMin = s.nor.svnMin) (c : t.nor.revoked = s.nor.revoked)
    (d : t.nor.ctr = s.nor.ctr) (e : t.tags = s.tags) (f : t.cmds = s.cmds) (g : t.cqs = s.cqs) (h : t.eps = s.eps) (i : t.hdas = s.hdas)
    (j : t.mus = s.mus) (k : t.ctr = s.ctr) : Keeps s t :=
  ⟨a, Nat.le_of_eq b.symm, fun _ h => by rwa [c], by simp [State.canonical, d, e, f, g, h, i, j, k]⟩

theorem updHda_keeps (k : Nat) (f : Hda → Hda) : Keeps s (s.updHda k f) :=
  ⟨rfl, Nat.le_refl _, fun _ h => h, fun c => by
    simp only [State.canonical, State.updHda, Bool.and_eq_true] at c ⊢
    obtain ⟨⟨⟨⟨⟨⟨⟨h1, h2⟩, h3⟩, h4⟩, h5⟩, h6⟩, h7⟩, h8⟩ := c
    exact ⟨⟨⟨⟨⟨⟨⟨h1, h2⟩, h3⟩, h4⟩, swf_supd _ _ _ _ h5⟩, h6⟩, h7⟩, h8⟩⟩

theorem updMu_keeps (m : Nat) (f : Mu → Mu) : Keeps s (s.updMu m f) :=
  ⟨rfl, Nat.le_refl _, fun _ h => h, fun c => by
    simp only [State.canonical, State.updMu, Bool.and_eq_true] at c ⊢
    obtain ⟨⟨⟨⟨⟨⟨⟨h1, h2⟩, h3⟩, h4⟩, h5⟩, h6⟩, h7⟩, h8⟩ := c
    exact ⟨⟨⟨⟨⟨⟨⟨h1, h2⟩, h3⟩, h4⟩, h5⟩, swf_supd _ _ _ _ h6⟩, h7⟩, h8⟩⟩

theorem updEp_keeps (e : Nat) (f : Endpoint → Endpoint) : Keeps s (s.updEp e f) :=
  ⟨rfl, Nat.le_refl _, fun _ h => h, fun c => by
    simp only [State.canonical, State.updEp, Bool.and_eq_true] at c ⊢
    obtain ⟨⟨⟨⟨⟨⟨⟨h1, h2⟩, h3⟩, h4⟩, h5⟩, h6⟩, h7⟩, h8⟩ := c
    exact ⟨⟨⟨⟨⟨⟨⟨h1, h2⟩, h3⟩, swf_supd _ _ _ _ h4⟩, h5⟩, h6⟩, h7⟩, h8⟩⟩

theorem updCmd_keeps (t : Nat) (f : Cmd → Cmd) : Keeps s (s.updCmd t f) :=
  ⟨rfl, Nat.le_refl _, fun _ h => h, fun c => by
    simp only [State.canonical, State.updCmd, Bool.and_eq_true] at c ⊢
    obtain ⟨⟨⟨⟨⟨⟨⟨h1, h2⟩, h3⟩, h4⟩, h5⟩, h6⟩, h7⟩, h8⟩ := c
    exact ⟨⟨⟨⟨⟨⟨⟨h1, swf_supd _ _ _ _ h2⟩, h3⟩, h4⟩, h5⟩, h6⟩, h7⟩, h8⟩⟩

theorem setTag_keeps (t : Nat) (r : TagRec) : Keeps s (s.setTag t r) :=
  ⟨rfl, Nat.le_refl _, fun _ h => h, fun c => by
    simp only [State.canonical, State.setTag, Bool.and_eq_true] at c ⊢
    obtain ⟨⟨⟨⟨⟨⟨⟨h1, h2⟩, h3⟩, h4⟩, h5⟩, h6⟩, h7⟩, h8⟩ := c
    exact ⟨⟨⟨⟨⟨⟨⟨swf_sset _ _ _ _ h1, h2⟩, h3⟩, h4⟩, h5⟩, h6⟩, h7⟩, h8⟩⟩

theorem updCq_keeps (q : Nat) (f : Cq → Cq) : Keeps s (s.updCq q f) :=
  ⟨rfl, Nat.le_refl _, fun _ h => h, fun c => by
    simp only [State.canonical, State.updCq, Bool.and_eq_true] at c ⊢
    obtain ⟨⟨⟨⟨⟨⟨⟨h1, h2⟩, h3⟩, h4⟩, h5⟩, h6⟩, h7⟩, h8⟩ := c
    exact ⟨⟨⟨⟨⟨⟨⟨h1, h2⟩, swf_supd _ _ _ _ h3⟩, h4⟩, h5⟩, h6⟩, h7⟩, h8⟩⟩

theorem bumpRaw_keeps (a w n : Nat) : Keeps s (s.bumpRaw a w n) :=
  ⟨rfl, Nat.le_refl _, fun _ h => h, fun c => by
    simp only [State.canonical, State.bumpRaw, Bool.and_eq_true] at c ⊢
    obtain ⟨⟨⟨⟨⟨⟨⟨h1, h2⟩, h3⟩, h4⟩, h5⟩, h6⟩, h7⟩, h8⟩ := c
    exact ⟨⟨⟨⟨⟨⟨⟨h1, h2⟩, h3⟩, h4⟩, h5⟩, h6⟩, swf_supd _ _ _ _ h7⟩, h8⟩⟩

theorem updPort_keeps (m : Nat) (f : Port → Port) : Keeps s (s.updPort m f) := Keeps.of_same rfl rfl rfl rfl rfl rfl rfl rfl rfl rfl rfl
theorem emit_keeps (x : Output) : Keeps s (s.emit x) := Keeps.of_same rfl rfl rfl rfl rfl rfl rfl rfl rfl rfl rfl
theorem offerRaw_keeps (e : Ev) : Keeps s (s.offerRaw e) := Keeps.of_same rfl rfl rfl rfl rfl rfl rfl rfl rfl rfl rfl
theorem draw_keeps : Keeps s s.draw.2 := Keeps.of_same rfl rfl rfl rfl rfl rfl rfl rfl rfl rfl rfl
theorem updZone_keeps (v z : Nat) (f : Zone → Zone) : Keeps s (s.updZone v z f) := updMu_keeps s v _
theorem setPhase_keeps (t : Nat) (p : Phase) : Keeps s (s.setPhase t p) := updCmd_keeps s t _

theorem pressure_keeps : Keeps s s.pressure := by
  unfold State.pressure
  exact Keeps.ite ((bumpRaw_keeps s _ _ _).trans (offerRaw_keeps _ _)) (bumpRaw_keeps s _ _ _)

theorem offer_keeps (e : Ev) : Keeps s (s.offer e) := by
  unfold State.offer
  exact (Keeps.ite (pressure_keeps s) (Keeps.refl s)).trans (offerRaw_keeps _ e)

theorem bumpW_keeps (sub inst a w n : Nat) : Keeps s (s.bumpW sub inst a w n) := by
  unfold State.bumpW
  exact Keeps.ite ((bumpRaw_keeps s _ _ _).trans (offer_keeps _ _)) (bumpRaw_keeps s _ _ _)

theorem bump_keeps (sub inst a n : Nat) : Keeps s (s.bump sub inst a n) := bumpW_keeps s sub inst a 31 n
theorem raise_keeps (sub inst k a : Nat) : Keeps s (s.raise sub inst k a) := offer_keeps s _

theorem latentFail_keeps (sub inst t part : Nat) : Keeps s (s.latentFail sub inst t part) :=
  Keeps.trans (t := { s with flt := { s.flt with latent := s.flt.latent ||| (1#9 <<< (t - 1)) } })
    (Keeps.of_same rfl rfl rfl rfl rfl rfl rfl rfl rfl rfl rfl) (raise_keeps _ _ _ _ _)

theorem latentPass_keeps (t : Nat) : Keeps s (s.latentPass t) := Keeps.of_same rfl rfl rfl rfl rfl rfl rfl rfl rfl rfl rfl

theorem logQueue_keeps (r : LogRec) : Keeps s (s.logQueue r) := by
  unfold State.logQueue
  split
  · exact Keeps.of_same rfl rfl rfl rfl rfl rfl rfl rfl rfl rfl rfl
  · exact Keeps.trans (Keeps.of_same rfl rfl rfl rfl rfl rfl rfl rfl rfl rfl rfl) (bump_keeps _ _ _ _ _)

theorem logMark_keeps (r : LogRec) : Keeps s (s.logMark r) := by
  unfold State.logMark
  exact Keeps.ite (logQueue_keeps s r) (Keeps.of_same rfl rfl rfl rfl rfl rfl rfl rfl rfl rfl rfl)

theorem noticeTo_keeps (e : Entry) (l : List Nat) : Keeps s (s.noticeTo e l) := by
  induction l generalizing s with
  | nil => exact Keeps.refl s
  | cons q r ih => exact (updCq_keeps s q _).trans (ih _)

theorem notice_keeps (scope code r0 r1 r2 status : Nat) (defer : Bool) : Keeps s (s.notice scope code r0 r1 r2 status defer) := noticeTo_keeps s _ _

theorem post_keeps (t q port : Nat) (r : Res) : Keeps s (s.post t q port r) := (setTag_keeps s t _).trans (updCq_keeps _ q _)

theorem complete_keeps (t : Nat) (r : Res) : Keeps s (s.complete t r) := by
  unfold State.complete
  split
  · exact (post_keeps s _ _ _ _).trans (updCmd_keeps _ t fun _ => {})
  · exact Keeps.refl s

theorem fireWake_keeps (src : Nat) : Keeps s (s.fireWake src) := by
  unfold State.fireWake
  exact Keeps.ite (Keeps.of_same rfl rfl rfl rfl rfl rfl rfl rfl rfl rfl rfl) (Keeps.refl s)

theorem forget_keeps (t : Nat) : Keeps s (s.forget t) :=
  ⟨rfl, Nat.le_refl _, fun _ h => h, fun h => by
    simp only [State.canonical, State.forget, Bool.and_eq_true] at h ⊢
    obtain ⟨⟨⟨⟨⟨⟨⟨h1, h2⟩, h3⟩, h4⟩, h5⟩, h6⟩, h7⟩, h8⟩ := h
    exact ⟨⟨⟨⟨⟨⟨⟨h1, h2⟩, h3⟩, h4⟩, swf_smap _ _ _ h5⟩, swf_smap _ _ _ h6⟩, h7⟩, h8⟩⟩

theorem unwrite_keeps (t : Nat) : Keeps s (s.unwrite t) := by
  unfold State.unwrite
  have k (b : Bca) : Keeps s { s with bca := b } := Keeps.of_same rfl rfl rfl rfl rfl rfl rfl rfl rfl rfl rfl
  dsimp only
  split
  · split
    · exact (k _).trans (updZone_keeps _ _ _ _)
    · exact k _
  · exact Keeps.refl s

theorem dropWriter_keeps (t : Nat) : Keeps s (s.dropWriter t) := Keeps.of_same rfl rfl rfl rfl rfl rfl rfl rfl rfl rfl rfl

theorem orphaned_keeps (t : Nat) : Keeps s (s.orphaned t) := by
  unfold State.orphaned
  dsimp only
  exact Keeps.ite (Keeps.trans (Keeps.of_same rfl rfl rfl rfl rfl rfl rfl rfl rfl rfl rfl) (updMu_keeps _ _ _)) (Keeps.refl s)

theorem letGo_keeps (t : Nat) : Keeps s (s.letGo t) := ((unwrite_keeps s t).trans (dropWriter_keeps _ t)).trans (forget_keeps _ t)

theorem endWith_keeps (t : Nat) (r : Res) : Keeps s (s.endWith t r) := (letGo_keeps s t).trans (complete_keeps _ t r)

theorem discard_keeps (t : Nat) : Keeps s (s.discard t) := by
  unfold State.discard
  exact ((orphaned_keeps s t).trans (letGo_keeps _ t)).trans (updCmd_keeps _ t fun _ => {})

/-! ### Completions -/

/-- The completion of a live command posts its tag, releases its record and puts its entry last. -/
theorem complete_completes (t : Nat) (r : Res) (h : s.live t = true) : completes s (s.complete t r) t r := by
  unfold State.complete
  rw [if_pos h]
  refine ⟨?_, ?_, ?_⟩
  · simp [State.post, State.tag, State.setTag, State.updCq]
  · simp [State.cmd]
  · simp [State.post, State.cq, State.updCq, State.setTag, doneEntry]

theorem complete_dead (t : Nat) (r : Res) (h : s.live t = false) : s.complete t r = s := by
  simp [State.complete, h]

/-! ### The hold of R548 -/

/-- A step that offers no message is not held. -/
theorem hold_of_same (t : State) (h : t.flt.offered = s.flt.offered) : s.hold t = t := by
  have e (k : Nat) : t.waitingOf k = s.waitingOf k := by unfold State.waitingOf; rw [h]
  have n : s.heldBy t = none := by
    unfold State.heldBy
    rw [List.find?_eq_none]
    intro k _
    simp [e]
  unfold State.hold
  rw [n]

/-- With room at every source that has offered a message no step is held. -/
theorem hold_of_room (t : State) (h : s.eventRoom = true) : s.hold t = t := by
  have lt (k : Nat) : s.waitingOf k < 8 := by
    by_cases g : ∃ e ∈ s.flt.offered, msgSrc e.msg = k
    · obtain ⟨e, he, rfl⟩ := g
      have := List.all_eq_true.mp h e he
      simpa using this
    · have : s.waitingOf k = 0 := by
        unfold State.waitingOf
        rw [List.length_eq_zero_iff, List.filter_eq_nil_iff]
        intro e he c
        exact g ⟨e, he, by simpa using c⟩
      omega
  have n : s.heldBy t = none := by
    unfold State.heldBy
    rw [List.find?_eq_none]
    intro k _ c
    simp only [Bool.and_eq_true, decide_eq_true_eq] at c
    have := lt k
    omega
  unfold State.hold
  rw [n]

/-- What a hold can do: the step takes place, nothing happens, or the hold is counted. -/
theorem hold_cases (t : State) : s.hold t = t ∨ s.hold t = s ∨ ∃ l, s.hold t = { s.pressure with flt := { s.pressure.flt with holding := l } } := by
  unfold State.hold
  split
  · exact .inl rfl
  · split
    · exact .inr (.inl rfl)
    · exact .inr (.inr ⟨_, rfl⟩)

theorem hold_keeps {t : State} (h : Keeps s t) : Keeps s (s.hold t) := by
  rcases hold_cases s t with e | e | ⟨l, e⟩ <;> rw [e]
  · exact h
  · exact Keeps.refl s
  · exact (pressure_keeps s).trans (Keeps.of_same rfl rfl rfl rfl rfl rfl rfl rfl rfl rfl rfl)

/-- A held step touches the counters and the event buffers only, so what a step leaves besides them its hold leaves. -/
theorem hold_frame {ps : List Part} {t : State} (h : unchangedBut ps s t) (hc : Part.ctr ∈ ps) (hf : Part.flt ∈ ps) : unchangedBut ps s (s.hold t) := by
  rcases hold_cases s t with e | e | ⟨l, e⟩ <;> rw [e]
  · exact h
  · exact unchangedBut.refl s ps
  · intro p hp
    have k := (unchangedBut.mono (pressure_frame s) (qs := ps) (by intro q hq; simp at hq; rcases hq with rfl | rfl <;> assumption)) p hp
    cases p <;> first | exact k | exact absurd hf hp

/-- Every step of `guarded` answers a next state. -/
theorem guarded_next (c : Bool) (t : State) : guarded c s t = .next (if c then s.hold t else s) := rfl
theorem unheld_next (c : Bool) (t : State) : unheld c s t = .next (if c then t else s) := rfl

/-- With its condition and room for its events a command has its effect. -/
theorem guarded_room (c : Bool) (t : State) (h : c = true) (r : s.eventRoom = true) : guarded c s t = .next t := by
  rw [guarded_next, if_pos h, hold_of_room s t r]
/-- With its condition and no message to offer a command has its effect. -/
theorem guarded_same (c : Bool) (t : State) (h : c = true) (r : t.flt.offered = s.flt.offered) : guarded c s t = .next t := by
  rw [guarded_next, if_pos h, hold_of_same s t r]
/-- Without its condition a command changes nothing. -/
theorem guarded_false (c : Bool) (t : State) (h : c = false) : guarded c s t = .next s := by
  rw [guarded_next, h]; rfl

/-- A step of `guarded` keeps what its effect keeps. -/
theorem Keeps.guarded {c : Bool} {s t u : State} (h : Keeps s t) (e : guarded c s t = .next u) : Keeps s u := by
  cases c <;> cases e
  · exact Keeps.refl s
  · exact hold_keeps s h

/-- A step of `unheld` keeps what its effect keeps. -/
theorem Keeps.unheld {c : Bool} {s t u : State} (h : Keeps s t) (e : unheld c s t = .next u) : Keeps s u := by
  cases c <;> cases e
  · exact Keeps.refl s
  · exact h

/-- What `manage` can do: nothing where the command may not begin, otherwise, held or not, the first refusal, a token's failure or its own work. -/
theorem manage_cases (t opc sub : Nat) (tok data : List Byte) (takes need moves : Bool) (codes : List (Bool × Nat)) (run : State → State) :
    s.manage t opc sub tok data takes need moves codes run = .next s ∨
    (s.mayBegin t opc sub = true ∧ ∃ u, s.manage t opc sub tok data takes need moves codes run = .next (s.hold u) ∧
      ((∃ k, firstCode codes = some k ∧ u = s.endWith t (conflict k)) ∨
       (firstCode codes = none ∧ need = true ∧ (s.cmd t).pkt.mptr = 0 ∧ u = s.endWith t { status := 0x0500 }) ∨
       (firstCode codes = none ∧ need = true ∧ ∃ k, s.tokenFault (s.cmd t).ep (s.cmd t).pkt tok data takes = some k ∧
         u = (s.authFailed (s.cmd t).ep k).endWith t { status := 0x0501, r0 := k }) ∨
       (firstCode codes = none ∧ need = true ∧ s.tokenFault (s.cmd t).ep (s.cmd t).pkt tok data takes = none ∧
         u = run (s.updEp (s.cmd t).ep fun x => { x with nonce := none })) ∨
       (firstCode codes = none ∧ need = false ∧ u = run s))) := by
  unfold State.manage
  dsimp only
  cases hg : (s.mayBegin t opc sub && s.mayMove t (moves || takes || need) && data.length == (if takes then (s.cmd t).pkt.p5.toNat else 0))
  · exact .inl rfl
  · have hb : s.mayBegin t opc sub = true := by
      simp only [Bool.and_eq_true] at hg
      exact hg.1.1
    refine .inr ⟨hb, _, rfl, ?_⟩
    cases hc : firstCode codes with
    | some k => exact .inl ⟨k, rfl, rfl⟩
    | none =>
      refine .inr ?_
      cases need with
      | false => exact .inr (.inr (.inr ⟨rfl, rfl, rfl⟩))
      | true =>
        by_cases hm : (s.cmd t).pkt.mptr = 0
        · refine .inl ⟨rfl, rfl, hm, ?_⟩
          simp [hm]
        · refine .inr ?_
          have hm' : ((s.cmd t).pkt.mptr == 0) = false := by simpa using hm
          cases ht : s.tokenFault (s.cmd t).ep (s.cmd t).pkt tok data takes with
          | some k => exact .inl ⟨rfl, rfl, k, rfl, by simp [hm']⟩
          | none => exact .inr (.inl ⟨rfl, rfl, rfl, by simp [hm']⟩)

end Sys2Proof.Machine
end

