-- ==== Sys2Proof/Tests/Slice0.lean ====
section
/-! SUPPORT. Small states, and for every statement of Obligations.lean states and operands that meet its hypotheses; the smoke test of
the checks of WellFormed; worked examples of the spec. -/

namespace Sys2Proof.Tests

open Sys2Proof.Machine

/-! ### Small states -/

/-- A domain with power. -/
def lit : Domain := { on := true, clamped := false, chansOpen := true }
/-- A descriptor. -/
def desc0 : Desc :=
  { serial := List.replicate 20 65#8, headsA := 8, headsB := 8, spdMin := 4800, spdMax := 7200, polePairs := 4, spImax := 4000, iSpinup := 2500, iRun := 900, tSpinup := 15000
    actA := { coilTau := 10, coilTmax := 90, vcmIcont := 1000 }, actB := { coilTau := 10, coilTmax := 90, vcmIcont := 1000 }, iwMax := 100, htrMax := 500
    astSetMax := 1000, astLimMax := 1000, rbiasMax := 500, tSpinMax := 50, tWrMax := 60, tWrMin := 5 }
/-- A format with a conventional zone and a sequential one. -/
def fmt0 : MuFormat :=
  { rateZones := [(0, { lastTrack := 9999, k := 64000000, spt := 500, btrk := 132, conv := true })]
    zones := [{ conv := true, btrk := 132, cap := 65536 }, { btrk := 132, firstTrack := 200, cap := 65536 }] }
/-- A rate zone record of 16 bytes at the outermost rate (R147). -/
def rateBytes (first last conv : Nat) : List Byte := leBytes 4 first ++ leBytes 4 last ++ leBytes 4 80000000 ++ leBytes 2 936 ++ leBytes 1 71 ++ leBytes 1 conv
/-- A zone map entry of 16 bytes on head 0 (R169). -/
def zoneBytes (rz first : Nat) : List Byte := leBytes 1 0 ++ leBytes 1 rz ++ leBytes 1 71 ++ leBytes 1 0 ++ leBytes 4 first ++ leBytes 4 65536 ++ leBytes 4 0
/-- The records of a format with a conventional zone and a sequential one. -/
def rec0 : FmtRecords := { rateZones := [(0, rateBytes 512 1999 1), (1, rateBytes 2000 9999 0)], zoneMap := [zoneBytes 64 512, zoneBytes 1 2000] }
/-- The head of a format record copy: the serial, the actuator, metadata and key domain, with its check (log entry 109). -/
def copy0 : List Byte :=
  let b := List.replicate 20 65#8 ++ List.replicate 4 0
  b ++ leBytes 4 (crc32c b).toNat
/-- The records are legal on a surface with eight heads. -/
theorem test_format_records : (checkedFormat 8 rec0).map (·.zones.map (·.cap)) = some [65536, 65536] := by decide +kernel
/-- A media unit that follows a track. -/
def mu0 : Mu :=
  { formatted := true, recovered := true, fmt := fmt0, act := { st := .following, rdSettled := true, wrSettled := true, acquired := 8 }, tsq := { st := .idle } }
/-- An HDA in HS0. -/
def hda0 : Hda :=
  { st := .active, present := true, hs := 0, desc := some desc0, lastTemp := some 480, tempValid := true, temp := 480
    clk := { lock := .locked, band := 11, meas := 28800, islandLocked := true, symRunning := true, gatesPermitted := true }
    srv := { spin := .spunUp, setsValid := true, lfsr := some 1#16, bandInUse := 11 } }
/-- The module ready in PS0 with one HDA in HS0 and one feed. -/
def up : State :=
  { State.reset with
    time := { oph := 10, ops := 5, pcc := 3, up := 36005 }
    thp := { sensors := (List.range 16).map fun n => (n, { temp := 640, valid := true }) }
    mns := { feedA := { present := true, freq := 5000 }, busUp := true, pwrgd := true, alloc := [(0, .run 900)]
             bank := { st := .ready, eUsable := 1681, eBound := 75, vBank := 5400, temp := 30, tested := true, lastTestTemp := 30 } }
    start := { phase := .ready, cold := false }
    pwr := { pstate := 0, target := 0, port := [(0, lit)], chan := (List.range 16).map fun h => (h, lit), ldp := lit, tags := lit, store := lit, others := lit }
    hdas := [(0, hda0)], mus := [(0, mu0), (1, mu0)]
    eps := [(0, { perst := false, linkUp := true, trained := true, bme := true, mse := true })]
    cqs := [(0, { base := 4096, size := 16, enable := true })]
    buf := { fill := 3 }
    vlt := { released := true, goodCh := 0xFF#8, bound := 60 }
    log := { running := true } }
/-- `up` with a command of a packet at a phase, in tag 0. -/
def withCmd (p : Packet) (ph : Phase) : State :=
  { up with tags := [(0, { st := .accepted })], cmds := [(0, { pkt := p, phase := ph, order := 0 })], accept := 1 }
/-- A managed command of an opcode and sub-operation. -/
def managed (opc sub : Nat) : State := withCmd { opc := opc, p0 := BitVec.ofNat 32 sub } .managed
/-- `up` with HDA 0 changed. -/
def upHda (f : Hda → Hda) : State := up.updHda 0 f
/-- `up` with media unit 0 changed. -/
def upMu (f : Mu → Mu) : State := up.updMu 0 f
/-- A state of sequencer 0 at cycle 0 of a wedge, its gates taken. -/
def gated (s : State) : State :=
  let a := s.store.effective (s.mu 0).tsq.upc
  (s.updMu 0 fun x => { x with tsq := { x.tsq.tick.counts 0 with upc := a, addr := a } }).gatesAt 0 {} 0
/-- `up` with mains and hold-up changed. -/
def upMns (f : Mns → Mns) : State := { up with mns := f up.mns }
/-- `up` with endpoint 0 changed. -/
def upEp (f : Endpoint → Endpoint) : State := up.updEp 0 f

/-- The first 508 bytes of a legal unsigned descriptor. -/
def descHead : List Byte :=
  leBytes 4 0x4C4F4557 ++ leBytes 2 1 ++ leBytes 2 512 ++ List.replicate 32 0 ++ List.replicate 20 65#8 ++ leBytes 2 1 ++ leBytes 2 0
    ++ [8#8, 8#8, 1#8, 0#8] ++ leBytes 4 0 ++ leBytes 2 4800 ++ leBytes 2 7200 ++ leBytes 2 4 ++ leBytes 2 1000 ++ leBytes 2 0 ++ leBytes 2 3000
    ++ leBytes 2 2500 ++ leBytes 2 900 ++ leBytes 2 15000 ++ leBytes 2 32768 ++ leBytes 2 640 ++ leBytes 2 0
    ++ (leBytes 2 8000 ++ List.replicate 30 0) ++ (leBytes 2 8000 ++ List.replicate 30 0) ++ List.replicate 28 0 ++ [0#8, 50#8, 5#8, 60#8] ++ List.replicate 316 0
/-- A legal unsigned descriptor. -/
def descBytes : List Byte := descHead ++ leBytes 4 (crc32c descHead).toNat
/-- A bring-up that passes every step. -/
def bringUp0 : BringUp := { bytes := some descBytes, idA := 0x0100, idB := 0x0100, capsA := 0x18, capsB := 0x18, temp := some 400 }

/-- The packet bytes of an opcode, tag, volume and PARAM0, with a good check. -/
def packetBytes (opc tag vol p0 : Nat) : List Byte :=
  let b := leBytes 1 opc ++ leBytes 1 0 ++ leBytes 2 tag ++ leBytes 2 vol ++ leBytes 2 0 ++ List.replicate 12 0 ++ leBytes 4 p0 ++ List.replicate 36 0
  b ++ leBytes 4 (crc32c b).toNat
/-- `up` with tag 5 claimed by port 0. -/
def claimed : State := { up with tags := [(5, { st := .claimed })] }

/-- A channel entry and a write entry of head 0, rate zone 0 and band 11. -/
def chanBytes : List Byte :=
  let b := leBytes 2 (entryTag 0 0 11) ++ List.replicate 250 0
  b ++ leBytes 4 (crc32c b).toNat
/-- The write entry. -/
def writeBytes : List Byte :=
  let b := leBytes 2 (entryTag 0 0 11) ++ List.replicate 122 0
  b ++ leBytes 4 (crc32c b).toNat

/-- The stored form of LBA 4 of volume 0. -/
def sector0 : Sector := { data := [1#8], lba := 4, scrc := crc32c [1#8] }

/-- `up` with a managed command of an opcode, a sub-operation and PARAM2. -/
def managedAs (opc sub : Nat) (p2 : Word) : State :=
  withCmd { opc := opc, p0 := BitVec.ofNat 32 sub, p2 := p2 } (if opc < 0x20 then .perform else .managed)
/-- The state whose command at tag 0 came from an endpoint that does not own its volume. -/
def stranger (s : State) : State := s.updCmd 0 fun c => { c with stranger := true }
/-- The state with a token address in the packet of tag 0. -/
def withMptr (s : State) : State := s.updCmd 0 fun c => { c with pkt := { c.pkt with mptr := 4096 } }


/-- The head and manifest of a firmware image of 4,096 bytes with the five components an image must hold. -/
def imageHead : List Byte :=
  leBytes 4 0x5746484F ++ leBytes 2 1 ++ leBytes 2 5 ++ leBytes 8 7 ++ leBytes 4 1 ++ leBytes 4 4096 ++ leBytes 4 1 ++ List.replicate 36 0
    ++ [2, 4, 5, 6, 7].flatMap fun i => leBytes 2 i ++ List.replicate 62 0
/-- A firmware image whose header and manifest are legal. -/
def imageBytes : List Byte := imageHead ++ List.replicate 3712 0
/-! ### Witnesses -/

/-- States and operands that meet the hypotheses of `Obligations.FeedsAndPowerFail`, one for each statement in it. -/
theorem witness_feeds_and_power_fail :
    (∃ (f : Nat) (s : State), f < 2 ∧ s.mns.busUp = true ∧ (s.mns.feed f).present = false ∧ s.eventRoom = true) ∧
    (∃ (f : Nat) (s : State), f < 2 ∧ s.mns.busUp = true ∧ (s.mns.feed f).present = true ∧ (s.mns.feed (1 - f)).present = true) ∧
    (∃ (f : Nat) (s : State), f < 2 ∧ s.mns.busUp = true ∧ (s.mns.feed f).present = true ∧ (s.mns.feed (1 - f)).present = false ∧
      s.mns.powerFail = false) ∧
    (∃ (s : State), s.mns.busUp = true ∧ s.mns.converterOn = true ∧ s.feedPresent = true ∧ s.mns.powerFail = false) ∧
    (∃ (s : State), s.mns.busUp = true ∧ s.mns.powerFail = false) :=
  ⟨⟨1, up, by decide⟩,
   ⟨0, upMns fun m => { m with feedB := { present := true } }, by decide⟩,
   ⟨0, up, by decide⟩,
   ⟨upMns fun m => { m with converterOn := true }, by decide⟩,
   ⟨up, by decide⟩⟩

/-- States and operands that meet the hypotheses of `Obligations.HoldupAndCalref`, one for each statement in it. -/
theorem witness_holdup_and_calref :
    (∃ (s : State), s.mns.busUp = true ∧ s.mns.converterOn = false) ∧
    (∃ (s : State), s.mns.busUp = true) ∧
    (∃ (s : State), s.mns.busUp = true ∧ s.testDue = true ∧ s.mns.bank.st ≠ .testing ∧ s.mns.chargePaused = false ∧ 5000 ≤
      s.mns.bank.vBank ∧ s.mns.powerFail = false) ∧
    (∃ (v0 : Nat) (v0s : Nat) (v1 : Nat) (s : State), s.mns.bank.st = .testing ∧ v0s ≤ v0 ∧ v1 < v0s ∧ s.eventRoom = true) ∧
    (∃ (s : State), s.mns.busUp = true ∧ s.mns.calref = false) ∧
    (∃ (s : State), s.mns.calref = true) :=
  ⟨⟨up, by decide⟩,
   ⟨up, by decide⟩,
   ⟨upMns fun m => { m with bank := { m.bank with tested := false } }, by decide⟩,
   ⟨5400, 5390, 5200, upMns fun m => { m with bank := { m.bank with st := .testing } }, by decide⟩,
   ⟨up, by decide⟩,
   ⟨upMns fun m => { m with calref := true }, by decide⟩⟩

/-- States and operands that meet the hypotheses of `Obligations.SpindleStartsAndEnds`, one for each statement in it. -/
theorem witness_spindle_starts_and_ends :
    (∃ (h : Nat) (r : List Nat) (s : State), s.mns.waiting = h :: r ∧ s.mns.powerFail = false ∧ s.spinningUp < s.feat0 0x09 ∧
      s.mns.chargePaused = false ∧ s.ledgerMA + (s.desc h).iSpinup ≤ s.capacityMA) ∧
    (∃ (h : HdaNo) (s : State), (s.hda h).srv.spin = .aligning) ∧
    (∃ (h : HdaNo) (rpm : Nat) (s : State), (s.hda h).srv.spin = .starting ∧ ((s.hda h).desc = none ∨ rpm ≤ (s.desc h).spdMax + 150)) ∧
    (∃ (h : HdaNo) (rpm : Nat) (s : State), (s.hda h).srv.spin = .starting ∧ (s.hda h).desc.isSome = true ∧ (s.desc h).spdMax + 150 < rpm
      ∧ (s.hda h).srv.fault ≠ 7 ∧ s.eventRoom = true) ∧
    (∃ (h : HdaNo) (s : State), (sget s.mns.alloc h .zero).spinning = true) ∧
    (∃ (h : HdaNo) (s : State), (s.hda h).srv.spin = .starting ∧ (s.hda h).clk.lock = .locked ∧ (s.hda h).clk.within2 (s.speedTarget h) =
      true ∧ (s.hda h).hsTransit = false) ∧
    (∃ (h : HdaNo) (s : State), (s.hda h).srv.spin = .starting ∧ (s.hda h).clk.lock = .locked ∧ (s.hda h).clk.within2 (s.speedTarget h) =
      true ∧ (s.hda h).hsTransit = true ∧ (s.hda h).hs = 3 ∧ (s.hda h).hsTarget = 2 ∧ (s.hda h).hsRestart = false) ∧
    (∃ (h : HdaNo) (s : State), ((s.hda h).srv.spin = .aligning ∨ (s.hda h).srv.spin = .starting) ∧ s.eventRoom = true) ∧
    (∃ (h : HdaNo) (rpm : Nat) (s : State), rpm < 4500 ∧ s.bothParked h = false ∧ (sget s.pwr.port h {}).on = true) ∧
    (∃ (h : HdaNo) (s : State), (s.mns.powerFail = true ∨ s.thp.shutdown = true) ∧ (s.unparked (2 * h) = true ∨ s.unparked (2 * h + 1) =
      true) ∧ (sget s.pwr.port h {}).on = true) ∧
    (∃ (h : HdaNo) (kind : Nat) (act : Nat) (s : State), 1 ≤ kind ∧ kind ≤ 7 ∧ act < 2 ∧ (sget s.pwr.port h {}).on = true) ∧
    (∃ (h : HdaNo) (s : State), ((s.mu (2 * h)).act.st = .retracting ∨ (s.mu (2 * h + 1)).act.st = .retracting) ∧ (s.hda h).hsTransit =
      false ∧ (s.hda h).srv.resetDue = false ∧ (s.hda h).st ≠ .releasing) ∧
    (∃ (h : HdaNo) (s : State), ((s.hda h).srv.spin = .stopping ∨ (s.hda h).srv.spin = .coasting) ∧ (s.hda h).hsTransit = false) :=
  ⟨⟨1, [2], upMns fun m => { m with waiting := [1, 2] }, by decide⟩,
   ⟨0, upHda fun d => { d with srv := { d.srv with spin := .aligning } }, by decide⟩,
   ⟨0, 100, upHda fun d => { d with srv := { d.srv with spin := .starting } }, by decide⟩,
   ⟨0, 9000, upHda fun d => { d with srv := { d.srv with spin := .starting } }, by decide⟩,
   ⟨0, upMns fun m => { m with alloc := [(0, .spinUp 2500)] }, by decide⟩,
   ⟨0, upHda fun d => { d with gov := { target := 7200 }, srv := { d.srv with spin := .starting } }, by decide⟩,
   ⟨0, upHda fun d => { d with gov := { target := 4800 }, hs := 3, st := .accepted, hsTransit := true, hsTarget := 2, clk := { d.clk with meas := 19200 }, srv := { d.srv with spin := .starting } }, by decide⟩,
   ⟨0, upHda fun d => { d with srv := { d.srv with spin := .aligning } }, by decide⟩,
   ⟨0, 4400, up, by decide⟩,
   ⟨0, upMns fun m => { m with powerFail := true }, by decide⟩,
   ⟨0, 3, 1, up, by decide⟩,
   ⟨0, (upMu fun m => { m with act := { m.act with st := .retracting } }), by decide⟩,
   ⟨0, upHda fun d => { d with srv := { d.srv with spin := .coasting } }, by decide⟩⟩

/-- States and operands that meet the hypotheses of `Obligations.HeadsLoadAndUnload`, one for each statement in it. -/
theorem witness_heads_load_and_unload :
    (∃ (m : MuNo) (s : State), s.mayLoad m = true) ∧
    (∃ (m : MuNo) (s : State), (s.mu m).act.st = .loading ∧ (s.mu m).act.ramp = .settle ∧ bits (s.mu m).act.pol1.toNat 15 8 ≤ (s.mu
      m).act.rdRun ∧ s.eventRoom = true) ∧
    (∃ (m : MuNo) (s : State), (s.mu m).act.st = .loading ∧ (s.mu m).tsq.desc = none ∧ s.eventRoom = true) ∧
    (∃ (m : MuNo) (s : State), s.mayUnload m = true) ∧
    (∃ (m : MuNo) (s : State), (s.mu m).act.st = .unloading ∧ ((s.mu m).act.ramp = .home ∨ (s.mu m).act.ramp = .forced) ∧ (s.hda ((m :
      Nat) / 2)).hsTransit = false ∧ (s.hda ((m : Nat) / 2)).srv.resetDue = false ∧ (s.hda ((m : Nat) / 2)).st ≠ .releasing) ∧
    (∃ (m : MuNo) (s : State), (s.mu m).act.st = .unloading ∧ (s.mu m).act.ramp ≠ .forced ∧ s.eventRoom = true) :=
  ⟨⟨0, (upMu fun m => { m with act := { st := .parked } }).updHda 0 fun d => { d with hsTransit := true, hsTarget := 0 }, by decide⟩,
   ⟨0, upMu fun m => { m with recovered := false, act := { m.act with st := .loading, ramp := .settle, rdRun := 64 } }, by decide⟩,
   ⟨0, upMu fun m => { m with act := { m.act with st := .loading } }, by decide⟩,
   ⟨0, upHda fun d => { d with hsTransit := true, hsTarget := 2 }, by decide⟩,
   ⟨0, upMu fun m => { m with act := { m.act with st := .unloading, ramp := .home } }, by decide⟩,
   ⟨0, upMu fun m => { m with act := { m.act with st := .unloading } }, by decide⟩⟩

/-- States and operands that meet the hypotheses of `Obligations.SeekCoilCapture`, one for each statement in it. -/
theorem witness_seek_coil_capture :
    (∃ (m : MuNo) (r : SeekReq) (s : State), (s.mu m).act.seek = some r ∧ r.jitter = 0 ∧ (s.mu m).act.canSeek = true ∧ (s.mu
      m).act.throttled = false ∧ (s.hda ((m : Nat) / 2)).srv.lfsr.isSome = true) ∧
    (∃ (h : HdaNo) (a : Fin 2) (s : State), (sget s.pwr.port h {}).on = true ∧ (s.actDesc (2 * h + a)).coilTau ≠ 0 ∧ s.eventRoom = true) ∧
    (∃ (h : HdaNo) (a : Fin 2) (s : State), (sget s.pwr.port h {}).on = true ∧ (s.actDesc (2 * h + a)).coilTau = 0 ∧ s.eventRoom = true) ∧
    (∃ (h : HdaNo) (u : Tune) (s : State), (s.hda h).srv.tune = some u ∧ u.injecting = true ∧ u.capturing = false ∧ u.settle ≤ u.count ∧
      (s.mu (2 * h + u.act)).act.beforeZero = true) ∧
    (∃ (h : HdaNo) (u : Tune) (s : State), (s.hda h).srv.tune = some u ∧ u.capturing = true ∧ u.taken = 16384) ∧
    (∃ (m : MuNo) (s : State), (s.mu m).act.loaded = true ∧ (s.mu m).act.loadedOph + 720 ≤ s.time.oph ∧ (s.mu m).act.lateReported = false
      ∧ s.eventRoom = true) :=
  ⟨⟨0, { head := 1, track := 50, jitter := 0 }, upMu fun m => { m with act := { m.act with seek := some { head := 1, track := 50, jitter := 0 } } }, by decide⟩,
   ⟨0, 0, up, by decide⟩,
   ⟨0, 0, upHda fun d => { d with desc := none }, by decide⟩,
   ⟨0, { injecting := true, count := 4096 }, (upHda fun d => { d with srv := { d.srv with tune := some { injecting := true, count := 4096 } } }).updMu 0 fun m => { m with act := { m.act with wedge := 639 } }, by decide⟩,
   ⟨0, { capturing := true, taken := 16384 }, (upHda fun d => { d with srv := { d.srv with tune := some { capturing := true, taken := 16384 } } }).updMu 0 fun m => { m with act := { m.act with st := .tuning } }, by decide⟩,
   ⟨0, { up with time := { oph := 720 } }, by decide⟩⟩

/-- States and operands that meet the hypotheses of `Obligations.SensorReadings`, one for each statement in it. -/
theorem witness_sensor_readings :
    (∃ (n : Nat) (v : Int) (s : State), n < 16 ∧ s.mns.busUp = true ∧ (v < sixteenths (thresholds n).2.2.1 ∨ s.thp.shutdown = true ∨
      s.thp.shutdownPending.isSome = true) ∧ s.eventRoom = true) ∧
    (∃ (n : Nat) (s : State), n < 16 ∧ s.mns.busUp = true ∧ s.eventRoom = true) ∧
    (∃ (n : Nat) (v : Int) (s : State), n < 16 ∧ s.mns.busUp = true ∧ sixteenths (thresholds n).2.2.1 ≤ v ∧ s.thp.shutdown = false ∧
      s.thp.shutdownPending = none ∧ s.vlt.dumping = false) ∧
    (∃ (n : Nat) (v : Int) (s : State), n < 16 ∧ s.mns.busUp = true ∧ sixteenths (thresholds n).2.2.1 ≤ v ∧ s.thp.shutdown = false ∧
      s.thp.shutdownPending = none ∧ s.vlt.dumping = true) ∧
    (∃ (s : State), s.mns.busUp = true ∧ s.eventRoom = true) :=
  ⟨⟨3, 640, up, by decide⟩,
   ⟨3, up, by decide⟩,
   ⟨15, 2000, up, by decide⟩,
   ⟨15, 2000, { up with vlt := { up.vlt with dumping := true } }, by decide⟩,
   ⟨up, by decide⟩⟩

/-- States and operands that meet the hypotheses of `Obligations.HdaTemperatureAndFans`, one for each statement in it. -/
theorem witness_hda_temperature_and_fans :
    (∃ (h : HdaNo) (s : State), (sget s.pwr.port h {}).on = true ∧ s.eventRoom = true) ∧
    (∃ (h : HdaNo) (s : State), (sget s.pwr.port h {}).on = true ∧ s.eventRoom = true) ∧
    (∃ (s : State), s.portsRun = true) ∧
    (∃ (m : MuNo) (s : State), s.pwr.gating = true ∧ (s.mu m).tsq.st = .idle ∧ s.pwr.pstate < 4) ∧
    (∃ (f : Nat) (s : State), f < 6 ∧ s.mns.busUp = true ∧ (s.fan f).currentLimit = false ∧ s.eventRoom = true) ∧
    (∃ (f : Nat) (s : State), f < 6 ∧ (s.fan f).currentLimit = true) ∧
    (∃ (f : Nat) (rpm : Nat) (s : State), f < 6 ∧ s.mns.busUp = true ∧ rpm < 300 ∧ 20 ≤ s.thp.duty ∧ (s.fan f).stall = false ∧ s.eventRoom
      = true) ∧
    (∃ (f : Nat) (rpm : Nat) (s : State), f < 6 ∧ 300 ≤ rpm ∧ rpm ≤ 20000 ∧ (s.fan f).stall = true) ∧
    (∃ (s : State), s.mns.busUp = true) :=
  ⟨⟨0, up, by decide⟩,
   ⟨0, up, by decide⟩,
   ⟨up, by decide⟩,
   ⟨0, { up with pwr := { up.pwr with gating := true } }, by decide⟩,
   ⟨2, up, by decide⟩,
   ⟨2, { up with thp := { fans := [(2, { currentLimit := true })] } }, by decide⟩,
   ⟨2, 100, up, by decide⟩,
   ⟨2, 900, { up with thp := { fans := [(2, { stall := true })] } }, by decide⟩,
   ⟨up, by decide⟩⟩

/-- States and operands that meet the hypotheses of `Obligations.VaultDumpAndReplay`, one for each statement in it. -/
theorem witness_vault_dump_and_replay :
    (∃ (s : State), s.vlt.released = true) ∧
    (∃ (a : Nat) (s : State), a < 2 ∧ s.vlt.erasing = some a ∧ s.vlt.released = true ∧ s.vlt.eraseOther = false) ∧
    (∃ (a : Nat) (s : State), a < 2 ∧ s.vlt.erasing = some a ∧ a = s.vlt.nextArea ∧ s.vlt.released = true ∧ s.vlt.eraseOther = true ∧
      (s.area (1 - a)).awaits = false) ∧
    (∃ (a : Nat) (c : Nat) (s : State), a < 2 ∧ c < 8 ∧ s.vlt.released = true ∧ s.vlt.goodCh.getLsbD c = true ∧ (s.area a).retired < 8192
      ∧ s.vlt.erasing ≠ some a ∧ s.eventRoom = true) ∧
    (∃ (a : Nat) (c : Nat) (s : State), a < 2 ∧ c < 8 ∧ s.vlt.released = true ∧ s.vlt.goodCh.getLsbD c = true ∧ (s.area a).retired < 8192
      ∧ s.vlt.erasing = some a ∧ s.vlt.dumping = false ∧ s.eventRoom = true) ∧
    (∃ (c : Nat) (s : State), c < 8 ∧ s.vlt.released = true ∧ s.vlt.goodCh.getLsbD c = true ∧ s.vlt.dumping = false ∧ s.eventRoom = true) ∧
    (∃ (s : State), s.vlt.dumping = true ∧ s.thp.shutdownPending = none ∧ s.feedPresent = false ∧ s.vlt.nextArea < 2) ∧
    (∃ (s : State), s.vlt.dumping = true ∧ s.thp.shutdownPending = none ∧ s.feedPresent = true ∧ s.vlt.nextArea < 2) ∧
    (∃ (s : State), s.start.phase = .tables ∧ s.vlt.selected.isSome = true ∧ s.vlt.replaying = false ∧ s.mns.powerFail = false ∧
      ((s.replayImage.dirty + 65535) / 65536 ≤ s.vlt.bound ∨ s.mns.bank.st ≠ .charging)) ∧
    (∃ (s : State), s.vlt.replaying = true ∧ s.mns.powerFail = false ∧ s.eventRoom = true) :=
  ⟨⟨up, by decide⟩,
   ⟨0, { up with vlt := { up.vlt with erasing := some 0 } }, by decide⟩,
   ⟨0, { up with vlt := { up.vlt with erasing := some 0, eraseOther := true } }, by decide⟩,
   ⟨0, 3, up, by decide⟩,
   ⟨0, 3, { up with vlt := { up.vlt with erasing := some 0 } }, by decide⟩,
   ⟨3, up, by decide⟩,
   ⟨{ up with mns := { busUp := true, powerFail := true }, vlt := { up.vlt with dumping := true } }, by decide⟩,
   ⟨{ up with vlt := { up.vlt with dumping := true } }, by decide⟩,
   ⟨{ up with nor := { up.nor with areaA := { image := some { seq := 1, headerGood := true, metaGood := true, sealGood := true } } }, start := { phase := .tables }, vlt := { up.vlt with selected := some 0, replaying := false } }, by decide⟩,
   ⟨{ up with nor := { up.nor with areaA := { image := some { seq := 1, headerGood := true, metaGood := true, sealGood := true } } }, start := { phase := .tables }, vlt := { up.vlt with selected := some 0, replaying := true, nextArea := 1 } }, by decide⟩⟩

/-- States and operands that meet the hypotheses of `Obligations.VaultReleaseAndResets`, one for each statement in it. -/
theorem witness_vault_release_and_resets :
    (∃ (s : State), s.mns.busUp = true ∧ s.start.phase ≠ .off) ∧
    (∃ (s : State), s.start.phase = .inReset ∧ s.start.resetting = true ∧ s.vlt.released = false ∧ s.mns.powerFail = false ∧ s.eventRoom =
      true) ∧
    (∃ (s : State), s.start.phase = .inReset ∧ s.start.resetting = true ∧ s.vlt.released = true ∧ s.mns.powerFail = false ∧ s.thp.shutdown
      = false ∧ s.start.dumpRestart = false ∧ s.eventRoom = true) ∧
    (∃ (s : State), s.thp.shutdown = true ∧ s.start.phase = .inReset ∧ s.mns.powerFail = false ∧ s.start.mrstLow = false ∧ s.belowRelease
      = true ∧ s.eventRoom = true) ∧
    (∃ (s : State), s.mns.busUp = true ∧ s.feedPresent = true ∧ s.start.dumpRestart = true ∧ s.thp.shutdown = false ∧ s.mns.powerFail =
      false ∧ s.start.mrstLow = false ∧ s.eventRoom = true) ∧
    (∃ (s : State), s.mns.busUp = true ∧ s.feedPresent = true ∧ s.dumpOver = true ∧ s.start.mrstLow = false ∧ s.eventRoom = true) :=
  ⟨⟨up, by decide⟩,
   ⟨{ up with start := { phase := .inReset, resetting := true }, vlt := {} }, by decide⟩,
   ⟨{ up with start := { phase := .inReset, resetting := true, cold := false } }, by decide⟩,
   ⟨{ up with thp := { up.thp with shutdown := true }, start := { phase := .inReset } }, by decide⟩,
   ⟨{ up with start := { phase := .inReset, dumpRestart := true } }, by decide⟩,
   ⟨{ up with mns := { up.mns with powerFail := true } }, by decide⟩⟩

/-- States and operands that meet the hypotheses of `Obligations.PowerOnAndOff`, one for each statement in it. -/
theorem witness_power_on_and_off :
    (∃ (f : Nat) (s : State), f < 2 ∧ s.start.phase = .off ∧ s.mns.busUp = false ∧ s.mns.powerFail = false) ∧
    (∃ (s : State), s.mns.busUp = true ∧ s.mns.powerFail = true ∧ s.feedPresent = false ∧ s.vlt.dumping = false) ∧
    (∃ (s : State), s.mns.busUp = true ∧ s.mns.powerFail = true ∧ s.feedPresent = false ∧ s.vlt.dumping = true ∧ s.vlt.nextArea < 2) ∧
    (∃ (s : State), s.buf.fill = 1) ∧
    (∃ (s : State), s.buf.fill = 2 ∧ s.eventRoom = true) :=
  ⟨⟨0, State.reset, by decide⟩,
   ⟨{ up with mns := { busUp := true, powerFail := true } }, by decide⟩,
   ⟨{ up with mns := { busUp := true, powerFail := true }, vlt := { dumping := true } }, by decide⟩,
   ⟨{ up with buf := { fill := 1 } }, by decide⟩,
   ⟨{ up with buf := { fill := 2 } }, by decide⟩⟩

/-- States and operands that meet the hypotheses of `Obligations.BootStages`, one for each statement in it. -/
theorem witness_boot_stages :
    (∃ (okA : Bool) (okB : Bool) (a : Nat) (s : State), s.start.phase = .stage0 ∧ s.nor.pendingSlot.getD s.nor.active = a ∧ (s.fwSlot
      a).st = .valid ∧ (s.slotFault a (if a == 0 then okA else okB) true = 0) ∧ s.eventRoom = true) ∧
    (∃ (okA : Bool) (okB : Bool) (a : Nat) (s : State), s.start.phase = .stage0 ∧ s.nor.pendingSlot.getD s.nor.active = a ∧ ((s.fwSlot
      a).st ≠ .valid ∨ s.slotFault a (if a == 0 then okA else okB) true ≠ 0) ∧ (s.fwSlot (1 - a)).st = .valid ∧ (s.slotFault (1 - a) (if 1
      - a == 0 then okA else okB) true = 0) ∧ s.eventRoom = true) ∧
    (∃ (okA : Bool) (okB : Bool) (a : Nat) (s : State), s.start.phase = .stage0 ∧ s.nor.pendingSlot.getD s.nor.active = a ∧ ((s.fwSlot
      a).st ≠ .valid ∨ s.slotFault a (if a == 0 then okA else okB) true ≠ 0) ∧ ((s.fwSlot (1 - a)).st ≠ .valid ∨ s.slotFault (1 - a) (if 1
      - a == 0 then okA else okB) true ≠ 0) ∧ s.eventRoom = true) ∧
    (∃ (failed : List Nat) (s : State), s.start.phase = .fiddlehead ∧ s.buf.fill = 3 ∧ failed.contains 4 = false ∧ s.eventRoom = true) ∧
    (∃ (failed : List Nat) (s : State), s.start.phase = .fiddlehead ∧ s.buf.fill = 3 ∧ failed.contains 4 = true) ∧
    (∃ (s : State), s.start.phase = .stage2 ∧ ((s.hdas.all fun e => e.2.st != .reading) = true) ∧ s.unreplayed = false ∧ s.eventRoom =
      true) ∧
    (∃ (s : State), s.start.phase = .stage2 ∧ ((s.hdas.all fun e => e.2.st != .reading) = true) ∧ s.unreplayed = true ∧ s.eventRoom =
      true) ∧
    (∃ (s : State), s.start.phase = .service ∧ s.mns.powerFail = false ∧ s.eventRoom = true) :=
  ⟨⟨true, false, 0, { up with start := { phase := .stage0 } }, by decide⟩,
   ⟨false, true, 0, { up with start := { phase := .stage0 }, nor := { up.nor with slotB := { st := .valid } } }, by decide⟩,
   ⟨false, false, 0, { up with start := { phase := .stage0 } }, by decide⟩,
   ⟨[], { up with start := { phase := .fiddlehead } }, by decide⟩,
   ⟨[4], { up with start := { phase := .fiddlehead } }, by decide⟩,
   ⟨{ up with start := { phase := .stage2 } }, by decide⟩,
   ⟨{ up with start := { phase := .stage2 }, nor := { up.nor with areaA := { image := some ({ seq := 1, headerGood := true } : Image) } } }, by decide⟩,
   ⟨{ up with start := { phase := .service }, thp := { up.thp with hold := true } }, by decide⟩⟩

set_option maxRecDepth 40000 in
/-- States and operands that meet the hypotheses of `Obligations.HdaPorts`, one for each statement in it. -/
theorem witness_hda_ports :
    (∃ (h : HdaNo) (s : State), s.portsRun = true ∧ (s.hda h).present = false ∧ (s.hda h).st = .empty ∧ s.mns.powerFail = false ∧
      s.eventRoom = true) ∧
    (∃ (h : HdaNo) (s : State), s.portsRun = true ∧ (s.hda h).present = false ∧ ((s.hda h).st ≠ .empty ∨ s.mns.powerFail = true)) ∧
    (∃ (h : HdaNo) (x : BringUp) (s : State), s.readingNow h = true ∧ s.canBringUp = true ∧ s.rejectOf x = 0 ∧ s.eventRoom = true) ∧
    (∃ (h : HdaNo) (x : BringUp) (v : Int) (s : State), s.readingNow h = false ∧ s.exitingHs3 h = true ∧ s.canBringUp = true ∧ s.rejectOf
      x = 0 ∧ x.temp = some v ∧ (parseDesc (x.bytes.getD [])).tSpinMin * 16 ≤ v ∧ v ≤ (parseDesc (x.bytes.getD [])).tSpinMax * 16 ∧
      s.eventRoom = true) ∧
    (∃ (h : HdaNo) (x : BringUp) (v : Int) (s : State), s.readingNow h = false ∧ s.exitingHs3 h = true ∧ s.canBringUp = true ∧ s.rejectOf
      x = 0 ∧ x.temp = some v ∧ (v < (parseDesc (x.bytes.getD [])).tSpinMin * 16 ∨ (parseDesc (x.bytes.getD [])).tSpinMax * 16 < v) ∧
      s.eventRoom = true) ∧
    (∃ (h : HdaNo) (x : BringUp) (s : State), (s.readingNow h = true ∨ s.exitingHs3 h = true) ∧ s.canBringUp = true ∧ s.rejectOf x ≠ 0 ∧
      s.eventRoom = true) ∧
    (∃ (h : HdaNo) (s : State), s.mns.busUp = true ∧ (s.hda h).present = true ∧ s.mns.powerFail = false ∧ ((s.hda h).st = .reading ∨
      (s.hda h).st = .rejected ∨ (s.hda h).st = .released ∨ (s.hda h).st = .empty)) ∧
    (∃ (h : HdaNo) (s : State), s.mns.busUp = true ∧ (s.hda h).present = true ∧ s.mns.powerFail = true) ∧
    (∃ (h : HdaNo) (s : State), s.mns.busUp = true ∧ (s.hda h).present = true ∧ s.mns.powerFail = false ∧ ((s.hda h).st = .accepted ∨
      (s.hda h).st = .active ∨ (s.hda h).st = .releasing)) ∧
    (∃ (h : HdaNo) (s : State), (s.hda h).st = .releasing ∧ (s.hda h).srv.spin = .stopped ∧ s.bothParked h = true ∧ s.releaseDrained h =
      true ∧ s.eventRoom = true) :=
  ⟨⟨1, up, by decide⟩,
   ⟨1, upMns fun m => { m with powerFail := true }, by decide⟩,
   ⟨1, bringUp0, up.updHda 1 fun d => { d with st := .reading, present := true }, by decide +kernel⟩,
   ⟨1, bringUp0, 400, { (up.updHda 1 fun d => { d with st := .accepted, present := true, hsTransit := true, hsTarget := 2 }) with pwr := { up.pwr with port := [(1, lit)] } }, by decide +kernel⟩,
   ⟨1, { bringUp0 with temp := some 900 }, 900, { (up.updHda 1 fun d => { d with st := .accepted, present := true, hsTransit := true, hsTarget := 2 }) with pwr := { up.pwr with port := [(1, lit)] } }, by decide +kernel⟩,
   ⟨1, {}, up.updHda 1 fun d => { d with st := .reading, present := true }, by decide⟩,
   ⟨1, up.updHda 1 fun d => { d with st := .rejected, present := true }, by decide⟩,
   ⟨0, upMns fun m => { m with powerFail := true }, by decide⟩,
   ⟨0, up, by decide⟩,
   ⟨1, up.updHda 1 fun d => { d with st := .releasing, present := true }, by decide⟩⟩

/-- States and operands that meet the hypotheses of `Obligations.PreampLink`, one for each statement in it. -/
theorem witness_preamp_link :
    (∃ (f : LinkFrame), f.read = false ∧ f.addr < 128) ∧
    (∃ (f : LinkFrame), f.read = true ∧ f.addr < 128) ∧
    (∃ (m : MuNo) (frame : FrameIn) (f : LinkFrame) (r : List LinkFrame) (s : State), (s.mu m).tsq.frames = f :: r ∧ (sget s.pwr.port ((m
      : Nat) / 2) {}).on = true ∧ frame.cycles < f.cycles) ∧
    (∃ (m : MuNo) (frame : FrameIn) (f : LinkFrame) (r : List LinkFrame) (s : State), (s.mu m).tsq.frames = f :: r ∧ (sget s.pwr.port ((m
      : Nat) / 2) {}).on = true ∧ f.cycles ≤ frame.cycles ∧ f.read = true ∧ oddOnes (flipBits (withPar (natBits 16 ((s.mu m).pa.reading
      f.addr frame.live).toNat)) frame.flips) = true) ∧
    (∃ (m : MuNo) (frame : FrameIn) (f : LinkFrame) (r : List LinkFrame) (s : State), (s.mu m).tsq.frames = f :: r ∧ (sget s.pwr.port ((m
      : Nat) / 2) {}).on = true ∧ f.cycles ≤ frame.cycles ∧ f.read = true ∧ oddOnes (flipBits (withPar (natBits 16 ((s.mu m).pa.reading
      f.addr frame.live).toNat)) frame.flips) = false ∧ s.eventRoom = true) ∧
    (∃ (m : MuNo) (frame : FrameIn) (f : LinkFrame) (r : List LinkFrame) (s : State), (s.mu m).tsq.frames = f :: r ∧ (sget s.pwr.port ((m
      : Nat) / 2) {}).on = true ∧ f.cycles ≤ frame.cycles ∧ f.read = false ∧ oddOnes (flipBits (f.driven.drop 1) frame.flips) = true ∧
      (isG (bitsNat ((flipBits (f.driven.drop 1) frame.flips).take 7)) = false ∨ (s.mu m).was.wg = false)) ∧
    (∃ (m : MuNo) (frame : FrameIn) (f : LinkFrame) (r : List LinkFrame) (s : State), (s.mu m).tsq.frames = f :: r ∧ (sget s.pwr.port ((m
      : Nat) / 2) {}).on = true ∧ f.cycles ≤ frame.cycles ∧ f.read = false ∧ oddOnes (flipBits (f.driven.drop 1) frame.flips) = true ∧ isG
      (bitsNat ((flipBits (f.driven.drop 1) frame.flips).take 7)) = true ∧ (s.mu m).was.wg = true) ∧
    (∃ (m : MuNo) (frame : FrameIn) (f : LinkFrame) (r : List LinkFrame) (s : State), (s.mu m).tsq.frames = f :: r ∧ (sget s.pwr.port ((m
      : Nat) / 2) {}).on = true ∧ f.cycles ≤ frame.cycles ∧ f.read = false ∧ oddOnes (flipBits (f.driven.drop 1) frame.flips) = false ∧
      (s.mu m).was.wg = false ∧ s.eventRoom = true) ∧
    (∃ (m : MuNo) (stat : Nat) (s : State), stat ≠ 0 ∧ stat < 1024 ∧ (sget s.pwr.port ((m : Nat) / 2) {}).on = true ∧ (s.mu m).pa.pflt =
      false) ∧
    (∃ (m : MuNo) (stat : Nat) (s : State), stat ≠ 0 ∧ stat < 1024 ∧ (sget s.pwr.port ((m : Nat) / 2) {}).on = true ∧ (s.mu m).pa.pflt =
      true) :=
  ⟨⟨{ addr := 77, data := 0x8001#16 }, by decide⟩,
   ⟨{ read := true, addr := 77 }, by decide⟩,
   ⟨0, { cycles := 24, flips := [] }, { addr := 2 }, [], upMu fun m => { m with tsq := { m.tsq with frames := [{ addr := 2 }], linkBusy := true } }, by decide⟩,
   ⟨0, { cycles := 26, flips := [] }, { read := true, addr := 2 }, [], upMu fun m => { m with tsq := { m.tsq with frames := [{ read := true, addr := 2 }], linkBusy := true } }, by decide⟩,
   ⟨0, { cycles := 26, flips := [true] }, { read := true, addr := 2 }, [], upMu fun m => { m with tsq := { m.tsq with frames := [{ read := true, addr := 2 }], linkBusy := true } }, by decide⟩,
   ⟨0, { cycles := 26, flips := [] }, { addr := 2, data := 5 }, [], upMu fun m => { m with tsq := { m.tsq with frames := [{ addr := 2, data := 5 }], linkBusy := true } }, by decide⟩,
   ⟨0, { cycles := 26, flips := [] }, { addr := 3, data := 1 }, [], upMu fun m => { m with tsq := { m.tsq with frames := [{ addr := 3, data := 1 }], linkBusy := true }, was := { wg := true } }, by decide⟩,
   ⟨0, { cycles := 26, flips := [true] }, { addr := 2, data := 5 }, [], upMu fun m => { m with tsq := { m.tsq with frames := [{ addr := 2, data := 5 }], linkBusy := true } }, by decide⟩,
   ⟨0, 0x10, up, by decide⟩,
   ⟨0, 0x10, upMu fun m => { m with pa := { m.pa with pflt := true } }, by decide⟩⟩

/-- States and operands that meet the hypotheses of `Obligations.ClockAndGovernor`, one for each statement in it. -/
theorem witness_clock_and_governor :
    (∃ (h : HdaNo) (b : Nat) (s : State), (sget s.pwr.port h {}).on = true ∧ ((s.hda h).desc = none ∨ b ≤ (s.desc h).spdMax + 150) ∧
      s.eventRoom = true) ∧
    (∃ (h : HdaNo) (s : State), (s.hda h).clk.symRunning = true ∧ (s.hda h).clk.gatesPermitted = false) ∧
    (∃ (h : HdaNo) (case : Nat) (s : State), (s.hda h).clk.lock = .locked ∧ 1 ≤ case ∧ case ≤ 3 ∧ s.stoppingParked h = false) ∧
    (∃ (h : HdaNo) (case : Nat) (s : State), (s.hda h).clk.lock = .locked ∧ 1 ≤ case ∧ case ≤ 3 ∧ s.stoppingParked h = true) ∧
    (∃ (m : MuNo) (s : State), (s.mu m).tsq.st = .held) ∧
    (∃ (busy : Nat), busy ≤ 100) ∧
    (∃ (h : HdaNo) (s : State), (s.hda h).clk.slewing = true ∧ s.driven h = true ∧ (s.hda h).clk.within2 (s.speedTarget h) = true ∧ (s.hda
      h).hsTransit = false) :=
  ⟨⟨0, 7200, up, by decide⟩,
   ⟨0, upHda fun d => { d with clk := { d.clk with gatesPermitted := false } }, by decide⟩,
   ⟨0, 2, up, by decide⟩,
   ⟨1, 2, up.updHda 1 fun d => { d with clk := { lock := .locked }, srv := { spin := .stopping } }, by decide⟩,
   ⟨0, upMu fun m => { m with tsq := { st := .held } }, by decide⟩,
   ⟨50, by decide⟩,
   ⟨0, upHda fun d => { d with clk := { d.clk with slewing := true } }, by decide⟩⟩

/-- States and operands that meet the hypotheses of `Obligations.ServoSample`, one for each statement in it. -/
theorem witness_servo_sample :
    (∃ (h : HdaNo) (i : WedgeIn) (s : State), s.samples h = true ∧ i.wedge < 640 ∧ (s.mu (2 * h)).act.st = .following ∧ syncOk i.a.r0 =
      false ∧ syncOk i.a.r1 = false ∧ (s.mu (2 * h)).act.invalidRun < 31 ∧ (s.mu (2 * h)).act.diffRun = 0 ∧ (s.mu (2 * h + 1)).act.st =
      .parked ∧ (s.mu (2 * h + 1)).act.ramp = .rest ∧ s.eventRoom = true) ∧
    (∃ (h : HdaNo) (i : WedgeIn) (s : State), s.samples h = true ∧ i.wedge < 640 ∧ (s.mu (2 * h)).act.st = .following ∧ syncOk i.a.r0 =
      false ∧ syncOk i.a.r1 = false ∧ (s.mu (2 * h)).act.invalidRun = 31 ∧ (s.mu (2 * h + 1)).act.st = .parked ∧ (sget s.pwr.port h {}).on
      = true ∧ s.eventRoom = true) ∧
    (∃ (h : HdaNo) (i : WedgeIn) (s : State), s.samples h = true ∧ i.wedge < 640 ∧ (s.mu (2 * h)).act.st = .following ∧ (s.mu (2 *
      h)).act.writer = false ∧ syncOk i.a.r1 = false ∧ (s.mu (2 * h)).act.diffRun = 0 ∧ (s.mu (2 * h + 1)).act.st = .parked ∧ (s.hda
      h).srv.tune = none ∧ readerValid i.a.r0 i.wedge ((s.hda h).srv.w (actSet 0 (s.hda h).srv.bandInUse + 0x012)) (nearTrack ((s.mu (2 *
      h)).act.pos + (s.mu (2 * h)).act.vEst) (s.mu (2 * h)).act.vEst) = true ∧ i.a.r0.c ≠ i.a.r0.d ∧ ((i.a.r0.a : Int) - i.a.r0.b).natAbs
      ≤ ((i.a.r0.c : Int) - i.a.r0.d).natAbs ∧ s.eventRoom = true) ∧
    (∃ (h : HdaNo) (i : WedgeIn) (s : State), s.samples h = true ∧ i.wedge < 640 ∧ (s.mu (2 * h)).act.st = .parked ∧ (s.mu (2 *
      h)).act.ramp = .rest ∧ (s.mu (2 * h + 1)).act.st = .parked ∧ (s.mu (2 * h + 1)).act.ramp = .rest ∧ (s.hda h).srv.spin = .spunUp ∧
      (s.hda h).st ≠ .releasing ∧ i.wedge ≠ 0 ∧ s.eventRoom = true) ∧
    (∃ (h : HdaNo) (i : WedgeIn) (s : State), s.samples h = true ∧ i.wedge < 640 ∧ (s.mu (2 * h)).act.st = .following ∧ (s.hda h).srv.spin
      = .spunUp ∧ i.wedge ≠ 0 ∧ s.eventRoom = true) :=
  ⟨⟨0, {}, (up.updMu 1 fun m => { m with act := {} }), by decide⟩,
   ⟨0, {}, ((upMu fun m => { m with act := { m.act with invalidRun := 31 } }).updMu 1 fun m => { m with act := {} }), by decide⟩,
   ⟨0, { a := { r0 := { sync := 0xF0A5C93E#32, c := 100, a := 10 } } }, up.updMu 1 fun m => { m with act := {} }, by decide⟩,
   ⟨0, { wedge := 5 }, ((upMu fun m => { m with act := {} }).updMu 1 fun m => { m with act := {} }), by decide⟩,
   ⟨0, { wedge := 5 }, up, by decide⟩⟩

/-- States and operands that meet the hypotheses of `Obligations.PowerTransitions`, one for each statement in it. -/
theorem witness_power_transitions :
    (∃ (s : State), s.pwr.transit = true ∧ s.pwr.pstate < s.pwr.target ∧ s.mns.powerFail = false ∧ s.entryMay (s.pwr.step + 1) = true ∧
      (s.pwr.step = 2 ∨ s.pwr.step = 4)) ∧
    (∃ (s : State), s.pwr.transit = true ∧ s.pwr.pstate < s.pwr.target ∧ s.mns.powerFail = false ∧ s.entryMay (s.pwr.step + 1) = true ∧
      s.pwr.step = 1 ∧ s.eventRoom = true) ∧
    (∃ (s : State), s.pwr.transit = true ∧ s.pwr.pstate < s.pwr.target ∧ s.mns.powerFail = false ∧ s.entryMay (s.pwr.step + 1) = true ∧
      s.pwr.step = 3 ∧ s.pwr.pstate < 2 ∧ s.eventRoom = true) ∧
    (∃ (s : State), s.pwr.transit = true ∧ s.pwr.pstate < s.pwr.target ∧ s.mns.powerFail = false ∧ s.entryMay (s.pwr.step + 1) = true ∧
      s.pwr.step = 5 ∧ s.eventRoom = true) ∧
    (∃ (s : State), s.pwr.transit = true ∧ s.pwr.pstate < s.pwr.target ∧ s.mns.powerFail = false ∧ s.entryMay (s.pwr.step + 1) = true ∧
      s.pwr.step = 6 ∧ s.eventRoom = true) ∧
    (∃ (s : State), s.pwr.transit = true ∧ s.pwr.target < s.pwr.pstate ∧ s.mns.powerFail = false ∧ s.exitMay (s.pwr.step + 1) = true ∧
      s.pwr.step = 1) ∧
    (∃ (s : State), s.pwr.transit = true ∧ s.pwr.target < s.pwr.pstate ∧ s.mns.powerFail = false ∧ s.exitMay (s.pwr.step + 1) = true ∧
      s.pwr.step = 2 ∧ s.eventRoom = true) ∧
    (∃ (s : State), s.pwr.transit = true ∧ s.pwr.target < s.pwr.pstate ∧ s.mns.powerFail = false ∧ s.exitMay (s.pwr.step + 1) = true ∧
      s.pwr.step = 3 ∧ s.pwr.pstate = 4 ∧ s.eventRoom = true) ∧
    (∃ (s : State), s.pwr.transit = true ∧ s.pwr.target < s.pwr.pstate ∧ s.mns.powerFail = false ∧ s.exitMay (s.pwr.step + 1) = true ∧ 4 ≤
      s.pwr.step ∧ s.pwr.step ≤ 5 ∧ s.pwr.pstate = 7 - s.pwr.step ∧ s.eventRoom = true) ∧
    (∃ (s : State), s.pwr.transit = true ∧ s.pwr.target < s.pwr.pstate ∧ s.mns.powerFail = false ∧ s.exitMay (s.pwr.step + 1) = true ∧
      s.pwr.step = 6 ∧ s.pwr.target = 0 ∧ s.eventRoom = true) ∧
    (∃ (s : State), s.pwr.pstate = 4 ∧ s.pwr.transit = false ∧ s.pwr.timerLeft = 0 ∧ bit (s.feat0 0x0D) 2 = true ∧ s.pwr.wakeLatched =
      false) ∧
    (∃ (s : State), s.pwr.pstate = 4 ∧ s.pwr.transit = false ∧ s.pwr.wakeLatched = true ∧ s.mns.powerFail = false ∧ s.eventRoom = true) :=
  ⟨⟨{ up with hdas := [], pwr := { up.pwr with transit := true, target := 4, step := 2 } }, by decide⟩,
   ⟨{ up with pwr := { up.pwr with transit := true, target := 4, step := 1, pstate := 1 } }, by decide⟩,
   ⟨{ up with hdas := [], pwr := { up.pwr with transit := true, target := 2, step := 3, pstate := 1 } }, by decide⟩,
   ⟨{ up with hdas := [], pwr := { up.pwr with transit := true, target := 3, step := 5, pstate := 2 } }, by decide⟩,
   ⟨{ up with hdas := [], pwr := { up.pwr with transit := true, target := 4, step := 6, pstate := 3 } }, by decide⟩,
   ⟨{ up with pwr := { up.pwr with transit := true, target := 0, step := 1, pstate := 4 } }, by decide⟩,
   ⟨{ up with hdas := [], pwr := { up.pwr with transit := true, target := 0, step := 2, pstate := 4, chan := [] } }, by decide⟩,
   ⟨{ up with pwr := { up.pwr with transit := true, target := 3, step := 3, pstate := 4 } }, by decide⟩,
   ⟨{ up with pwr := { up.pwr with transit := true, target := 0, step := 4, pstate := 3 } }, by decide⟩,
   ⟨{ up with pwr := { up.pwr with transit := true, target := 0, step := 6, pstate := 1, gating := true } }, by decide⟩,
   ⟨{ up with pwr := { up.pwr with pstate := 4 }, feat := [(featKey 0x0D 0, (7#32, 60#32, 0#32, 0#32))] }, by decide⟩,
   ⟨{ up with pwr := { up.pwr with pstate := 4, wakeLatched := true, ret := 1 } }, by decide⟩⟩

/-- States and operands that meet the hypotheses of `Obligations.EndpointResets`, one for each statement in it. -/
theorem witness_endpoint_resets :
    (∃ (ep : EpNo) (s : State), (s.ep ep).perst = false ∧ s.epUsed ep = true ∧ s.hlkRuns = true) ∧
    (∃ (ep : EpNo) (s : State), (s.ep ep).perst = false ∧ (s.epUsed ep = false ∨ s.hlkRuns = false)) ∧
    (∃ (ep : EpNo) (s : State), (s.ep ep).perst = true) ∧
    (∃ (ep : EpNo) (s : State), s.epUsed ep = true ∧ (s.ep ep).linkUp = true) ∧
    (∃ (ep : EpNo) (s : State), s.epUsed ep = true ∧ (s.ep ep).linkUp = true ∧ (s.ep ep).flrBusy = false) ∧
    (∃ (ep : EpNo) (s : State), (s.ep ep).flrBusy = true) ∧
    (∃ (ep : EpNo) (s : State), s.barOk ep = true ∧ (s.ep ep).crstBusy = false) ∧
    (∃ (ep : EpNo) (s : State), s.barOk ep = true ∧ (s.ep ep).crstBusy = true) ∧
    (∃ (ep : EpNo) (s : State), (s.ep ep).crstBusy = true) :=
  ⟨⟨0, withCmd { opc := 1 } .sch, by decide⟩,
   ⟨0, upMns id |> fun s => { s with start := { phase := .off } }, by decide⟩,
   ⟨0, State.reset, by decide⟩,
   ⟨0, withCmd { opc := 2, nsec := 1 } .fetch, by decide⟩,
   ⟨0, withCmd { opc := 8 } .perform, by decide⟩,
   ⟨0, upEp fun x => { x with flrBusy := true }, by decide⟩,
   ⟨0, withCmd { opc := 1 } .sch, by decide⟩,
   ⟨0, upEp fun x => { x with crstBusy := true }, by decide⟩,
   ⟨0, upEp fun x => { x with crstBusy := true }, by decide⟩⟩

/-- States and operands that meet the hypotheses of `Obligations.LinkAndConfiguration`, one for each statement in it. -/
theorem witness_link_and_configuration :
    (∃ (ep : EpNo) (speed : Nat) (width : Nat) (s : State), s.hlkRuns = true ∧ s.epUsed ep = true ∧ (s.ep ep).perst = false ∧ 1 ≤ speed ∧
      speed ≤ 5 ∧ width ∈ [1, 2, 4, 8, 16] ∧ width ≤ s.fullWidth ∧ s.eventRoom = true) ∧
    (∃ (ep : EpNo) (s : State), s.epUsed ep = true ∧ (s.ep ep).linkUp = true ∧ (s.ep ep).aspmL1 = true ∧ (s.ep ep).pm = 0) ∧
    (∃ (ep : EpNo) (s : State), (s.ep ep).pm ≠ 0) ∧
    (∃ (ep : EpNo) (s : State), s.epUsed ep = true ∧ (s.ep ep).linkUp = true ∧ (s.ep ep).flrBusy = false ∧ s.eventRoom = true) ∧
    (∃ (ep : EpNo) (s : State), s.epUsed ep = true ∧ (s.ep ep).linkUp = true ∧ (s.ep ep).flrBusy = false ∧ s.eventRoom = true) ∧
    (∃ (ep : EpNo) (s : State), s.epUsed ep = true ∧ (s.ep ep).linkUp = true ∧ (s.ep ep).flrBusy = false ∧ s.eventRoom = true) ∧
    (∃ (ep : EpNo) (s : State), s.epUsed ep = true ∧ (s.ep ep).linkUp = true ∧ (s.ep ep).flrBusy = false ∧ s.eventRoom = true) ∧
    (∃ (ep : EpNo) (aerBit : Nat) (s : State), s.epUsed ep = true ∧ s.hlkRuns = true ∧ (s.ep ep).perst = false ∧ aerBit < 16 ∧ s.eventRoom
      = true) ∧
    (∃ (ep : EpNo) (aerBit : Nat) (s : State), s.epUsed ep = true ∧ s.hlkRuns = true ∧ (s.ep ep).perst = false ∧ aerBit ≤ 26 ∧ aerBit ≠ 22
      ∧ (aerBit ≠ 19 ∨ (s.ep ep).ecrcCheck = true) ∧ s.eventRoom = true) ∧
    (∃ (ep : EpNo) (s : State), s.epUsed ep = true ∧ s.hlkRuns = true ∧ (s.ep ep).perst = false ∧ s.eventRoom = true) :=
  ⟨⟨0, 4, 8, up, by decide⟩,
   ⟨0, upEp fun x => { x with aspmL1 := true, aspmL12 := true }, by decide⟩,
   ⟨0, upEp fun x => { x with pm := 2 }, by decide⟩,
   ⟨0, up, by decide⟩,
   ⟨0, up, by decide⟩,
   ⟨0, upEp fun x => { x with aerUncorr := 0x101#32 }, by decide⟩,
   ⟨0, upEp fun x => { x with aerCorr := 0x101#32 }, by decide⟩,
   ⟨0, 12, up, by decide⟩,
   ⟨0, 12, up, by decide⟩,
   ⟨0, withCmd { opc := 1, nsec := 7 } .sch, by decide⟩⟩

set_option maxRecDepth 40000 in
/-- States and operands that meet the hypotheses of `Obligations.PortsAndTags`, one for each statement in it. -/
theorem witness_ports_and_tags :
    (∃ (ep : EpNo) (port : Nat) (n : Nat) (r : List Nat) (s : State), s.barOk ep = true ∧ port < s.portsPerEp ∧ s.ready = true ∧ (s.ep
      ep).crstBusy = false ∧ s.mns.powerFail = false ∧ s.activating = false ∧ (s.port (moduleNo ep port)).free = n :: r) ∧
    (∃ (ep : EpNo) (port : Nat) (s : State), s.barOk ep = true ∧ port < s.portsPerEp ∧ s.ready = true ∧ (s.ep ep).crstBusy = false ∧
      s.mns.powerFail = false ∧ s.activating = false ∧ (s.port (moduleNo ep port)).free = []) ∧
    (∃ (ep : EpNo) (port : Nat) (s : State), s.barOk ep = true ∧ port < s.portsPerEp ∧ (s.ready = false ∨ (s.ep ep).crstBusy = true ∨
      s.mns.powerFail = true)) ∧
    (∃ (ep : EpNo) (port : Nat) (s : State), s.barOk ep = true ∧ port < s.portsPerEp ∧ s.ready = true ∧ (s.ep ep).crstBusy = false ∧
      s.mns.powerFail = false ∧ s.activating = true) ∧
    (∃ (ep : EpNo) (port : Nat) (value : Nat) (s : State), s.barOk ep = true ∧ port < s.portsPerEp ∧ s.busy (moduleNo ep port) = 0 ∧
      s.allotBad ep (moduleNo ep port) (s.port (moduleNo ep port)).stagedBase (bits value 14 0) = false) ∧
    (∃ (ep : EpNo) (port : Nat) (value : Nat) (s : State), s.barOk ep = true ∧ port < s.portsPerEp ∧ (s.busy (moduleNo ep port) ≠ 0 ∨
      s.allotBad ep (moduleNo ep port) (s.port (moduleNo ep port)).stagedBase (bits value 14 0) = true)) :=
  ⟨⟨0, 3, 192, (List.range 63).map (· + 193), up, by decide +kernel⟩,
   ⟨0, 3, { up with ports := [(3, { free := [] })] }, by decide⟩,
   ⟨0, 3, upMns fun m => { m with powerFail := true }, by decide⟩,
   ⟨0, 3, { up with mgt := { activation := some { cmd := none, slot := 0, oldSlot := 0 } } }, by decide⟩,
   ⟨0, 3, 32, up, by decide⟩,
   ⟨0, 3, 65, up, by decide⟩⟩

set_option maxRecDepth 40000 in
/-- States and operands that meet the hypotheses of `Obligations.TaskPackets`, one for each statement in it. -/
theorem witness_task_packets :
    (∃ (ep : EpNo) (port : Nat) (bytes : List Byte) (s : State), s.barOk ep = true ∧ port < s.portsPerEp ∧ bytes.length ≠ 64 ∧ s.eventRoom
      = true) ∧
    (∃ (ep : EpNo) (port : Nat) (bytes : List Byte) (s : State), s.barOk ep = true ∧ port < s.portsPerEp ∧ bytes.length = 64 ∧ (s.ready =
      false ∨ (s.ep ep).crstBusy = true ∨ s.mns.powerFail = true) ∧ s.eventRoom = true) ∧
    (∃ (ep : EpNo) (port : Nat) (bytes : List Byte) (s : State), s.barOk ep = true ∧ port < s.portsPerEp ∧ bytes.length = 64 ∧ s.ready =
      true ∧ (s.ep ep).crstBusy = false ∧ s.mns.powerFail = false ∧ ((s.tag (parsePacket bytes).tag).st ≠ .claimed ∨ (s.tag (parsePacket
      bytes).tag).port ≠ moduleNo ep port) ∧ s.eventRoom = true) ∧
    (∃ (ep : EpNo) (port : Nat) (bytes : List Byte) (s : State), s.barOk ep = true ∧ port < s.portsPerEp ∧ bytes.length = 64 ∧ s.ready =
      true ∧ (s.ep ep).crstBusy = false ∧ s.mns.powerFail = false ∧ (s.tag (parsePacket bytes).tag).st = .claimed ∧ (s.tag (parsePacket
      bytes).tag).port = moduleNo ep port ∧ crc32c (bytes.take 60) ≠ BitVec.ofNat 32 (field bytes 60 4) ∧ (s.cq (moduleNo ep (s.port
      (moduleNo ep port)).cq)).isData = true ∧ (s.port (moduleNo ep port)).cq < s.portsPerEp) ∧
    (∃ (ep : EpNo) (port : Nat) (bytes : List Byte) (s : State), s.barOk ep = true ∧ port < s.portsPerEp ∧ bytes.length = 64 ∧ s.ready =
      true ∧ (s.ep ep).crstBusy = false ∧ s.mns.powerFail = false ∧ (s.tag (parsePacket bytes).tag).st = .claimed ∧ (s.tag (parsePacket
      bytes).tag).port = moduleNo ep port ∧ crc32c (bytes.take 60) = BitVec.ofNat 32 (field bytes 60 4) ∧ ((s.cq (moduleNo ep (parsePacket
      bytes).cqid)).isData = false ∨ s.portsPerEp ≤ (parsePacket bytes).cqid) ∧ (s.cq (moduleNo ep (s.port (moduleNo ep port)).cq)).isData
      = true ∧ (s.port (moduleNo ep port)).cq < s.portsPerEp) ∧
    (∃ (ep : EpNo) (port : Nat) (bytes : List Byte) (s : State), s.barOk ep = true ∧ port < s.portsPerEp ∧ bytes.length = 64 ∧ s.ready =
      true ∧ (s.ep ep).crstBusy = false ∧ s.mns.powerFail = false ∧ (s.tag (parsePacket bytes).tag).st = .claimed ∧ (s.tag (parsePacket
      bytes).tag).port = moduleNo ep port ∧ (crc32c (bytes.take 60) ≠ BitVec.ofNat 32 (field bytes 60 4) ∨ (s.cq (moduleNo ep (parsePacket
      bytes).cqid)).isData = false ∨ s.portsPerEp ≤ (parsePacket bytes).cqid) ∧ ((s.cq (moduleNo ep (s.port (moduleNo ep
      port)).cq)).isData = false ∨ s.portsPerEp ≤ (s.port (moduleNo ep port)).cq) ∧ s.eventRoom = true) ∧
    (∃ (ep : EpNo) (port : Nat) (bytes : List Byte) (s : State), s.barOk ep = true ∧ port < s.portsPerEp ∧ bytes.length = 64 ∧ s.ready =
      true ∧ (s.ep ep).crstBusy = false ∧ s.mns.powerFail = false ∧ (s.tag (parsePacket bytes).tag).st = .claimed ∧ (s.tag (parsePacket
      bytes).tag).port = moduleNo ep port ∧ crc32c (bytes.take 60) = BitVec.ofNat 32 (field bytes 60 4) ∧ (s.cq (moduleNo ep (parsePacket
      bytes).cqid)).isData = true ∧ (parsePacket bytes).cqid < s.portsPerEp ∧ s.activating = true) ∧
    (∃ (ep : EpNo) (port : Nat) (bytes : List Byte) (r : Res) (s : State), s.barOk ep = true ∧ port < s.portsPerEp ∧ bytes.length = 64 ∧
      s.ready = true ∧ (s.ep ep).crstBusy = false ∧ s.mns.powerFail = false ∧ (s.tag (parsePacket bytes).tag).st = .claimed ∧ (s.tag
      (parsePacket bytes).tag).port = moduleNo ep port ∧ crc32c (bytes.take 60) = BitVec.ofNat 32 (field bytes 60 4) ∧ (s.cq (moduleNo ep
      (parsePacket bytes).cqid)).isData = true ∧ (parsePacket bytes).cqid < s.portsPerEp ∧ s.activating = false ∧ s.staticBad ep
      (parsePacket bytes) = some r) ∧
    (∃ (ep : EpNo) (port : Nat) (bytes : List Byte) (s : State), s.barOk ep = true ∧ port < s.portsPerEp ∧ bytes.length = 64 ∧ s.ready =
      true ∧ (s.ep ep).crstBusy = false ∧ s.mns.powerFail = false ∧ (s.tag (parsePacket bytes).tag).st = .claimed ∧ (s.tag (parsePacket
      bytes).tag).port = moduleNo ep port ∧ crc32c (bytes.take 60) = BitVec.ofNat 32 (field bytes 60 4) ∧ (s.cq (moduleNo ep (parsePacket
      bytes).cqid)).isData = true ∧ (parsePacket bytes).cqid < s.portsPerEp ∧ s.activating = false ∧ s.staticBad ep (parsePacket bytes) =
      none ∧ s.eventRoom = true) :=
  ⟨⟨0, 0, [1#8], up, by decide⟩,
   ⟨0, 0, packetBytes 8 5 0xFFFF 0, { claimed with start := { phase := .service } }, by decide +kernel⟩,
   ⟨0, 0, packetBytes 8 5 0xFFFF 0, up, by decide +kernel⟩,
   ⟨0, 0, (packetBytes 8 5 0xFFFF 0).set 60 7#8, claimed, by decide +kernel⟩,
   ⟨0, 0, packetBytes 8 5 0xFFFF 0, { claimed with ports := [(0, { cq := 1 })], cqs := [(1, { enable := true, size := 16 })] }, by decide +kernel⟩,
   ⟨0, 0, packetBytes 8 5 0xFFFF 0, { claimed with cqs := [] }, by decide +kernel⟩,
   ⟨0, 0, packetBytes 8 5 0xFFFF 0, { claimed with mgt := { activation := some { cmd := none, slot := 0, oldSlot := 0 } } }, by decide +kernel⟩,
   ⟨0, 0, packetBytes 0x0B 5 0 0, { status := 0x0100 }, claimed, by decide +kernel⟩,
   ⟨0, 0, packetBytes 8 5 0xFFFF 0, claimed, by decide +kernel⟩⟩

/-- States and operands that meet the hypotheses of `Obligations.CompletionQueues`, one for each statement in it. -/
theorem witness_completion_queues :
    (∃ (ep : EpNo) (queue : Nat) (ctl : Word) (s : State), s.barOk ep = true ∧ queue < s.portsPerEp ∧ ctl.getLsbD 0 = true ∧ (s.cq
      (moduleNo ep queue)).enable = false ∧ (s.cq (moduleNo ep queue)).base % 4096 = 0 ∧ 2 ≤ (s.cq (moduleNo ep queue)).size ∧ (s.cq
      (moduleNo ep queue)).size ≤ 65536 ∧ bits ctl.toNat 24 16 < s.vectors) ∧
    (∃ (ep : EpNo) (queue : Nat) (ctl : Word) (s : State), s.barOk ep = true ∧ queue < s.portsPerEp ∧ ctl.getLsbD 0 = true ∧ (s.cq
      (moduleNo ep queue)).enable = false ∧ ((s.cq (moduleNo ep queue)).base % 4096 ≠ 0 ∨ (s.cq (moduleNo ep queue)).size < 2 ∨ 65536 <
      (s.cq (moduleNo ep queue)).size ∨ s.vectors ≤ bits ctl.toNat 24 16)) ∧
    (∃ (ep : EpNo) (queue : Nat) (ctl : Word) (s : State), s.barOk ep = true ∧ queue < s.portsPerEp ∧ ctl.getLsbD 0 = true ∧ (s.cq
      (moduleNo ep queue)).enable = true) ∧
    (∃ (ep : EpNo) (queue : Nat) (ctl : Word) (s : State), s.barOk ep = true ∧ queue < s.portsPerEp ∧ ctl.getLsbD 0 = false ∧ (s.cq
      (moduleNo ep queue)).enable = true ∧ s.queueNamed ep queue = false ∧ (s.cq (moduleNo ep queue)).waiting = [] ∧ (s.cq (moduleNo ep
      queue)).notices = []) ∧
    (∃ (ep : EpNo) (queue : Nat) (ctl : Word) (s : State), s.barOk ep = true ∧ queue < s.portsPerEp ∧ ctl.getLsbD 0 = false ∧ (s.cq
      (moduleNo ep queue)).enable = true ∧ (s.queueNamed ep queue = true ∨ (s.cq (moduleNo ep queue)).waiting ≠ [] ∨ (s.cq (moduleNo ep
      queue)).notices ≠ [])) ∧
    (∃ (ep : EpNo) (queue : Nat) (ctl : Word) (s : State), s.barOk ep = true ∧ queue < s.portsPerEp ∧ ctl.getLsbD 0 = false ∧ (s.cq
      (moduleNo ep queue)).enable = false) ∧
    (∃ (ep : EpNo) (queue : Nat) (value : Nat) (s : State), s.barOk ep = true ∧ queue < s.portsPerEp ∧ (s.cq (moduleNo ep queue)).headOk
      (bits value 15 0) = true) ∧
    (∃ (ep : EpNo) (queue : Nat) (value : Nat) (s : State), s.barOk ep = true ∧ queue < s.portsPerEp ∧ (s.cq (moduleNo ep queue)).headOk
      (bits value 15 0) = false ∧ s.eventRoom = true) ∧
    (∃ (ep : EpNo) (queue : Nat) (x : Entry) (r : List Entry) (s : State), s.hostOk ep = true ∧ queue < s.portsPerEp ∧ (s.cq (moduleNo ep
      queue)).waiting = x :: r ∧ (s.cq (moduleNo ep queue)).isData = true ∧ (s.cq (moduleNo ep queue)).full = false ∧ s.eventRoom = true) ∧
    (∃ (ep : EpNo) (queue : Nat) (s : State), s.hostOk ep = true ∧ queue < s.portsPerEp ∧ (s.cq (moduleNo ep queue)).enable = true ∧ (s.cq
      (moduleNo ep queue)).unsent ≠ 0 ∧ s.coalesces ep (s.cq (moduleNo ep queue)) = true ∧ s.eventRoom = true) ∧
    (∃ (ep : EpNo) (queue : Nat) (x : Entry) (r : List Entry) (s : State), s.hostOk ep = true ∧ queue < s.portsPerEp ∧ (s.cq (moduleNo ep
      queue)).lost = 0 ∧ (s.cq (moduleNo ep queue)).notices = x :: r ∧ (s.cq (moduleNo ep queue)).isEvent = true ∧ (s.cq (moduleNo ep
      queue)).full = false ∧ s.eventRoom = true) ∧
    (∃ (ep : EpNo) (queue : Nat) (s : State), s.hostOk ep = true ∧ queue < s.portsPerEp ∧ (s.cq (moduleNo ep queue)).lost ≠ 0 ∧ (s.cq
      (moduleNo ep queue)).isEvent = true ∧ (s.cq (moduleNo ep queue)).full = false ∧ s.eventRoom = true) :=
  ⟨⟨0, 1, 0x30001#32, up.updCq 1 fun c => { c with base := 8192, size := 64, tail := 5 }, by decide⟩,
   ⟨0, 1, 1#32, up, by decide⟩,
   ⟨0, 0, 3#32, up, by decide⟩,
   ⟨0, 0, 0#32, up, by decide⟩,
   ⟨0, 0, 0#32, withCmd {} .sch, by decide⟩,
   ⟨0, 2, 0x50002#32, up, by decide⟩,
   ⟨0, 0, 1, { (up.updCq 0 fun c => { c with tail := 2, held := [some (7, 0), none] }) with tags := [(7, { st := .posted })] }, by decide⟩,
   ⟨0, 0, 3, up, by decide⟩,
   ⟨0, 0, { tag := 7 }, [], up.updCq 0 fun c => { c with waiting := [{ tag := 7 }] }, by decide⟩,
   ⟨0, 0, up.updCq 0 fun c => { c with unsent := 2, coalCount := 4, coalTime := 9 }, by decide⟩,
   ⟨0, 0, { tag := 1 }, [], up.updCq 0 fun c => { c with event := true, notices := [{ tag := 1 }] }, by decide⟩,
   ⟨0, 0, up.updCq 0 fun c => { c with event := true, lost := 4 }, by decide⟩⟩

/-- States and operands that meet the hypotheses of `Obligations.RegisterWrites`, one for each statement in it. -/
theorem witness_register_writes :
    (∃ (ep : EpNo) (address : Nat) (words : List Word) (whole : Bool) (s : State), s.barOk ep = true ∧ (whole = false ∨ s.inTask address =
      true ∨ 0x04000000 ≤ address ∨ ¬ (words.length = 1 ∧ address % 4 = 0 ∨ words.length = 2 ∧ address % 8 = 0)) ∧ s.eventRoom = true) ∧
    (∃ (ep : EpNo) (s : State), s.barOk ep = true) ∧
    (∃ (ep : EpNo) (s : State), s.barOk ep = true) ∧
    (∃ (ep : EpNo) (s : State), s.barOk ep = true) ∧
    (∃ (ep : EpNo) (s : State), s.barOk ep = true) ∧
    (∃ (ep : EpNo) (port : Nat) (s : State), s.barOk ep = true ∧ port < s.portsPerEp) ∧
    (∃ (ep : EpNo) (port : Nat) (s : State), s.barOk ep = true ∧ port < s.portsPerEp) ∧
    (∃ (ep : EpNo) (port : Nat) (s : State), s.barOk ep = true ∧ port < s.portsPerEp) ∧
    (∃ (ep : EpNo) (queue : Nat) (s : State), s.barOk ep = true ∧ queue < s.portsPerEp ∧ (s.cq (moduleNo ep queue)).enable = false) ∧
    (∃ (ep : EpNo) (queue : Nat) (s : State), s.barOk ep = true ∧ queue < s.portsPerEp ∧ (s.cq (moduleNo ep queue)).enable = true) ∧
    (∃ (ep : EpNo) (queue : Nat) (s : State), s.barOk ep = true ∧ queue < s.portsPerEp) ∧
    (∃ (ep : EpNo) (address : Nat) (s : State), s.barOk ep = true ∧ address % 4 = 0 ∧ address < 0x04000000 ∧ ¬ (0x00100000 ≤ address ∧
      address < 0x00400000) ∧ address ≠ 0x0C ∧ address ≠ 0x10 ∧ address ≠ 0x24 ∧ address ≠ 0x00010100) ∧
    (∃ (ep : EpNo) (address : Nat) (s : State), s.barOk ep = true ∧ address % 8 = 0 ∧ address < 0x04000000 ∧ s.inTask address = false ∧
      s.eventRoom = true) ∧
    (∃ (ep : EpNo) (s : State), s.barOk ep = true) ∧
    (∃ (ep : EpNo) (s : State), s.barOk ep = true) ∧
    (∃ (ep : EpNo) (s : State), s.epUsed ep = true ∧ (s.ep ep).linkUp = true ∧ (s.ep ep).mse = false) :=
  ⟨⟨0, 0x100084, [0#32], false, up, by decide⟩,
   ⟨0, up, by decide⟩,
   ⟨0, up, by decide⟩,
   ⟨0, up, by decide⟩,
   ⟨0, up, by decide⟩,
   ⟨0, 127, up, by decide⟩,
   ⟨0, 0, up, by decide⟩,
   ⟨0, 1, up, by decide⟩,
   ⟨0, 1, up, by decide⟩,
   ⟨0, 0, up, by decide⟩,
   ⟨0, 0, up, by decide⟩,
   ⟨0, 0x01080008, up, by decide⟩,
   ⟨0, 0x00200000, up, by decide⟩,
   ⟨0, { (upEp fun x => { x with faultSum := 4#32 }) with alert := true }, by decide⟩,
   ⟨0, { up with flt := { pin := true } }, by decide⟩,
   ⟨0, upEp fun x => { x with mse := false }, by decide⟩⟩

/-- States and operands that meet the hypotheses of `Obligations.TakeInOfCommands`, one for each statement in it. -/
theorem witness_take_in_of_commands :
    (∃ (tag : TagNo) (a : List (List Byte)) (b : List (List Byte)) (s : State), s.live tag = true ∧ (s.cmd tag).pkt.sgl = true ∧ (s.cmd
      tag).listsOk = false ∧ s.hostOk (s.cmd tag).ep = true ∧ listBad (s.cmd tag).pkt (a.map parseSegs) (b.map parseSegs) = none) ∧
    (∃ (tag : TagNo) (a : List (List Byte)) (b : List (List Byte)) (i : Nat) (s : State), s.live tag = true ∧ (s.cmd tag).pkt.sgl = true ∧
      (s.cmd tag).listsOk = false ∧ s.hostOk (s.cmd tag).ep = true ∧ listBad (s.cmd tag).pkt (a.map parseSegs) (b.map parseSegs) = some i) ∧
    (∃ (tag : TagNo) (s : State), s.at_ tag .intake = true ∧ s.held (s.cmd tag) = false ∧ s.turn (s.cmd tag) = true ∧ 0x20 ≤ (s.cmd
      tag).pkt.opc ∧ (s.cmd tag).pkt.changesOwner = false) ∧
    (∃ (tag : TagNo) (s : State), (s.cmd tag).pkt.changesOwner = true) ∧
    (∃ (tag : TagNo) (s : State), s.at_ tag .intake = true ∧ s.held (s.cmd tag) = false ∧ s.turn (s.cmd tag) = true ∧ (5 ≤ (s.cmd
      tag).pkt.opc ∨ (s.cmd tag).pkt.opc = 0) ∧ (s.cmd tag).pkt.opc < 0x20) ∧
    (∃ (tag : TagNo) (s : State), s.at_ tag .intake = true ∧ s.held (s.cmd tag) = false ∧ s.turn (s.cmd tag) = true ∧ ((s.cmd tag).pkt.opc
      = 1 ∨ (s.cmd tag).pkt.opc = 4) ∧ s.blockRead (s.cmd tag).ep (s.cmd tag).pkt.vol (zoneOf (s.cmd tag).pkt.slba) (s.cmd tag).order =
      none ∧ (s.zoneCount (s.cmd tag).pkt.vol = 0 ∨ zoneOf (s.cmd tag).pkt.slba < s.zoneCount (s.cmd tag).pkt.vol)) ∧
    (∃ (tag : TagNo) (k : Nat) (s : State), s.at_ tag .intake = true ∧ s.held (s.cmd tag) = false ∧ s.turn (s.cmd tag) = true ∧ (((s.cmd
      tag).pkt.opc = 1 ∨ (s.cmd tag).pkt.opc = 4) ∧ s.blockRead (s.cmd tag).ep (s.cmd tag).pkt.vol (zoneOf (s.cmd tag).pkt.slba) (s.cmd
      tag).order = some (.code k) ∨ ((s.cmd tag).pkt.opc = 2 ∨ (s.cmd tag).pkt.opc = 3) ∧ s.blockWrite (s.cmd tag).ep (s.cmd tag).pkt.vol
      (zoneOf (s.cmd tag).pkt.slba) (ofsOf (s.cmd tag).pkt.slba) (s.cmd tag).pkt.count (s.cmd tag).order ((s.cmd tag).pkt.opc == 3) = some
      (.code k))) ∧
    (∃ (tag : TagNo) (d : Deferred) (s : State), s.at_ tag .intake = true ∧ s.held (s.cmd tag) = false ∧ s.turn (s.cmd tag) = true ∧
      s.blockRead (s.cmd tag).ep (s.cmd tag).pkt.vol (zoneOf (s.cmd tag).pkt.slba) (s.cmd tag).order = some .deferred ∧ 1 ≤ (s.cmd
      tag).pkt.opc ∧ (s.cmd tag).pkt.opc ≤ 4 ∧ (s.zone (s.cmd tag).pkt.vol (zoneOf (s.cmd tag).pkt.slba)).deferred = some d) ∧
    (∃ (tag : TagNo) (s : State), s.at_ tag .intake = true ∧ s.held (s.cmd tag) = false ∧ s.turn (s.cmd tag) = true ∧ (((s.cmd
      tag).pkt.opc = 1 ∨ (s.cmd tag).pkt.opc = 4) ∧ s.blockRead (s.cmd tag).ep (s.cmd tag).pkt.vol (zoneOf (s.cmd tag).pkt.slba) (s.cmd
      tag).order = none ∨ ((s.cmd tag).pkt.opc = 2 ∨ (s.cmd tag).pkt.opc = 3) ∧ s.blockWrite (s.cmd tag).ep (s.cmd tag).pkt.vol (zoneOf
      (s.cmd tag).pkt.slba) (ofsOf (s.cmd tag).pkt.slba) (s.cmd tag).pkt.count (s.cmd tag).order ((s.cmd tag).pkt.opc == 3) = none) ∧
      s.zoneCount (s.cmd tag).pkt.vol ≠ 0 ∧ s.zoneCount (s.cmd tag).pkt.vol ≤ zoneOf (s.cmd tag).pkt.slba) ∧
    (∃ (tag : TagNo) (s : State), s.at_ tag .intake = true ∧ s.held (s.cmd tag) = false ∧ s.turn (s.cmd tag) = true ∧ ((s.cmd tag).pkt.opc
      = 2 ∨ (s.cmd tag).pkt.opc = 3) ∧ s.blockWrite (s.cmd tag).ep (s.cmd tag).pkt.vol (zoneOf (s.cmd tag).pkt.slba) (ofsOf (s.cmd
      tag).pkt.slba) (s.cmd tag).pkt.count (s.cmd tag).order ((s.cmd tag).pkt.opc == 3) = none ∧ (s.zoneCount (s.cmd tag).pkt.vol = 0 ∨
      zoneOf (s.cmd tag).pkt.slba < s.zoneCount (s.cmd tag).pkt.vol) ∧ s.isConv (s.cmd tag).pkt.vol (zoneOf (s.cmd tag).pkt.slba) = true) ∧
    (∃ (tag : TagNo) (s : State), s.at_ tag .intake = true ∧ s.held (s.cmd tag) = false ∧ s.turn (s.cmd tag) = true ∧ ((s.cmd tag).pkt.opc
      = 2 ∨ (s.cmd tag).pkt.opc = 3) ∧ s.blockWrite (s.cmd tag).ep (s.cmd tag).pkt.vol (zoneOf (s.cmd tag).pkt.slba) (ofsOf (s.cmd
      tag).pkt.slba) (s.cmd tag).pkt.count (s.cmd tag).order ((s.cmd tag).pkt.opc == 3) = none ∧ (s.zoneCount (s.cmd tag).pkt.vol = 0 ∨
      zoneOf (s.cmd tag).pkt.slba < s.zoneCount (s.cmd tag).pkt.vol) ∧ s.isConv (s.cmd tag).pkt.vol (zoneOf (s.cmd tag).pkt.slba) = false) :=
  ⟨⟨0, [leBytes 8 4096 ++ leBytes 4 4096 ++ leBytes 4 1], [], { up with tags := [(0, { st := .accepted })], cmds := [(0, { pkt := { opc := 1, flg := 4#8 }, listsOk := false })] }, by decide⟩,
   ⟨0, [leBytes 8 4096 ++ leBytes 4 2048 ++ leBytes 4 1], [], 0, { up with tags := [(0, { st := .accepted })], cmds := [(0, { pkt := { opc := 1, flg := 4#8 }, listsOk := false })] }, by decide⟩,
   ⟨0, withCmd { opc := 0x20 } .intake, by decide⟩,
   ⟨0, withCmd { opc := 0x33, p0 := 2#32 } .intake, by decide⟩,
   ⟨0, withCmd { opc := 5 } .intake, by decide⟩,
   ⟨0, withCmd { opc := 1 } .intake, by decide⟩,
   ⟨0, 0x000D, withCmd { opc := 1, vol := 9 } .intake, by decide⟩,
   ⟨0, { lba := 5, count := 2, cause := 1 }, (withCmd { opc := 1 } .intake).updZone 0 0 fun z => { z with deferred := some { lba := 5, count := 2, cause := 1 } }, by decide⟩,
   ⟨0, withCmd { opc := 1, slba := 65536 * 7 } .intake, by decide⟩,
   ⟨0, withCmd { opc := 2, slba := 7 } .intake, by decide⟩,
   ⟨0, withCmd { opc := 2, slba := 65536 } .intake, by decide⟩⟩

/-- States and operands that meet the hypotheses of `Obligations.AbortAndFlush`, one for each statement in it. -/
theorem witness_abort_and_flush :
    (∃ (tag : TagNo) (s : State), s.at_ tag .perform = true ∧ (s.cmd tag).pkt.opc = 8 ∧ (s.tagOf (s.cmd tag).ep (bits (s.cmd
      tag).pkt.p2.toNat 13 0) = false ∨ (s.tag (bits (s.cmd tag).pkt.p2.toNat 13 0)).st = .free ∨ (s.tag (bits (s.cmd tag).pkt.p2.toNat 13
      0)).st = .claimed ∨ ((s.tag (bits (s.cmd tag).pkt.p2.toNat 13 0)).st = .accepted ∧ (s.cmd (bits (s.cmd tag).pkt.p2.toNat 13
      0)).pkt.opc = 8))) ∧
    (∃ (tag : TagNo) (s : State), s.at_ tag .perform = true ∧ (s.cmd tag).pkt.opc = 8 ∧ s.tagOf (s.cmd tag).ep (bits (s.cmd
      tag).pkt.p2.toNat 13 0) = true ∧ ((s.tag (bits (s.cmd tag).pkt.p2.toNat 13 0)).st = .posted ∨ (s.tag (bits (s.cmd tag).pkt.p2.toNat
      13 0)).st = .accepted ∧ (s.cmd (bits (s.cmd tag).pkt.p2.toNat 13 0)).pkt.opc ≠ 8 ∧ ((s.cmd (bits (s.cmd tag).pkt.p2.toNat 13
      0)).phase = .fua ∨ (s.cmd (bits (s.cmd tag).pkt.p2.toNat 13 0)).phase = .executing ∧ 0x20 ≤ (s.cmd (bits (s.cmd tag).pkt.p2.toNat 13
      0)).pkt.opc))) ∧
    (∃ (tag : TagNo) (n : Nat) (s : State), s.at_ tag .perform = true ∧ (s.cmd tag).pkt.opc = 8 ∧ n = bits (s.cmd tag).pkt.p2.toNat 13 0 ∧
      s.tagOf (s.cmd tag).ep n = true ∧ s.live n = true ∧ (s.cmd n).pkt.opc ≠ 8 ∧ s.pastAbort n = false) ∧
    (∃ (tag : TagNo) (k : Nat) (s : State), s.at_ tag .perform = true ∧ (s.cmd tag).pkt.opc = 5 ∧ s.flushBlock (s.cmd tag).ep (s.cmd
      tag).pkt.vol (s.cmd tag).order = some k) ∧
    (∃ (tag : TagNo) (s : State), s.at_ tag .perform = true ∧ (s.cmd tag).pkt.opc = 5 ∧ s.flushBlock (s.cmd tag).ep (s.cmd tag).pkt.vol
      (s.cmd tag).order = none) ∧
    (∃ (tag : TagNo) (s : State), s.at_ tag .flush = true ∧ (∀ e, e ∈ s.bca.index → (s.cmd tag).inScope e.1 = true → (s.cmd tag).covers <
      e.2.seq)) :=
  ⟨⟨0, withCmd { opc := 8, p2 := 9#32 } .perform, by decide⟩,
   ⟨0, { withCmd { opc := 8, p2 := 9#32 } .perform with tags := [(0, { st := .accepted }), (9, { st := .posted })] }, by decide⟩,
   ⟨0, 9, { withCmd { opc := 8, p2 := 9#32 } .perform with tags := [(0, { st := .accepted }), (9, { st := .accepted })], cmds := [(0, { pkt := { opc := 8, p2 := 9#32 }, phase := .perform }), (9, { pkt := { opc := 1 }, phase := .sch })] }, by decide⟩,
   ⟨0, 0x000D, withCmd { opc := 5, vol := 9 } .perform, by decide⟩,
   ⟨0, withCmd { opc := 5 } .perform, by decide⟩,
   ⟨0, withCmd { opc := 5 } .flush, by decide⟩⟩

/-- States and operands that meet the hypotheses of `Obligations.WriteFlow`, one for each statement in it. -/
theorem witness_write_flow :
    (∃ (tag : TagNo) (s : State), s.at_ tag .perform = true ∧ (s.cmd tag).pkt.opc = 2) ∧
    (∃ (tag : TagNo) (s : State), s.at_ tag .perform = true ∧ (s.cmd tag).pkt.opc = 3) ∧
    (∃ (n : Nat) (r : List Nat) (s : State), s.bca.budget = n :: r ∧ s.at_ n .budget = true ∧ s.canGrant (s.cmd n).pkt.count = true) ∧
    (∃ (tag : TagNo) (sectors : List (List Byte)) (metas : List (List Byte)) (s : State), s.at_ tag .fetch = true ∧ (s.cmd tag).listsOk =
      true ∧ s.hostOk (s.cmd tag).ep = true ∧ sectors.length = (s.cmd tag).pkt.count ∧ (metas.length = if (s.cmd tag).pkt.hasMeta then
      (s.cmd tag).pkt.count else 0) ∧ s.eventRoom = true) ∧
    (∃ (tag : TagNo) (s : State), s.at_ tag .buffered = true ∧ s.mns.powerFail = false ∧ (s.cmd tag).pkt.fua = false ∧ s.eventRoom = true) ∧
    (∃ (tag : TagNo) (s : State), s.at_ tag .buffered = true ∧ s.mns.powerFail = false ∧ (s.cmd tag).pkt.fua = true ∧ s.eventRoom = true) ∧
    (∃ (tag : TagNo) (aerBit : Nat) (s : State), s.live tag = true ∧ ((s.cmd tag).phase = .fetch ∨ (s.cmd tag).listsOk = false ∨ (s.cmd
      tag).phase = .managed ∨ (s.cmd tag).phase = .executing) ∧ s.hostOk (s.cmd tag).ep = true ∧ (aerBit ≠ 19 ∨ (s.ep (s.cmd
      tag).ep).ecrcCheck = true) ∧ s.eventRoom = true) :=
  ⟨⟨0, withCmd { opc := 2 } .perform, by decide⟩,
   ⟨0, withCmd { opc := 3 } .perform, by decide⟩,
   ⟨0, [], { withCmd { opc := 2, nsec := 7 } .budget with bca := { budget := [0] } }, by decide⟩,
   ⟨0, [[1#8]], [], withCmd { opc := 2 } .fetch, by decide⟩,
   ⟨0, { withCmd { opc := 2, slba := 65536 } .perform with cmds := [(0, { pkt := { opc := 2, slba := 65536 }, phase := .buffered, lba := 65536, data := [{ lba := 65536 }] })] }, by decide⟩,
   ⟨0, { withCmd { opc := 2, slba := 65536 } .perform with cmds := [(0, { pkt := { opc := 2, slba := 65536, flg := 2#8 }, phase := .buffered, lba := 65536, data := [{ lba := 65536 }] })] }, by decide⟩,
   ⟨0, 12, withCmd { opc := 2, slba := 65536 } .fetch, by decide⟩⟩

/-- States and operands that meet the hypotheses of `Obligations.ReadFlow`, one for each statement in it. -/
theorem witness_read_flow :
    (∃ (tag : TagNo) (s : State), s.at_ tag .perform = true ∧ (s.cmd tag).pkt.opc = 1 ∧ s.eventRoom = true) ∧
    (∃ (tag : TagNo) (s : State), s.at_ tag .perform = true ∧ (s.cmd tag).pkt.opc = 4 ∧ s.eventRoom = true) ∧
    (∃ (egress : EgressIn) (tag : TagNo) (s : State), egress.tag = tag ∧ s.at_ tag .egress = true ∧ ((s.cmd tag).pkt.opc = 1 ∨ (s.cmd
      tag).pkt.opc = 4) ∧ ((s.cmd tag).pkt.opc = 4 ∨ (s.cmd tag).listsOk = true ∧ s.hostOk (s.cmd tag).ep = true) ∧ ((egress.reads.all fun
      b => burstOk b && s.ofCmd (s.cmd tag) b) = true) ∧ s.eventRoom = true) ∧
    (∃ (mu : MuNo) (n : Nat) (r : List Nat) (s : State), (s.mu mu).sch.overflow = n :: r ∧ (s.mu mu).sch.depth < 1024) :=
  ⟨⟨0, withCmd { opc := 1, slba := 65536 } .perform, by decide⟩,
   ⟨0, withCmd { opc := 4 } .perform, by decide⟩,
   ⟨{ tag := 0 }, 0, { withCmd {} .perform with cmds := [(0, { pkt := { opc := 1, nsec := 1 }, phase := .egress, secs := [(0, { read := true, zero := true })] })] }, by decide⟩,
   ⟨0, 0, [], (withCmd { opc := 1 } .overflow).updMu 0 fun m => { m with sch := { overflow := [0] } }, by decide⟩⟩

set_option maxRecDepth 40000 in
/-- States and operands that meet the hypotheses of `Obligations.TakesAndDestage`, one for each statement in it. -/
theorem witness_takes_and_destage :
    (∃ (mu : MuNo) (clock : SchClock) (angle : Nat) (d : TakeDesc) (s : State), s.mayIssue mu = true ∧ (s.mu mu).bufferDone = true ∧
      clock.ages.length = (s.eligible mu).length ∧ clock.now / 1000 = s.second ∧ (s.mu mu).sch.now ≤ clock.now ∧ angle < 32768 ∧
      s.continuation mu = some d ∧ d.type ≠ 2 ∧ s.eventRoom = true) ∧
    (∃ (mu : MuNo) (clock : SchClock) (angle : Nat) (d : TakeDesc) (s : State), s.mayIssue mu = true ∧ (s.mu mu).bufferDone = true ∧
      clock.ages.length = (s.eligible mu).length ∧ clock.now / 1000 = s.second ∧ (s.mu mu).sch.now ≤ clock.now ∧ angle < 32768 ∧
      s.continuation mu = none ∧ (chooseTake ((s.placeSystem mu).urgent mu) ((((s.placeSystem mu).eligible mu).zip clock.ages).map fun e
      => (e.1, (s.mu mu).sch.ageAt clock.now e.1 e.2, (s.placeSystem mu).accessCost mu angle e.1)) = some d) ∧ d.type ≠ 2 ∧ d.type < 6 ∧
      s.eventRoom = true) ∧
    (∃ (mu : MuNo) (clock : SchClock) (angle : Nat) (d : TakeDesc) (x : Destage) (s : State), s.mayIssue mu = true ∧ (s.mu mu).bufferDone
      = true ∧ clock.ages.length = (s.eligible mu).length ∧ clock.now / 1000 = s.second ∧ (s.mu mu).sch.now ≤ clock.now ∧ angle < 32768 ∧
      s.continuation mu = none ∧ (chooseTake ((s.placeSystem mu).urgent mu) ((((s.placeSystem mu).eligible mu).zip clock.ages).map fun e
      => (e.1, (s.mu mu).sch.ageAt clock.now e.1 e.2, (s.placeSystem mu).accessCost mu angle e.1)) = some d) ∧ d.type = 2 ∧ ((s.mu
      mu).sch.destage.find? (fun x => x.zone == d.zone && x.track == d.track) = some x) ∧ (((s.mu mu).sch.destage.filter fun y => y.zone
      == d.zone) = [x]) ∧ (x.failed = 0 ∨ x.failed < bits (s.feature 0x06 mu).1.toNat 3 0 ∨ (x.failed = bits (s.feature 0x06 mu).1.toNat 3
      0 ∧ s.writeRetry mu ≤ bits (s.feature 0x06 mu).1.toNat 3 0)) ∧ s.eventRoom = true) ∧
    (∃ (mu : MuNo) (clock : SchClock) (angle : Nat) (d : TakeDesc) (x : Destage) (l : Nat) (r : List Nat) (s : State), s.mayIssue mu =
      true ∧ (s.mu mu).bufferDone = true ∧ clock.ages.length = (s.eligible mu).length ∧ clock.now / 1000 = s.second ∧ (s.mu mu).sch.now ≤
      clock.now ∧ angle < 32768 ∧ s.continuation mu = none ∧ (chooseTake ((s.placeSystem mu).urgent mu) ((((s.placeSystem mu).eligible
      mu).zip clock.ages).map fun e => (e.1, (s.mu mu).sch.ageAt clock.now e.1 e.2, (s.placeSystem mu).accessCost mu angle e.1)) = some d)
      ∧ d.type = 2 ∧ ((s.mu mu).sch.destage.find? (fun x => x.zone == d.zone && x.track == d.track) = some x) ∧ (((s.mu
      mu).sch.destage.filter fun y => y.zone == d.zone) = [x]) ∧ 1 ≤ x.failed ∧ (bits (s.feature 0x06 mu).1.toNat 3 0 < x.failed ∨
      (x.failed = bits (s.feature 0x06 mu).1.toNat 3 0 ∧ bits (s.feature 0x06 mu).1.toNat 3 0 < s.writeRetry mu)) ∧ x.lbas = l :: r ∧
      s.eventRoom = true) ∧
    (∃ (mu : MuNo) (clock : SchClock) (angle : Nat) (d : TakeDesc) (s : State), s.mayIssue mu = true ∧ (s.mu mu).bufferDone = true ∧
      clock.ages.length = (s.eligible mu).length ∧ clock.now / 1000 = s.second ∧ (s.mu mu).sch.now ≤ clock.now ∧ angle < 32768 ∧
      s.continuation mu = none ∧ (chooseTake ((s.placeSystem mu).urgent mu) ((((s.placeSystem mu).eligible mu).zip clock.ages).map fun e
      => (e.1, (s.mu mu).sch.ageAt clock.now e.1 e.2, (s.placeSystem mu).accessCost mu angle e.1)) = some d) ∧ (d.type = 6 ∨ d.type = 7) ∧
      s.eventRoom = true) ∧
    (∃ (mu : MuNo) (clock : SchClock) (angle : Nat) (s : State), s.mayIssue mu = true ∧ (s.mu mu).bufferDone = true ∧ clock.ages.length =
      (s.eligible mu).length ∧ clock.now / 1000 = s.second ∧ (s.mu mu).sch.now ≤ clock.now ∧ angle < 32768 ∧ s.continuation mu = none ∧
      s.eligible mu = []) ∧
    (∃ (mu : MuNo) (found : TableIn) (d : TakeDesc) (s : State), ((found.reads.all fun b => burstOk b && s.ofEntry mu d b) = true) ∧
      ((s.mu mu).tsq.st = .running ∨ (s.mu mu).tsq.st = .held) ∧ (s.mu mu).tsq.tablesReady = false ∧ (s.mu mu).tsq.desc = some d ∧ ((s.mu
      mu).rch.uses d.head d.rz (s.mu mu).tsq.band (sget (s.mu mu).chanTable (entryIndex d.head d.rz (s.mu mu).tsq.band) []) = true ∨
      (chanEntryOk (s.desc ((mu : Nat) / 2)) d.head d.rz (s.mu mu).tsq.band (sget (s.mu mu).chanTable (entryIndex d.head d.rz (s.mu
      mu).tsq.band) []) = true ∧ ((s.readBursts found.reads).mu mu).entryPoisoned (entryIndex d.head d.rz (s.mu mu).tsq.band) false =
      false)) ∧ writeEntryOk (s.desc ((mu : Nat) / 2)) d.head d.rz (s.mu mu).tsq.band (sget (s.mu mu).writeTable (entryIndex d.head d.rz
      (s.mu mu).tsq.band) []) = true ∧ ((s.readBursts found.reads).mu mu).entryPoisoned (entryIndex d.head d.rz (s.mu mu).tsq.band) true =
      false ∧ (d.type = 2 ∨ d.type = 7 → (s.mu mu).pa.pflt = false ∧ (s.mu mu).was.clearDue = false ∨ found.stays = false) ∧ s.eventRoom =
      true) ∧
    (∃ (mu : MuNo) (found : TableIn) (d : TakeDesc) (s : State), ((found.reads.all fun b => burstOk b && s.ofEntry mu d b) = true) ∧
      ((s.mu mu).tsq.st = .running ∨ (s.mu mu).tsq.st = .held) ∧ (s.mu mu).tsq.tablesReady = false ∧ (s.mu mu).tsq.desc = some d ∧ (d.type
      = 2 ∨ d.type = 7 → (s.mu mu).pa.pflt = false ∧ (s.mu mu).was.clearDue = false ∨ found.stays = false) ∧ (chanEntryOk (s.desc ((mu :
      Nat) / 2)) d.head d.rz (s.mu mu).tsq.band (sget (s.mu mu).chanTable (entryIndex d.head d.rz (s.mu mu).tsq.band) []) = false ∨
      ((s.readBursts found.reads).mu mu).entryPoisoned (entryIndex d.head d.rz (s.mu mu).tsq.band) false = true) ∧ (s.mu mu).rch.uses
      d.head d.rz (s.mu mu).tsq.band (sget (s.mu mu).chanTable (entryIndex d.head d.rz (s.mu mu).tsq.band) []) = false ∧ s.eventRoom =
      true) ∧
    (∃ (mu : MuNo) (found : TableIn) (d : TakeDesc) (s : State), ((found.reads.all fun b => burstOk b && s.ofEntry mu d b) = true) ∧
      ((s.mu mu).tsq.st = .running ∨ (s.mu mu).tsq.st = .held) ∧ (s.mu mu).tsq.tablesReady = false ∧ (s.mu mu).tsq.desc = some d ∧ (d.type
      = 2 ∨ d.type = 7 → (s.mu mu).pa.pflt = false ∧ (s.mu mu).was.clearDue = false ∨ found.stays = false) ∧ (writeEntryOk (s.desc ((mu :
      Nat) / 2)) d.head d.rz (s.mu mu).tsq.band (sget (s.mu mu).writeTable (entryIndex d.head d.rz (s.mu mu).tsq.band) []) = false ∨
      ((s.readBursts found.reads).mu mu).entryPoisoned (entryIndex d.head d.rz (s.mu mu).tsq.band) true = true) ∧ s.eventRoom = true) ∧
    (∃ (mu : MuNo) (found : TableIn) (d : TakeDesc) (s : State), ((found.reads.all fun b => burstOk b && s.ofEntry mu d b) = true) ∧
      ((s.mu mu).tsq.st = .running ∨ (s.mu mu).tsq.st = .held) ∧ (s.mu mu).tsq.tablesReady = false ∧ (s.mu mu).tsq.desc = some d ∧
      found.stays = true ∧ (d.type = 2 ∨ d.type = 7) ∧ ((s.mu mu).pa.pflt = true ∨ (s.mu mu).was.clearDue = true) ∧ s.eventRoom = true) ∧
    (∃ (mu : MuNo) (zone : Nat) (offset : Nat) (k : Nat) (now : Nat) (r : List Nat) (s : State), s.dirtyOnTrack mu zone (s.place mu (zone
      * 65536 + offset)).1 = k :: r ∧ now / 1000 = s.second ∧ (s.zone mu zone).inSch = false ∧ (s.mu mu).sch.destage.length < 8 ∧
      s.headsAway mu = false ∧ (s.isConv mu zone = false → (s.dirtyIn mu zone).head? = some (dkey mu (zone * 65536 + offset))) ∧ (s.isConv
      mu zone = true → s.lowerTrack mu zone (s.place mu (zone * 65536 + offset)).1 ((s.zone mu zone).lastCommit + 2000 ≤ now) = false) ∧
      s.mayHandOver mu zone (s.place mu (zone * 65536 + offset)).1 ((s.zone mu zone).lastCommit + 2000 ≤ now) (k :: r) = true) ∧
    (∃ (mu : MuNo) (n : Nat) (r : List Nat) (s : State), (s.mu mu).sch.recQueue = n :: r ∧ (s.mu mu).sch.recovery = none ∧ (∀ d, (s.mu
      mu).tsq.desc = some d → d.type ≠ 3 ∧ d.type ≠ 4) ∧ (s.mu mu).sch.slipNext = none ∧ s.at_ n .recovery = true ∧ s.coreFree 0 = true ∧
      ((s.mgt.hungTasks.any fun e => e.2 == .recovery mu) = false)) :=
  ⟨⟨0, { now := 36005000, ages := [] }, 5, { type := 0, track := 3, first := 2, count := 4, spt := 500 }, upMu fun m => { m with sch := { slipNext := some { type := 0, track := 3, first := 2, count := 4, spt := 500 } } }, by decide⟩,
   ⟨0, { now := 36005000, ages := [20] }, 9, { type := 3, track := 3, first := 2, count := 4, spt := 500 }, upMu fun m => { m with sch := { recovery := some { type := 3, track := 3, first := 2, count := 4, spt := 500 } } }, by decide⟩,
   ⟨0, { now := 36005000, ages := [20] }, 9, { type := 2, track := 200, first := 0, count := 1, spt := 500, zone := 1, serves := 200 }, { zone := 1, track := 200, first := 0, count := 1, lbas := [65536] }, upMu fun m => { m with sch := { destage := [{ zone := 1, track := 200, first := 0, count := 1, lbas := [65536] }] } }, by decide⟩,
   ⟨0, { now := 36005000, ages := [20] }, 9, { type := 2, track := 200, first := 0, count := 1, spt := 500, zone := 1, serves := 200 }, { zone := 1, track := 200, first := 0, count := 1, failed := 9, lbas := [65536] }, 65536, [], upMu fun m => { m with sch := { destage := [{ zone := 1, track := 200, first := 0, count := 1, failed := 9, lbas := [65536] }] } }, by decide⟩,
   ⟨0, { now := 36005000, ages := [20] }, 9, { type := 7 }, upMu fun m => { m with sch := { systemDue := true, sysTake := some { type := 7 } } }, by decide⟩,
   ⟨0, { now := 36005000, ages := [] }, 0, up, by decide⟩,
   ⟨0, {}, {}, { (upMu fun m => { m with tsq := { st := .running, desc := some {}, band := 11 }, chanTable := [(11, chanBytes)], writeTable := [(11, writeBytes)] }) with free := 1 }, by decide +kernel⟩,
   ⟨0, {}, {}, upMu fun m => { m with tsq := { st := .running, desc := some {}, band := 11, v := [] } }, by decide⟩,
   ⟨0, {}, {}, upMu fun m => { m with tsq := { st := .running, desc := some {}, band := 11, v := [] } }, by decide⟩,
   ⟨0, { stays := true }, { type := 2 }, upMu fun m => { m with tsq := { st := .running, desc := some { type := 2 } }, was := { clearDue := true } }, by decide⟩,
   ⟨0, 1, 0, 65536, 36005000, [], { up with bca := { index := [(65536, { seq := 1, sector := some {} })] } }, by decide⟩,
   ⟨0, 0, [], (withCmd { opc := 1 } .recovery).updMu 0 fun m => { m with sch := { recQueue := [0] } }, by decide⟩⟩

set_option maxRecDepth 40000 in
/-- States and operands that meet the hypotheses of `Obligations.SequencerCycle`, one for each statement in it. -/
theorem witness_sequencer_cycle :
    (∃ (mu : MuNo) (d : TakeDesc) (i : CycleIn) (s : State), (s.mu mu).tsq.desc = some d ∧ (s.mu mu).tsq.st = .running ∧ s.cycleFits mu d
      i.cycle = true ∧ s.eventRoom = true) ∧
    (∃ (mu : MuNo) (d : TakeDesc) (i : CycleIn) (w : Word) (g : State) (s : State), (s.mu mu).tsq.desc = some d ∧ (s.mu mu).tsq.st =
      .running ∧ s.cycleFits mu d i.cycle = true ∧ (g = (s.updMu mu fun x => { x with
        tsq := { x.tsq.tick.counts i.cycle with
          upc := (s.store.effective (s.mu mu).tsq.upc), addr := (s.store.effective (s.mu mu).tsq.upc) } }).gatesAt mu d i.cycle) ∧ i.micro
          ≠ 2 ∧ i.nano ≠ 2 ∧ s.store.microAt (s.store.effective (s.mu mu).tsq.upc) = some w ∧ bits w.toNat 31 29 = 0 ∧ s.store.nanoAt
          (bits w.toNat 22 12) = some 0#192 ∧ s.eventRoom = true) ∧
    (∃ (mu : MuNo) (d : TakeDesc) (i : CycleIn) (w : Word) (g : State) (s : State), (s.mu mu).tsq.desc = some d ∧ (s.mu mu).tsq.st =
      .running ∧ s.cycleFits mu d i.cycle = true ∧ (g = (s.updMu mu fun x => { x with
        tsq := { x.tsq.tick.counts i.cycle with
          upc := (s.store.effective (s.mu mu).tsq.upc), addr := (s.store.effective (s.mu mu).tsq.upc) } }).gatesAt mu d i.cycle) ∧ i.micro
          ≠ 2 ∧ i.nano ≠ 2 ∧ s.store.microAt (s.store.effective (s.mu mu).tsq.upc) = some w ∧ bits w.toNat 31 29 = 1 ∧ s.store.nanoAt
          (bits w.toNat 22 12) = some 0#192 ∧ bit (g.condGroup mu d (g.wedgeLast mu d i.cycle) (bits w.toNat 28 25)) (bits w.toNat 24 23)
          = true ∧ s.eventRoom = true) ∧
    (∃ (mu : MuNo) (d : TakeDesc) (i : CycleIn) (w : Word) (g : State) (s : State), (s.mu mu).tsq.desc = some d ∧ (s.mu mu).tsq.st =
      .running ∧ s.cycleFits mu d i.cycle = true ∧ (g = (s.updMu mu fun x => { x with
        tsq := { x.tsq.tick.counts i.cycle with
          upc := (s.store.effective (s.mu mu).tsq.upc), addr := (s.store.effective (s.mu mu).tsq.upc) } }).gatesAt mu d i.cycle) ∧ i.micro
          ≠ 2 ∧ i.nano ≠ 2 ∧ s.store.microAt (s.store.effective (s.mu mu).tsq.upc) = some w ∧ bits w.toNat 31 29 = 1 ∧ s.store.nanoAt
          (bits w.toNat 22 12) = some 0#192 ∧ bit (g.condGroup mu d (g.wedgeLast mu d i.cycle) (bits w.toNat 28 25)) (bits w.toNat 24 23)
          = false ∧ s.eventRoom = true) ∧
    (∃ (mu : MuNo) (d : TakeDesc) (i : CycleIn) (w : Word) (g : State) (s : State), (s.mu mu).tsq.desc = some d ∧ (s.mu mu).tsq.st =
      .running ∧ s.cycleFits mu d i.cycle = true ∧ (g = (s.updMu mu fun x => { x with
        tsq := { x.tsq.tick.counts i.cycle with
          upc := (s.store.effective (s.mu mu).tsq.upc), addr := (s.store.effective (s.mu mu).tsq.upc) } }).gatesAt mu d i.cycle) ∧ i.micro
          ≠ 2 ∧ i.nano ≠ 2 ∧ s.store.microAt (s.store.effective (s.mu mu).tsq.upc) = some w ∧ bits w.toNat 31 29 = 3 ∧ s.store.nanoAt
          (bits w.toNat 22 12) = some 0#192 ∧ bit (g.condGroup mu d (g.wedgeLast mu d i.cycle) (bits w.toNat 28 25)) (bits w.toNat 24 23)
          = true ∧ (g.mu mu).tsq.stack.length < 8 ∧ s.eventRoom = true) ∧
    (∃ (mu : MuNo) (d : TakeDesc) (i : CycleIn) (w : Word) (a : Nat) (r : List Nat) (g : State) (s : State), (s.mu mu).tsq.desc = some d ∧
      (s.mu mu).tsq.st = .running ∧ s.cycleFits mu d i.cycle = true ∧ (g = (s.updMu mu fun x => { x with
        tsq := { x.tsq.tick.counts i.cycle with
          upc := (s.store.effective (s.mu mu).tsq.upc), addr := (s.store.effective (s.mu mu).tsq.upc) } }).gatesAt mu d i.cycle) ∧ i.micro
          ≠ 2 ∧ i.nano ≠ 2 ∧ s.store.microAt (s.store.effective (s.mu mu).tsq.upc) = some w ∧ bits w.toNat 31 29 = 4 ∧ s.store.nanoAt
          (bits w.toNat 22 12) = some 0#192 ∧ bit (g.condGroup mu d (g.wedgeLast mu d i.cycle) (bits w.toNat 28 25)) (bits w.toNat 24 23)
          = true ∧ (g.mu mu).tsq.stack = a :: r ∧ s.eventRoom = true) ∧
    (∃ (mu : MuNo) (d : TakeDesc) (i : CycleIn) (w : Word) (g : State) (s : State), (s.mu mu).tsq.desc = some d ∧ (s.mu mu).tsq.st =
      .running ∧ s.cycleFits mu d i.cycle = true ∧ (g = (s.updMu mu fun x => { x with
        tsq := { x.tsq.tick.counts i.cycle with
          upc := (s.store.effective (s.mu mu).tsq.upc), addr := (s.store.effective (s.mu mu).tsq.upc) } }).gatesAt mu d i.cycle) ∧ i.micro
          ≠ 2 ∧ i.nano ≠ 2 ∧ s.store.microAt (s.store.effective (s.mu mu).tsq.upc) = some w ∧ bits w.toNat 31 29 = 7 ∧ s.store.nanoAt
          (bits w.toNat 22 12) = some 0#192 ∧ bit (g.condGroup mu d (g.wedgeLast mu d i.cycle) (bits w.toNat 28 25)) (bits w.toNat 24 23)
          = true ∧ (g.mu mu).tsq.stopPend = false ∧ (g.mu mu).tsq.abortPend = false ∧ s.eventRoom = true) ∧
    (∃ (mu : MuNo) (d : TakeDesc) (i : CycleIn) (w : Word) (g : State) (s : State), (s.mu mu).tsq.desc = some d ∧ (s.mu mu).tsq.st =
      .running ∧ s.cycleFits mu d i.cycle = true ∧ (g = (s.updMu mu fun x => { x with
        tsq := { x.tsq.tick.counts i.cycle with
          upc := (s.store.effective (s.mu mu).tsq.upc), addr := (s.store.effective (s.mu mu).tsq.upc) } }).gatesAt mu d i.cycle) ∧ i.micro
          ≠ 2 ∧ i.nano ≠ 2 ∧ s.store.microAt (s.store.effective (s.mu mu).tsq.upc) = some w ∧ bits w.toNat 31 29 = 7 ∧ (g.mu
          mu).tsq.stopPend = true ∧ (g.mu mu).tsq.handling = none ∧ (g.mu mu).tsq.stack.length < 8 ∧ s.eventRoom = true) ∧
    (∃ (mu : MuNo) (d : TakeDesc) (i : CycleIn) (w : Word) (k : BitVec 4) (g : State) (s : State), (s.mu mu).tsq.desc = some d ∧ (s.mu
      mu).tsq.st = .running ∧ s.cycleFits mu d i.cycle = true ∧ (g = (s.updMu mu fun x => { x with
        tsq := { x.tsq.tick.counts i.cycle with
          upc := (s.store.effective (s.mu mu).tsq.upc), addr := (s.store.effective (s.mu mu).tsq.upc) } }).gatesAt mu d i.cycle) ∧ i.micro
          ≠ 2 ∧ i.nano ≠ 2 ∧ s.store.microAt (s.store.effective (s.mu mu).tsq.upc) = some w ∧ bits w.toNat 31 29 = 0 ∧ s.store.nanoAt
          (bits w.toNat 22 12) = some (BitVec.ofNat 192 (2 ^ 64 + k.toNat * 2 ^ 68)) ∧ s.eventRoom = true) ∧
    (∃ (mu : MuNo) (d : TakeDesc) (i : CycleIn) (w : Word) (n : Nat) (x : Nat) (y : Nat) (g : State) (s : State), (s.mu mu).tsq.desc =
      some d ∧ (s.mu mu).tsq.st = .running ∧ s.cycleFits mu d i.cycle = true ∧ (g = (s.updMu mu fun x => { x with
        tsq := { x.tsq.tick.counts i.cycle with
          upc := (s.store.effective (s.mu mu).tsq.upc), addr := (s.store.effective (s.mu mu).tsq.upc) } }).gatesAt mu d i.cycle) ∧ i.micro
          ≠ 2 ∧ i.nano ≠ 2 ∧ s.store.microAt (s.store.effective (s.mu mu).tsq.upc) = some w ∧ bits w.toNat 31 29 = 0 ∧ n < 10 ∧ x < 16 ∧ y
          < 15 ∧ s.store.nanoAt (bits w.toNat 22 12) = some (BitVec.ofNat 192 (2 * 2 ^ 20 + n * 2 ^ 24 + x * 2 ^ 28 + y * 2 ^ 32)) ∧
          s.eventRoom = true) ∧
    (∃ (mu : MuNo) (d : TakeDesc) (i : CycleIn) (w : Word) (n : Nat) (x : Nat) (y : Nat) (g : State) (s : State), (s.mu mu).tsq.desc =
      some d ∧ (s.mu mu).tsq.st = .running ∧ s.cycleFits mu d i.cycle = true ∧ (g = (s.updMu mu fun x => { x with
        tsq := { x.tsq.tick.counts i.cycle with
          upc := (s.store.effective (s.mu mu).tsq.upc), addr := (s.store.effective (s.mu mu).tsq.upc) } }).gatesAt mu d i.cycle) ∧ i.micro
          ≠ 2 ∧ i.nano ≠ 2 ∧ s.store.microAt (s.store.effective (s.mu mu).tsq.upc) = some w ∧ bits w.toNat 31 29 = 0 ∧ n < 16 ∧ x < 16 ∧ y
          < 15 ∧ s.store.nanoAt (bits w.toNat 22 12) = some (BitVec.ofNat 192 (7 * 2 ^ 20 + n * 2 ^ 24 + x * 2 ^ 28 + y * 2 ^ 32)) ∧
          s.eventRoom = true) ∧
    (∃ (mu : MuNo) (d : TakeDesc) (i : CycleIn) (s : State), (s.mu mu).tsq.desc = some d ∧ (s.mu mu).tsq.st = .running ∧ s.cycleFits mu d
      i.cycle = true ∧ s.store.microAt (s.store.effective (s.mu mu).tsq.upc) = none ∧ s.eventRoom = true) ∧
    (∃ (mu : MuNo) (d : TakeDesc) (i : CycleIn) (w : Word) (s : State), (s.mu mu).tsq.desc = some d ∧ (s.mu mu).tsq.st = .running ∧
      s.cycleFits mu d i.cycle = true ∧ s.store.microAt (s.store.effective (s.mu mu).tsq.upc) = some w ∧ (i.micro = 2 ∨ (i.nano = 2 ∧
      (s.store.nanoAt (bits w.toNat 22 12)).isSome = true)) ∧ s.eventRoom = true) ∧
    (∃ (mu : MuNo) (d : TakeDesc) (i : CycleIn) (w : Word) (g : State) (s : State), (s.mu mu).tsq.desc = some d ∧ (s.mu mu).tsq.st =
      .running ∧ s.cycleFits mu d i.cycle = true ∧ (g = (s.updMu mu fun x => { x with
        tsq := { x.tsq.tick.counts i.cycle with
          upc := (s.store.effective (s.mu mu).tsq.upc), addr := (s.store.effective (s.mu mu).tsq.upc) } }).gatesAt mu d i.cycle) ∧ i.micro
          ≠ 2 ∧ i.nano ≠ 2 ∧ s.store.microAt (s.store.effective (s.mu mu).tsq.upc) = some w ∧ bits w.toNat 31 29 = 3 ∧ s.store.nanoAt
          (bits w.toNat 22 12) = some 0#192 ∧ bit (g.condGroup mu d (g.wedgeLast mu d i.cycle) (bits w.toNat 28 25)) (bits w.toNat 24 23)
          = true ∧ 8 ≤ (g.mu mu).tsq.stack.length ∧ s.eventRoom = true) ∧
    (∃ (mu : MuNo) (d : TakeDesc) (i : CycleIn) (w : Word) (g : State) (s : State), (s.mu mu).tsq.desc = some d ∧ (s.mu mu).tsq.st =
      .running ∧ s.cycleFits mu d i.cycle = true ∧ (g = (s.updMu mu fun x => { x with
        tsq := { x.tsq.tick.counts i.cycle with
          upc := (s.store.effective (s.mu mu).tsq.upc), addr := (s.store.effective (s.mu mu).tsq.upc) } }).gatesAt mu d i.cycle) ∧ i.micro
          ≠ 2 ∧ i.nano ≠ 2 ∧ s.store.microAt (s.store.effective (s.mu mu).tsq.upc) = some w ∧ bits w.toNat 31 29 = 4 ∧ s.store.nanoAt
          (bits w.toNat 22 12) = some 0#192 ∧ bit (g.condGroup mu d (g.wedgeLast mu d i.cycle) (bits w.toNat 28 25)) (bits w.toNat 24 23)
          = true ∧ (g.mu mu).tsq.stack = [] ∧ (g.mu mu).tsq.sinceSafe = 64 ∧ (g.mu mu).tsq.violReported = false ∧ s.eventRoom = true) ∧
    (∃ (mu : MuNo) (s : State), (s.mu mu).tsq.desc.isSome = true ∧ 65 ≤ (s.mu mu).tsq.sinceSafe ∧ (s.mu mu).tsq.violReported = false ∧
      s.eventRoom = true) :=
  ⟨⟨0, {}, {}, { (upMu fun m => { m with tsq := { st := .running, desc := some {}, upc := 0x800 } }) with store := { service := true, micro := [], nano := [] } }, by decide⟩,
   ⟨0, {}, {}, 0#32, gated ({ (upMu fun m => { m with tsq := { st := .running, desc := some {}, upc := 0x800, t0 := 5 } }) with store := { service := true, micro := [(0x800, 0#32)], nano := [] } }), { (upMu fun m => { m with tsq := { st := .running, desc := some {}, upc := 0x800, t0 := 5 } }) with store := { service := true, micro := [(0x800, 0#32)], nano := [] } }, by decide +kernel⟩,
   ⟨0, {}, {}, 0x20000812#32, gated ({ (upMu fun m => { m with tsq := { st := .running, desc := some {}, upc := 0x800 } }) with store := { service := true, micro := [(0x800, 0x20000812#32)], nano := [] } }), { (upMu fun m => { m with tsq := { st := .running, desc := some {}, upc := 0x800 } }) with store := { service := true, micro := [(0x800, 0x20000812#32)], nano := [] } }, by decide +kernel⟩,
   ⟨0, {}, {}, 0x20800812#32, gated ({ (upMu fun m => { m with tsq := { st := .running, desc := some {}, upc := 0x800 } }) with store := { service := true, micro := [(0x800, 0x20800812#32)], nano := [] } }), { (upMu fun m => { m with tsq := { st := .running, desc := some {}, upc := 0x800 } }) with store := { service := true, micro := [(0x800, 0x20800812#32)], nano := [] } }, by decide +kernel⟩,
   ⟨0, {}, {}, 0x60000812#32, gated ({ (upMu fun m => { m with tsq := { st := .running, desc := some {}, upc := 0x800 } }) with store := { service := true, micro := [(0x800, 0x60000812#32)], nano := [] } }), { (upMu fun m => { m with tsq := { st := .running, desc := some {}, upc := 0x800 } }) with store := { service := true, micro := [(0x800, 0x60000812#32)], nano := [] } }, by decide +kernel⟩,
   ⟨0, {}, {}, 0x80000000#32, 0x811, [], gated ({ (upMu fun m => { m with tsq := { st := .running, desc := some {}, upc := 0x800, stack := [0x811] } }) with store := { service := true, micro := [(0x800, 0x80000000#32)], nano := [] } }), { (upMu fun m => { m with tsq := { st := .running, desc := some {}, upc := 0x800, stack := [0x811] } }) with store := { service := true, micro := [(0x800, 0x80000000#32)], nano := [] } }, by decide +kernel⟩,
   ⟨0, {}, {}, 0xE0000812#32, gated ({ (upMu fun m => { m with tsq := { st := .running, desc := some {}, upc := 0x800, sinceSafe := 63 } }) with store := { service := true, micro := [(0x800, 0xE0000812#32)], nano := [] } }), { (upMu fun m => { m with tsq := { st := .running, desc := some {}, upc := 0x800, sinceSafe := 63 } }) with store := { service := true, micro := [(0x800, 0xE0000812#32)], nano := [] } }, by decide +kernel⟩,
   ⟨0, {}, {}, 0xE0000812#32, gated ({ (upMu fun m => { m with tsq := { st := .running, desc := some {}, upc := 0x800, stopPend := true } }) with store := { service := true, micro := [(0x800, 0xE0000812#32)], nano := [] } }), { (upMu fun m => { m with tsq := { st := .running, desc := some {}, upc := 0x800, stopPend := true } }) with store := { service := true, micro := [(0x800, 0xE0000812#32)], nano := [] } }, by decide +kernel⟩,
   ⟨0, {}, {}, 0x00400000#32, 9#4, gated ({ (upMu fun m => { m with tsq := { st := .running, desc := some {}, upc := 0x800 } }) with store := { service := true, micro := [(0x800, 0x00400000#32)], nano := [(0x400, BitVec.ofNat 192 (2 ^ 64 + 9 * 2 ^ 68))] } }), { (upMu fun m => { m with tsq := { st := .running, desc := some {}, upc := 0x800 } }) with store := { service := true, micro := [(0x800, 0x00400000#32)], nano := [(0x400, BitVec.ofNat 192 (2 ^ 64 + 9 * 2 ^ 68))] } }, by decide +kernel⟩,
   ⟨0, {}, {}, 0x00400000#32, 3, 1, 2, gated ({ (upMu fun m => { m with tsq := { st := .running, desc := some {}, upc := 0x800, v := [(1, 0xFFFFFFFF#32), (2, 2#32)] } }) with store := { service := true, micro := [(0x800, 0x00400000#32)], nano := [(0x400, BitVec.ofNat 192 (2 * 2 ^ 20 + 3 * 2 ^ 24 + 2 ^ 28 + 2 * 2 ^ 32))] } }), { (upMu fun m => { m with tsq := { st := .running, desc := some {}, upc := 0x800, v := [(1, 0xFFFFFFFF#32), (2, 2#32)] } }) with store := { service := true, micro := [(0x800, 0x00400000#32)], nano := [(0x400, BitVec.ofNat 192 (2 * 2 ^ 20 + 3 * 2 ^ 24 + 2 ^ 28 + 2 * 2 ^ 32))] } }, by decide +kernel⟩,
   ⟨0, {}, {}, 0x00400000#32, 3, 1, 2, gated ({ (upMu fun m => { m with tsq := { st := .running, desc := some {}, upc := 0x800, v := [(1, 0xFFFFFFFF#32), (2, 2#32)] } }) with store := { service := true, micro := [(0x800, 0x00400000#32)], nano := [(0x400, BitVec.ofNat 192 (7 * 2 ^ 20 + 3 * 2 ^ 24 + 2 ^ 28 + 2 * 2 ^ 32))] } }), { (upMu fun m => { m with tsq := { st := .running, desc := some {}, upc := 0x800, v := [(1, 0xFFFFFFFF#32), (2, 2#32)] } }) with store := { service := true, micro := [(0x800, 0x00400000#32)], nano := [(0x400, BitVec.ofNat 192 (7 * 2 ^ 20 + 3 * 2 ^ 24 + 2 ^ 28 + 2 * 2 ^ 32))] } }, by decide +kernel⟩,
   ⟨0, {}, {}, upMu fun m => { m with tsq := { st := .running, desc := some {}, upc := 0x900 } }, by decide⟩,
   ⟨0, {}, { micro := 2 }, 0#32, { (upMu fun m => { m with tsq := { st := .running, desc := some {}, upc := 0x800 } }) with store := { service := true, micro := [(0x800, 0#32)], nano := [] } }, by decide⟩,
   ⟨0, {}, {}, 0x60000812#32, gated ({ (upMu fun m => { m with tsq := { st := .running, desc := some {}, upc := 0x800, stack := [1, 2, 3, 4, 5, 6, 7, 8] } }) with store := { service := true, micro := [(0x800, 0x60000812#32)], nano := [] } }), { (upMu fun m => { m with tsq := { st := .running, desc := some {}, upc := 0x800, stack := [1, 2, 3, 4, 5, 6, 7, 8] } }) with store := { service := true, micro := [(0x800, 0x60000812#32)], nano := [] } }, by decide +kernel⟩,
   ⟨0, {}, {}, 0x80000000#32, gated ({ (upMu fun m => { m with tsq := { st := .running, desc := some {}, upc := 0x800, sinceSafe := 64 } }) with store := { service := true, micro := [(0x800, 0x80000000#32)], nano := [] } }), { (upMu fun m => { m with tsq := { st := .running, desc := some {}, upc := 0x800, sinceSafe := 64 } }) with store := { service := true, micro := [(0x800, 0x80000000#32)], nano := [] } }, by decide +kernel⟩,
   ⟨0, { (upMu fun m => { m with tsq := { st := .running, desc := some {}, upc := 0x800, sinceSafe := 65 } }) with store := { service := true, micro := [], nano := [] } }, by decide⟩⟩

/-- States and operands that meet the hypotheses of `Obligations.MicrocodeSwap`, one for each statement in it. -/
theorem witness_microcode_swap :
    (∃ (p : SwapImage) (s : State), s.store.swap = some p ∧ (∀ m, m < 32 → (s.mu m).tsq.desc = none) ∧ s.eventRoom = true) ∧
    (∃ (p : SwapImage) (s : State), s.store.swap = some p ∧ (∀ m, m < 32 → (s.mu m).tsq.desc = none) ∧ s.eventRoom = true) :=
  ⟨⟨{ region := 2, clear := false, mbase := 0xC00, micro := [1#32, 2#32], nbase := 0x600, nano := [], version := 3, hooks := 1#4 }, { up with store := { service := true, swap := some { region := 2, clear := false, mbase := 0xC00, micro := [1#32, 2#32], nbase := 0x600, nano := [], version := 3, hooks := 1#4 } } }, by decide⟩,
   ⟨{ region := 2, clear := false, mbase := 0xC00, micro := [1#32, 2#32], nbase := 0x600, nano := [], version := 3, hooks := 1#4 }, { up with store := { service := true, swap := some { region := 2, clear := false, mbase := 0xC00, micro := [1#32, 2#32], nbase := 0x600, nano := [], version := 3, hooks := 1#4 } } }, by decide⟩⟩

set_option maxRecDepth 40000 in
/-- States and operands that meet the hypotheses of `Obligations.ReadChannelAndDecoder`, one for each statement in it. -/
theorem witness_read_channel_and_decoder :
    (∃ (mu : MuNo) (d : TakeDesc) (k : Nat) (r : List Nat) (s : State), (s.mu mu).tsq.desc = some d ∧ (s.mu mu).tsq.readQ = k :: r ∧
      s.readGateOk mu d = true ∧ (s.slotsBusy mu < 6 ∨ (s.newWork mu d k).taken ≠ [])) ∧
    (∃ (mu : MuNo) (d : TakeDesc) (k : Nat) (r : List Nat) (s : State), (s.mu mu).tsq.desc = some d ∧ (s.mu mu).tsq.readQ = k :: r ∧
      s.readGateOk mu d = false) ∧
    (∃ (mu : MuNo) (d : TakeDesc) (k : Nat) (r : List Nat) (s : State), (s.mu mu).tsq.desc = some d ∧ (s.mu mu).tsq.readQ = k :: r ∧
      s.readGateOk mu d = true ∧ 6 ≤ s.slotsBusy mu ∧ (s.newWork mu d k).taken = [] ∧ (s.mu mu).tsq.rdSlipped = false) ∧
    (∃ (mu : MuNo) (d : TakeDesc) (w : SecWork) (s : State), (s.mu mu).tsq.desc = some d ∧ ((s.mu mu).rch.work.find? (fun w => w.opened &&
      !w.decided) = some w) ∧ s.workOf mu w.sector = some w ∧ s.eventRoom = true) ∧
    (∃ (m : Nat) (s : State), s.ldpChoice = some m ∧ s.ldpBusy < 64) ∧
    (∃ (mu : MuNo) (w : SecWork) (o : Int) (full : Bool) (sector : Nat) (memory : SramRead) (s : State), s.workOf mu sector = some w ∧
      w.attempt = some (o, full) ∧ w.granted = true ∧ memory.finding ≠ 2 ∧ s.eventRoom = true) ∧
    (∃ (mu : MuNo) (w : SecWork) (o : Int) (full : Bool) (sector : Nat) (memory : SramRead) (s : State), s.workOf mu sector = some w ∧
      w.attempt = some (o, full) ∧ w.granted = true ∧ memory.finding = 2 ∧ s.eventRoom = true) ∧
    (∃ (mu : MuNo) (sector : Nat) (s : State), (((s.workOf mu sector).all fun w => w.attempt.isNone || !w.granted) = true) ∧
      s.strayEngines mu ≠ 0) ∧
    (∃ (c : Nat) (s : State), c < 64 ∧ (s.hda (c / 4)).clk.symRunning = true ∧ s.cal.stalled.getLsbD c = false ∧ s.eventRoom = true) ∧
    (∃ (c : Nat) (s : State), c < 64 ∧ (s.hda (c / 4)).clk.symRunning = true ∧ s.cal.stalled.getLsbD c = false ∧ s.eventRoom = true) ∧
    (∃ (c : Nat) (s : State), c < 64 ∧ (if c % 2 = 0 then (s.mu (c / 2)).rch.swapDue0 = true else (s.mu (c / 2)).rch.swapDue1 = true) ∧
      s.swapNow (c / 2) = true) :=
  ⟨⟨0, {}, 4, [], upMu fun m => { m with tsq := { st := .running, desc := some {}, readQ := [4], tablesReady := true }, rch := { entryValid := true } }, by decide⟩,
   ⟨0, {}, 4, [], upMu fun m => { m with tsq := { st := .running, desc := some {}, readQ := [4], tablesReady := true } }, by decide⟩,
   ⟨0, {}, 4, [], upMu fun m => { m with tsq := { st := .running, desc := some {}, readQ := [4], tablesReady := true }, rch := { entryValid := true, work := (List.range 6).map fun i => { sector := i } } }, by decide +kernel⟩,
   ⟨0, {}, { sector := 4, opened := true }, upMu fun m => { m with tsq := { st := .running, desc := some {}, readQ := [4], tablesReady := true }, rch := { work := [{ sector := 4, opened := true }], settings := 0x00042108 } }, by decide⟩,
   ⟨0, { up with ldp := { waiting := [(0, 4)] } }, by decide⟩,
   ⟨0, { sector := 4, opened := true, decided := true, clap := some 0, tried := [0], attempt := some (0, true), granted := true }, 0, true, 4, { finding := 1 }, (withCmd { opc := 1, slba := 0, nsec := 7 } .sch).updMu 0 fun m => { m with tsq := { st := .running, desc := some {} }, rch := { work := [{ sector := 4, opened := true, decided := true, clap := some 0, tried := [0], attempt := some (0, true), granted := true }] } }, by decide⟩,
   ⟨0, { sector := 4, opened := true, decided := true, clap := some 0, tried := [0], attempt := some (0, true), granted := true }, 0, true, 4, { finding := 2 }, upMu fun m => { m with tsq := { st := .running, desc := some {} }, rch := { work := [{ sector := 4, opened := true, decided := true, clap := some 0, tried := [0], attempt := some (0, true), granted := true }] } }, by decide⟩,
   ⟨0, 4, { up with ldp := { held := [(0, 2)] } }, by decide⟩,
   ⟨1, up, by decide⟩,
   ⟨1, up, by decide⟩,
   ⟨1, upMu fun m => { m with rch := { swapDue1 := true } }, by decide⟩⟩

/-- States and operands that meet the hypotheses of `Obligations.WriteChannelAndAssist`, one for each statement in it. -/
theorem witness_write_channel_and_assist :
    (∃ (fetch : EncodeIn) (d : TakeDesc) (k : Nat) (s : State), (s.mu fetch.mu).tsq.desc = some d ∧ (s.mu fetch.mu).toEncode = some k ∧
      d.type = 7 ∧ s.eventRoom = true) ∧
    (∃ (fetch : EncodeIn) (d : TakeDesc) (k : Nat) (x : Sector) (s : State), (s.mu fetch.mu).tsq.desc = some d ∧ (s.mu fetch.mu).toEncode
      = some k ∧ d.type ≠ 7 ∧ s.handedSector fetch.mu d k = some x ∧ ((fetch.reads.all fun b => burstOk b && s.holdsSector x b) = true) ∧
      (((s.readBursts fetch.reads).handedSector fetch.mu d k).getD x).poison = false ∧ crc32c ((((s.readBursts fetch.reads).handedSector
      fetch.mu d k).getD x).data ++ (((s.readBursts fetch.reads).handedSector fetch.mu d k).getD x).hmeta) = (((s.readBursts
      fetch.reads).handedSector fetch.mu d k).getD x).scrc ∧ s.eventRoom = true) ∧
    (∃ (fetch : EncodeIn) (d : TakeDesc) (k : Nat) (x : Sector) (l : Nat) (s : State), (s.mu fetch.mu).tsq.desc = some d ∧ (s.mu
      fetch.mu).toEncode = some k ∧ d.type ≠ 7 ∧ s.handedSector fetch.mu d k = some x ∧ ((fetch.reads.all fun b => burstOk b &&
      s.holdsSector x b) = true) ∧ s.lbaAt fetch.mu d.zone d.track k = some l ∧ ((((s.readBursts fetch.reads).handedSector fetch.mu d
      k).getD x).poison = true ∨ crc32c ((((s.readBursts fetch.reads).handedSector fetch.mu d k).getD x).data ++ (((s.readBursts
      fetch.reads).handedSector fetch.mu d k).getD x).hmeta) ≠ (((s.readBursts fetch.reads).handedSector fetch.mu d k).getD x).scrc) ∧
      s.eventRoom = true) ∧
    (∃ (mu : MuNo) (d : TakeDesc) (k : Nat) (r : List Nat) (s : State), (s.mu mu).tsq.desc = some d ∧ (s.mu mu).tsq.readQ = [] ∧ (s.mu
      mu).tsq.writeQ = k :: r ∧ (s.mu mu).was.wgCut = false ∧ (s.mu mu).was.astCut = false ∧ s.mns.powerFail = false ∧ k ∈ (s.mu
      mu).was.encoded ∧ (s.mu mu).was.inhibit = false) ∧
    (∃ (mu : MuNo) (d : TakeDesc) (k : Nat) (r : List Nat) (s : State), (s.mu mu).tsq.desc = some d ∧ (s.mu mu).tsq.readQ = [] ∧ (s.mu
      mu).tsq.writeQ = k :: r ∧ ((s.mu mu).was.wgCut = true ∨ (s.mu mu).was.astCut = true ∨ s.mns.powerFail = true)) ∧
    (∃ (mu : MuNo) (d : TakeDesc) (k : Nat) (r : List Nat) (s : State), (s.mu mu).tsq.desc = some d ∧ (s.mu mu).tsq.readQ = [] ∧ (s.mu
      mu).tsq.writeQ = k :: r ∧ (s.mu mu).was.wgCut = false ∧ (s.mu mu).was.astCut = false ∧ s.mns.powerFail = false ∧ (k ∉ (s.mu
      mu).was.encoded ∨ (s.mu mu).was.inhibit = true) ∧ (s.mu mu).was.slipped = false) ∧
    (∃ (mu : MuNo) (mon : Nat) (s : State), (s.mu mu).was.writing.isSome = true ∧ (s.mu mu).was.wg = true ∧ (s.mu mu).was.ae = true ∧
      (s.mu mu).was.monRead = false ∧ mon < 4096 ∧ mon ≤ field (s.wasEntry mu) 16 2) ∧
    (∃ (mu : MuNo) (mon : Nat) (s : State), (s.mu mu).was.writing.isSome = true ∧ (s.mu mu).was.wg = true ∧ (s.mu mu).was.ae = true ∧
      (s.mu mu).was.monRead = false ∧ mon < 4096 ∧ field (s.wasEntry mu) 16 2 < mon ∧ s.eventRoom = true) ∧
    (∃ (mu : MuNo) (mon : Nat) (s : State), (s.mu mu).was.writing.isSome = true ∧ (s.mu mu).was.wg = true ∧ (s.mu mu).was.ae = true ∧
      (s.mu mu).was.monRead = false ∧ mon < 4096 ∧ s.eventRoom = true) ∧
    (∃ (mu : MuNo) (s : State), (s.mu mu).was.ae = true ∧ (s.mu mu).was.wg = false) :=
  ⟨⟨{ mu := 0 }, { type := 7 }, 4, upMu fun m => { m with tsq := { desc := some { type := 7 }, writeQ := [4] } }, by decide⟩,
   ⟨{ mu := 0 }, { type := 2, zone := 1, track := 200, spt := 500 }, 4, { lba := 65540 }, { (upMu fun m => { m with tsq := { st := .running, desc := some { type := 2, zone := 1, track := 200, spt := 500 }, writeQ := [4], attemptOpen := true, tablesReady := true } }) with bca := { index := [(65540, { seq := 1, sector := some { lba := 65540 } })] } }, by decide⟩,
   ⟨{ mu := 0 }, { type := 2, zone := 1, track := 200, spt := 500 }, 4, { lba := 65540, marks := [0] }, 65540, { (upMu fun m => { m with tsq := { st := .running, desc := some { type := 2, zone := 1, track := 200, spt := 500 }, writeQ := [4], attemptOpen := true, tablesReady := true } }) with bca := { index := [(65540, { seq := 1, sector := some { lba := 65540, marks := [0] } })] } }, by decide⟩,
   ⟨0, { type := 2, zone := 1, track := 200, spt := 500 }, 4, [], upMu fun m => { m with tsq := { st := .running, desc := some { type := 2, zone := 1, track := 200, spt := 500 }, writeQ := [4], attemptOpen := true, tablesReady := true }, was := { encoded := [4], writing := some 3, wg := true } }, by decide⟩,
   ⟨0, { type := 2, zone := 1, track := 200, spt := 500 }, 4, [], upMu fun m => { m with tsq := { st := .running, desc := some { type := 2, zone := 1, track := 200, spt := 500 }, writeQ := [4], attemptOpen := true, tablesReady := true }, was := { encoded := [4], wgCut := true } }, by decide⟩,
   ⟨0, { type := 2, zone := 1, track := 200, spt := 500 }, 4, [], upMu fun m => { m with tsq := { st := .running, desc := some { type := 2, zone := 1, track := 200, spt := 500 }, writeQ := [4], attemptOpen := true, tablesReady := true } }, by decide⟩,
   ⟨0, 0, upMu fun m => { m with was := { wg := true, ae := true, writing := some 1 } }, by decide⟩,
   ⟨0, 9, upMu fun m => { m with was := { wg := true, ae := true, writing := some 1 } }, by decide⟩,
   ⟨0, 9, upMu fun m => { m with was := { wg := true, ae := true, writing := some 1 } }, by decide⟩,
   ⟨0, upMu fun m => { m with was := { ae := true } }, by decide⟩⟩

/-- States and operands that meet the hypotheses of `Obligations.CacheControlAndFills`, one for each statement in it. -/
theorem witness_cache_control_and_fills :
    (∃ (tag : TagNo) (k : Nat) (s : State), s.asleep = false ∧ s.mayBegin tag 0x09 1 = true ∧ firstCode [s.barrierCode tag, (s.bca.enabled
      && s.dirtyLines != 0 && !bit (s.cmd tag).pkt.p2.toNat 0, 0x0006), s.ps4Code] = some k) ∧
    (∃ (tag : TagNo) (s : State), s.asleep = false ∧ s.mayBegin tag 0x09 1 = true ∧ firstCode [s.barrierCode tag, (s.bca.enabled &&
      s.dirtyLines != 0 && !bit (s.cmd tag).pkt.p2.toNat 0, 0x0006), s.ps4Code] = none ∧ s.bca.enabled = true) ∧
    (∃ (tag : TagNo) (s : State), s.asleep = false ∧ s.mayBegin tag 0x09 1 = true ∧ firstCode [s.barrierCode tag, (s.bca.enabled &&
      s.dirtyLines != 0 && !bit (s.cmd tag).pkt.p2.toNat 0, 0x0006), s.ps4Code] = none ∧ s.bca.enabled = false) ∧
    (∃ (tag : TagNo) (k : Nat) (s : State), s.asleep = false ∧ s.mayBegin tag 0x09 2 = true ∧ firstCode [(!s.bca.enabled && bit (s.cmd
      tag).pkt.p2.toNat 0 && s.bca.bypass != 0 && !bit (s.cmd tag).pkt.p2.toNat 1, 0x0007), s.ps4Code] = some k) ∧
    (∃ (tag : TagNo) (s : State), s.asleep = false ∧ s.mayBegin tag 0x09 2 = true ∧ firstCode [(!s.bca.enabled && bit (s.cmd
      tag).pkt.p2.toNat 0 && s.bca.bypass != 0 && !bit (s.cmd tag).pkt.p2.toNat 1, 0x0007), s.ps4Code] = none ∧ s.bca.enabled = false ∧
      bit (s.cmd tag).pkt.p2.toNat 0 = true ∧ s.eventRoom = true) ∧
    (∃ (tag : TagNo) (s : State), s.asleep = false ∧ s.mayBegin tag 0x09 2 = true ∧ firstCode [(!s.bca.enabled && bit (s.cmd
      tag).pkt.p2.toNat 0 && s.bca.bypass != 0 && !bit (s.cmd tag).pkt.p2.toNat 1, 0x0007), s.ps4Code] = none ∧ s.bca.enabled = false ∧
      bit (s.cmd tag).pkt.p2.toNat 0 = false ∧ s.eventRoom = true) ∧
    (∃ (tag : TagNo) (s : State), s.asleep = false ∧ s.mayBegin tag 0x09 2 = true ∧ firstCode [(!s.bca.enabled && bit (s.cmd
      tag).pkt.p2.toNat 0 && s.bca.bypass != 0 && !bit (s.cmd tag).pkt.p2.toNat 1, 0x0007), s.ps4Code] = none ∧ s.bca.enabled = true ∧
      s.eventRoom = true) ∧
    (∃ (tag : TagNo) (k : Nat) (s : State), s.asleep = false ∧ s.mayBegin tag 0x09 3 = true ∧ firstCode [s.ownCode tag, s.ps4Code] = some
      k) ∧
    (∃ (tag : TagNo) (s : State), s.asleep = false ∧ s.mayBegin tag 0x09 3 = true ∧ firstCode [s.ownCode tag, s.ps4Code] = none) ∧
    (∃ (tag : TagNo) (k : Nat) (s : State), s.asleep = false ∧ s.mayBegin tag 0x09 4 = true ∧ s.mayMove tag (bit (s.cmd tag).pkt.p2.toNat
      2) = true ∧ firstCode [s.ownCode tag, s.ps4Code] = some k) ∧
    (∃ (tag : TagNo) (s : State), s.asleep = false ∧ s.mayBegin tag 0x09 4 = true ∧ firstCode [s.ownCode tag, s.ps4Code] = none ∧ bit
      (s.cmd tag).pkt.p2.toNat 2 = false ∧ s.eventRoom = true) ∧
    (∃ (tag : TagNo) (s : State), s.asleep = false ∧ s.mayBegin tag 0x09 4 = true ∧ firstCode [s.ownCode tag, s.ps4Code] = none ∧ s.hostOk
      (s.cmd tag).ep = true ∧ bit (s.cmd tag).pkt.p2.toNat 2 = true ∧ (s.cmd tag).pkt.mptr = 0) ∧
    (∃ (tag : TagNo) (token : List Byte) (c : Nat) (s : State), s.asleep = false ∧ s.mayBegin tag 0x09 4 = true ∧ firstCode [s.ownCode
      tag, s.ps4Code] = none ∧ s.hostOk (s.cmd tag).ep = true ∧ bit (s.cmd tag).pkt.p2.toNat 2 = true ∧ (s.cmd tag).pkt.mptr ≠ 0 ∧
      s.tokenFault (s.cmd tag).ep (s.cmd tag).pkt token [] false = some c ∧ s.eventRoom = true) ∧
    (∃ (tag : TagNo) (s : State), s.asleep = false ∧ s.mayBegin tag 0x09 4 = true ∧ firstCode [s.ownCode tag, s.ps4Code] = none ∧ s.hostOk
      (s.cmd tag).ep = true ∧ bit (s.cmd tag).pkt.p2.toNat 2 = true ∧ (s.cmd tag).pkt.mptr ≠ 0 ∧ s.eventRoom = true) ∧
    (∃ (tag : TagNo) (k : Nat) (s : State), s.asleep = false ∧ s.bca.rekeyBusy = false ∧ s.mayBegin tag 0x09 5 = true ∧ firstCode
      [s.barrierCode tag, (s.bca.enabled && s.dirtyLines != 0, 0x0006), s.ps4Code] = some k) ∧
    (∃ (tag : TagNo) (s : State), s.asleep = false ∧ s.bca.rekeyBusy = false ∧ s.mayBegin tag 0x09 5 = true ∧ firstCode [s.barrierCode
      tag, (s.bca.enabled && s.dirtyLines != 0, 0x0006), s.ps4Code] = none ∧ s.bca.enabled = true ∧ s.eventRoom = true) ∧
    (∃ (tag : TagNo) (s : State), s.asleep = false ∧ s.bca.rekeyBusy = false ∧ s.mayBegin tag 0x09 5 = true ∧ firstCode [s.barrierCode
      tag, (s.bca.enabled && s.dirtyLines != 0, 0x0006), s.ps4Code] = none ∧ s.bca.enabled = false ∧ s.eventRoom = true) ∧
    (∃ (s : State), s.bca.rekeyBusy = true) ∧
    (∃ (s : State), s.bca.rekeyBusy = true ∧ s.eventRoom = true) ∧
    (∃ (frame : Nat) (s : State), s.fillDone frame = true ∧ (s.line frame).st = .filling ∧ (s.line frame).stranded = false) ∧
    (∃ (frame : Nat) (s : State), s.fillDone frame = true ∧ (s.line frame).st = .doomed) ∧
    (∃ (s : State), s.eventRoom = true) :=
  ⟨⟨0, 6, { managedAs 0x09 1 0#32 with bca := { enabled := true, lines := [(0, { st := .dirty, dirty := 1#16, valid := 1#16 })] } }, by decide⟩,
   ⟨0, { managedAs 0x09 1 1#32 with bca := { enabled := true, lines := [(3, { st := .dirty, dirty := 1#16, valid := 1#16 })] } }, by decide⟩,
   ⟨0, { managedAs 0x09 1 0#32 with bca := { enabled := false } }, by decide⟩,
   ⟨0, 7, { managedAs 0x09 2 1#32 with bca := { enabled := false, bypass := 4 } }, by decide⟩,
   ⟨0, { managedAs 0x09 2 3#32 with bca := { enabled := false, bypass := 4, lines := [(3, { st := .dirty, dirty := 1#16, valid := 1#16, stranded := true })] } }, by decide⟩,
   ⟨0, { managedAs 0x09 2 0#32 with bca := { enabled := false, bypass := 4, lines := [(3, { st := .clean, valid := 1#16 })] } }, by decide⟩,
   ⟨0, { managedAs 0x09 2 0#32 with bca := { enabled := true } }, by decide⟩,
   ⟨0, 10, stranger (managedAs 0x09 3 0#32), by decide⟩,
   ⟨0, { managedAs 0x09 3 0#32 with bca := {} }, by decide⟩,
   ⟨0, 10, stranger (managedAs 0x09 4 0#32), by decide⟩,
   ⟨0, { managedAs 0x09 4 0#32 with bca := { enabled := true, lines := [(3, { st := .clean, valid := 1#16 })] } }, by decide⟩,
   ⟨0, managedAs 0x09 4 4#32, by decide⟩,
   ⟨0, [], 1, withMptr (managedAs 0x09 4 4#32), by decide⟩,
   ⟨0, withMptr (managedAs 0x09 4 4#32), by decide⟩,
   ⟨0, 6, { managedAs 0x09 5 0#32 with bca := { enabled := true, lines := [(0, { st := .dirty, dirty := 1#16, valid := 1#16 })] } }, by decide⟩,
   ⟨0, { managedAs 0x09 5 0#32 with bca := { enabled := true, lines := [(3, { st := .clean, valid := 1#16 })] } }, by decide⟩,
   ⟨0, { managedAs 0x09 5 0#32 with bca := { enabled := false } }, by decide⟩,
   ⟨{ managedAs 0x09 5 0#32 with bca := { rekeyBusy := true } }, by decide⟩,
   ⟨{ withCmd { opc := 9, p0 := 5#32 } .executing with bca := { enabled := true, rekeyBusy := true, rekeyCmd := some 0 } }, by decide⟩,
   ⟨3, { up with bca := { lines := [(3, { st := .filling, filling := 6#16, data := [(1, { vol := 1 })] })] } }, by decide⟩,
   ⟨3, { up with bca := { lines := [(3, { st := .doomed, filling := 6#16 })] } }, by decide⟩,
   ⟨{ up with bca := { conflicts := [(5, 10001)], hotRun := [(5, 59), (6, 4)] } }, by decide⟩⟩

set_option maxRecDepth 40000 in
/-- States and operands that meet the hypotheses of `Obligations.BufferScrub`, one for each statement in it. -/
theorem witness_buffer_scrub :
    (∃ (hmeta : BurstMeta) (words : List (BitVec 72)) (holds : Held) (s : State), s.scrubRuns = true ∧ burstOk
      { burst := s.scrubNow.2, hmeta := hmeta, words := words, holds := holds } = true ∧ hmeta.flips = 0 ∧ atagOf (hmeta.source * 64) =
      atagOf (s.scrubNow.2 * 64) ∧ words = List.replicate 8 0 ∧ s.scrubNow.2 + 1 ≠ burstCount) ∧
    (∃ (hmeta : BurstMeta) (words : List (BitVec 72)) (holds : Held) (s : State), s.scrubRuns = true ∧ burstOk
      { burst := s.scrubNow.2, hmeta := hmeta, words := words, holds := holds } = true ∧ metaFinding hmeta.flips = 2 ∧ s.eventRoom = true) ∧
    (∃ (hmeta : BurstMeta) (words : List (BitVec 72)) (holds : Held) (s : State), s.scrubRuns = true ∧ burstOk
      { burst := s.scrubNow.2, hmeta := hmeta, words := words, holds := holds } = true ∧ metaFinding hmeta.flips ≠ 2 ∧ atagOf
      (hmeta.source * 64) ≠ atagOf (s.scrubNow.2 * 64) ∧ s.eventRoom = true) ∧
    (∃ (hmeta : BurstMeta) (words : List (BitVec 72)) (holds : Held) (i : Nat) (s : State), s.scrubRuns = true ∧ burstOk
      { burst := s.scrubNow.2, hmeta := hmeta, words := words, holds := holds } = true ∧ metaFinding hmeta.flips ≠ 2 ∧ atagOf
      (hmeta.source * 64) = atagOf (s.scrubNow.2 * 64) ∧ i < 8 ∧ words[i]?.map wordFinding = some 2 ∧ (s.poisonOf (s.scrubNow.2 *
      64)).getLsbD i = false ∧ s.eventRoom = true) ∧
    (∃ (hmeta : BurstMeta) (words : List (BitVec 72)) (holds : Held) (i : Nat) (s : State), s.scrubRuns = true ∧ burstOk
      { burst := s.scrubNow.2, hmeta := hmeta, words := words, holds := holds } = true ∧ metaFinding hmeta.flips ≠ 2 ∧ atagOf
      (hmeta.source * 64) = atagOf (s.scrubNow.2 * 64) ∧ i < 8 ∧ words[i]?.map wordFinding = some 1 ∧ (s.poisonOf (s.scrubNow.2 *
      64)).getLsbD i = false ∧ s.eventRoom = true) ∧
    (∃ (hmeta : BurstMeta) (words : List (BitVec 72)) (holds : Held) (s : State), s.scrubRuns = true ∧ burstOk
      { burst := s.scrubNow.2, hmeta := hmeta, words := words, holds := holds } = true ∧ s.scrubNow.2 + 1 ≠ burstCount ∧ s.eventRoom =
      true) ∧
    (∃ (hmeta : BurstMeta) (words : List (BitVec 72)) (holds : Held) (s : State), s.scrubRuns = true ∧ burstOk
      { burst := s.scrubNow.2, hmeta := hmeta, words := words, holds := holds } = true ∧ s.scrubNow.2 + 1 = burstCount ∧ s.eventRoom =
      true) ∧
    (∃ (sub : Nat) (inst : Nat) (sram : Nat) (word : Nat) (s : State), inst < instancesOf sub ∧ sram < sramCount sub ∧ word < 2 ^ 32 ∧
      (sub = 8 → sram ≤ 2 → inst % 2 = 0) ∧ s.start.phase ≠ .off ∧ s.eventRoom = true) ∧
    (∃ (sub : Nat) (inst : Nat) (sram : Nat) (word : Nat) (s : State), inst < instancesOf sub ∧ sram < sramCount sub ∧ word < 2 ^ 32 ∧
      s.start.phase ≠ .off ∧ (sub = 3 → sram ≠ 0) ∧ (sub = 6 → 2 ≤ sram) ∧ (sub = 8 → 3 ≤ sram) ∧ (sub = 12 → sram ≠ 0) ∧ s.eventRoom =
      true) ∧
    (∃ (inst : Nat) (sram : Nat) (word : Nat) (s : State), inst < instancesOf 1 ∧ sram < sramCount 1 ∧ word < 2 ^ 32 ∧ s.start.phase ≠
      .off ∧ s.eventRoom = true) ∧
    (∃ (word : Nat) (s : State), word < 2 ^ 32 ∧ s.start.phase ≠ .off ∧ s.eventRoom = true) ∧
    (∃ (sub : Nat) (inst : Nat) (sram : Nat) (word : Nat) (s : State), inst < instancesOf sub ∧ word < 2 ^ 32 ∧ s.start.phase ≠ .off ∧
      ((sub = 8 ∧ sram ≤ 2 ∧ inst % 2 = 0) ∨ (sub = 12 ∧ sram = 0) ∨ (sub = 3 ∧ sram = 0)) ∧ s.eventRoom = true) ∧
    (∃ (word : Nat) (s : State), word < 2 ^ 32 ∧ s.start.phase ≠ .off ∧ s.eventRoom = true) ∧
    (∃ (tag : TagNo) (k : Nat) (s : State), s.asleep = false ∧ s.mayBegin tag 0x0A 2 = true ∧ firstCode [s.ps4Code] = some k) ∧
    (∃ (tag : TagNo) (s : State), s.asleep = false ∧ s.mayBegin tag 0x0A 2 = true ∧ firstCode [s.ps4Code] = none ∧ s.buf.scrub.bind
      (·.cmd) = none) ∧
    (∃ (tag : TagNo) (n : Nat) (s : State), s.asleep = false ∧ s.mayBegin tag 0x0A 2 = true ∧ firstCode [s.ps4Code] = none ∧
      s.buf.scrub.bind (·.cmd) = some n) ∧
    (∃ (tag : TagNo) (s : State), s.asleep = false ∧ s.mayBegin tag 0x0A 1 = true ∧ firstCode [s.ownCode tag, s.absentCode tag,
      s.stoppedCode tag, s.ps4Code] = none ∧ s.window (s.cmd tag).pkt.vol (zoneOf (s.cmd tag).lba + (s.cmd tag).pkt.p2.toNat) ((s.cmd
      tag).pkt.p2.toNat + 1) (s.cmd tag).lba = none ∧ s.eventRoom = true) ∧
    (∃ (tag : TagNo) (a : Nat) (n : Nat) (s : State), s.asleep = false ∧ s.mayBegin tag 0x0A 1 = true ∧ firstCode [s.ownCode tag,
      s.absentCode tag, s.stoppedCode tag, s.ps4Code] = none ∧ s.window (s.cmd tag).pkt.vol (zoneOf (s.cmd tag).lba + (s.cmd
      tag).pkt.p2.toNat) ((s.cmd tag).pkt.p2.toNat + 1) (s.cmd tag).lba = some (a, n) ∧ s.eventRoom = true) ∧
    (∃ (tag : TagNo) (k : Nat) (s : State), s.asleep = false ∧ s.mayBegin tag 0x0A 1 = true ∧ firstCode [s.ownCode tag, s.absentCode tag,
      s.stoppedCode tag, s.ps4Code] = some k) :=
  ⟨⟨{}, List.replicate 8 0, .none, up, by decide⟩,
   ⟨{ flips := 3#56 }, List.replicate 8 0, .none, up, by decide⟩,
   ⟨{ source := 9 }, List.replicate 8 0, .none, up, by decide⟩,
   ⟨{}, [0, 0, 6, 0, 0, 0, 0, 0], .none, 2, up, by decide⟩,
   ⟨{ flips := 8 }, [0, 0, 1, 0, 0, 0, 0, 0], .none, 2, up, by decide⟩,
   ⟨{}, [0, 0, 6, 0, 0, 0, 0, 0], .none, up, by decide⟩,
   ⟨{ source := 2 ^ 30 - 1 }, List.replicate 8 0, .none, { up with buf := { fill := 3, scrub := some { cmd := some 0 }, scrubBurst := 2 ^ 30 - 1 }, tags := [(0, { st := .accepted })], cmds := [(0, { pkt := { opc := 0x0A, p0 := 2#32 }, phase := .executing })] }, by decide⟩,
   ⟨10, 0, 1, 77, up, by decide⟩,
   ⟨10, 0, 1, 77, withCmd { opc := 1 } .sch, by decide⟩,
   ⟨0, 1, 77, withCmd { opc := 1 } .sch, by decide⟩,
   ⟨3, { up with bca := { lines := [(3, { st := .dirty, dirty := 1#16, valid := 1#16 })] } }, by decide⟩,
   ⟨8, 2, 1, 77, up, by decide⟩,
   ⟨0, { up with bca := { cut := [{ vol := 3, block := 0, valid := 0, data := [] }] } }, by decide⟩,
   ⟨0, 0x10, { managedAs 0x0A 2 0#32 with pwr := { up.pwr with pstate := 4, target := 4 }, feat := [(featKey 0x0D 0, (0#32, 60#32, 0#32, 0#32))] }, by decide⟩,
   ⟨0, managedAs 0x0A 2 0#32, by decide⟩,
   ⟨0, 9, { managedAs 0x0A 2 0#32 with buf := { scrub := some { cmd := some 9 } } }, by decide⟩,
   ⟨0, managedAs 0x0A 1 0#32, by decide⟩,
   ⟨0, 0, 500, managedAs 0x0A 1 1#32, by decide +kernel⟩,
   ⟨0, 0x0D, { managedAs 0x0A 1 1#32 with hdas := [] }, by decide +kernel⟩⟩

/-- States and operands that meet the hypotheses of `Obligations.ZoneManagement`, one for each statement in it. -/
theorem witness_zone_management :
    (∃ (tag : TagNo) (k : Nat) (s : State), s.at_ tag .perform = true ∧ (s.cmd tag).pkt.opc = 6 ∧ (s.cmd tag).pkt.sub = 1 ∧ s.blockZone
      (s.cmd tag).ep (s.cmd tag).pkt.vol (zoneOf (s.cmd tag).pkt.slba) (s.cmd tag).order (bit (s.cmd tag).pkt.p0.toNat 8) = some (.code
      k)) ∧
    (∃ (tag : TagNo) (s : State), s.at_ tag .perform = true ∧ (s.cmd tag).pkt.opc = 6 ∧ (s.cmd tag).pkt.sub = 1 ∧ s.blockZone (s.cmd
      tag).ep (s.cmd tag).pkt.vol (zoneOf (s.cmd tag).pkt.slba) (s.cmd tag).order (bit (s.cmd tag).pkt.p0.toNat 8) = none ∧ s.zoneCount
      (s.cmd tag).pkt.vol ≤ zoneOf (s.cmd tag).pkt.slba) ∧
    (∃ (tag : TagNo) (d : Deferred) (s : State), s.at_ tag .perform = true ∧ (s.cmd tag).pkt.opc = 6 ∧ (s.cmd tag).pkt.sub = 4 ∧
      s.blockZone (s.cmd tag).ep (s.cmd tag).pkt.vol (zoneOf (s.cmd tag).pkt.slba) (s.cmd tag).order (bit (s.cmd tag).pkt.p0.toNat 8) =
      some .deferred ∧ (s.zone (s.cmd tag).pkt.vol (zoneOf (s.cmd tag).pkt.slba)).deferred = some d ∧ s.eventRoom = true) ∧
    (∃ (tag : TagNo) (s : State), s.at_ tag .perform = true ∧ (s.cmd tag).pkt.opc = 6 ∧ (s.cmd tag).pkt.sub = 1 ∧ bit (s.cmd
      tag).pkt.p0.toNat 8 = false ∧ s.blockZone (s.cmd tag).ep (s.cmd tag).pkt.vol (zoneOf (s.cmd tag).pkt.slba) (s.cmd tag).order false =
      none ∧ zoneOf (s.cmd tag).pkt.slba < s.zoneCount (s.cmd tag).pkt.vol ∧ (s.zone (s.cmd tag).pkt.vol (zoneOf (s.cmd tag).pkt.slba)).st
      = .empty ∧ (s.kdState (if (s.cmd tag).pkt.p2.toNat = 0x7FF then (s.mu (s.cmd tag).pkt.vol).defaultKdom else (s.cmd
      tag).pkt.p2.toNat) = .active) ∧ s.noContext (s.cmd tag).pkt.vol = false) ∧
    (∃ (tag : TagNo) (s : State), s.at_ tag .perform = true ∧ (s.cmd tag).pkt.opc = 6 ∧ (s.cmd tag).pkt.sub = 1 ∧ bit (s.cmd
      tag).pkt.p0.toNat 8 = false ∧ s.blockZone (s.cmd tag).ep (s.cmd tag).pkt.vol (zoneOf (s.cmd tag).pkt.slba) (s.cmd tag).order false =
      none ∧ zoneOf (s.cmd tag).pkt.slba < s.zoneCount (s.cmd tag).pkt.vol ∧ (s.zone (s.cmd tag).pkt.vol (zoneOf (s.cmd tag).pkt.slba)).st
      = .empty ∧ (s.kdState (if (s.cmd tag).pkt.p2.toNat = 0x7FF then (s.mu (s.cmd tag).pkt.vol).defaultKdom else (s.cmd
      tag).pkt.p2.toNat) = .erased ∨ s.kdState (if (s.cmd tag).pkt.p2.toNat = 0x7FF then (s.mu (s.cmd tag).pkt.vol).defaultKdom else
      (s.cmd tag).pkt.p2.toNat) = .empty)) ∧
    (∃ (tag : TagNo) (s : State), s.at_ tag .perform = true ∧ (s.cmd tag).pkt.opc = 6 ∧ (s.cmd tag).pkt.sub = 1 ∧ bit (s.cmd
      tag).pkt.p0.toNat 8 = false ∧ s.blockZone (s.cmd tag).ep (s.cmd tag).pkt.vol (zoneOf (s.cmd tag).pkt.slba) (s.cmd tag).order false =
      none ∧ zoneOf (s.cmd tag).pkt.slba < s.zoneCount (s.cmd tag).pkt.vol ∧ (s.zone (s.cmd tag).pkt.vol (zoneOf (s.cmd tag).pkt.slba)).st
      = .empty ∧ (s.kdState (if (s.cmd tag).pkt.p2.toNat = 0x7FF then (s.mu (s.cmd tag).pkt.vol).defaultKdom else (s.cmd
      tag).pkt.p2.toNat) = .locked)) ∧
    (∃ (tag : TagNo) (s : State), s.at_ tag .perform = true ∧ (s.cmd tag).pkt.opc = 6 ∧ (s.cmd tag).pkt.sub = 1 ∧ bit (s.cmd
      tag).pkt.p0.toNat 8 = false ∧ s.blockZone (s.cmd tag).ep (s.cmd tag).pkt.vol (zoneOf (s.cmd tag).pkt.slba) (s.cmd tag).order false =
      none ∧ zoneOf (s.cmd tag).pkt.slba < s.zoneCount (s.cmd tag).pkt.vol ∧ (s.zone (s.cmd tag).pkt.vol (zoneOf (s.cmd tag).pkt.slba)).st
      = .implicitOpen) ∧
    (∃ (tag : TagNo) (s : State), s.at_ tag .perform = true ∧ (s.cmd tag).pkt.opc = 6 ∧ (s.cmd tag).pkt.sub = 1 ∧ bit (s.cmd
      tag).pkt.p0.toNat 8 = false ∧ s.blockZone (s.cmd tag).ep (s.cmd tag).pkt.vol (zoneOf (s.cmd tag).pkt.slba) (s.cmd tag).order false =
      none ∧ zoneOf (s.cmd tag).pkt.slba < s.zoneCount (s.cmd tag).pkt.vol ∧ (s.zone (s.cmd tag).pkt.vol (zoneOf (s.cmd tag).pkt.slba)).st
      = .explicitOpen) ∧
    (∃ (tag : TagNo) (s : State), s.at_ tag .perform = true ∧ (s.cmd tag).pkt.opc = 6 ∧ (s.cmd tag).pkt.sub = 1 ∧ bit (s.cmd
      tag).pkt.p0.toNat 8 = false ∧ s.blockZone (s.cmd tag).ep (s.cmd tag).pkt.vol (zoneOf (s.cmd tag).pkt.slba) (s.cmd tag).order false =
      none ∧ zoneOf (s.cmd tag).pkt.slba < s.zoneCount (s.cmd tag).pkt.vol ∧ (s.zone (s.cmd tag).pkt.vol (zoneOf (s.cmd tag).pkt.slba)).st
      = .closed ∧ s.noContext (s.cmd tag).pkt.vol = false) ∧
    (∃ (tag : TagNo) (s : State), s.at_ tag .perform = true ∧ (s.cmd tag).pkt.opc = 6 ∧ (s.cmd tag).pkt.sub = 1 ∧ bit (s.cmd
      tag).pkt.p0.toNat 8 = false ∧ s.blockZone (s.cmd tag).ep (s.cmd tag).pkt.vol (zoneOf (s.cmd tag).pkt.slba) (s.cmd tag).order false =
      none ∧ zoneOf (s.cmd tag).pkt.slba < s.zoneCount (s.cmd tag).pkt.vol ∧ (s.zone (s.cmd tag).pkt.vol (zoneOf (s.cmd tag).pkt.slba)).st
      = .closed ∧ s.noContext (s.cmd tag).pkt.vol = true) ∧
    (∃ (tag : TagNo) (s : State), s.at_ tag .perform = true ∧ (s.cmd tag).pkt.opc = 6 ∧ (s.cmd tag).pkt.sub = 1 ∧ bit (s.cmd
      tag).pkt.p0.toNat 8 = false ∧ s.blockZone (s.cmd tag).ep (s.cmd tag).pkt.vol (zoneOf (s.cmd tag).pkt.slba) (s.cmd tag).order false =
      none ∧ zoneOf (s.cmd tag).pkt.slba < s.zoneCount (s.cmd tag).pkt.vol ∧ (s.zone (s.cmd tag).pkt.vol (zoneOf (s.cmd tag).pkt.slba)).st
      = .full) ∧
    (∃ (tag : TagNo) (s : State), s.at_ tag .perform = true ∧ (s.cmd tag).pkt.opc = 6 ∧ (s.cmd tag).pkt.sub = 1 ∧ bit (s.cmd
      tag).pkt.p0.toNat 8 = false ∧ s.blockZone (s.cmd tag).ep (s.cmd tag).pkt.vol (zoneOf (s.cmd tag).pkt.slba) (s.cmd tag).order false =
      none ∧ zoneOf (s.cmd tag).pkt.slba < s.zoneCount (s.cmd tag).pkt.vol ∧ (s.zone (s.cmd tag).pkt.vol (zoneOf (s.cmd tag).pkt.slba)).st
      = .readOnly) ∧
    (∃ (tag : TagNo) (k : Nat) (s : State), s.at_ tag .perform = true ∧ (s.cmd tag).pkt.opc = 6 ∧ (s.cmd tag).pkt.sub = 2 ∧ s.blockZone
      (s.cmd tag).ep (s.cmd tag).pkt.vol (zoneOf (s.cmd tag).pkt.slba) (s.cmd tag).order (bit (s.cmd tag).pkt.p0.toNat 8) = some (.code
      k)) ∧
    (∃ (tag : TagNo) (s : State), s.at_ tag .perform = true ∧ (s.cmd tag).pkt.opc = 6 ∧ (s.cmd tag).pkt.sub = 2 ∧ s.blockZone (s.cmd
      tag).ep (s.cmd tag).pkt.vol (zoneOf (s.cmd tag).pkt.slba) (s.cmd tag).order (bit (s.cmd tag).pkt.p0.toNat 8) = none ∧ s.zoneCount
      (s.cmd tag).pkt.vol ≤ zoneOf (s.cmd tag).pkt.slba) ∧
    (∃ (tag : TagNo) (s : State), s.at_ tag .perform = true ∧ (s.cmd tag).pkt.opc = 6 ∧ (s.cmd tag).pkt.sub = 2 ∧ bit (s.cmd
      tag).pkt.p0.toNat 8 = false ∧ s.blockZone (s.cmd tag).ep (s.cmd tag).pkt.vol (zoneOf (s.cmd tag).pkt.slba) (s.cmd tag).order false =
      none ∧ zoneOf (s.cmd tag).pkt.slba < s.zoneCount (s.cmd tag).pkt.vol ∧ (s.zone (s.cmd tag).pkt.vol (zoneOf (s.cmd
      tag).pkt.slba)).isOpen = true ∧ (s.zone (s.cmd tag).pkt.vol (zoneOf (s.cmd tag).pkt.slba)).wp ≠ 0 ∧ s.eventRoom = true) ∧
    (∃ (tag : TagNo) (s : State), s.at_ tag .perform = true ∧ (s.cmd tag).pkt.opc = 6 ∧ (s.cmd tag).pkt.sub = 2 ∧ bit (s.cmd
      tag).pkt.p0.toNat 8 = false ∧ s.blockZone (s.cmd tag).ep (s.cmd tag).pkt.vol (zoneOf (s.cmd tag).pkt.slba) (s.cmd tag).order false =
      none ∧ zoneOf (s.cmd tag).pkt.slba < s.zoneCount (s.cmd tag).pkt.vol ∧ (s.zone (s.cmd tag).pkt.vol (zoneOf (s.cmd
      tag).pkt.slba)).isOpen = true ∧ (s.zone (s.cmd tag).pkt.vol (zoneOf (s.cmd tag).pkt.slba)).wp = 0 ∧ s.eventRoom = true) ∧
    (∃ (tag : TagNo) (s : State), s.at_ tag .perform = true ∧ (s.cmd tag).pkt.opc = 6 ∧ (s.cmd tag).pkt.sub = 2 ∧ bit (s.cmd
      tag).pkt.p0.toNat 8 = false ∧ s.blockZone (s.cmd tag).ep (s.cmd tag).pkt.vol (zoneOf (s.cmd tag).pkt.slba) (s.cmd tag).order false =
      none ∧ zoneOf (s.cmd tag).pkt.slba < s.zoneCount (s.cmd tag).pkt.vol ∧ ((s.zone (s.cmd tag).pkt.vol (zoneOf (s.cmd
      tag).pkt.slba)).st = .empty ∨ (s.zone (s.cmd tag).pkt.vol (zoneOf (s.cmd tag).pkt.slba)).st = .closed ∨ (s.zone (s.cmd tag).pkt.vol
      (zoneOf (s.cmd tag).pkt.slba)).st = .full) ∧ s.eventRoom = true) ∧
    (∃ (tag : TagNo) (s : State), s.at_ tag .perform = true ∧ (s.cmd tag).pkt.opc = 6 ∧ (s.cmd tag).pkt.sub = 2 ∧ bit (s.cmd
      tag).pkt.p0.toNat 8 = false ∧ s.blockZone (s.cmd tag).ep (s.cmd tag).pkt.vol (zoneOf (s.cmd tag).pkt.slba) (s.cmd tag).order false =
      none ∧ zoneOf (s.cmd tag).pkt.slba < s.zoneCount (s.cmd tag).pkt.vol ∧ (s.zone (s.cmd tag).pkt.vol (zoneOf (s.cmd tag).pkt.slba)).st
      = .readOnly) ∧
    (∃ (tag : TagNo) (k : Nat) (s : State), s.at_ tag .perform = true ∧ (s.cmd tag).pkt.opc = 6 ∧ (s.cmd tag).pkt.sub = 3 ∧ s.blockZone
      (s.cmd tag).ep (s.cmd tag).pkt.vol (zoneOf (s.cmd tag).pkt.slba) (s.cmd tag).order (bit (s.cmd tag).pkt.p0.toNat 8) = some (.code
      k)) ∧
    (∃ (tag : TagNo) (s : State), s.at_ tag .perform = true ∧ (s.cmd tag).pkt.opc = 6 ∧ (s.cmd tag).pkt.sub = 3 ∧ s.blockZone (s.cmd
      tag).ep (s.cmd tag).pkt.vol (zoneOf (s.cmd tag).pkt.slba) (s.cmd tag).order (bit (s.cmd tag).pkt.p0.toNat 8) = none ∧ s.zoneCount
      (s.cmd tag).pkt.vol ≤ zoneOf (s.cmd tag).pkt.slba) ∧
    (∃ (tag : TagNo) (s : State), s.at_ tag .perform = true ∧ (s.cmd tag).pkt.opc = 6 ∧ (s.cmd tag).pkt.sub = 3 ∧ bit (s.cmd
      tag).pkt.p0.toNat 8 = false ∧ s.blockZone (s.cmd tag).ep (s.cmd tag).pkt.vol (zoneOf (s.cmd tag).pkt.slba) (s.cmd tag).order false =
      none ∧ zoneOf (s.cmd tag).pkt.slba < s.zoneCount (s.cmd tag).pkt.vol ∧ ((s.zone (s.cmd tag).pkt.vol (zoneOf (s.cmd
      tag).pkt.slba)).isOpen = true ∨ (s.zone (s.cmd tag).pkt.vol (zoneOf (s.cmd tag).pkt.slba)).st = .empty ∨ (s.zone (s.cmd tag).pkt.vol
      (zoneOf (s.cmd tag).pkt.slba)).st = .closed) ∧ s.eventRoom = true) ∧
    (∃ (tag : TagNo) (s : State), s.at_ tag .perform = true ∧ (s.cmd tag).pkt.opc = 6 ∧ (s.cmd tag).pkt.sub = 3 ∧ bit (s.cmd
      tag).pkt.p0.toNat 8 = false ∧ s.blockZone (s.cmd tag).ep (s.cmd tag).pkt.vol (zoneOf (s.cmd tag).pkt.slba) (s.cmd tag).order false =
      none ∧ zoneOf (s.cmd tag).pkt.slba < s.zoneCount (s.cmd tag).pkt.vol ∧ (s.zone (s.cmd tag).pkt.vol (zoneOf (s.cmd tag).pkt.slba)).st
      = .full ∧ s.eventRoom = true) ∧
    (∃ (tag : TagNo) (s : State), s.at_ tag .perform = true ∧ (s.cmd tag).pkt.opc = 6 ∧ (s.cmd tag).pkt.sub = 3 ∧ bit (s.cmd
      tag).pkt.p0.toNat 8 = false ∧ s.blockZone (s.cmd tag).ep (s.cmd tag).pkt.vol (zoneOf (s.cmd tag).pkt.slba) (s.cmd tag).order false =
      none ∧ zoneOf (s.cmd tag).pkt.slba < s.zoneCount (s.cmd tag).pkt.vol ∧ (s.zone (s.cmd tag).pkt.vol (zoneOf (s.cmd tag).pkt.slba)).st
      = .readOnly) ∧
    (∃ (tag : TagNo) (k : Nat) (s : State), s.at_ tag .perform = true ∧ (s.cmd tag).pkt.opc = 6 ∧ (s.cmd tag).pkt.sub = 4 ∧ s.blockZone
      (s.cmd tag).ep (s.cmd tag).pkt.vol (zoneOf (s.cmd tag).pkt.slba) (s.cmd tag).order (bit (s.cmd tag).pkt.p0.toNat 8) = some (.code
      k)) ∧
    (∃ (tag : TagNo) (s : State), s.at_ tag .perform = true ∧ (s.cmd tag).pkt.opc = 6 ∧ (s.cmd tag).pkt.sub = 4 ∧ s.blockZone (s.cmd
      tag).ep (s.cmd tag).pkt.vol (zoneOf (s.cmd tag).pkt.slba) (s.cmd tag).order (bit (s.cmd tag).pkt.p0.toNat 8) = none ∧ s.zoneCount
      (s.cmd tag).pkt.vol ≤ zoneOf (s.cmd tag).pkt.slba) ∧
    (∃ (tag : TagNo) (s : State), s.at_ tag .perform = true ∧ (s.cmd tag).pkt.opc = 6 ∧ (s.cmd tag).pkt.sub = 4 ∧ bit (s.cmd
      tag).pkt.p0.toNat 8 = false ∧ s.blockZone (s.cmd tag).ep (s.cmd tag).pkt.vol (zoneOf (s.cmd tag).pkt.slba) (s.cmd tag).order false =
      none ∧ zoneOf (s.cmd tag).pkt.slba < s.zoneCount (s.cmd tag).pkt.vol ∧ (s.zone (s.cmd tag).pkt.vol (zoneOf (s.cmd tag).pkt.slba)).st
      ≠ .offline ∧ s.eventRoom = true) ∧
    (∃ (tag : TagNo) (s : State), s.at_ tag .perform = true ∧ (s.cmd tag).pkt.opc = 6 ∧ (s.cmd tag).pkt.sub = 4 ∧ bit (s.cmd
      tag).pkt.p0.toNat 8 = false ∧ s.blockZone (s.cmd tag).ep (s.cmd tag).pkt.vol (zoneOf (s.cmd tag).pkt.slba) (s.cmd tag).order false =
      none ∧ zoneOf (s.cmd tag).pkt.slba < s.zoneCount (s.cmd tag).pkt.vol ∧ (s.zone (s.cmd tag).pkt.vol (zoneOf (s.cmd tag).pkt.slba)).st
      = .offline) ∧
    (∃ (tag : TagNo) (z : Nat) (s : State), s.at_ tag .perform = true ∧ (s.cmd tag).pkt.opc = 6 ∧ (s.cmd tag).pkt.sub = 4 ∧ bit (s.cmd
      tag).pkt.p0.toNat 8 = true ∧ s.blockZone (s.cmd tag).ep (s.cmd tag).pkt.vol (zoneOf (s.cmd tag).pkt.slba) (s.cmd tag).order true =
      none ∧ zoneOf (s.cmd tag).pkt.slba < s.zoneCount (s.cmd tag).pkt.vol ∧ z < s.zoneCount (s.cmd tag).pkt.vol ∧ s.isConv (s.cmd
      tag).pkt.vol z = false ∧ (s.zone (s.cmd tag).pkt.vol z).deferred = none ∧ (s.zone (s.cmd tag).pkt.vol z).st ≠ .offline ∧ s.eventRoom
      = true) ∧
    (∃ (tag : TagNo) (z : Nat) (s : State), s.at_ tag .perform = true ∧ (s.cmd tag).pkt.opc = 6 ∧ (s.cmd tag).pkt.sub = 3 ∧ bit (s.cmd
      tag).pkt.p0.toNat 8 = true ∧ s.blockZone (s.cmd tag).ep (s.cmd tag).pkt.vol (zoneOf (s.cmd tag).pkt.slba) (s.cmd tag).order true =
      none ∧ zoneOf (s.cmd tag).pkt.slba < s.zoneCount (s.cmd tag).pkt.vol ∧ z < s.zoneCount (s.cmd tag).pkt.vol ∧ s.isConv (s.cmd
      tag).pkt.vol z = false ∧ (s.zone (s.cmd tag).pkt.vol z).deferred = none ∧ (s.zone (s.cmd tag).pkt.vol z).isOpen = true ∧ s.eventRoom
      = true) ∧
    (∃ (tag : TagNo) (z : Nat) (s : State), s.at_ tag .perform = true ∧ (s.cmd tag).pkt.opc = 6 ∧ (s.cmd tag).pkt.sub = 2 ∧ bit (s.cmd
      tag).pkt.p0.toNat 8 = true ∧ s.blockZone (s.cmd tag).ep (s.cmd tag).pkt.vol (zoneOf (s.cmd tag).pkt.slba) (s.cmd tag).order true =
      none ∧ zoneOf (s.cmd tag).pkt.slba < s.zoneCount (s.cmd tag).pkt.vol ∧ z < s.zoneCount (s.cmd tag).pkt.vol ∧ s.isConv (s.cmd
      tag).pkt.vol z = false ∧ (s.zone (s.cmd tag).pkt.vol z).deferred = none ∧ (s.zone (s.cmd tag).pkt.vol z).isOpen = true ∧ (s.zone
      (s.cmd tag).pkt.vol z).wp ≠ 0 ∧ s.eventRoom = true) :=
  ⟨⟨0, 0x0D, { (withCmd { opc := 6, p0 := 1#32, p2 := 0#32, slba := 65536 } .perform) with hdas := [] }, by decide⟩,
   ⟨0, withCmd { opc := 6, p0 := 1#32, slba := 65536 * 9 } .perform, by decide⟩,
   ⟨0, { lba := 65540, count := 2, cause := 1 }, (withCmd { opc := 6, p0 := 4#32, p2 := 0#32, slba := 65536 } .perform).updZone 0 1 fun z => { z with deferred := some { lba := 65540, count := 2, cause := 1 } }, by decide⟩,
   ⟨0, { (withCmd { opc := 6, p0 := 1#32, p2 := 0x7FF#32, slba := 65536 } .perform) with nor := { kds := [(0, { st := .active })] } }, by decide⟩,
   ⟨0, { (withCmd { opc := 6, p0 := 1#32, p2 := 0#32, slba := 65536 } .perform) with nor := { kds := [(0, { st := .erased })] } }, by decide⟩,
   ⟨0, { (withCmd { opc := 6, p0 := 1#32, p2 := 0#32, slba := 65536 } .perform) with nor := { kds := [(0, { st := .locked })] } }, by decide⟩,
   ⟨0, (withCmd { opc := 6, p0 := 1#32, p2 := 0#32, slba := 65536 } .perform).updZone 0 1 fun z => { z with st := .implicitOpen, wp := 5 }, by decide⟩,
   ⟨0, (withCmd { opc := 6, p0 := 1#32, p2 := 0#32, slba := 65536 } .perform).updZone 0 1 fun z => { z with st := .explicitOpen }, by decide⟩,
   ⟨0, (withCmd { opc := 6, p0 := 1#32, p2 := 0#32, slba := 65536 } .perform).updZone 0 1 fun z => { z with st := .closed, wp := 5 }, by decide⟩,
   ⟨0, { (((withCmd { opc := 6, p0 := 1#32, p2 := 0#32, slba := 65536 } .perform).updZone 0 1 fun z => { z with st := .closed, wp := 5 }).updZone 0 2 fun z => { z with st := .implicitOpen }) with feat := [(featKey 0x08 0, (1#32, 0#32, 0#32, 0#32))] }, by decide⟩,
   ⟨0, (withCmd { opc := 6, p0 := 1#32, p2 := 0#32, slba := 65536 } .perform).updZone 0 1 fun z => { z with st := .full }, by decide⟩,
   ⟨0, (withCmd { opc := 6, p0 := 1#32, p2 := 0#32, slba := 65536 } .perform).updZone 0 1 fun z => { z with st := .readOnly }, by decide⟩,
   ⟨0, 0x0D, { (withCmd { opc := 6, p0 := 2#32, p2 := 0#32, slba := 65536 } .perform) with hdas := [] }, by decide⟩,
   ⟨0, withCmd { opc := 6, p0 := 2#32, slba := 65536 * 9 } .perform, by decide⟩,
   ⟨0, (withCmd { opc := 6, p0 := 2#32, p2 := 0#32, slba := 65536 } .perform).updZone 0 1 fun z => { z with st := .implicitOpen, wp := 5 }, by decide⟩,
   ⟨0, (withCmd { opc := 6, p0 := 2#32, p2 := 0#32, slba := 65536 } .perform).updZone 0 1 fun z => { z with st := .explicitOpen, kdom := some 0 }, by decide⟩,
   ⟨0, (withCmd { opc := 6, p0 := 2#32, p2 := 0#32, slba := 65536 } .perform), by decide⟩,
   ⟨0, (withCmd { opc := 6, p0 := 2#32, p2 := 0#32, slba := 65536 } .perform).updZone 0 1 fun z => { z with st := .readOnly }, by decide⟩,
   ⟨0, 0x0D, { (withCmd { opc := 6, p0 := 3#32, p2 := 0#32, slba := 65536 } .perform) with hdas := [] }, by decide⟩,
   ⟨0, withCmd { opc := 6, p0 := 3#32, slba := 65536 * 9 } .perform, by decide⟩,
   ⟨0, (withCmd { opc := 6, p0 := 3#32, p2 := 0#32, slba := 65536 } .perform).updZone 0 1 fun z => { z with st := .implicitOpen, wp := 5 }, by decide⟩,
   ⟨0, (withCmd { opc := 6, p0 := 3#32, p2 := 0#32, slba := 65536 } .perform).updZone 0 1 fun z => { z with st := .full }, by decide⟩,
   ⟨0, (withCmd { opc := 6, p0 := 3#32, p2 := 0#32, slba := 65536 } .perform).updZone 0 1 fun z => { z with st := .readOnly }, by decide⟩,
   ⟨0, 0x0D, { (withCmd { opc := 6, p0 := 4#32, p2 := 0#32, slba := 65536 } .perform) with hdas := [] }, by decide⟩,
   ⟨0, withCmd { opc := 6, p0 := 4#32, slba := 65536 * 9 } .perform, by decide⟩,
   ⟨0, { ((withCmd { opc := 6, p0 := 4#32, p2 := 0#32, slba := 65536 } .perform).updZone 0 1 fun z => { z with st := .full, wp := 65536, gen := 65535, kdom := some 3 }) with bca := { index := [(65536, { seq := 1, sector := some {} }), (65700, { seq := 1, sector := some {} })] } }, by decide⟩,
   ⟨0, (withCmd { opc := 6, p0 := 4#32, p2 := 0#32, slba := 65536 } .perform).updZone 0 1 fun z => { z with st := .offline }, by decide⟩,
   ⟨0, 1, ((withCmd { opc := 6, p0 := 260#32, p2 := 0#32, slba := 0 } .perform)).updZone 0 1 fun z => { z with st := .full, wp := 65536, gen := 7 }, by decide⟩,
   ⟨0, 1, ((withCmd { opc := 6, p0 := 259#32, p2 := 0#32, slba := 0 } .perform)).updZone 0 1 fun z => { z with st := .implicitOpen, wp := 5, gen := 7 }, by decide⟩,
   ⟨0, 1, ((withCmd { opc := 6, p0 := 258#32, p2 := 0#32, slba := 0 } .perform)).updZone 0 1 fun z => { z with st := .implicitOpen, wp := 5, gen := 7 }, by decide⟩⟩

/-- States and operands that meet the hypotheses of `Obligations.VolumesAndReports`, one for each statement in it. -/
theorem witness_volumes_and_reports :
    (∃ (tag : TagNo) (s : State), s.mayBegin tag 0x07 0 = true ∧ s.hostOk (s.cmd tag).ep = true ∧ firstCode [s.absentCode tag,
      s.stoppedCode tag] = none ∧ s.eventRoom = true) ∧
    (∃ (tag : TagNo) (k : Nat) (s : State), s.mayBegin tag 0x07 0 = true ∧ s.hostOk (s.cmd tag).ep = true ∧ firstCode [s.absentCode tag,
      s.stoppedCode tag] = some k) ∧
    (∃ (tag : TagNo) (rateZones : List (Nat × List Byte)) (zones : List (List Byte) × List Nat) (k : Nat) (s : State), s.mayBegin tag 0x33
      1 = true ∧ s.hostOk (s.cmd tag).ep = true ∧ firstCode [s.ownCode tag, s.absentCode tag, s.barrierCode tag, ((checkedFormat
      (s.headsOf (s.cmd tag).pkt.vol) { rateZones := rateZones, zoneMap := zones.1, slips := zones.2 }).isNone && !s.factory, 0x000C),
      (!s.formattable (s.cmd tag).pkt.vol, 0x0008)] = some k) ∧
    (∃ (tag : TagNo) (rateZones : List (Nat × List Byte)) (zones : List (List Byte) × List Nat) (s : State), s.mayBegin tag 0x33 1 = true
      ∧ s.hostOk (s.cmd tag).ep = true ∧ firstCode [s.ownCode tag, s.absentCode tag, s.barrierCode tag, ((checkedFormat (s.headsOf (s.cmd
      tag).pkt.vol) { rateZones := rateZones, zoneMap := zones.1, slips := zones.2 }).isNone && !s.factory, 0x000C), (!s.formattable
      (s.cmd tag).pkt.vol, 0x0008)] = none ∧ (s.cmd tag).pkt.mptr = 0) ∧
    (∃ (tag : TagNo) (token : List Byte) (rateZones : List (Nat × List Byte)) (zones : List (List Byte) × List Nat) (c : Nat) (s : State),
      s.mayBegin tag 0x33 1 = true ∧ s.hostOk (s.cmd tag).ep = true ∧ firstCode [s.ownCode tag, s.absentCode tag, s.barrierCode tag,
      ((checkedFormat (s.headsOf (s.cmd tag).pkt.vol) { rateZones := rateZones, zoneMap := zones.1, slips := zones.2 }).isNone &&
      !s.factory, 0x000C), (!s.formattable (s.cmd tag).pkt.vol, 0x0008)] = none ∧ (s.cmd tag).pkt.mptr ≠ 0 ∧ s.tokenFault (s.cmd tag).ep
      (s.cmd tag).pkt token [] false = some c ∧ s.eventRoom = true) ∧
    (∃ (tag : TagNo) (rateZones : List (Nat × List Byte)) (zones : List (List Byte) × List Nat) (s : State), s.mayBegin tag 0x33 1 = true
      ∧ s.hostOk (s.cmd tag).ep = true ∧ firstCode [s.ownCode tag, s.absentCode tag, s.barrierCode tag, ((checkedFormat (s.headsOf (s.cmd
      tag).pkt.vol) { rateZones := rateZones, zoneMap := zones.1, slips := zones.2 }).isNone && !s.factory, 0x000C), (!s.formattable
      (s.cmd tag).pkt.vol, 0x0008)] = none ∧ (s.cmd tag).pkt.mptr ≠ 0 ∧ s.eventRoom = true) ∧
    (∃ (tag : TagNo) (s : State), s.dual = true ∧ s.mayTakeIn tag = true ∧ (s.cmd tag).pkt.opc = 0x33 ∧ (s.cmd tag).pkt.sub = 2 ∧
      firstCode [(s.notOwner (s.cmd tag).ep (s.cmd tag).pkt.vol, 0x000A), s.barrierCode tag] = none ∧ s.eventRoom = true) ∧
    (∃ (tag : TagNo) (k : Nat) (s : State), s.mayTakeIn tag = true ∧ (s.cmd tag).pkt.opc = 0x33 ∧ (s.cmd tag).pkt.sub = 2 ∧ firstCode
      [(s.notOwner (s.cmd tag).ep (s.cmd tag).pkt.vol, 0x000A), s.barrierCode tag] = some k) ∧
    (∃ (tag : TagNo) (s : State), s.dual = true ∧ s.mayTakeIn tag = true ∧ (s.cmd tag).pkt.opc = 0x33 ∧ (s.cmd tag).pkt.sub = 3 ∧
      firstCode [s.barrierCode tag, (s.takeoverBars (s.cmd tag).ep (s.cmd tag).pkt.vol (bit (s.cmd tag).pkt.p2.toNat 1), 0x000A)] = none ∧
      s.owner (s.cmd tag).pkt.vol ≠ some (s.cmd tag).ep ∧ s.eventRoom = true) ∧
    (∃ (tag : TagNo) (s : State), s.mayTakeIn tag = true ∧ (s.cmd tag).pkt.opc = 0x33 ∧ (s.cmd tag).pkt.sub = 3 ∧ firstCode [s.barrierCode
      tag, (s.takeoverBars (s.cmd tag).ep (s.cmd tag).pkt.vol (bit (s.cmd tag).pkt.p2.toNat 1), 0x000A)] = none ∧ s.owner (s.cmd
      tag).pkt.vol = some (s.cmd tag).ep ∧ s.eventRoom = true) ∧
    (∃ (tag : TagNo) (k : Nat) (s : State), s.mayTakeIn tag = true ∧ (s.cmd tag).pkt.opc = 0x33 ∧ (s.cmd tag).pkt.sub = 3 ∧ firstCode
      [s.barrierCode tag, (s.takeoverBars (s.cmd tag).ep (s.cmd tag).pkt.vol (bit (s.cmd tag).pkt.p2.toNat 1), 0x000A)] = some k) ∧
    (∃ (tag : TagNo) (s : State), s.mayBegin tag 0x33 4 = true ∧ firstCode [s.ownCode tag, s.barrierCode tag, (s.kdState (bits (s.cmd
      tag).pkt.p2.toNat 25 16) == .erased || s.kdState (bits (s.cmd tag).pkt.p2.toNat 25 16) == .empty, 0x0012)] = none) ∧
    (∃ (tag : TagNo) (k : Nat) (s : State), s.mayBegin tag 0x33 4 = true ∧ firstCode [s.ownCode tag, s.barrierCode tag, (s.kdState (bits
      (s.cmd tag).pkt.p2.toNat 25 16) == .erased || s.kdState (bits (s.cmd tag).pkt.p2.toNat 25 16) == .empty, 0x0012)] = some k) ∧
    (∃ (tag : TagNo) (s : State), s.mayBegin tag 0x34 0 = true ∧ firstCode [s.ownScoped tag] = none ∧ (s.cq (s.bindingNamed
      tag).2).isEvent = true) ∧
    (∃ (tag : TagNo) (s : State), s.mayBegin tag 0x34 1 = true ∧ firstCode [s.ownScoped tag] = none ∧ (s.cq (s.bindingNamed
      tag).2).isEvent = true) ∧
    (∃ (tag : TagNo) (s : State), s.mayBegin tag 0x34 0 = true ∧ firstCode [s.ownScoped tag] = none ∧ (s.cq (s.bindingNamed
      tag).2).isEvent = false) ∧
    (∃ (tag : TagNo) (s : State), s.mayBegin tag 0x34 1 = true ∧ firstCode [s.ownScoped tag] = none ∧ (s.cq (s.bindingNamed
      tag).2).isEvent = false) ∧
    (∃ (tag : TagNo) (k : Nat) (s : State), s.mayBegin tag 0x34 0 = true ∧ firstCode [s.ownScoped tag] = some k) ∧
    (∃ (tag : TagNo) (k : Nat) (s : State), s.mayBegin tag 0x34 1 = true ∧ firstCode [s.ownScoped tag] = some k) :=
  ⟨⟨0, withCmd { opc := 7, p5 := 128#32 } .perform, by decide⟩,
   ⟨0, 0x0D, { withCmd { opc := 7, p5 := 128#32 } .perform with hdas := [] }, by decide⟩,
   ⟨0, [], ([[]], []), 0x0C, { managedAs 0x33 1 0#32 with dual := true, owners := [(0, some 0)] }, by decide⟩,
   ⟨0, [], ([], []), { managedAs 0x33 1 0#32 with dual := true, owners := [(0, some 0)] }, by decide⟩,
   ⟨0, [], [], ([], []), 1, withMptr { managedAs 0x33 1 0#32 with dual := true, owners := [(0, some 0)] }, by decide⟩,
   ⟨0, [], ([], []), withMptr { managedAs 0x33 1 0#32 with dual := true, owners := [(0, some 0)] }, by decide⟩,
   ⟨0, { withCmd { opc := 0x33, p0 := 2#32, p2 := 0#32 } .intake with dual := true, owners := [(0, some 0)] }, by decide⟩,
   ⟨0, 0x0A, { withCmd { opc := 0x33, p0 := 2#32, p2 := 0#32 } .intake with dual := true, owners := [(0, some 1)] }, by decide⟩,
   ⟨0, { withCmd { opc := 0x33, p0 := 3#32, p2 := 2#32 } .intake with dual := true, owners := [(0, some 1)] }, by decide⟩,
   ⟨0, { withCmd { opc := 0x33, p0 := 3#32, p2 := 0#32 } .intake with dual := true, owners := [(0, some 0)] }, by decide⟩,
   ⟨0, 0x0A, { withCmd { opc := 0x33, p0 := 3#32 } .intake with dual := true, owners := [(0, some 1)], eps := [(0, { perst := false, linkUp := true, bme := true }), (1, { perst := false, linkUp := true })] }, by decide⟩,
   ⟨0, { managedAs 0x33 4 196608#32 with dual := true, owners := [(0, some 0)], nor := { kds := [(3, { st := .locked })] } }, by decide⟩,
   ⟨0, 0x12, { managedAs 0x33 4 196608#32 with dual := true, owners := [(0, some 0)] }, by decide⟩,
   ⟨0, { managedAs 0x34 0 3#32 with cqs := [(3, { enable := true, event := true })] }, by decide⟩,
   ⟨0, { managedAs 0x34 1 3#32 with cqs := [(3, { enable := true, event := true })] }, by decide⟩,
   ⟨0, managedAs 0x34 0 3#32, by decide⟩,
   ⟨0, managedAs 0x34 1 3#32, by decide⟩,
   ⟨0, 0x0A, stranger (managedAs 0x34 0 3#32), by decide⟩,
   ⟨0, 0x0A, stranger (managedAs 0x34 1 3#32), by decide⟩⟩

/-- States and operands that meet the hypotheses of `Obligations.KeyManagement`, one for each statement in it. -/
theorem witness_key_management :
    (∃ (tag : TagNo) (k : Nat) (s : State), s.mayBegin tag 0x2D 1 = true ∧ s.hostOk (s.cmd tag).ep = true ∧ firstCode [(s.kdState (s.kdArg
      tag) == .erased, 0x0012)] = some k) ∧
    (∃ (tag : TagNo) (s : State), s.mayBegin tag 0x2D 1 = true ∧ s.hostOk (s.cmd tag).ep = true ∧ firstCode [(s.kdState (s.kdArg tag) ==
      .erased, 0x0012)] = none ∧ (s.cmd tag).pkt.mptr = 0) ∧
    (∃ (tag : TagNo) (token : List Byte) (c : Nat) (s : State), s.mayBegin tag 0x2D 1 = true ∧ s.hostOk (s.cmd tag).ep = true ∧ firstCode
      [(s.kdState (s.kdArg tag) == .erased, 0x0012)] = none ∧ (s.cmd tag).pkt.mptr ≠ 0 ∧ s.tokenFault (s.cmd tag).ep (s.cmd tag).pkt token
      [] false = some c ∧ s.eventRoom = true) ∧
    (∃ (tag : TagNo) (s : State), s.mayBegin tag 0x2D 1 = true ∧ s.hostOk (s.cmd tag).ep = true ∧ firstCode [(s.kdState (s.kdArg tag) ==
      .erased, 0x0012)] = none ∧ (s.cmd tag).pkt.mptr ≠ 0 ∧ s.eventRoom = true) ∧
    (∃ (tag : TagNo) (k : Nat) (s : State), s.mayBegin tag 0x2D 2 = true ∧ firstCode [(s.barrierUses tag (s.kdArg tag), 0x0014)] = some k) ∧
    (∃ (tag : TagNo) (s : State), s.mayBegin tag 0x2D 2 = true ∧ firstCode [(s.barrierUses tag (s.kdArg tag), 0x0014)] = none ∧ s.kdState
      (s.kdArg tag) = .active ∧ s.keyInFlight (s.kdArg tag) = false) ∧
    (∃ (tag : TagNo) (s : State), s.mayBegin tag 0x2D 2 = true ∧ firstCode [(s.barrierUses tag (s.kdArg tag), 0x0014)] = none ∧ s.kdState
      (s.kdArg tag) = .active ∧ s.keyInFlight (s.kdArg tag) = true) ∧
    (∃ (tag : TagNo) (s : State), s.mayBegin tag 0x2D 2 = true ∧ firstCode [(s.barrierUses tag (s.kdArg tag), 0x0014)] = none ∧ s.kdState
      (s.kdArg tag) ≠ .active) ∧
    (∃ (tag : TagNo) (s : State), s.keyWaits tag 2 = true ∧ s.keyInFlight (s.kdArg tag) = false) ∧
    (∃ (tag : TagNo) (s : State), s.keyWaits tag 2 = true ∧ s.keyInFlight (s.kdArg tag) = true) ∧
    (∃ (tag : TagNo) (k : Nat) (s : State), s.mayBegin tag 0x2D 3 = true ∧ s.hostOk (s.cmd tag).ep = true ∧ firstCode [(s.kdState (s.kdArg
      tag) == .erased, 0x0012)] = some k) ∧
    (∃ (tag : TagNo) (s : State), s.mayBegin tag 0x2D 3 = true ∧ s.hostOk (s.cmd tag).ep = true ∧ firstCode [(s.kdState (s.kdArg tag) ==
      .erased, 0x0012)] = none ∧ (s.cmd tag).pkt.mptr = 0) ∧
    (∃ (tag : TagNo) (token : List Byte) (c : Nat) (s : State), s.mayBegin tag 0x2D 3 = true ∧ s.hostOk (s.cmd tag).ep = true ∧ firstCode
      [(s.kdState (s.kdArg tag) == .erased, 0x0012)] = none ∧ (s.cmd tag).pkt.mptr ≠ 0 ∧ s.tokenFault (s.cmd tag).ep (s.cmd tag).pkt token
      [] false = some c ∧ s.eventRoom = true) ∧
    (∃ (tag : TagNo) (s : State), s.mayBegin tag 0x2D 3 = true ∧ s.hostOk (s.cmd tag).ep = true ∧ firstCode [(s.kdState (s.kdArg tag) ==
      .erased, 0x0012)] = none ∧ (s.cmd tag).pkt.mptr ≠ 0 ∧ s.eventRoom = true) ∧
    (∃ (tag : TagNo) (k : Nat) (s : State), s.mayBegin tag 0x2D 4 = true ∧ s.hostOk (s.cmd tag).ep = true ∧ firstCode [(s.barrierUses tag
      (s.kdArg tag), 0x0014), (s.kdState (s.kdArg tag) == .erased, 0x0012)] = some k) ∧
    (∃ (tag : TagNo) (s : State), s.mayBegin tag 0x2D 4 = true ∧ s.hostOk (s.cmd tag).ep = true ∧ firstCode [(s.barrierUses tag (s.kdArg
      tag), 0x0014), (s.kdState (s.kdArg tag) == .erased, 0x0012)] = none ∧ (s.cmd tag).pkt.mptr = 0) ∧
    (∃ (tag : TagNo) (token : List Byte) (c : Nat) (s : State), s.mayBegin tag 0x2D 4 = true ∧ s.hostOk (s.cmd tag).ep = true ∧ firstCode
      [(s.barrierUses tag (s.kdArg tag), 0x0014), (s.kdState (s.kdArg tag) == .erased, 0x0012)] = none ∧ (s.cmd tag).pkt.mptr ≠ 0 ∧
      s.tokenFault (s.cmd tag).ep (s.cmd tag).pkt token [] false = some c ∧ s.eventRoom = true) ∧
    (∃ (tag : TagNo) (s : State), s.mayBegin tag 0x2D 4 = true ∧ s.hostOk (s.cmd tag).ep = true ∧ firstCode [(s.barrierUses tag (s.kdArg
      tag), 0x0014), (s.kdState (s.kdArg tag) == .erased, 0x0012)] = none ∧ (s.cmd tag).pkt.mptr ≠ 0 ∧ s.eventRoom = true) ∧
    (∃ (tag : TagNo) (s : State), s.keyWaits tag 4 = true ∧ s.keyInFlight (s.kdArg tag) = false ∧ s.eventRoom = true) ∧
    (∃ (tag : TagNo) (c : Cmd) (s : State), s.orphan tag 0x2D 2 = some c ∧ s.keyInFlight c.kd = false) ∧
    (∃ (tag : TagNo) (c : Cmd) (s : State), s.orphan tag 0x2D 4 = some c ∧ s.keyInFlight c.kd = false ∧ s.eventRoom = true) :=
  ⟨⟨0, 0x12, { managedAs 0x2D 1 3#32 with nor := { kds := [(3, { st := .erased })] } }, by decide⟩,
   ⟨0, { managedAs 0x2D 1 3#32 with nor := { kds := [] } }, by decide⟩,
   ⟨0, [], 1, withMptr ({ managedAs 0x2D 1 3#32 with nor := { kds := [] } }), by decide⟩,
   ⟨0, withMptr ({ managedAs 0x2D 1 3#32 with nor := { kds := [] } }), by decide⟩,
   ⟨0, 0x14, { managedAs 0x2D 2 0#32 with mus := [(0, { mu0 with convKdom := 0 })], tags := [(0, { st := .accepted }), (1, { st := .accepted })], cmds := [(0, { pkt := { opc := 0x2D, p0 := 2#32 }, phase := .managed, order := 3 }), (1, { pkt := { opc := 5, flg := 1#8, vol := 0 }, phase := .flush })] }, by decide⟩,
   ⟨0, { managedAs 0x2D 2 3#32 with nor := { kds := [(3, { st := .active, key := 9 })] } }, by decide⟩,
   ⟨0, { managedAs 0x2D 2 0#32 with nor := { kds := [(0, { st := .active })] }, tags := [(0, { st := .accepted }), (1, { st := .accepted })], cmds := [(0, { pkt := { opc := 0x2D, p0 := 2#32 }, phase := .managed }), (1, { pkt := { opc := 1 }, phase := .sch })] }, by decide⟩,
   ⟨0, { managedAs 0x2D 2 3#32 with nor := { kds := [] } }, by decide⟩,
   ⟨0, { (withCmd { opc := 0x2D, p0 := 2#32, p2 := 3#32 } .executing) with nor := { kds := [(3, { st := .active, key := 9 })] }, sec := { keyRam := [3], keyMarks := [(3, false)] } }, by decide⟩,
   ⟨0, { up with tags := [(0, { st := .accepted }), (1, { st := .accepted })], cmds := [(0, { pkt := { opc := 0x2D, p0 := 2#32 }, phase := .executing }), (1, { pkt := { opc := 1 }, phase := .sch })] }, by decide⟩,
   ⟨0, 0x12, { managedAs 0x2D 3 3#32 with nor := { kds := [(3, { st := .erased })] } }, by decide⟩,
   ⟨0, { managedAs 0x2D 3 3#32 with nor := { kds := [(3, { st := .locked, key := 9 })] } }, by decide⟩,
   ⟨0, [], 1, withMptr ({ managedAs 0x2D 3 3#32 with nor := { kds := [(3, { st := .locked, key := 9 })] } }), by decide⟩,
   ⟨0, withMptr ({ managedAs 0x2D 3 3#32 with nor := { kds := [(3, { st := .locked, key := 9 })] } }), by decide⟩,
   ⟨0, 0x12, { managedAs 0x2D 4 3#32 with nor := { kds := [(3, { st := .erased })] } }, by decide⟩,
   ⟨0, { managedAs 0x2D 4 3#32 with nor := { kds := [(3, { st := .active, key := 9 })] } }, by decide⟩,
   ⟨0, [], 1, withMptr ({ managedAs 0x2D 4 3#32 with nor := { kds := [(3, { st := .active, key := 9 })] } }), by decide⟩,
   ⟨0, withMptr ({ managedAs 0x2D 4 3#32 with nor := { kds := [(3, { st := .active, key := 9 })] } }), by decide⟩,
   ⟨0, { (withCmd { opc := 0x2D, p0 := 4#32, p2 := 3#32 } .executing) with nor := { kds := [(3, { st := .active, key := 9 })] }, sec := { keyRam := [3], keyMarks := [(3, true)] } }, by decide⟩,
   ⟨0, { pkt := { opc := 0x2D, p0 := 2#32 } }, { up with mgt := { orphans := [{ pkt := { opc := 0x2D, p0 := 2#32 } }] }, sec := { keyRam := [0, 4], keyMarks := [(0, false)] }, nor := { kds := [(0, { st := .active })] } }, by decide⟩,
   ⟨0, { pkt := { opc := 0x2D, p0 := 4#32, p2 := 3#32 } }, { up with mgt := { orphans := [{ pkt := { opc := 0x2D, p0 := 4#32, p2 := 3#32 } }] }, sec := { keyMarks := [(3, true)] }, nor := { kds := [(3, { st := .active, key := 7 })] } }, by decide⟩⟩

/-- States and operands that meet the hypotheses of `Obligations.EnrolledKeys`, one for each statement in it. -/
theorem witness_enrolled_keys :
    (∃ (tag : TagNo) (data : List Byte) (s : State), s.mayBegin tag 0x2D 5 = true ∧ s.hostOk (s.cmd tag).ep = true ∧ data.length = (s.cmd
      tag).pkt.p5.toNat ∧ s.nor.custodians = []) ∧
    (∃ (tag : TagNo) (data : List Byte) (s : State), s.mayBegin tag 0x2D 5 = true ∧ s.hostOk (s.cmd tag).ep = true ∧ data.length = (s.cmd
      tag).pkt.p5.toNat ∧ s.nor.custodians ≠ [] ∧ (s.cmd tag).pkt.mptr = 0) ∧
    (∃ (tag : TagNo) (token : List Byte) (data : List Byte) (c : Nat) (s : State), s.mayBegin tag 0x2D 5 = true ∧ s.hostOk (s.cmd tag).ep
      = true ∧ data.length = (s.cmd tag).pkt.p5.toNat ∧ s.nor.custodians ≠ [] ∧ (s.cmd tag).pkt.mptr ≠ 0 ∧ s.tokenFault (s.cmd tag).ep
      (s.cmd tag).pkt token data true = some c ∧ s.eventRoom = true) ∧
    (∃ (tag : TagNo) (data : List Byte) (s : State), s.mayBegin tag 0x2D 5 = true ∧ s.hostOk (s.cmd tag).ep = true ∧ data.length = (s.cmd
      tag).pkt.p5.toNat ∧ s.nor.custodians ≠ [] ∧ (s.cmd tag).pkt.mptr ≠ 0 ∧ s.eventRoom = true) ∧
    (∃ (tag : TagNo) (s : State), s.mayBegin tag 0x2D 6 = true ∧ s.hostOk (s.cmd tag).ep = true ∧ (s.cmd tag).pkt.mptr = 0) ∧
    (∃ (tag : TagNo) (token : List Byte) (c : Nat) (s : State), s.mayBegin tag 0x2D 6 = true ∧ s.hostOk (s.cmd tag).ep = true ∧ (s.cmd
      tag).pkt.mptr ≠ 0 ∧ s.tokenFault (s.cmd tag).ep (s.cmd tag).pkt token [] false = some c ∧ s.eventRoom = true) ∧
    (∃ (tag : TagNo) (s : State), s.mayBegin tag 0x2D 6 = true ∧ s.hostOk (s.cmd tag).ep = true ∧ (s.cmd tag).pkt.mptr ≠ 0 ∧ s.eventRoom =
      true) ∧
    (∃ (tag : TagNo) (data : List Byte) (s : State), s.mayBegin tag 0x2D 7 = true ∧ s.hostOk (s.cmd tag).ep = true ∧ data.length = (s.cmd
      tag).pkt.p5.toNat ∧ (s.cmd tag).pkt.mptr = 0) ∧
    (∃ (tag : TagNo) (token : List Byte) (data : List Byte) (c : Nat) (s : State), s.mayBegin tag 0x2D 7 = true ∧ s.hostOk (s.cmd tag).ep
      = true ∧ data.length = (s.cmd tag).pkt.p5.toNat ∧ (s.cmd tag).pkt.mptr ≠ 0 ∧ s.tokenFault (s.cmd tag).ep (s.cmd tag).pkt token data
      true = some c ∧ s.eventRoom = true) ∧
    (∃ (tag : TagNo) (data : List Byte) (s : State), s.mayBegin tag 0x2D 7 = true ∧ s.hostOk (s.cmd tag).ep = true ∧ data.length = (s.cmd
      tag).pkt.p5.toNat ∧ (s.cmd tag).pkt.mptr ≠ 0 ∧ s.eventRoom = true) ∧
    (∃ (tag : TagNo) (s : State), s.mayBegin tag 0x2D 8 = true ∧ s.hostOk (s.cmd tag).ep = true ∧ (s.cmd tag).pkt.mptr = 0) ∧
    (∃ (tag : TagNo) (token : List Byte) (c : Nat) (s : State), s.mayBegin tag 0x2D 8 = true ∧ s.hostOk (s.cmd tag).ep = true ∧ (s.cmd
      tag).pkt.mptr ≠ 0 ∧ s.tokenFault (s.cmd tag).ep (s.cmd tag).pkt token [] false = some c ∧ s.eventRoom = true) ∧
    (∃ (tag : TagNo) (s : State), s.mayBegin tag 0x2D 8 = true ∧ s.hostOk (s.cmd tag).ep = true ∧ (s.cmd tag).pkt.mptr ≠ 0 ∧ s.eventRoom =
      true) ∧
    (∃ (tag : TagNo) (s : State), s.mayBegin tag 0x2D 9 = true) ∧
    (∃ (tag : TagNo) (s : State), s.mayBegin tag 0x2E 0 = true) :=
  ⟨⟨0, [1#8], (withCmd { opc := 0x2D, p0 := 5#32, p5 := 1#32 } .managed), by decide⟩,
   ⟨0, [1#8], { (withCmd { opc := 0x2D, p0 := 5#32, p5 := 1#32 } .managed) with nor := { custodians := [(1, [5#8])] } }, by decide⟩,
   ⟨0, [], [1#8], 1, withMptr { (withCmd { opc := 0x2D, p0 := 5#32, p5 := 1#32 } .managed) with nor := { custodians := [(1, [5#8])] } }, by decide⟩,
   ⟨0, [1#8], withMptr { (withCmd { opc := 0x2D, p0 := 5#32, p5 := 1#32 } .managed) with nor := { custodians := [(1, [5#8])] } }, by decide⟩,
   ⟨0, { (withCmd { opc := 0x2D, p0 := 6#32 } .managed) with nor := { custodians := [(1, [5#8])] } }, by decide⟩,
   ⟨0, [], 1, withMptr { (withCmd { opc := 0x2D, p0 := 6#32 } .managed) with nor := { custodians := [(1, [5#8])] } }, by decide⟩,
   ⟨0, withMptr { (withCmd { opc := 0x2D, p0 := 6#32 } .managed) with nor := { custodians := [(1, [5#8])] } }, by decide⟩,
   ⟨0, [1#8], (withCmd { opc := 0x2D, p0 := 7#32, p5 := 1#32 } .managed), by decide⟩,
   ⟨0, [], [1#8], 1, withMptr (withCmd { opc := 0x2D, p0 := 7#32, p5 := 1#32 } .managed), by decide⟩,
   ⟨0, [1#8], withMptr (withCmd { opc := 0x2D, p0 := 7#32, p5 := 1#32 } .managed), by decide⟩,
   ⟨0, (withCmd { opc := 0x2D, p0 := 8#32 } .managed), by decide⟩,
   ⟨0, [], 1, withMptr (withCmd { opc := 0x2D, p0 := 8#32 } .managed), by decide⟩,
   ⟨0, withMptr (withCmd { opc := 0x2D, p0 := 8#32 } .managed), by decide⟩,
   ⟨0, { managedAs 0x2D 9 3#32 with nor := { kds := [(3, { st := .active, key := 9 })] } }, by decide⟩,
   ⟨0, managedAs 0x2E 0 0#32, by decide⟩⟩

set_option maxRecDepth 40000 in
/-- States and operands that meet the hypotheses of `Obligations.IdentifyAndFeatures`, one for each statement in it. -/
theorem witness_identify_and_features :
    (∃ (tag : TagNo) (s : State), s.mayBegin tag 0x20 0 = true ∧ s.hostOk (s.cmd tag).ep = true ∧ s.eventRoom = true) ∧
    (∃ (tag : TagNo) (s : State), s.mayBegin tag 0x20 1 = true ∧ s.hostOk (s.cmd tag).ep = true ∧ s.eventRoom = true) ∧
    (∃ (tag : TagNo) (s : State), s.mayBegin tag 0x21 0 = true ∧ firstCode [s.ownScoped tag] = none) ∧
    (∃ (tag : TagNo) (s : State), s.mayBegin tag 0x21 1 = true ∧ firstCode [s.ownScoped tag] = none) ∧
    (∃ (tag : TagNo) (s : State), s.mayBegin tag 0x21 2 = true ∧ firstCode [s.ownScoped tag] = none) ∧
    (∃ (tag : TagNo) (k : Nat) (s : State), s.mayBegin tag 0x21 0 = true ∧ firstCode [s.ownScoped tag] = some k) ∧
    (∃ (tag : TagNo) (k : Nat) (s : State), s.mayBegin tag 0x21 1 = true ∧ firstCode [s.ownScoped tag] = some k) ∧
    (∃ (tag : TagNo) (k : Nat) (s : State), s.mayBegin tag 0x21 2 = true ∧ firstCode [s.ownScoped tag] = some k) ∧
    (∃ (tag : TagNo) (k : Nat) (s : State), s.mayBegin tag 0x22 0 = true ∧ fidOf (s.cmd tag).pkt ≠ 0x0A ∧ fidOf (s.cmd tag).pkt ≠ 0x0C ∧
      firstCode [s.ownScoped tag] = some k) ∧
    (∃ (tag : TagNo) (s : State), s.mayBegin tag 0x22 0 = true ∧ firstCode [s.ownScoped tag] = none ∧ fidOf (s.cmd tag).pkt = 8 ∧ 40960 <
      s.limitSum (s.cmd tag).pkt.vol (s.cmd tag).pkt.p2.toNat) ∧
    (∃ (tag : TagNo) (s : State), s.mayBegin tag 0x22 0 = true ∧ firstCode [s.ownScoped tag] = none ∧ fidOf (s.cmd tag).pkt ≠ 0x0A ∧ fidOf
      (s.cmd tag).pkt ≠ 0x0C ∧ (fidOf (s.cmd tag).pkt = 8 → s.limitSum (s.cmd tag).pkt.vol (s.cmd tag).pkt.p2.toNat ≤ 40960) ∧ s.eventRoom
      = true) ∧
    (∃ (tag : TagNo) (s : State), fidOf (s.cmd tag).pkt = 0x0C ∧ s.canMark 0x0433 = false) ∧
    (∃ (tag : TagNo) (s : State), s.mayBegin tag 0x22 0 = true ∧ s.hostOk (s.cmd tag).ep = true ∧ firstCode [s.ownScoped tag] = none ∧
      (fidOf (s.cmd tag).pkt = 0x0A ∨ (fidOf (s.cmd tag).pkt = 0x0C ∧ s.canMark 0x0433 = true)) ∧ (s.cmd tag).pkt.mptr = 0) ∧
    (∃ (tag : TagNo) (token : List Byte) (c : Nat) (s : State), s.mayBegin tag 0x22 0 = true ∧ s.hostOk (s.cmd tag).ep = true ∧ firstCode
      [s.ownScoped tag] = none ∧ (fidOf (s.cmd tag).pkt = 0x0A ∨ (fidOf (s.cmd tag).pkt = 0x0C ∧ s.canMark 0x0433 = true)) ∧ (s.cmd
      tag).pkt.mptr ≠ 0 ∧ s.tokenFault (s.cmd tag).ep (s.cmd tag).pkt token [] false = some c ∧ s.eventRoom = true) ∧
    (∃ (tag : TagNo) (s : State), s.mayBegin tag 0x22 0 = true ∧ s.hostOk (s.cmd tag).ep = true ∧ firstCode [s.ownScoped tag] = none ∧
      (fidOf (s.cmd tag).pkt = 0x0A ∨ (fidOf (s.cmd tag).pkt = 0x0C ∧ s.canMark 0x0433 = true)) ∧ (s.cmd tag).pkt.mptr ≠ 0 ∧ s.eventRoom =
      true) :=
  ⟨⟨0, (withCmd { opc := 0x20, p0 := 0#32, vol := 0xFFFF } .managed), by decide⟩,
   ⟨0, (withCmd { opc := 0x20, p0 := 1#32 } .managed), by decide⟩,
   ⟨0, (withCmd { opc := 0x21, p0 := 1792#32, vol := 0xFFFF } .managed), by decide⟩,
   ⟨0, (withCmd { opc := 0x21, p0 := 1025#32 } .managed), by decide⟩,
   ⟨0, (withCmd { opc := 0x21, p0 := 1026#32 } .managed), by decide⟩,
   ⟨0, 0x0A, stranger (withCmd { opc := 0x21, p0 := 1024#32 } .managed), by decide⟩,
   ⟨0, 0x0A, stranger (withCmd { opc := 0x21, p0 := 1025#32 } .managed), by decide⟩,
   ⟨0, 0x0A, stranger (withCmd { opc := 0x21, p0 := 1026#32 } .managed), by decide⟩,
   ⟨0, 0x0A, stranger (withCmd { opc := 0x22, p0 := 1024#32 } .managed), by decide⟩,
   ⟨0, (withCmd { opc := 0x22, p0 := 2048#32, p2 := 0xFFFF#32 } .managed), by decide⟩,
   ⟨0, (withCmd { opc := 0x22, p0 := 1792#32, p2 := 9#32, vol := 0xFFFF } .managed), by decide⟩,
   ⟨0, { (withCmd { opc := 0x22, p0 := 3072#32, vol := 0xFFFF } .managed) with log := { queue := List.replicate 255 (.record (State.reset.marker 0x0433 0 [])) ++ [.reserve (State.reset.marker 0x0433 0 []), .reserve (State.reset.marker 0x0433 0 [])] } }, by decide +kernel⟩,
   ⟨0, (withCmd { opc := 0x22, p0 := 3072#32, vol := 0xFFFF } .managed), by decide⟩,
   ⟨0, [], 1, withMptr (withCmd { opc := 0x22, p0 := 2560#32, vol := 0xFFFF } .managed), by decide⟩,
   ⟨0, withMptr (withCmd { opc := 0x22, p0 := 2560#32, vol := 0xFFFF } .managed), by decide⟩⟩

set_option maxRecDepth 40000 in
/-- States and operands that meet the hypotheses of `Obligations.LogPages`, one for each statement in it. -/
theorem witness_log_pages :
    (∃ (tag : TagNo) (s : State), s.mayBegin tag 0x23 0 = true ∧ s.hostOk (s.cmd tag).ep = true ∧ firstCode [s.ownScoped tag] = none ∧
      s.eventRoom = true) ∧
    (∃ (tag : TagNo) (k : Nat) (s : State), s.mayBegin tag 0x23 0 = true ∧ s.hostOk (s.cmd tag).ep = true ∧ firstCode [s.ownScoped tag] =
      some k) ∧
    (∃ (tag : TagNo) (s : State), s.mayBegin tag 0x24 0 = true ∧ firstCode [s.ownScoped tag] = none ∧ fidOf (s.cmd tag).pkt = 1 ∧
      s.eventRoom = true) ∧
    (∃ (tag : TagNo) (s : State), s.mayBegin tag 0x24 0 = true ∧ firstCode [s.ownScoped tag] = none ∧ fidOf (s.cmd tag).pkt = 3 ∧
      s.eventRoom = true) ∧
    (∃ (tag : TagNo) (s : State), s.mayBegin tag 0x24 0 = true ∧ firstCode [s.ownScoped tag] = none ∧ fidOf (s.cmd tag).pkt = 4 ∧
      s.eventRoom = true) ∧
    (∃ (tag : TagNo) (s : State), fidOf (s.cmd tag).pkt = 2 ∧ s.canMark 0x0432 = false) ∧
    (∃ (tag : TagNo) (s : State), s.mayBegin tag 0x24 0 = true ∧ s.hostOk (s.cmd tag).ep = true ∧ firstCode [s.ownScoped tag] = none ∧
      fidOf (s.cmd tag).pkt = 2 ∧ s.canMark 0x0432 = true ∧ (s.cmd tag).pkt.mptr = 0) ∧
    (∃ (tag : TagNo) (token : List Byte) (c : Nat) (s : State), s.mayBegin tag 0x24 0 = true ∧ s.hostOk (s.cmd tag).ep = true ∧ firstCode
      [s.ownScoped tag] = none ∧ fidOf (s.cmd tag).pkt = 2 ∧ s.canMark 0x0432 = true ∧ (s.cmd tag).pkt.mptr ≠ 0 ∧ s.tokenFault (s.cmd
      tag).ep (s.cmd tag).pkt token [] false = some c ∧ s.eventRoom = true) ∧
    (∃ (tag : TagNo) (s : State), s.mayBegin tag 0x24 0 = true ∧ s.hostOk (s.cmd tag).ep = true ∧ firstCode [s.ownScoped tag] = none ∧
      fidOf (s.cmd tag).pkt = 2 ∧ s.canMark 0x0432 = true ∧ (s.cmd tag).pkt.mptr ≠ 0 ∧ s.eventRoom = true) ∧
    (∃ (tag : TagNo) (k : Nat) (s : State), s.mayBegin tag 0x24 0 = true ∧ fidOf (s.cmd tag).pkt ≠ 2 ∧ firstCode [s.ownScoped tag] = some
      k) :=
  ⟨⟨0, { (withCmd { opc := 0x23, p0 := 768#32, p5 := 32#32 } .managed) with store := { msgs := [{ value := 1, mu := 2, oph := 3, ops := 4 }, { value := 5, mu := 2, oph := 3, ops := 4 }, { value := 6, mu := 2, oph := 3, ops := 4 }] } }, by decide⟩,
   ⟨0, 0x0A, stranger (withCmd { opc := 0x23, p0 := 1792#32 } .managed), by decide⟩,
   ⟨0, (withCmd { opc := 0x24, p0 := 256#32 } .managed), by decide⟩,
   ⟨0, (withCmd { opc := 0x24, p0 := 768#32 } .managed), by decide⟩,
   ⟨0, (withCmd { opc := 0x24, p0 := 1024#32 } .managed), by decide⟩,
   ⟨0, { (withCmd { opc := 0x24, p0 := 512#32, vol := 0xFFFF } .managed) with log := { queue := List.replicate 255 (.record (State.reset.marker 0x0432 0 [])) ++ [.reserve (State.reset.marker 0x0432 0 []), .reserve (State.reset.marker 0x0432 0 [])] } }, by decide +kernel⟩,
   ⟨0, (withCmd { opc := 0x24, p0 := 512#32, vol := 0xFFFF } .managed), by decide⟩,
   ⟨0, [], 1, withMptr (withCmd { opc := 0x24, p0 := 512#32, vol := 0xFFFF } .managed), by decide⟩,
   ⟨0, withMptr (withCmd { opc := 0x24, p0 := 512#32, vol := 0xFFFF } .managed), by decide⟩,
   ⟨0, 0x0A, stranger (withCmd { opc := 0x24, p0 := 1024#32 } .managed), by decide⟩⟩

set_option maxRecDepth 40000 in
/-- States and operands that meet the hypotheses of `Obligations.FirmwareImages`, one for each statement in it. -/
theorem witness_firmware_images :
    (∃ (tag : TagNo) (data : List Byte) (s : State), s.fwTurn tag = true ∧ s.mayBegin tag 0x27 0 = true ∧ s.hostOk (s.cmd tag).ep = true ∧
      data.length = (s.cmd tag).pkt.p5.toNat ∧ firstCode [s.pendingCode] = none ∧ s.eventRoom = true) ∧
    (∃ (tag : TagNo) (data : List Byte) (k : Nat) (s : State), s.fwTurn tag = true ∧ s.mayBegin tag 0x27 0 = true ∧ s.hostOk (s.cmd
      tag).ep = true ∧ data.length = (s.cmd tag).pkt.p5.toNat ∧ firstCode [s.pendingCode] = some k) ∧
    (∃ (tag : TagNo) (s : State), s.fwTurn tag = false) ∧
    (∃ (tag : TagNo) (s : State), s.fwTurn tag = true ∧ s.mayBegin tag 0x27 1 = true ∧ firstCode [s.pendingCode] = none ∧
      ((s.sec.stagingMarks.filter fun w => w * 8 < (s.cmd tag).pkt.p2.toNat).length = 0) ∧ (staged (s.cmd tag).pkt.p2.toNat s.sec.staging
      = false ∨ imageLegal (assemble (s.cmd tag).pkt.p2.toNat s.sec.staging) (s.cmd tag).pkt.p2.toNat = false) ∧ s.eventRoom = true) ∧
    (∃ (tag : TagNo) (s : State), s.fwTurn tag = true ∧ s.mayBegin tag 0x27 1 = true ∧ firstCode [s.pendingCode] = none ∧
      ((s.sec.stagingMarks.filter fun w => w * 8 < (s.cmd tag).pkt.p2.toNat).length = 0) ∧ staged (s.cmd tag).pkt.p2.toNat s.sec.staging =
      true ∧ imageLegal (assemble (s.cmd tag).pkt.p2.toNat s.sec.staging) (s.cmd tag).pkt.p2.toNat = true ∧ s.eventRoom = true) ∧
    (∃ (tag : TagNo) (s : State), s.fwTurn tag = true ∧ s.mayBegin tag 0x27 1 = true ∧ firstCode [s.pendingCode] = none ∧
      ((s.sec.stagingMarks.filter fun w => w * 8 < (s.cmd tag).pkt.p2.toNat).length ≠ 0) ∧ s.eventRoom = true) ∧
    (∃ (tag : TagNo) (c : Cmd) (s : State), s.orphan tag 0x27 1 = some c) ∧
    (∃ (tag : TagNo) (s : State), s.committing tag = true ∧ s.eventRoom = true) ∧
    (∃ (tag : TagNo) (k : Nat) (s : State), s.fwTurn tag = true ∧ s.mayBegin tag 0x27 1 = true ∧ firstCode [s.pendingCode] = some k) ∧
    (∃ (tag : TagNo) (s : State), s.fwTurn tag = true ∧ s.mayBegin tag 0x27 2 = true ∧ firstCode [s.pendingCode] = none) ∧
    (∃ (tag : TagNo) (k : Nat) (s : State), s.fwTurn tag = true ∧ s.mayBegin tag 0x27 2 = true ∧ firstCode [s.pendingCode] = some k) ∧
    (∃ (tag : TagNo) (s : State), s.fwTurn tag = true ∧ s.mayBegin tag 0x28 0 = true ∧ (s.slotNamed tag) ≠ s.sec.slot ∧ firstCode
      [s.pendingCode] = none) ∧
    (∃ (tag : TagNo) (s : State), s.fwTurn tag = true ∧ s.mayBegin tag 0x28 0 = true ∧ (s.slotNamed tag) = s.sec.slot) ∧
    (∃ (tag : TagNo) (k : Nat) (s : State), s.fwTurn tag = true ∧ s.mayBegin tag 0x28 0 = true ∧ (s.slotNamed tag) ≠ s.sec.slot ∧
      firstCode [s.pendingCode] = some k) ∧
    (∃ (tag : TagNo) (s : State), s.fwTurn tag = true ∧ s.mayBegin tag 0x28 1 = true ∧ firstCode [s.pendingCode, (s.pwr.pstate != 0 ||
      s.pwr.transit, 0x0010)] = none) ∧
    (∃ (tag : TagNo) (k : Nat) (s : State), s.fwTurn tag = true ∧ s.mayBegin tag 0x28 1 = true ∧ firstCode [s.pendingCode, (s.pwr.pstate
      != 0 || s.pwr.transit, 0x0010)] = some k) ∧
    (∃ (a : Activation) (s : State), s.mgt.activation = some a ∧ a.step = 1 ∧ s.eventRoom = true) ∧
    (∃ (a : Activation) (s : State), s.mgt.activation = some a ∧ a.step ≠ 1) ∧
    (∃ (found : SlotCheck) (a : Activation) (s : State), s.mgt.activation = some a ∧ a.step = 3 ∧ s.slotFault a.slot found.sigOk
      found.compsOk = 0 ∧ s.eventRoom = true) ∧
    (∃ (found : SlotCheck) (cause : Nat) (a : Activation) (s : State), cause ≠ 0 ∧ s.mgt.activation = some a ∧ a.step = 3 ∧ s.slotFault
      a.slot found.sigOk found.compsOk = cause ∧ s.eventRoom = true) ∧
    (∃ (a : Activation) (s : State), s.mgt.activation = some a ∧ a.step ≠ 3) ∧
    (∃ (a : Activation) (s : State), s.mgt.activation = some a ∧ a.step = 4) ∧
    (∃ (a : Activation) (s : State), s.mgt.activation = some a ∧ a.step ≠ 4) ∧
    (∃ (a : Activation) (s : State), s.mgt.activation = some a ∧ 3 ≤ a.step ∧ s.eventRoom = true) ∧
    (∃ (a : Activation) (s : State), s.mgt.activation = some a ∧ a.step < 3) :=
  ⟨⟨0, [], managedAs 0x27 0 4096#32, by decide⟩,
   ⟨0, [], 0x13, { managedAs 0x27 0 0#32 with nor := { pendingSlot := some 1 } }, by decide⟩,
   ⟨0, { up with tags := [(0, { st := .accepted }), (1, { st := .accepted })], cmds := [(0, { pkt := { opc := 0x27 }, phase := .managed, order := 2 }), (1, { pkt := { opc := 0x28 }, phase := .executing, order := 1 })] }, by decide⟩,
   ⟨0, managedAs 0x27 1 4096#32, by decide⟩,
   ⟨0, { managedAs 0x27 1 4096#32 with sec := { staging := [(0, imageBytes)] } }, by decide +kernel⟩,
   ⟨0, { managedAs 0x27 1 4096#32 with sec := { staging := [(0, imageBytes)], stagingMarks := [3] } }, by decide +kernel⟩,
   ⟨0, { pkt := { opc := 0x27, p0 := 1#32, p2 := 4096#32 } }, { up with mgt := { orphans := [{ pkt := { opc := 0x27, p0 := 1#32, p2 := 4096#32 } }] }, sec := { staging := [(0, imageBytes)] } }, by decide +kernel⟩,
   ⟨0, { (withCmd { opc := 0x27, p0 := 1#32, p2 := 4096#32 } .executing) with sec := { staging := [(0, imageBytes)] } }, by decide +kernel⟩,
   ⟨0, 0x13, { managedAs 0x27 1 4096#32 with nor := { pendingSlot := some 1 } }, by decide⟩,
   ⟨0, { managedAs 0x27 2 0#32 with sec := { staging := [(0, [1#8])] } }, by decide⟩,
   ⟨0, 0x13, { managedAs 0x27 2 0#32 with nor := { pendingSlot := some 1 } }, by decide⟩,
   ⟨0, managedAs 0x28 0 1#32, by decide⟩,
   ⟨0, { managedAs 0x28 0 0#32 with nor := { pendingSlot := some 1 } }, by decide⟩,
   ⟨0, 0x13, { managedAs 0x28 0 1#32 with nor := { pendingSlot := some 1 } }, by decide⟩,
   ⟨0, managedAs 0x28 1 1#32, by decide⟩,
   ⟨0, 0x10, { managedAs 0x28 1 1#32 with pwr := { up.pwr with pstate := 1 } }, by decide⟩,
   ⟨{ cmd := some 0, slot := 1, oldSlot := 0, step := 1 }, { (withCmd { opc := 0x28, p0 := 1#32, p2 := 1#32 } .executing) with mgt := { activation := some { cmd := some 0, slot := 1, oldSlot := 0, step := 1 } }, nor := { pendingSlot := some 1, bootCount := 7, slotB := { st := .valid, version := 9, svn := 1 } } }, by decide⟩,
   ⟨{ cmd := some 0, slot := 1, oldSlot := 0, step := 3 }, { (withCmd { opc := 0x28, p0 := 1#32, p2 := 1#32 } .executing) with mgt := { activation := some { cmd := some 0, slot := 1, oldSlot := 0, step := 3 } }, nor := { pendingSlot := some 1, bootCount := 7, slotB := { st := .valid, version := 9, svn := 1 } } }, by decide⟩,
   ⟨{}, { cmd := some 0, slot := 1, oldSlot := 0, step := 3 }, { (withCmd { opc := 0x28, p0 := 1#32, p2 := 1#32 } .executing) with mgt := { activation := some { cmd := some 0, slot := 1, oldSlot := 0, step := 3 } }, nor := { pendingSlot := some 1, bootCount := 7, slotB := { st := .valid, version := 9, svn := 1 } } }, by decide⟩,
   ⟨{ compsOk := false }, 9, { cmd := some 0, slot := 1, oldSlot := 0, step := 3 }, { (withCmd { opc := 0x28, p0 := 1#32, p2 := 1#32 } .executing) with mgt := { activation := some { cmd := some 0, slot := 1, oldSlot := 0, step := 3 } }, nor := { pendingSlot := some 1, bootCount := 7, slotB := { st := .valid, version := 9, svn := 1 } } }, by decide⟩,
   ⟨{ cmd := some 0, slot := 1, oldSlot := 0, step := 1 }, { (withCmd { opc := 0x28, p0 := 1#32, p2 := 1#32 } .executing) with mgt := { activation := some { cmd := some 0, slot := 1, oldSlot := 0, step := 1 } }, nor := { pendingSlot := some 1, bootCount := 7, slotB := { st := .valid, version := 9, svn := 1 } } }, by decide⟩,
   ⟨{ cmd := some 0, slot := 1, oldSlot := 0, step := 4 }, { (withCmd { opc := 0x28, p0 := 1#32, p2 := 1#32 } .executing) with mgt := { activation := some { cmd := some 0, slot := 1, oldSlot := 0, step := 4 } }, nor := { pendingSlot := some 1, bootCount := 7, slotB := { st := .valid, version := 9, svn := 1 } } }, by decide⟩,
   ⟨{ cmd := some 0, slot := 1, oldSlot := 0, step := 3 }, { (withCmd { opc := 0x28, p0 := 1#32, p2 := 1#32 } .executing) with mgt := { activation := some { cmd := some 0, slot := 1, oldSlot := 0, step := 3 } }, nor := { pendingSlot := some 1, bootCount := 7, slotB := { st := .valid, version := 9, svn := 1 } } }, by decide⟩,
   ⟨{ cmd := some 0, slot := 1, oldSlot := 0, step := 4 }, { (withCmd { opc := 0x28, p0 := 1#32, p2 := 1#32 } .executing) with mgt := { activation := some { cmd := some 0, slot := 1, oldSlot := 0, step := 4 } }, nor := { pendingSlot := some 1, bootCount := 7, slotB := { st := .valid, version := 9, svn := 1 } } }, by decide⟩,
   ⟨{ cmd := some 0, slot := 1, oldSlot := 0, step := 1 }, { (withCmd { opc := 0x28, p0 := 1#32, p2 := 1#32 } .executing) with mgt := { activation := some { cmd := some 0, slot := 1, oldSlot := 0, step := 1 } }, nor := { pendingSlot := some 1, bootCount := 7, slotB := { st := .valid, version := 9, svn := 1 } } }, by decide⟩⟩

set_option maxRecDepth 40000 in
/-- States and operands that meet the hypotheses of `Obligations.SlatesAndQuotes`, one for each statement in it. -/
theorem witness_slates_and_quotes :
    (∃ (tag : TagNo) (x : Slate) (s : State), s.mayBegin tag 0x25 0 = true ∧ s.hostOk (s.cmd tag).ep = true ∧ s.slateOf (s.cmd
      tag).pkt.p2.toNat = some x ∧ s.eventRoom = true) ∧
    (∃ (tag : TagNo) (s : State), s.mayBegin tag 0x25 0 = true ∧ s.hostOk (s.cmd tag).ep = true ∧ s.slateOf (s.cmd tag).pkt.p2.toNat =
      none ∧ s.eventRoom = true) ∧
    (∃ (tag : TagNo) (x : Slate) (s : State), s.mayBegin tag 0x25 1 = true ∧ s.hostOk (s.cmd tag).ep = true ∧ s.slateOf s.slateNewest =
      some x ∧ s.eventRoom = true) ∧
    (∃ (tag : TagNo) (s : State), s.mayBegin tag 0x25 1 = true ∧ s.hostOk (s.cmd tag).ep = true ∧ s.nor.slates = [] ∧ s.eventRoom = true) ∧
    (∃ (tag : TagNo) (x : Slate) (s : State), s.mayBegin tag 0x25 2 = true ∧ s.hostOk (s.cmd tag).ep = true ∧ s.slateOf s.slateUnexported
      = some x ∧ x.exported = false ∧ s.eventRoom = true) ∧
    (∃ (tag : TagNo) (s : State), s.mayBegin tag 0x25 2 = true ∧ s.hostOk (s.cmd tag).ep = true ∧ s.nor.slates.all (·.exported) = true ∧
      s.eventRoom = true) ∧
    (∃ (tag : TagNo) (s : State), s.mayBegin tag 0x25 3 = true) ∧
    (∃ (tag : TagNo) (nonce : List Byte) (s : State), nonce.length = 32 ∧ s.mayBegin tag 0x26 0 = true ∧ s.hostOk (s.cmd tag).ep = true ∧
      (s.quote nonce false).1.length ≤ (s.cmd tag).pkt.p5.toNat ∧ s.eventRoom = true) ∧
    (∃ (tag : TagNo) (nonce : List Byte) (s : State), nonce.length = 32 ∧ s.mayBegin tag 0x26 0 = true ∧ s.hostOk (s.cmd tag).ep = true ∧
      (s.cmd tag).pkt.p5.toNat < (s.quote nonce false).1.length ∧ s.eventRoom = true) ∧
    (∃ (nonce : List Byte), nonce.length ≠ 32) :=
  ⟨⟨0, { number := 5 }, { managedAs 0x25 0 5#32 with nor := { slates := [{ number := 4, exported := true }, { number := 5 }, { number := 6 }] } }, by decide⟩,
   ⟨0, { managedAs 0x25 0 3#32 with nor := { slates := [{ number := 4, exported := true }, { number := 5 }, { number := 6 }] } }, by decide⟩,
   ⟨0, { number := 6 }, { managedAs 0x25 1 0#32 with nor := { slates := [{ number := 4, exported := true }, { number := 5 }, { number := 6 }] } }, by decide⟩,
   ⟨0, managedAs 0x25 1 0#32, by decide⟩,
   ⟨0, { number := 5 }, { managedAs 0x25 2 0#32 with nor := { slates := [{ number := 4, exported := true }, { number := 5 }, { number := 6 }] } }, by decide⟩,
   ⟨0, { managedAs 0x25 2 0#32 with nor := { slates := [{ number := 4, exported := true }] } }, by decide⟩,
   ⟨0, { managedAs 0x25 3 5#32 with nor := { slates := [{ number := 4, exported := true }, { number := 5 }, { number := 6 }] } }, by decide⟩,
   ⟨0, List.replicate 32 1#8, (withCmd { opc := 0x26, p5 := 4096#32 } .managed), by decide +kernel⟩,
   ⟨0, List.replicate 32 1#8, (withCmd { opc := 0x26, p5 := 8#32 } .managed), by decide +kernel⟩,
   ⟨[], by decide⟩⟩

/-- States and operands that meet the hypotheses of `Obligations.PowerStateAndHdaCtl`, one for each statement in it. -/
theorem witness_power_state_and_hda_ctl :
    (∃ (tag : TagNo) (s : State), s.mayBegin tag 0x29 0 = true ∧ firstCode [(s.thp.hold && decide ((bits (s.cmd tag).pkt.p2.toNat 2 0) ≤
      2), 0x0009), (s.psBusy, 0x0010)] = none ∧ (bits (s.cmd tag).pkt.p2.toNat 2 0) = s.pwr.pstate ∧ s.eventRoom = true) ∧
    (∃ (tag : TagNo) (s : State), s.mayBegin tag 0x29 0 = true ∧ firstCode [(s.thp.hold && decide ((bits (s.cmd tag).pkt.p2.toNat 2 0) ≤
      2), 0x0009), (s.psBusy, 0x0010)] = none ∧ s.pwr.pstate = 0 ∧ (bits (s.cmd tag).pkt.p2.toNat 2 0) = 1 ∧ s.eventRoom = true) ∧
    (∃ (tag : TagNo) (s : State), s.mayBegin tag 0x29 0 = true ∧ firstCode [(s.thp.hold && decide ((bits (s.cmd tag).pkt.p2.toNat 2 0) ≤
      2), 0x0009), (s.psBusy, 0x0010)] = none ∧ s.pwr.pstate = 0 ∧ 2 ≤ (bits (s.cmd tag).pkt.p2.toNat 2 0) ∧ s.eventRoom = true) ∧
    (∃ (tag : TagNo) (s : State), s.mayBegin tag 0x29 0 = true ∧ firstCode [(s.thp.hold && decide ((bits (s.cmd tag).pkt.p2.toNat 2 0) ≤
      2), 0x0009), (s.psBusy, 0x0010)] = none ∧ s.pwr.pstate ≠ 0 ∧ s.pwr.pstate < (bits (s.cmd tag).pkt.p2.toNat 2 0) ∧ s.eventRoom =
      true) ∧
    (∃ (tag : TagNo) (s : State), s.mayBegin tag 0x29 0 = true ∧ firstCode [(s.thp.hold && decide ((bits (s.cmd tag).pkt.p2.toNat 2 0) ≤
      2), 0x0009), (s.psBusy, 0x0010)] = none ∧ (bits (s.cmd tag).pkt.p2.toNat 2 0) < s.pwr.pstate ∧ s.eventRoom = true) ∧
    (∃ (tag : TagNo) (k : Nat) (s : State), s.mayBegin tag 0x29 0 = true ∧ firstCode [(s.thp.hold && decide ((bits (s.cmd
      tag).pkt.p2.toNat 2 0) ≤ 2), 0x0009), (s.psBusy, 0x0010)] = some k) ∧
    (∃ (tag : TagNo) (s : State), s.mayBegin tag 0x29 1 = true) ∧
    (∃ (tag : TagNo) (s : State), (s.hda (s.hdaArg tag)).hsTransit = true) ∧
    (∃ (tag : TagNo) (k : Nat) (s : State), (s.hda (s.hdaArg tag)).hsTransit = false ∧ s.mayBegin tag 0x2A 1 = true ∧ firstCode (s.hsCodes
      (s.hdaArg tag) (bits (s.cmd tag).pkt.p3.toNat 1 0)) = some k) ∧
    (∃ (tag : TagNo) (s : State), (s.hda (s.hdaArg tag)).hsTransit = false ∧ s.mayBegin tag 0x2A 1 = true ∧ firstCode (s.hsCodes (s.hdaArg
      tag) (bits (s.cmd tag).pkt.p3.toNat 1 0)) = none ∧ (s.hda (s.hdaArg tag)).hs < 2 ∧ (bits (s.cmd tag).pkt.p3.toNat 1 0) < 2) ∧
    (∃ (tag : TagNo) (s : State), (s.hda (s.hdaArg tag)).hsTransit = false ∧ s.mayBegin tag 0x2A 1 = true ∧ firstCode (s.hsCodes (s.hdaArg
      tag) (bits (s.cmd tag).pkt.p3.toNat 1 0)) = none ∧ (s.hda (s.hdaArg tag)).hs < 2 ∧ 2 ≤ (bits (s.cmd tag).pkt.p3.toNat 1 0) ∧
      s.bothParked (s.hdaArg tag) = false) ∧
    (∃ (tag : TagNo) (s : State), (s.hda (s.hdaArg tag)).hsTransit = false ∧ s.mayBegin tag 0x2A 1 = true ∧ firstCode (s.hsCodes (s.hdaArg
      tag) (bits (s.cmd tag).pkt.p3.toNat 1 0)) = none ∧ (s.hda (s.hdaArg tag)).hs = 2 ∧ (bits (s.cmd tag).pkt.p3.toNat 1 0) = 2 ∧ (s.hda
      (s.hdaArg tag)).srv.spin = .spunUp) ∧
    (∃ (tag : TagNo) (s : State), (s.hda (s.hdaArg tag)).hsTransit = false ∧ s.mayBegin tag 0x2A 1 = true ∧ firstCode (s.hsCodes (s.hdaArg
      tag) (bits (s.cmd tag).pkt.p3.toNat 1 0)) = none ∧ (s.hda (s.hdaArg tag)).hs = 2 ∧ (bits (s.cmd tag).pkt.p3.toNat 1 0) = 3 ∧ (s.hda
      (s.hdaArg tag)).srv.spin = .spunUp ∧ s.bothParked (s.hdaArg tag) = true) ∧
    (∃ (tag : TagNo) (s : State), (s.hda (s.hdaArg tag)).hsTransit = false ∧ s.mayBegin tag 0x2A 1 = true ∧ firstCode (s.hsCodes (s.hdaArg
      tag) (bits (s.cmd tag).pkt.p3.toNat 1 0)) = none ∧ (s.hda (s.hdaArg tag)).hs = 2 ∧ (bits (s.cmd tag).pkt.p3.toNat 1 0) < 2 ∧ ((s.hda
      (s.hdaArg tag)).srv.spin ≠ .spunUp ∨ s.bothLoaded (s.hdaArg tag) = false) ∧ (s.hda (s.hdaArg tag)).srv.setsValid = true ∧ (s.mu (2 *
      (s.hdaArg tag))).stopped = false ∧ (s.mu (2 * (s.hdaArg tag) + 1)).stopped = false) ∧
    (∃ (tag : TagNo) (s : State), (s.hda (s.hdaArg tag)).hsTransit = false ∧ s.mayBegin tag 0x2A 1 = true ∧ firstCode (s.hsCodes (s.hdaArg
      tag) (bits (s.cmd tag).pkt.p3.toNat 1 0)) = none ∧ (s.hda (s.hdaArg tag)).hs = 3 ∧ (bits (s.cmd tag).pkt.p3.toNat 1 0) < 3 ∧ (s.hda
      (s.hdaArg tag)).srv.spin = .stopped) ∧
    (∃ (tag : TagNo) (s : State), (s.hda (s.hdaArg tag)).hsTransit = false ∧ s.mayBegin tag 0x2A 1 = true ∧ firstCode (s.hsCodes (s.hdaArg
      tag) (bits (s.cmd tag).pkt.p3.toNat 1 0)) = none ∧ (s.hda (s.hdaArg tag)).hs = 3 ∧ (bits (s.cmd tag).pkt.p3.toNat 1 0) = 3) ∧
    (∃ (tag : TagNo) (s : State), (s.hda (s.hdaArg tag)).hsTransit = true) ∧
    (∃ (tag : TagNo) (k : Nat) (s : State), (s.hda (s.hdaArg tag)).hsTransit = false ∧ s.mayBegin tag 0x2A 2 = true ∧ firstCode [(!(s.hda
      (s.hdaArg tag)).usable, 0x000D), ((s.mu (2 * (s.hdaArg tag))).stopped || (s.mu (2 * (s.hdaArg tag) + 1)).stopped, 0x0008)] = some k) ∧
    (∃ (tag : TagNo) (s : State), (s.hda (s.hdaArg tag)).hsTransit = false ∧ s.mayBegin tag 0x2A 2 = true ∧ firstCode [(!(s.hda (s.hdaArg
      tag)).usable, 0x000D), ((s.mu (2 * (s.hdaArg tag))).stopped || (s.mu (2 * (s.hdaArg tag) + 1)).stopped, 0x0008)] = none) ∧
    (∃ (tag : TagNo) (s : State), (s.hda (s.hdaArg tag)).hsTransit = true) ∧
    (∃ (tag : TagNo) (k : Nat) (s : State), (s.hda (s.hdaArg tag)).hsTransit = false ∧ s.mayBegin tag 0x2A 3 = true ∧ (firstCode
      (s.hsCodes (s.hdaArg tag) (if s.depth = 0 then 0 else 1)) = some k)) ∧
    (∃ (tag : TagNo) (s : State), (s.hda (s.hdaArg tag)).hsTransit = false ∧ s.mayBegin tag 0x2A 3 = true ∧ (firstCode (s.hsCodes
      (s.hdaArg tag) (if s.depth = 0 then 0 else 1)) = none) ∧ s.bothLoaded (s.hdaArg tag) = false) ∧
    (∃ (tag : TagNo) (s : State), (s.hda (s.hdaArg tag)).hsTransit = false ∧ s.mayBegin tag 0x2A 3 = true ∧ (firstCode (s.hsCodes
      (s.hdaArg tag) (if s.depth = 0 then 0 else 1)) = none) ∧ s.bothLoaded (s.hdaArg tag) = true ∧ (s.hda (s.hdaArg tag)).srv.spin =
      .spunUp) ∧
    (∃ (tag : TagNo) (s : State), s.mayBegin tag 0x2A 4 = true) :=
  ⟨⟨0, managedAs 0x29 0 0#32, by decide⟩,
   ⟨0, managedAs 0x29 0 1#32, by decide⟩,
   ⟨0, managedAs 0x29 0 3#32, by decide⟩,
   ⟨0, { managedAs 0x29 0 4#32 with pwr := { up.pwr with pstate := 2 } }, by decide⟩,
   ⟨0, { managedAs 0x29 0 0#32 with pwr := { up.pwr with pstate := 3 } }, by decide⟩,
   ⟨0, 0x10, { managedAs 0x29 0 0#32 with pwr := { up.pwr with pstate := 4, transit := true } }, by decide⟩,
   ⟨0, { managedAs 0x29 1 0#32 with pwr := { up.pwr with pstate := 2 } }, by decide⟩,
   ⟨0, (withCmd { opc := 0x2A, p0 := 1#32, p3 := 2#32 } .managed).updHda 0 fun d => { d with hsTransit := true }, by decide⟩,
   ⟨0, 0x10, { withCmd { opc := 0x2A, p0 := 1#32 } .managed with pwr := { up.pwr with pstate := 2 } }, by decide⟩,
   ⟨0, (withCmd { opc := 0x2A, p0 := 1#32, p3 := 1#32 } .managed), by decide⟩,
   ⟨0, (withCmd { opc := 0x2A, p0 := 1#32, p3 := 3#32 } .managed), by decide⟩,
   ⟨0, { ((withCmd { opc := 0x2A, p0 := 1#32, p3 := 2#32 } .managed).updHda 0 fun d => { d with hs := 2 }) with mus := [] }, by decide⟩,
   ⟨0, { ((withCmd { opc := 0x2A, p0 := 1#32, p3 := 3#32 } .managed).updHda 0 fun d => { d with hs := 2 }) with mus := [] }, by decide⟩,
   ⟨0, { ((withCmd { opc := 0x2A, p0 := 1#32, p3 := 1#32 } .managed).updHda 0 fun d => { d with hs := 2, srv := { d.srv with spin := .stopped } }) with mus := [] }, by decide⟩,
   ⟨0, { ((withCmd { opc := 0x2A, p0 := 1#32, p3 := 1#32 } .managed).updHda 0 fun d => { d with hs := 3, srv := { d.srv with spin := .stopped } }) with mus := [] }, by decide⟩,
   ⟨0, { ((withCmd { opc := 0x2A, p0 := 1#32, p3 := 3#32 } .managed).updHda 0 fun d => { d with hs := 3, srv := { d.srv with spin := .stopped } }) with mus := [] }, by decide⟩,
   ⟨0, (withCmd { opc := 0x2A, p0 := 2#32, p3 := 0#32 } .managed).updHda 0 fun d => { d with hsTransit := true }, by decide⟩,
   ⟨0, 0x08, ((withCmd { opc := 0x2A, p0 := 2#32, p3 := 0#32 } .managed)).updMu 0 fun m => { m with stopped := true }, by decide⟩,
   ⟨0, (withCmd { opc := 0x2A, p0 := 2#32, p3 := 0#32 } .managed), by decide⟩,
   ⟨0, (withCmd { opc := 0x2A, p0 := 3#32, p3 := 0#32 } .managed).updHda 0 fun d => { d with hsTransit := true }, by decide⟩,
   ⟨0, 0x10, { withCmd { opc := 0x2A, p0 := 3#32 } .managed with pwr := { up.pwr with pstate := 2 } }, by decide⟩,
   ⟨0, { ((withCmd { opc := 0x2A, p0 := 3#32, p3 := 0#32 } .managed).updHda 0 fun d => { d with hs := 1, srv := { d.srv with spin := .stopped } }) with mus := [] }, by decide⟩,
   ⟨0, { ((withCmd { opc := 0x2A, p0 := 3#32, p3 := 0#32 } .managed)) with mus := [(0, { mu0 with stopped := true }), (1, { mu0 with stopped := true })] }, by decide⟩,
   ⟨0, (withCmd { opc := 0x2A, p0 := 4#32, p3 := 0#32 } .managed), by decide⟩⟩

/-- States and operands that meet the hypotheses of `Obligations.HoldsCountersAndTime`, one for each statement in it. -/
theorem witness_holds_counters_and_time :
    (∃ (tag : TagNo) (s : State), s.mayBegin tag 0x30 0 = true ∧ firstCode [(s.thp.hold && !s.belowRelease, 0x0009)] = none) ∧
    (∃ (tag : TagNo) (k : Nat) (s : State), s.mayBegin tag 0x30 0 = true ∧ firstCode [(s.thp.hold && !s.belowRelease, 0x0009)] = some k) ∧
    (∃ (tag : TagNo) (s : State), s.mayBegin tag 0x31 1 = true) ∧
    (∃ (tag : TagNo) (s : State), s.mayBegin tag 0x31 2 = true) ∧
    (∃ (tag : TagNo) (s : State), s.mayBegin tag 0x31 3 = true ∧ firstCode [(!s.factory, 0x000C)] = none) ∧
    (∃ (tag : TagNo) (k : Nat) (s : State), s.mayBegin tag 0x31 3 = true ∧ firstCode [(!s.factory, 0x000C)] = some k) ∧
    (∃ (s : State), s.mns.busUp = true ∧ s.time.ops + 1 < 3600) ∧
    (∃ (s : State), s.mns.busUp = true ∧ 3600 ≤ s.time.ops + 1 ∧ s.time.ophSat = false ∧ s.time.oph + 1 < 2 ^ 32) ∧
    (∃ (s : State), s.mns.busUp = true ∧ 3600 ≤ s.time.ops + 1 ∧ s.time.ophSat = false ∧ 2 ^ 32 ≤ s.time.oph + 1 ∧ s.eventRoom = true) ∧
    (∃ (s : State), s.mns.busUp = true ∧ 3600 ≤ s.time.ops + 1 ∧ s.time.ophSat = true ∧ s.eventRoom = true) ∧
    (∃ (s : State), s.mns.busUp = false) :=
  ⟨⟨0, { managedAs 0x30 0 0#32 with thp := { up.thp with hold := true }, nor := { hold := true } }, by decide⟩,
   ⟨0, 9, { managedAs 0x30 0 0#32 with thp := { hold := true, sensors := [(0, { temp := 1600, valid := true })] } }, by decide⟩,
   ⟨0, { withCmd { opc := 0x31, p0 := 1#32, p2 := 0x01010000#32, p3 := 64#32 } .managed with ctr := [(0x01010004, { count := 3 }), (0x01020004, { count := 3 })] }, by decide⟩,
   ⟨0, { managedAs 0x31 2 0#32 with ctr := [(0x01010004, { count := 3 })] }, by decide⟩,
   ⟨0, { managedAs 0x31 3 0#32 with mns := { up.mns with factory := true } }, by decide⟩,
   ⟨0, 0x0C, managedAs 0x31 3 0#32, by decide⟩,
   ⟨up, by decide⟩,
   ⟨{ up with time := { oph := 10, ops := 3599, pcc := 3 }, ctr := [(0x01010004, { count := 3 })] }, by decide⟩,
   ⟨{ up with time := { oph := 4294967295, ops := 3599, pcc := 3 } }, by decide⟩,
   ⟨{ up with time := { oph := 4294967295, ophSat := true, ops := 3599, pcc := 3 } }, by decide⟩,
   ⟨State.reset, by decide⟩⟩

/-- States and operands that meet the hypotheses of `Obligations.FaultControlAndAcceptance`, one for each statement in it. -/
theorem witness_fault_control_and_acceptance :
    (∃ (tag : TagNo) (s : State), s.mayBegin tag 0x32 1 = true ∧ s.eventRoom = true) ∧
    (∃ (tag : TagNo) (s : State), s.mayBegin tag 0x32 2 = true) ∧
    (∃ (tag : TagNo) (s : State), s.mayBegin tag 0x32 3 = true ∧ s.eventRoom = true) ∧
    (∃ (tag : TagNo) (k : Nat) (s : State), s.mayBegin tag 0x32 4 = true ∧ firstCode [(!s.factory, 0x000C)] = some k) ∧
    (∃ (tag : TagNo) (s : State), s.mayBegin tag 0x32 4 = true ∧ firstCode [(!s.factory, 0x000C)] = none ∧ bit (s.cmd tag).pkt.p3.toNat 8
      = false ∧ s.eventRoom = true) ∧
    (∃ (tag : TagNo) (s : State), s.mayBegin tag 0x32 4 = true ∧ firstCode [(!s.factory, 0x000C)] = none ∧ bit (s.cmd tag).pkt.p3.toNat 8
      = true ∧ s.eventRoom = true) ∧
    (∃ (e : Ev) (s : State), s.mns.busUp = true ∧ (s.flt.offered.find? (fun x => msgSrc x.msg == lowestSrc s.flt.offered) = some e)) ∧
    (∃ (e : Ev) (s : State), s.mns.busUp = true ∧ (s.flt.offered.find? (fun x => msgSrc x.msg == lowestSrc s.flt.offered) = some e) ∧
      (s.reactionOf e.msg).getLsbD 2 = false ∧ (s.reactionOf e.msg).getLsbD 3 = false) ∧
    (∃ (sub : Nat) (inst : Nat) (sender : Nat) (sinst : Nat) (cls : Nat) (s : State), s.islandsRun = true ∧ inst < instancesOf sub ∧ sinst
      < instancesOf sender ∧ cls < 4 ∧ s.channelOpen sub inst = true ∧ s.channelOpen sender sinst = true ∧ 8 ≤ s.waitingOf (sub * 64 +
      inst) ∧ s.flt.holding.contains (sub * 64 + inst) = false) ∧
    (∃ (sub : Nat) (inst : Nat) (sender : Nat) (sinst : Nat) (cls : Nat) (s : State), s.islandsRun = true ∧ inst < instancesOf sub ∧ sinst
      < instancesOf sender ∧ cls < 4 ∧ s.channelOpen sub inst = true ∧ s.channelOpen sender sinst = true ∧ 8 ≤ s.waitingOf (sub * 64 +
      inst) ∧ s.flt.holding.contains (sub * 64 + inst) = true) ∧
    (∃ (s : State), s.flt.offered = []) ∧
    (∃ (s : State), s.mns.busUp = false) :=
  ⟨⟨0, (withCmd { opc := 0x32, p0 := 1#32, p2 := 1#32, p3 := 17#32, p4 := 0#32 } .managed), by decide⟩,
   ⟨0, (withCmd { opc := 0x32, p0 := 2#32, p2 := 9#32, p3 := 0#32, p4 := 0#32 } .managed), by decide⟩,
   ⟨0, { (withCmd { opc := 0x32, p0 := 3#32, p2 := 0#32, p3 := 0#32, p4 := 0#32 } .managed) with flt := { masks := [(64, 31#5)] } }, by decide⟩,
   ⟨0, 0x0C, (withCmd { opc := 0x32, p0 := 4#32, p2 := 1#32, p3 := 0#32, p4 := 0#32 } .managed), by decide⟩,
   ⟨0, { (withCmd { opc := 0x32, p0 := 4#32, p2 := 18#32, p3 := 2#32, p4 := 5#32 } .managed) with mns := { up.mns with factory := true } }, by decide⟩,
   ⟨0, { (withCmd { opc := 0x32, p0 := 4#32, p2 := 11#32, p3 := 257#32, p4 := 5#32 } .managed) with mns := { up.mns with factory := true } }, by decide⟩,
   ⟨{ msg := mkMsg 11 3 1 9 }, { up with flt := { offered := [{ msg := mkMsg 18 0 2 7 }, { msg := mkMsg 11 3 1 9 }] } }, by decide⟩,
   ⟨{ msg := mkMsg 11 3 1 9 }, { up with flt := { offered := [{ msg := mkMsg 18 0 2 7 }, { msg := mkMsg 11 3 1 9 }] } }, by decide⟩,
   ⟨8, 3, 4, 5, 1, { up with flt := { offered := List.replicate 8 { msg := mkMsg 8 3 0x3C 1 } } }, by decide⟩,
   ⟨8, 3, 4, 5, 1, { up with flt := { holding := [515], offered := List.replicate 8 { msg := mkMsg 8 3 0x3C 1 } } }, by decide⟩,
   ⟨up, by decide⟩,
   ⟨State.reset, by decide⟩⟩

/-- States and operands that meet the hypotheses of `Obligations.LogWriterAndMonitors`, one for each statement in it. -/
theorem witness_log_writer_and_monitors :
    (∃ (r : LogRec) (s : State), s.log.running = true ∧ s.mns.busUp = true ∧ (s.mns.powerFail = true ∨ s.booksMayRun = true) ∧ s.startNow
      = some r ∧ (s.ring true).room = true ∧ s.eventRoom = true) ∧
    (∃ (r : LogRec) (s : State), s.log.running = true ∧ s.mns.busUp = true ∧ (s.mns.powerFail = true ∨ s.booksMayRun = true) ∧ s.startNow
      = some r ∧ (s.ring true).room = false) ∧
    (∃ (r : LogRec) (q : List LogItem) (s : State), s.log.running = true ∧ s.mns.busUp = true ∧ (s.mns.powerFail = true ∨ s.booksMayRun =
      true) ∧ s.startNow = none ∧ s.nextRecord s.log.queue true = some (r, q) ∧ (r.event == 0x0432 && r.isMarker) = false ∧ s.eventRoom =
      true) ∧
    (∃ (r : LogRec) (q : List LogItem) (s : State), s.log.running = true ∧ s.mns.busUp = true ∧ (s.mns.powerFail = true ∨ s.booksMayRun =
      true) ∧ s.startNow = none ∧ s.nextRecord s.log.queue true = some (r, q) ∧ (r.event == 0x0432 && r.isMarker) = true ∧ s.eventRoom =
      true) ∧
    (∃ (r : LogRec) (q : List LogItem) (s : State), s.log.running = true ∧ s.mns.busUp = true ∧ (s.mns.powerFail = true ∨ s.booksMayRun =
      true) ∧ s.startNow = none ∧ s.nextRecord s.log.queue true = some (r, q) ∧ s.eventRoom = true) ∧
    (∃ (s : State), s.startNow = none ∧ s.nextRecord s.log.queue true = none) ∧
    (∃ (s : State), s.mns.powerFail = false ∧ s.booksMayRun = false) ∧
    (∃ (s : State), s.log.running = false) ∧
    (∃ (ringH : Bool) (g : LogSeg) (r : List LogSeg) (s : State), s.log.running = true ∧ s.mns.busUp = true ∧ (s.ring ringH).erased = [] ∧
      (s.ring ringH).segs = g :: r ∧ r ≠ [] ∧ s.backgroundMayRun = true ∧ s.eventRoom = true) ∧
    (∃ (ringH : Bool) (s : State), ((s.ring ringH).segs.length < 2 ∨ (s.ring ringH).erased ≠ [])) ∧
    (∃ (p : NmiPending) (r : List NmiPending) (s : State), s.log.running = true ∧ s.log.nmi = p :: r ∧ s.activationRuns = false ∧
      s.log.pendingDrops = 0 ∧ logCount s.log.queue + (s.snapshotRecords p.src p.header).length ≤ 255) ∧
    (∃ (p : NmiPending) (r : List NmiPending) (s : State), s.log.running = true ∧ s.log.nmi = p :: r ∧ s.activationRuns = false ∧
      s.eventRoom = true) ∧
    (∃ (s : State), (s.log.nmi = [] ∨ s.activationRuns = true)) ∧
    (∃ (sub : Nat) (inst : Nat) (sender : Nat) (sinst : Nat) (cls : Nat) (s : State), s.islandsRun = true ∧ inst < instancesOf sub ∧ sinst
      < instancesOf sender ∧ cls < 4 ∧ s.channelOpen sub inst = true ∧ s.channelOpen sender sinst = true ∧ s.eventRoom = true) ∧
    (∃ (sub : Nat) (inst : Nat) (sender : Nat) (sinst : Nat) (cls : Nat) (s : State), (s.islandsRun = false ∨ instancesOf sub ≤ inst ∨
      instancesOf sender ≤ sinst ∨ 4 ≤ cls ∨ s.channelOpen sub inst = false ∨ s.channelOpen sender sinst = false)) ∧
    (∃ (core : Nat) (task : HungTask) (s : State), core < 4 ∧ s.islandsRun = true ∧ s.mgt.hung.getLsbD core = false ∧ (core = 0 ∨
      s.pwr.coresHalted = false) ∧ s.inHands task = true ∧ s.eventRoom = true) ∧
    (∃ (core : Nat) (task : HungTask) (s : State), (4 ≤ core ∨ s.mgt.hung.getLsbD core = true ∨ s.inHands task = false)) ∧
    (∃ (load : Nat) (s : State), s.islandsRun = true ∧ load ≤ 100 ∧ s.eventRoom = true) ∧
    (∃ (load : Nat) (s : State), (100 < load ∨ s.islandsRun = false)) ∧
    (∃ (test : Nat) (sub : Nat) (inst : Nat) (part : Nat) (s : State), s.islandsRun = true ∧ s.latentMay test sub inst part = true ∧
      s.eventRoom = true) ∧
    (∃ (test : Nat) (sub : Nat) (inst : Nat) (part : Nat) (s : State), s.islandsRun = true ∧ s.latentMay test sub inst part = true ∧
      s.eventRoom = true) ∧
    (∃ (test : Nat) (sub : Nat) (inst : Nat) (part : Nat) (s : State), s.latentMay test sub inst part = false) :=
  ⟨⟨up.startMarker 4 1, { up with log := { up.log with startDue := some (4, 1), queue := [.boundary] }, nor := { ringH := { erased := [0] }, ringL := { erased := [0] }, windex := 8 } }, by decide⟩,
   ⟨up.startMarker 4 1, { up with log := { up.log with startDue := some (4, 1) }, nor := { ringH := { erased := [] } } }, by decide⟩,
   ⟨{ sev := 2, event := 5, source := 6 }, [], { up with log := { up.log with queue := [.record { sev := 2, event := 5, source := 6 }] }, nor := { ringH := { erased := [0] }, ringL := { erased := [0] }, windex := 8 } }, by decide⟩,
   ⟨{ sev := 3, event := 0x0432, source := 0x400, data := [1#8], cmd := some 0 }, [], { (withCmd { opc := 0x24, p0 := 0x200#32 } .executing) with log := { running := true, queue := [.record { sev := 3, event := 0x0432, source := 0x400, data := [1#8], cmd := some 0 }] }, nor := { ringH := { segs := [{ no := 0, recs := [{ index := 3, entry := { sev := 2 } }] }], used := 1 }, ringL := { segs := [{ no := 0, recs := [{ index := 2, entry := {} }] }], used := 1 }, windex := 8 } }, by decide⟩,
   ⟨{ sev := 2, event := 5, source := 6 }, [], { up with log := { up.log with queue := [.record { sev := 2, event := 5, source := 6 }] }, nor := { ringH := { erased := [0] }, ringL := { erased := [0] }, windex := 8 } }, by decide⟩,
   ⟨{ up with log := { up.log with queue := [.boundary, .record { sev := 2, event := 5, source := 6 }] }, nor := { ringH := { erased := [0] }, ringL := { erased := [0] }, windex := 8 } }, by decide⟩,
   ⟨{ up with mgt := { hung := 15#4 }, log := { up.log with queue := [.record { sev := 2, event := 5, source := 6 }] }, nor := { ringH := { erased := [0] }, ringL := { erased := [0] }, windex := 8 } }, by decide⟩,
   ⟨State.reset, by decide⟩,
   ⟨true, { no := 3, recs := [{ index := 3, entry := {} }, { index := 4, entry := {} }] }, [{ no := 4 }], { up with nor := { ringH := { segs := [{ no := 3, recs := [{ index := 3, entry := {} }, { index := 4, entry := {} }] }, { no := 4 }], used := 5 }, ringL := { segs := [{ no := 6 }, { no := 7 }], used := 5 } } }, by decide⟩,
   ⟨true, up, by decide⟩,
   ⟨{ src := 704, header := {} }, [], { up with log := { running := true, nmi := [{ src := 704, header := {} }] } }, by decide⟩,
   ⟨{ src := 704, header := {} }, [], { up with log := { running := true, nmi := [{ src := 704, header := {} }] } }, by decide⟩,
   ⟨up, by decide⟩,
   ⟨8, 3, 4, 5, 1, up, by decide⟩,
   ⟨8, 3, 4, 5, 1, State.reset, by decide⟩,
   ⟨2, .command 0, managed 0x20 0, by decide⟩,
   ⟨2, .none, { up with mgt := { hung := 4#4 } }, by decide⟩,
   ⟨95, { up with mgt := { highRun := 99 } }, by decide⟩,
   ⟨101, up, by decide⟩,
   ⟨7, 7, 0, 3, { up with flt := { latent := 0x40#9 } }, by decide⟩,
   ⟨7, 7, 0, 3, up, by decide⟩,
   ⟨4, 7, 0, 3, up, by decide⟩⟩

set_option maxRecDepth 40000 in
/-- States and operands that meet the hypotheses of `Obligations.Calibration`, one for each statement in it. -/
theorem witness_calibration :
    (∃ (tag : TagNo) (s : State), s.mayBegin tag 0x2B 1 = true) ∧
    (∃ (s : State), s.cal.busy = true) ∧
    (∃ (tag : TagNo) (k : Nat) (s : State), s.cal.busy = false ∧ s.mayBegin tag 0x2B 2 = true ∧ s.hostOk (s.cmd tag).ep = true ∧ firstCode
      [(!s.mns.calref, 0x000E)] = some k) ∧
    (∃ (tag : TagNo) (s : State), s.cal.busy = false ∧ s.mayBegin tag 0x2B 2 = true ∧ s.hostOk (s.cmd tag).ep = true ∧ s.mns.calref = true
      ∧ (s.cmd tag).pkt.mptr = 0) ∧
    (∃ (tag : TagNo) (token : List Byte) (c : Nat) (s : State), s.cal.busy = false ∧ s.mayBegin tag 0x2B 2 = true ∧ s.hostOk (s.cmd
      tag).ep = true ∧ s.mns.calref = true ∧ (s.cmd tag).pkt.mptr ≠ 0 ∧ s.tokenFault (s.cmd tag).ep (s.cmd tag).pkt token [] false = some
      c ∧ s.eventRoom = true) ∧
    (∃ (tag : TagNo) (s : State), s.cal.busy = false ∧ s.mayBegin tag 0x2B 2 = true ∧ s.hostOk (s.cmd tag).ep = true ∧ s.mns.calref = true
      ∧ (s.cmd tag).pkt.mptr ≠ 0 ∧ s.eventRoom = true) ∧
    (∃ (found : CalrefIn) (k : Nat) (s : State), s.cal.busy = true ∧ s.mns.calref = true ∧ calrefBad found = some k ∧ s.eventRoom = true) ∧
    (∃ (found : CalrefIn) (s : State), s.cal.busy = true ∧ s.mns.calref = true ∧ calrefBad found = none ∧ s.eventRoom = true) ∧
    (∃ (s : State), (s.cal.busy = false ∨ s.mns.calref = false)) ∧
    (∃ (s : State), s.asleep = true) ∧
    (∃ (tag : TagNo) (k : Nat) (s : State), s.asleep = false ∧ s.mayBegin tag 0x2B 5 = true ∧ firstCode [s.ps4Code] = some k) ∧
    (∃ (tag : TagNo) (s : State), s.asleep = false ∧ s.mayBegin tag 0x2B 5 = true ∧ firstCode [s.ps4Code] = none ∧ (List.range 64).any
      s.convWaited = true) ∧
    (∃ (tag : TagNo) (s : State), s.asleep = false ∧ s.mayBegin tag 0x2B 5 = true ∧ firstCode [s.ps4Code] = none ∧ (List.range 64).any
      s.convWaited = false) ∧
    (∃ (tag : TagNo) (s : State), (s.mu (s.cmd tag).pkt.vol).sch.calib = none ∧ s.mayBegin tag 0x2B 3 = true ∧ s.hostOk (s.cmd tag).ep =
      true ∧ firstCode [s.ownScoped tag, s.absentCode tag, s.stoppedCode tag] = none ∧ (s.cmd tag).pkt.mptr = 0) ∧
    (∃ (tag : TagNo) (token : List Byte) (c : Nat) (s : State), (s.mu (s.cmd tag).pkt.vol).sch.calib = none ∧ s.mayBegin tag 0x2B 3 = true
      ∧ s.hostOk (s.cmd tag).ep = true ∧ firstCode [s.ownScoped tag, s.absentCode tag, s.stoppedCode tag] = none ∧ (s.cmd tag).pkt.mptr ≠
      0 ∧ s.tokenFault (s.cmd tag).ep (s.cmd tag).pkt token [] false = some c ∧ s.eventRoom = true) ∧
    (∃ (tag : TagNo) (s : State), (s.mu (s.cmd tag).pkt.vol).sch.calib = none ∧ s.mayBegin tag 0x2B 3 = true ∧ s.hostOk (s.cmd tag).ep =
      true ∧ firstCode [s.ownScoped tag, s.absentCode tag, s.stoppedCode tag] = none ∧ (s.cmd tag).pkt.mptr ≠ 0 ∧ s.eventRoom = true) ∧
    (∃ (tag : TagNo) (k : Nat) (s : State), (s.mu (s.cmd tag).pkt.vol).sch.calib = none ∧ s.mayBegin tag 0x2B 3 = true ∧ s.hostOk (s.cmd
      tag).ep = true ∧ firstCode [s.ownScoped tag, s.absentCode tag, s.stoppedCode tag] = some k) ∧
    (∃ (tag : TagNo) (adapted : List (Nat × List Byte)) (k : CalWork) (s : State), s.at_ tag .executing = true ∧ (s.mu (s.cmd
      tag).pkt.vol).sch.calib = some k ∧ k.cmd = some tag.val ∧ s.hungCommand tag = false ∧ s.channelDone (s.cmd tag).pkt.vol k adapted =
      true ∧ s.eventRoom = true) ∧
    (∃ (tag : TagNo) (adapted : List (Nat × List Byte)) (k : CalWork) (s : State), s.orphan tag 0x2B 3 = none ∧ (s.mu (s.cmd
      tag).pkt.vol).sch.calib = some k ∧ (k.cmd ≠ some tag.val ∨ s.hungCommand tag = true ∨ s.channelDone (s.cmd tag).pkt.vol k adapted =
      false)) ∧
    (∃ (tag : TagNo) (adapted : List (Nat × List Byte)) (c : Cmd) (k : CalWork) (s : State), s.orphan tag 0x2B 3 = some c ∧ (s.mu
      c.pkt.vol).sch.calib = some k ∧ k.cmd = none ∧ s.channelDone c.pkt.vol k adapted = true) ∧
    (∃ (s : State), s.asleep = true) ∧
    (∃ (tag : TagNo) (k : Nat) (s : State), s.asleep = false ∧ s.mayBegin tag 0x2B 4 = true ∧ s.hostOk (s.cmd tag).ep = true ∧ (firstCode
      [s.ownScoped tag, ((!s.nor.cal.any fun r => r.recno == (s.cmd tag).pkt.vol / 2 + 1) && !s.factory, 0x000C), s.absentCode tag,
      s.ps4Code] = some k)) ∧
    (∃ (tag : TagNo) (s : State), s.asleep = false ∧ s.mayBegin tag 0x2B 4 = true ∧ s.hostOk (s.cmd tag).ep = true ∧ (firstCode
      [s.ownScoped tag, ((!s.nor.cal.any fun r => r.recno == (s.cmd tag).pkt.vol / 2 + 1) && !s.factory, 0x000C), s.absentCode tag,
      s.ps4Code] = none) ∧ (s.cmd tag).pkt.mptr = 0) ∧
    (∃ (tag : TagNo) (token : List Byte) (c : Nat) (s : State), s.asleep = false ∧ s.mayBegin tag 0x2B 4 = true ∧ s.hostOk (s.cmd tag).ep
      = true ∧ (firstCode [s.ownScoped tag, ((!s.nor.cal.any fun r => r.recno == (s.cmd tag).pkt.vol / 2 + 1) && !s.factory, 0x000C),
      s.absentCode tag, s.ps4Code] = none) ∧ (s.cmd tag).pkt.mptr ≠ 0 ∧ s.tokenFault (s.cmd tag).ep (s.cmd tag).pkt token [] false = some
      c ∧ s.eventRoom = true) ∧
    (∃ (tag : TagNo) (s : State), s.asleep = false ∧ s.mayBegin tag 0x2B 4 = true ∧ s.hostOk (s.cmd tag).ep = true ∧ (firstCode
      [s.ownScoped tag, ((!s.nor.cal.any fun r => r.recno == (s.cmd tag).pkt.vol / 2 + 1) && !s.factory, 0x000C), s.absentCode tag,
      s.ps4Code] = none) ∧ (s.cmd tag).pkt.mptr ≠ 0 ∧ s.eventRoom = true) :=
  ⟨⟨0, (withCmd { opc := 0x2b, p0 := 1#32 } .managed), by decide⟩,
   ⟨{ up with cal := { busy := true } }, by decide⟩,
   ⟨0, 0x0E, (withCmd { opc := 0x2b, p0 := 2#32 } .managed), by decide⟩,
   ⟨0, { (withCmd { opc := 0x2b, p0 := 2#32 } .managed) with mns := { up.mns with calref := true } }, by decide⟩,
   ⟨0, [], 1, withMptr { (withCmd { opc := 0x2b, p0 := 2#32 } .managed) with mns := { up.mns with calref := true } }, by decide⟩,
   ⟨0, withMptr { (withCmd { opc := 0x2b, p0 := 2#32 } .managed) with mns := { up.mns with calref := true } }, by decide⟩,
   ⟨{ vref := 600 }, 3, { (withCmd { opc := 0x2B, p0 := 2#32 } .executing) with cal := { busy := true, calrefCmd := some 0 }, mns := { up.mns with calref := true } }, by decide⟩,
   ⟨{ osc := 12, vref := 60 }, { (withCmd { opc := 0x2B, p0 := 2#32 } .executing) with cal := { busy := true, calrefCmd := some 0 }, mns := { up.mns with calref := true } }, by decide⟩,
   ⟨up, by decide⟩,
   ⟨{ (withCmd { opc := 0x2b, p0 := 5#32 } .managed) with pwr := { up.pwr with pstate := 4, target := 4 } }, by decide⟩,
   ⟨0, 0x10, { (withCmd { opc := 0x2b, p0 := 5#32 } .managed) with pwr := { up.pwr with pstate := 4, target := 4 }, feat := [(featKey 0x0D 0, (0#32, 0#32, 0#32, 0#32))] }, by decide⟩,
   ⟨0, { (withCmd { opc := 0x2b, p0 := 5#32 } .managed) with cal := { stalled := 5#64 } }, by decide⟩,
   ⟨0, { (withCmd { opc := 0x2b, p0 := 5#32 } .managed) with hdas := [], cal := { stalled := 5#64 } }, by decide⟩,
   ⟨0, (withCmd { opc := 0x2b, p0 := 3#32 } .managed), by decide⟩,
   ⟨0, [], 1, withMptr (withCmd { opc := 0x2b, p0 := 3#32 } .managed), by decide⟩,
   ⟨0, withMptr (withCmd { opc := 0x2b, p0 := 3#32 } .managed), by decide⟩,
   ⟨0, 0x0A, stranger (withCmd { opc := 0x2b, p0 := 3#32 } .managed), by decide⟩,
   ⟨0, [(0, List.replicate 168 1#8)], { cmd := some 0, plan := [], band := 11, counts := [(0, 512)] }, ((withCmd { opc := 0x2B, p0 := 3#32 } .executing).updMu 0 fun m => { m with sch := { m.sch with calib := some { cmd := some 0, plan := [], band := 11, counts := [(0, 512)] } } }), by decide +kernel⟩,
   ⟨0, [], { cmd := some 0, plan := [], band := 11, counts := [(0, 512)] }, ((withCmd { opc := 0x2B, p0 := 3#32 } .executing).updMu 0 fun m => { m with sch := { m.sch with calib := some { cmd := some 0, plan := [], band := 11, counts := [(0, 512)] } } }), by decide⟩,
   ⟨0, [(0, List.replicate 168 1#8)], { pkt := { opc := 0x2B, p0 := 3#32 } }, { cmd := none, plan := [], band := 11, counts := [(0, 512)] }, { (upMu fun m => { m with sch := { m.sch with calib := some { cmd := none, plan := [], band := 11, counts := [(0, 512)] } } }) with mgt := { orphans := [{ pkt := { opc := 0x2B, p0 := 3#32 } }] } }, by decide +kernel⟩,
   ⟨{ (withCmd { opc := 0x2b, p0 := 4#32 } .managed) with pwr := { up.pwr with pstate := 4, target := 4 } }, by decide⟩,
   ⟨0, 0x0C, (withCmd { opc := 0x2b, p0 := 4#32 } .managed), by decide⟩,
   ⟨0, { (withCmd { opc := 0x2b, p0 := 4#32 } .managed) with mns := { up.mns with factory := true } }, by decide⟩,
   ⟨0, [], 1, withMptr { (withCmd { opc := 0x2b, p0 := 4#32 } .managed) with mns := { up.mns with factory := true } }, by decide⟩,
   ⟨0, withMptr { (withCmd { opc := 0x2b, p0 := 4#32 } .managed) with mns := { up.mns with factory := true } }, by decide⟩⟩

/-- States and operands that meet the hypotheses of `Obligations.MicrocodeAndServoTune`, one for each statement in it. -/
theorem witness_microcode_and_servo_tune :
    (∃ (tag : TagNo) (data : List Byte) (k : Nat) (s : State), s.mayBegin tag 0x2C 1 = true ∧ s.hostOk (s.cmd tag).ep = true ∧ data.length
      = (s.cmd tag).pkt.p5.toNat ∧ firstCode [s.inUseCode] = some k) ∧
    (∃ (tag : TagNo) (data : List Byte) (s : State), s.mayBegin tag 0x2C 1 = true ∧ s.hostOk (s.cmd tag).ep = true ∧ data.length = (s.cmd
      tag).pkt.p5.toNat ∧ firstCode [s.inUseCode] = none ∧ s.eventRoom = true) ∧
    (∃ (tag : TagNo) (k : Nat) (s : State), s.mayBegin tag 0x2C 2 = true ∧ firstCode [s.inUseCode] = some k) ∧
    (∃ (tag : TagNo) (s : State), s.mayBegin tag 0x2C 2 = true ∧ firstCode [s.inUseCode] = none) ∧
    (∃ (tag : TagNo) (k : Nat) (s : State), s.mayBegin tag 0x2C 3 = true ∧ firstCode [(s.store.swap.isSome, 0x000B)] = some k) ∧
    (∃ (tag : TagNo) (s : State), s.mayBegin tag 0x2C 3 = true ∧ s.store.swap = none ∧ (BitVec.ofNat 4 (bits (s.cmd tag).pkt.p2.toNat 3 0)
      &&& ~~~s.store.custHooks) ≠ 0) ∧
    (∃ (tag : TagNo) (s : State), s.mayBegin tag 0x2C 3 = true ∧ s.store.swap = none ∧ (BitVec.ofNat 4 (bits (s.cmd tag).pkt.p2.toNat 3 0)
      &&& ~~~s.store.custHooks) = 0) ∧
    (∃ (tag : TagNo) (s : State), s.mayBegin tag 0x2C 4 = true) ∧
    (∃ (tag : TagNo) (s : State), s.mayBegin tag 0x2C 5 = true ∧ firstCode [(!s.factory, 0x000C)] = none) ∧
    (∃ (tag : TagNo) (k : Nat) (s : State), s.mayBegin tag 0x2C 5 = true ∧ firstCode [(!s.factory, 0x000C)] = some k) ∧
    (∃ (tag : TagNo) (k : Nat) (s : State), s.mayBegin tag 0x2F 1 = true ∧ firstCode [s.ownScoped tag, s.absentCode tag] = some k) ∧
    (∃ (tag : TagNo) (s : State), s.mayBegin tag 0x2F 1 = true ∧ firstCode [s.ownScoped tag, s.absentCode tag] = none ∧ s.tuneBlocked
      (s.cmd tag).pkt.vol (bits (s.cmd tag).pkt.p2.toNat 2 0) = true ∧ s.eventRoom = true) ∧
    (∃ (tag : TagNo) (s : State), s.mayBegin tag 0x2F 1 = true ∧ firstCode [s.ownScoped tag, s.absentCode tag] = none ∧ s.tuneBlocked
      (s.cmd tag).pkt.vol (bits (s.cmd tag).pkt.p2.toNat 2 0) = false ∧ s.eventRoom = true) ∧
    (∃ (tag : TagNo) (k : Nat) (s : State), s.mayBegin tag 0x2F 2 = true ∧ firstCode [s.ownScoped tag] = some k) ∧
    (∃ (tag : TagNo) (s : State), s.mayBegin tag 0x2F 2 = true ∧ firstCode [s.ownScoped tag] = none ∧ (s.hda ((s.cmd tag).pkt.vol /
      2)).srv.tune = none) ∧
    (∃ (tag : TagNo) (x : Tune) (s : State), s.mayBegin tag 0x2F 2 = true ∧ firstCode [s.ownScoped tag] = none ∧ (s.hda ((s.cmd
      tag).pkt.vol / 2)).srv.tune = some x ∧ x.act = (s.cmd tag).pkt.vol % 2) ∧
    (∃ (tag : TagNo) (x : Tune) (s : State), s.mayBegin tag 0x2F 2 = true ∧ firstCode [s.ownScoped tag] = none ∧ (s.hda ((s.cmd
      tag).pkt.vol / 2)).srv.tune = some x ∧ x.act ≠ (s.cmd tag).pkt.vol % 2) ∧
    (∃ (s : State), s.asleep = true) ∧
    (∃ (tag : TagNo) (data : List Byte) (k : Nat) (s : State), s.asleep = false ∧ s.mayBegin tag 0x2F 3 = true ∧ s.hostOk (s.cmd tag).ep =
      true ∧ data.length = (s.cmd tag).pkt.p5.toNat ∧ firstCode [s.ownScoped tag, s.ps4Code] = some k) ∧
    (∃ (tag : TagNo) (data : List Byte) (s : State), s.asleep = false ∧ s.mayBegin tag 0x2F 3 = true ∧ s.hostOk (s.cmd tag).ep = true ∧
      data.length = (s.cmd tag).pkt.p5.toNat ∧ firstCode [s.ownScoped tag, s.ps4Code] = none ∧ (s.cmd tag).pkt.mptr = 0) ∧
    (∃ (tag : TagNo) (token : List Byte) (data : List Byte) (c : Nat) (s : State), s.asleep = false ∧ s.mayBegin tag 0x2F 3 = true ∧
      s.hostOk (s.cmd tag).ep = true ∧ data.length = (s.cmd tag).pkt.p5.toNat ∧ firstCode [s.ownScoped tag, s.ps4Code] = none ∧ (s.cmd
      tag).pkt.mptr ≠ 0 ∧ s.tokenFault (s.cmd tag).ep (s.cmd tag).pkt token data true = some c ∧ s.eventRoom = true) ∧
    (∃ (tag : TagNo) (data : List Byte) (s : State), s.asleep = false ∧ s.mayBegin tag 0x2F 3 = true ∧ s.hostOk (s.cmd tag).ep = true ∧
      data.length = (s.cmd tag).pkt.p5.toNat ∧ firstCode [s.ownScoped tag, s.ps4Code] = none ∧ (s.cmd tag).pkt.mptr ≠ 0 ∧ s.eventRoom =
      true) :=
  ⟨⟨0, [], 0x0B, { (withCmd { opc := 0x2c, p0 := 1#32 } .managed) with store := { up.store with swap := some {} } }, by decide⟩,
   ⟨0, [], (withCmd { opc := 0x2c, p0 := 1#32 } .managed), by decide⟩,
   ⟨0, 0x0B, { (withCmd { opc := 0x2c, p0 := 2#32 } .managed) with store := { up.store with bind2 := 1#32 } }, by decide⟩,
   ⟨0, (withCmd { opc := 0x2c, p0 := 2#32 } .managed), by decide⟩,
   ⟨0, 0x0B, { (withCmd { opc := 0x2c, p0 := 3#32 } .managed) with store := { up.store with swap := some {} } }, by decide⟩,
   ⟨0, { (withCmd { opc := 0x2c, p0 := 3#32, p2 := 3#32 } .managed) with store := { up.store with custHooks := 2#4 } }, by decide⟩,
   ⟨0, { (withCmd { opc := 0x2c, p0 := 3#32, p2 := 3#32, p3 := 5#32 } .managed) with store := { up.store with custHooks := 3#4, bind0 := 2#32 } }, by decide⟩,
   ⟨0, { (withCmd { opc := 0x2c, p0 := 4#32, p2 := 3#32, p3 := 5#32 } .managed) with store := { up.store with bind0 := 7#32 } }, by decide⟩,
   ⟨0, { (withCmd { opc := 0x2c, p0 := 5#32 } .managed) with mns := { up.mns with factory := true }, store := { up.store with service := true } }, by decide⟩,
   ⟨0, 0x0C, (withCmd { opc := 0x2c, p0 := 5#32 } .managed), by decide⟩,
   ⟨0, 0x0D, { (withCmd { opc := 0x2f, p0 := 1#32 } .managed) with hdas := [] }, by decide⟩,
   ⟨0, { (withCmd { opc := 0x2f, p0 := 1#32 } .managed) with mus := [] }, by decide⟩,
   ⟨0, (withCmd { opc := 0x2f, p0 := 1#32, p2 := 0x11#32, p3 := 0x019A0400#32 } .managed), by decide⟩,
   ⟨0, 0x0A, stranger (withCmd { opc := 0x2f, p0 := 2#32 } .managed), by decide⟩,
   ⟨0, (withCmd { opc := 0x2f, p0 := 2#32 } .managed), by decide⟩,
   ⟨0, { cmd := none, act := 0, point := 1 }, (((withCmd { opc := 0x2f, p0 := 2#32 } .managed)).updHda 0 fun d => { d with srv := { d.srv with tune := some { cmd := none, act := 0, point := 1 } } }), by decide⟩,
   ⟨0, { cmd := none, act := 1, point := 1 }, (((withCmd { opc := 0x2f, p0 := 2#32 } .managed)).updHda 0 fun d => { d with srv := { d.srv with tune := some { cmd := none, act := 1, point := 1 } } }), by decide⟩,
   ⟨{ (withCmd { opc := 0x2f, p0 := 3#32 } .managed) with pwr := { up.pwr with pstate := 4, target := 4 } }, by decide⟩,
   ⟨0, [], 0x0A, stranger (withCmd { opc := 0x2f, p0 := 3#32 } .managed), by decide⟩,
   ⟨0, [1#8, 0#8], (withCmd { opc := 0x2f, p0 := 3#32, p5 := 2#32 } .managed), by decide⟩,
   ⟨0, [], [1#8, 0#8], 1, withMptr (withCmd { opc := 0x2f, p0 := 3#32, p5 := 2#32 } .managed), by decide⟩,
   ⟨0, [1#8, 0#8], withMptr (withCmd { opc := 0x2f, p0 := 3#32, p5 := 2#32 } .managed), by decide⟩⟩

set_option maxRecDepth 40000 in
/-- States and operands that meet the hypotheses of `Obligations.SpdmResponder`, one for each statement in it. -/
theorem witness_spdm_responder :
    (∃ (conn : Fin 3) (request : List Byte) (s : State), s.mgmtServes = true ∧ spdmCode request = 0x84 ∧ request ≠ [] ∧ ((conn : Nat) = 2
      ∨ ((s.ep conn).doeRequest = request ∧ s.doeTurn conn = true)) ∧ ((conn : Nat) = 2 → (s.pwr.wakeable && bit (s.feat0 0x0D) 1) =
      false)) ∧
    (∃ (conn : Fin 3) (request : List Byte) (s : State), s.mgmtServes = true ∧ spdmCode request = 0x84 ∧ request ≠ [] ∧ (conn : Nat) = 2 ∧
      (s.pwr.wakeable && bit (s.feat0 0x0D) 1) = true) ∧
    (∃ (s : State), s.mgmtServes = false) ∧
    (∃ (conn : Fin 3) (request : List Byte) (k : Nat) (s : State), s.mgmtServes = true ∧ spdmCode request = 0xE1 ∧ request ≠ [] ∧ ((conn :
      Nat) = 2 ∨ ((s.ep conn).doeRequest = request ∧ s.doeTurn conn = true)) ∧ ((conn : Nat) = 2 → (s.pwr.wakeable && bit (s.feat0 0x0D)
      1) = false) ∧ (s.spdmOf conn).refusal 1 4 request = some k) ∧
    (∃ (conn : Fin 3) (request : List Byte) (s : State), s.mgmtServes = true ∧ spdmCode request = 0xE1 ∧ request ≠ [] ∧ ((conn : Nat) = 2
      ∨ ((s.ep conn).doeRequest = request ∧ s.doeTurn conn = true)) ∧ ((conn : Nat) = 2 → (s.pwr.wakeable && bit (s.feat0 0x0D) 1) =
      false) ∧ (s.spdmOf conn).refusal 1 4 request = none) ∧
    (∃ (conn : Fin 3) (request : List Byte) (k : Nat) (s : State), s.mgmtServes = true ∧ spdmCode request = 0xE3 ∧ request ≠ [] ∧ ((conn :
      Nat) = 2 ∨ ((s.ep conn).doeRequest = request ∧ s.doeTurn conn = true)) ∧ ((conn : Nat) = 2 → (s.pwr.wakeable && bit (s.feat0 0x0D)
      1) = false) ∧ (s.spdmOf conn).refusal 2 32 request = some k) ∧
    (∃ (conn : Fin 3) (request : List Byte) (s : State), s.mgmtServes = true ∧ spdmCode request = 0xE3 ∧ request ≠ [] ∧ ((conn : Nat) = 2
      ∨ ((s.ep conn).doeRequest = request ∧ s.doeTurn conn = true)) ∧ ((conn : Nat) = 2 → (s.pwr.wakeable && bit (s.feat0 0x0D) 1) =
      false) ∧ (s.spdmOf conn).refusal 2 32 request = none ∧ (bit (field request 6 1) 0 || bit (field request 8 4) 9 || bit (field request
      12 4) 6) = false) ∧
    (∃ (conn : Fin 3) (request : List Byte) (s : State), s.mgmtServes = true ∧ spdmCode request = 0xE3 ∧ request ≠ [] ∧ ((conn : Nat) = 2
      ∨ ((s.ep conn).doeRequest = request ∧ s.doeTurn conn = true)) ∧ ((conn : Nat) = 2 → (s.pwr.wakeable && bit (s.feat0 0x0D) 1) =
      false) ∧ (s.spdmOf conn).refusal 2 32 request = none ∧ (bit (field request 6 1) 0 || bit (field request 8 4) 9 || bit (field request
      12 4) 6) = true) ∧
    (∃ (conn : Fin 3) (request : List Byte) (k : Nat) (s : State), s.mgmtServes = true ∧ spdmCode request = 0x81 ∧ request ≠ [] ∧ ((conn :
      Nat) = 2 ∨ ((s.ep conn).doeRequest = request ∧ s.doeTurn conn = true)) ∧ ((conn : Nat) = 2 → (s.pwr.wakeable && bit (s.feat0 0x0D)
      1) = false) ∧ (s.spdmOf conn).refusal 3 4 request = some k) ∧
    (∃ (conn : Fin 3) (request : List Byte) (s : State), s.mgmtServes = true ∧ spdmCode request = 0x81 ∧ request ≠ [] ∧ ((conn : Nat) = 2
      ∨ ((s.ep conn).doeRequest = request ∧ s.doeTurn conn = true)) ∧ ((conn : Nat) = 2 → (s.pwr.wakeable && bit (s.feat0 0x0D) 1) =
      false) ∧ (s.spdmOf conn).refusal 3 4 request = none) ∧
    (∃ (conn : Fin 3) (request : List Byte) (k : Nat) (s : State), s.mgmtServes = true ∧ spdmCode request = 0x82 ∧ request ≠ [] ∧ ((conn :
      Nat) = 2 ∨ ((s.ep conn).doeRequest = request ∧ s.doeTurn conn = true)) ∧ ((conn : Nat) = 2 → (s.pwr.wakeable && bit (s.feat0 0x0D)
      1) = false) ∧ (s.spdmOf conn).refusal 3 8 request = some k) ∧
    (∃ (conn : Fin 3) (request : List Byte) (s : State), s.mgmtServes = true ∧ spdmCode request = 0x82 ∧ request ≠ [] ∧ ((conn : Nat) = 2
      ∨ ((s.ep conn).doeRequest = request ∧ s.doeTurn conn = true)) ∧ ((conn : Nat) = 2 → (s.pwr.wakeable && bit (s.feat0 0x0D) 1) =
      false) ∧ (s.spdmOf conn).refusal 3 8 request = none ∧ (field request 2 1 % 16 ≠ 0 ∨ spdmChain.length ≤ (field request 4 2))) ∧
    (∃ (conn : Fin 3) (request : List Byte) (s : State), s.mgmtServes = true ∧ spdmCode request = 0x82 ∧ request ≠ [] ∧ ((conn : Nat) = 2
      ∨ ((s.ep conn).doeRequest = request ∧ s.doeTurn conn = true)) ∧ ((conn : Nat) = 2 → (s.pwr.wakeable && bit (s.feat0 0x0D) 1) =
      false) ∧ (s.spdmOf conn).refusal 3 8 request = none ∧ field request 2 1 % 16 = 0 ∧ (field request 4 2) < spdmChain.length) ∧
    (∃ (conn : Fin 3) (request : List Byte) (k : Nat) (s : State), s.mgmtServes = true ∧ spdmCode request = 0x83 ∧ request ≠ [] ∧ ((conn :
      Nat) = 2 ∨ ((s.ep conn).doeRequest = request ∧ s.doeTurn conn = true)) ∧ ((conn : Nat) = 2 → (s.pwr.wakeable && bit (s.feat0 0x0D)
      1) = false) ∧ (s.spdmOf conn).refusal 3 36 request = some k) ∧
    (∃ (conn : Fin 3) (request : List Byte) (s : State), s.mgmtServes = true ∧ spdmCode request = 0x83 ∧ request ≠ [] ∧ ((conn : Nat) = 2
      ∨ ((s.ep conn).doeRequest = request ∧ s.doeTurn conn = true)) ∧ ((conn : Nat) = 2 → (s.pwr.wakeable && bit (s.feat0 0x0D) 1) =
      false) ∧ (s.spdmOf conn).refusal 3 36 request = none ∧ (field request 2 1 % 16 ≠ 0 ∨ (field request 3 1 ≠ 0 ∧ field request 3 1 ≠
      0xFF))) ∧
    (∃ (conn : Fin 3) (request : List Byte) (s : State), s.mgmtServes = true ∧ spdmCode request = 0x83 ∧ request ≠ [] ∧ ((conn : Nat) = 2
      ∨ ((s.ep conn).doeRequest = request ∧ s.doeTurn conn = true)) ∧ ((conn : Nat) = 2 → (s.pwr.wakeable && bit (s.feat0 0x0D) 1) =
      false) ∧ (s.spdmOf conn).refusal 3 36 request = none ∧ field request 2 1 % 16 = 0 ∧ (field request 3 1 = 0 ∨ field request 3 1 =
      0xFF)) ∧
    (∃ (conn : Fin 3) (request : List Byte) (s : State), s.mgmtServes = true ∧ spdmCode request = 0x83 ∧ request ≠ [] ∧ ((conn : Nat) = 2
      ∨ ((s.ep conn).doeRequest = request ∧ s.doeTurn conn = true)) ∧ ((conn : Nat) = 2 → (s.pwr.wakeable && bit (s.feat0 0x0D) 1) =
      false) ∧ (s.spdmOf conn).refusal 3 36 request = none ∧ field request 2 1 % 16 = 0 ∧ (field request 3 1 = 0 ∨ field request 3 1 =
      0xFF)) ∧
    (∃ (conn : Fin 3) (request : List Byte) (k : Nat) (s : State), s.mgmtServes = true ∧ spdmCode request = 0xE0 ∧ request ≠ [] ∧ ((conn :
      Nat) = 2 ∨ ((s.ep conn).doeRequest = request ∧ s.doeTurn conn = true)) ∧ ((conn : Nat) = 2 → (s.pwr.wakeable && bit (s.feat0 0x0D)
      1) = false) ∧ ((s.spdmOf conn).refusal 3 (if bit (field request 2 1) 0 then 37 else 4) request = some k)) ∧
    (∃ (conn : Fin 3) (request : List Byte) (s : State), s.mgmtServes = true ∧ spdmCode request = 0xE0 ∧ request ≠ [] ∧ ((conn : Nat) = 2
      ∨ ((s.ep conn).doeRequest = request ∧ s.doeTurn conn = true)) ∧ ((conn : Nat) = 2 → (s.pwr.wakeable && bit (s.feat0 0x0D) 1) =
      false) ∧ ((s.spdmOf conn).refusal 3 (if bit (field request 2 1) 0 then 37 else 4) request = none) ∧ s.measuredBlocks (field request
      3 1) = none) ∧
    (∃ (conn : Fin 3) (request : List Byte) (n : Nat) (b : List Byte) (s : State), s.mgmtServes = true ∧ spdmCode request = 0xE0 ∧ request
      ≠ [] ∧ ((conn : Nat) = 2 ∨ ((s.ep conn).doeRequest = request ∧ s.doeTurn conn = true)) ∧ ((conn : Nat) = 2 → (s.pwr.wakeable && bit
      (s.feat0 0x0D) 1) = false) ∧ ((s.spdmOf conn).refusal 3 (if bit (field request 2 1) 0 then 37 else 4) request = none) ∧
      s.measuredBlocks (field request 3 1) = some (n, b) ∧ bit (field request 2 1) 0 = true ∧ field request 36 1 % 16 ≠ 0) ∧
    (∃ (conn : Fin 3) (request : List Byte) (n : Nat) (b : List Byte) (s : State), s.mgmtServes = true ∧ spdmCode request = 0xE0 ∧ request
      ≠ [] ∧ ((conn : Nat) = 2 ∨ ((s.ep conn).doeRequest = request ∧ s.doeTurn conn = true)) ∧ ((conn : Nat) = 2 → (s.pwr.wakeable && bit
      (s.feat0 0x0D) 1) = false) ∧ ((s.spdmOf conn).refusal 3 (if bit (field request 2 1) 0 then 37 else 4) request = none) ∧
      s.measuredBlocks (field request 3 1) = some (n, b) ∧ bit (field request 2 1) 0 = true ∧ field request 36 1 % 16 = 0) ∧
    (∃ (conn : Fin 3) (request : List Byte) (n : Nat) (b : List Byte) (s : State), s.mgmtServes = true ∧ spdmCode request = 0xE0 ∧ request
      ≠ [] ∧ ((conn : Nat) = 2 ∨ ((s.ep conn).doeRequest = request ∧ s.doeTurn conn = true)) ∧ ((conn : Nat) = 2 → (s.pwr.wakeable && bit
      (s.feat0 0x0D) 1) = false) ∧ ((s.spdmOf conn).refusal 3 (if bit (field request 2 1) 0 then 37 else 4) request = none) ∧
      s.measuredBlocks (field request 3 1) = some (n, b) ∧ bit (field request 2 1) 0 = true ∧ field request 36 1 % 16 = 0) ∧
    (∃ (conn : Fin 3) (request : List Byte) (n : Nat) (b : List Byte) (s : State), s.mgmtServes = true ∧ spdmCode request = 0xE0 ∧ request
      ≠ [] ∧ ((conn : Nat) = 2 ∨ ((s.ep conn).doeRequest = request ∧ s.doeTurn conn = true)) ∧ ((conn : Nat) = 2 → (s.pwr.wakeable && bit
      (s.feat0 0x0D) 1) = false) ∧ ((s.spdmOf conn).refusal 3 (if bit (field request 2 1) 0 then 37 else 4) request = none) ∧
      s.measuredBlocks (field request 3 1) = some (n, b) ∧ bit (field request 2 1) 0 = false) ∧
    (∃ (conn : Fin 3) (request : List Byte) (n : Nat) (b : List Byte) (s : State), s.mgmtServes = true ∧ spdmCode request = 0xE0 ∧ request
      ≠ [] ∧ ((conn : Nat) = 2 ∨ ((s.ep conn).doeRequest = request ∧ s.doeTurn conn = true)) ∧ ((conn : Nat) = 2 → (s.pwr.wakeable && bit
      (s.feat0 0x0D) 1) = false) ∧ ((s.spdmOf conn).refusal 3 (if bit (field request 2 1) 0 then 37 else 4) request = none) ∧
      s.measuredBlocks (field request 3 1) = some (n, b) ∧ bit (field request 2 1) 0 = false) ∧
    (∃ (conn : Fin 3) (request : List Byte) (k : Nat) (s : State), s.mgmtServes = true ∧ spdmCode request = 0x86 ∧ request ≠ [] ∧ ((conn :
      Nat) = 2 ∨ ((s.ep conn).doeRequest = request ∧ s.doeTurn conn = true)) ∧ ((conn : Nat) = 2 → (s.pwr.wakeable && bit (s.feat0 0x0D)
      1) = false) ∧ (s.spdmOf conn).refusal 3 6 request = some k) ∧
    (∃ (conn : Fin 3) (request : List Byte) (s : State), s.mgmtServes = true ∧ spdmCode request = 0x86 ∧ request ≠ [] ∧ ((conn : Nat) = 2
      ∨ ((s.ep conn).doeRequest = request ∧ s.doeTurn conn = true)) ∧ ((conn : Nat) = 2 → (s.pwr.wakeable && bit (s.feat0 0x0D) 1) =
      false) ∧ (s.spdmOf conn).refusal 3 6 request = none ∧ (s.spdmOf conn).chunk = []) ∧
    (∃ (conn : Fin 3) (request : List Byte) (s : State), s.mgmtServes = true ∧ spdmCode request = 0x86 ∧ request ≠ [] ∧ ((conn : Nat) = 2
      ∨ ((s.ep conn).doeRequest = request ∧ s.doeTurn conn = true)) ∧ ((conn : Nat) = 2 → (s.pwr.wakeable && bit (s.feat0 0x0D) 1) =
      false) ∧ (s.spdmOf conn).refusal 3 6 request = none ∧ (s.spdmOf conn).chunk ≠ [] ∧ (field request 3 1 ≠ (s.spdmOf conn).handle ∨
      field request 4 2 ≠ (s.spdmOf conn).chunkSeq)) ∧
    (∃ (conn : Fin 3) (request : List Byte) (s : State), s.mgmtServes = true ∧ spdmCode request = 0x86 ∧ request ≠ [] ∧ ((conn : Nat) = 2
      ∨ ((s.ep conn).doeRequest = request ∧ s.doeTurn conn = true)) ∧ ((conn : Nat) = 2 → (s.pwr.wakeable && bit (s.feat0 0x0D) 1) =
      false) ∧ (s.spdmOf conn).refusal 3 6 request = none ∧ (s.spdmOf conn).chunk ≠ [] ∧ field request 3 1 = (s.spdmOf conn).handle ∧
      field request 4 2 = (s.spdmOf conn).chunkSeq) ∧
    (∃ (conn : Fin 3) (request : List Byte) (k : Nat) (s : State), s.mgmtServes = true ∧ spdmCode request = 0xFF ∧ request ≠ [] ∧ ((conn :
      Nat) = 2 ∨ ((s.ep conn).doeRequest = request ∧ s.doeTurn conn = true)) ∧ ((conn : Nat) = 2 → (s.pwr.wakeable && bit (s.feat0 0x0D)
      1) = false) ∧ (s.spdmOf conn).refusal 3 4 request = some k) ∧
    (∃ (conn : Fin 3) (request : List Byte) (s : State), s.mgmtServes = true ∧ spdmCode request = 0xFF ∧ request ≠ [] ∧ ((conn : Nat) = 2
      ∨ ((s.ep conn).doeRequest = request ∧ s.doeTurn conn = true)) ∧ ((conn : Nat) = 2 → (s.pwr.wakeable && bit (s.feat0 0x0D) 1) =
      false) ∧ (s.spdmOf conn).refusal 3 4 request = none ∧ (s.spdmOf conn).deferred = none) ∧
    (∃ (conn : Fin 3) (request : List Byte) (r : List Byte) (s : State), s.mgmtServes = true ∧ spdmCode request = 0xFF ∧ request ≠ [] ∧
      ((conn : Nat) = 2 ∨ ((s.ep conn).doeRequest = request ∧ s.doeTurn conn = true)) ∧ ((conn : Nat) = 2 → (s.pwr.wakeable && bit
      (s.feat0 0x0D) 1) = false) ∧ (s.spdmOf conn).refusal 3 4 request = none ∧ (s.spdmOf conn).deferred = some r ∧ (field request 2 1 ≠
      field r 1 1 + 0x80 ∨ field request 3 1 ≠ 0)) ∧
    (∃ (conn : Fin 3) (request : List Byte) (r : List Byte) (s : State), s.mgmtServes = true ∧ spdmCode request = 0xFF ∧ request ≠ [] ∧
      ((conn : Nat) = 2 ∨ ((s.ep conn).doeRequest = request ∧ s.doeTurn conn = true)) ∧ ((conn : Nat) = 2 → (s.pwr.wakeable && bit
      (s.feat0 0x0D) 1) = false) ∧ (s.spdmOf conn).refusal 3 4 request = none ∧ (s.spdmOf conn).deferred = some r ∧ field request 2 1 =
      field r 1 1 + 0x80 ∧ field request 3 1 = 0) ∧
    (∃ (conn : Fin 3) (request : List Byte) (s : State), s.mgmtServes = true ∧ spdmCode request ∉ spdmServed ∧ request ≠ [] ∧ ((conn :
      Nat) = 2 ∨ ((s.ep conn).doeRequest = request ∧ s.doeTurn conn = true)) ∧ ((conn : Nat) = 2 → (s.pwr.wakeable && bit (s.feat0 0x0D)
      1) = false) ∧ s.eventRoom = true) ∧
    (∃ (ep : EpNo) (bytes : List Byte) (s : State), s.epUsed ep = true ∧ s.hlkRuns = true ∧ (s.ep ep).linkUp = true ∧ (s.ep ep).doeRequest
      = [] ∧ bytes ≠ [] ∧ bytes.length ≤ 8184) ∧
    (∃ (ep : EpNo) (bytes : List Byte) (s : State), s.epUsed ep = true ∧ s.hlkRuns = true ∧ (s.ep ep).linkUp = true ∧ (s.ep ep).doeRequest
      = [] ∧ bytes ≠ [] ∧ bytes.length ≤ 8184) ∧
    (∃ (kind : Nat), 2 ≤ kind) ∧
    (∃ (ep : EpNo) (s : State), (s.ep ep).doeRequest ≠ []) ∧
    (∃ (ep : EpNo) (s : State), s.epUsed ep = true ∧ s.hlkRuns = true ∧ (s.ep ep).linkUp = true) ∧
    (∃ (ep : EpNo) (s : State), (s.ep ep).linkUp = false) :=
  ⟨⟨0, [16#8, 132#8, 0#8, 0#8], upEp fun x => { x with doeRequest := [16#8, 132#8, 0#8, 0#8], spdm := { version := true, caps := true, algs := true } }, by decide⟩,
   ⟨2, [16#8, 132#8, 0#8, 0#8], { up with pwr := { up.pwr with pstate := 4 } }, by decide⟩,
   ⟨State.reset, by decide⟩,
   ⟨0, [17#8, 225#8, 0#8, 0#8], 0x41, upEp fun x => { x with doeRequest := [17#8, 225#8, 0#8, 0#8], spdm := { version := true, caps := true, algs := true } }, by decide⟩,
   ⟨0, [18#8, 225#8, 0#8, 0#8], upEp fun x => { x with doeRequest := [18#8, 225#8, 0#8, 0#8], spdm := { version := true, caps := true, algs := true } }, by decide⟩,
   ⟨0, [17#8, 227#8, 0#8, 0#8], 0x41, upEp fun x => { x with doeRequest := [17#8, 227#8, 0#8, 0#8], spdm := { version := true, caps := true, algs := true } }, by decide⟩,
   ⟨0, [18#8, 227#8, 0#8, 0#8, 32#8, 0#8, 0#8, 0#8, 0#8, 0#8, 0#8, 0#8, 0#8, 0#8, 0#8, 0#8, 0#8, 0#8, 0#8, 0#8, 0#8, 0#8, 0#8, 0#8, 0#8, 0#8, 0#8, 0#8, 0#8, 0#8, 0#8, 0#8], upEp fun x => { x with doeRequest := [18#8, 227#8, 0#8, 0#8, 32#8, 0#8, 0#8, 0#8, 0#8, 0#8, 0#8, 0#8, 0#8, 0#8, 0#8, 0#8, 0#8, 0#8, 0#8, 0#8, 0#8, 0#8, 0#8, 0#8, 0#8, 0#8, 0#8, 0#8, 0#8, 0#8, 0#8, 0#8], spdm := { version := true, caps := true, algs := true } }, by decide⟩,
   ⟨0, [18#8, 227#8, 0#8, 0#8, 32#8, 0#8, 1#8, 0#8, 0#8, 2#8, 0#8, 0#8, 64#8, 0#8, 0#8, 0#8, 0#8, 0#8, 0#8, 0#8, 0#8, 0#8, 0#8, 0#8, 0#8, 0#8, 0#8, 0#8, 0#8, 0#8, 0#8, 0#8], upEp fun x => { x with doeRequest := [18#8, 227#8, 0#8, 0#8, 32#8, 0#8, 1#8, 0#8, 0#8, 2#8, 0#8, 0#8, 64#8, 0#8, 0#8, 0#8, 0#8, 0#8, 0#8, 0#8, 0#8, 0#8, 0#8, 0#8, 0#8, 0#8, 0#8, 0#8, 0#8, 0#8, 0#8, 0#8], spdm := { version := true, caps := true, algs := true } }, by decide⟩,
   ⟨0, [17#8, 129#8, 0#8, 0#8], 0x41, upEp fun x => { x with doeRequest := [17#8, 129#8, 0#8, 0#8], spdm := { version := true, caps := true, algs := true } }, by decide⟩,
   ⟨0, [18#8, 129#8, 0#8, 0#8], upEp fun x => { x with doeRequest := [18#8, 129#8, 0#8, 0#8], spdm := { version := true, caps := true, algs := true } }, by decide⟩,
   ⟨0, [17#8, 130#8, 0#8, 0#8], 0x41, upEp fun x => { x with doeRequest := [17#8, 130#8, 0#8, 0#8], spdm := { version := true, caps := true, algs := true } }, by decide⟩,
   ⟨0, [18#8, 130#8, 1#8, 0#8, 0#8, 0#8, 4#8, 0#8], upEp fun x => { x with doeRequest := [18#8, 130#8, 1#8, 0#8, 0#8, 0#8, 4#8, 0#8], spdm := { version := true, caps := true, algs := true } }, by decide⟩,
   ⟨0, [18#8, 130#8, 0#8, 0#8, 0#8, 0#8, 4#8, 0#8], upEp fun x => { x with doeRequest := [18#8, 130#8, 0#8, 0#8, 0#8, 0#8, 4#8, 0#8], spdm := { version := true, caps := true, algs := true } }, by decide⟩,
   ⟨0, [17#8, 131#8, 0#8, 0#8], 0x41, upEp fun x => { x with doeRequest := [17#8, 131#8, 0#8, 0#8], spdm := { version := true, caps := true, algs := true } }, by decide⟩,
   ⟨0, ([18#8, 131#8, 1#8, 0#8] ++ List.replicate 33 0), upEp fun x => { x with doeRequest := ([18#8, 131#8, 1#8, 0#8] ++ List.replicate 33 0), spdm := { version := true, caps := true, algs := true } }, by decide⟩,
   ⟨0, ([18#8, 131#8, 0#8, 0#8] ++ List.replicate 33 0), upEp fun x => { x with doeRequest := ([18#8, 131#8, 0#8, 0#8] ++ List.replicate 33 0), spdm := { version := true, caps := true, algs := true } }, by decide⟩,
   ⟨0, ([18#8, 131#8, 0#8, 0#8] ++ List.replicate 33 0), upEp fun x => { x with doeRequest := ([18#8, 131#8, 0#8, 0#8] ++ List.replicate 33 0), spdm := { version := true, caps := true, algs := true } }, by decide⟩,
   ⟨0, [17#8, 224#8, 0#8, 0#8], 0x41, upEp fun x => { x with doeRequest := [17#8, 224#8, 0#8, 0#8], spdm := { version := true, caps := true, algs := true } }, by decide⟩,
   ⟨0, [18#8, 224#8, 0#8, 9#8], upEp fun x => { x with doeRequest := [18#8, 224#8, 0#8, 9#8], spdm := { version := true, caps := true, algs := true } }, by decide⟩,
   ⟨0, ([18#8, 224#8, 1#8, 0#8] ++ List.replicate 32 0 ++ [1]), 0, [], upEp fun x => { x with doeRequest := ([18#8, 224#8, 1#8, 0#8] ++ List.replicate 32 0 ++ [1]), spdm := { version := true, caps := true, algs := true } }, by decide +kernel⟩,
   ⟨0, ([18#8, 224#8, 1#8, 0#8] ++ List.replicate 33 0) ++ [0], 0, [], upEp fun x => { x with doeRequest := ([18#8, 224#8, 1#8, 0#8] ++ List.replicate 33 0) ++ [0], spdm := { version := true, caps := true, algs := true } }, by decide⟩,
   ⟨0, ([18#8, 224#8, 1#8, 0#8] ++ List.replicate 33 0) ++ [0], 0, [], upEp fun x => { x with doeRequest := ([18#8, 224#8, 1#8, 0#8] ++ List.replicate 33 0) ++ [0], spdm := { version := true, caps := true, algs := true } }, by decide⟩,
   ⟨0, [18#8, 224#8, 0#8, 0#8], 0, [], upEp fun x => { x with doeRequest := [18#8, 224#8, 0#8, 0#8], spdm := { version := true, caps := true, algs := true } }, by decide⟩,
   ⟨0, [18#8, 224#8, 0#8, 0#8], 0, [], upEp fun x => { x with doeRequest := [18#8, 224#8, 0#8, 0#8], spdm := { version := true, caps := true, algs := true } }, by decide⟩,
   ⟨0, [17#8, 134#8, 0#8, 0#8], 0x41, upEp fun x => { x with doeRequest := [17#8, 134#8, 0#8, 0#8], spdm := { version := true, caps := true, algs := true } }, by decide⟩,
   ⟨0, [18#8, 134#8, 0#8, 7#8, 0#8, 0#8], upEp fun x => { x with doeRequest := [18#8, 134#8, 0#8, 7#8, 0#8, 0#8], spdm := { version := true, caps := true, algs := true } }, by decide⟩,
   ⟨0, [18#8, 134#8, 0#8, 7#8, 0#8, 0#8], upEp fun x => { x with doeRequest := [18#8, 134#8, 0#8, 7#8, 0#8, 0#8], spdm := { version := true, caps := true, algs := true, chunk := [1#8], handle := 6 } }, by decide⟩,
   ⟨0, [18#8, 134#8, 0#8, 7#8, 0#8, 0#8], upEp fun x => { x with doeRequest := [18#8, 134#8, 0#8, 7#8, 0#8, 0#8], spdm := { version := true, caps := true, algs := true, chunk := [1#8], handle := 7 } }, by decide⟩,
   ⟨0, [17#8, 255#8, 0#8, 0#8], 0x41, upEp fun x => { x with doeRequest := [17#8, 255#8, 0#8, 0#8], spdm := { version := true, caps := true, algs := true } }, by decide⟩,
   ⟨0, [18#8, 255#8, 131#8, 0#8], upEp fun x => { x with doeRequest := [18#8, 255#8, 131#8, 0#8], spdm := { version := true, caps := true, algs := true } }, by decide⟩,
   ⟨0, [18#8, 255#8, 131#8, 0#8], [0x12, 0x60], upEp fun x => { x with doeRequest := [18#8, 255#8, 131#8, 0#8], spdm := { version := true, caps := true, algs := true, deferred := some [0x12, 0x60] } }, by decide⟩,
   ⟨0, [18#8, 255#8, 131#8, 0#8], [0x12, 0x03], upEp fun x => { x with doeRequest := [18#8, 255#8, 131#8, 0#8], spdm := { version := true, caps := true, algs := true, deferred := some [0x12, 0x03] } }, by decide⟩,
   ⟨0, [18#8, 85#8, 0#8, 0#8], upEp fun x => { x with doeRequest := [18#8, 85#8, 0#8, 0#8], spdm := { version := true, caps := true, algs := true } }, by decide⟩,
   ⟨0, [0#8, 0#8, 0#8], up, by decide⟩,
   ⟨0, [0x10#8, 0x84#8, 0#8, 0#8], up, by decide⟩,
   ⟨2, by decide⟩,
   ⟨0, upEp fun x => { x with doeRequest := [1#8] }, by decide⟩,
   ⟨0, upEp fun x => { x with doeRequest := [1#8] }, by decide⟩,
   ⟨0, State.reset, by decide⟩⟩

set_option maxRecDepth 40000 in
/-- States and operands that meet the hypotheses of `Obligations.ManagementBus`, one for each statement in it. -/
theorem witness_management_bus :
    (∃ (op : Nat) (eid : Nat) (s : State), s.mctpOk = true ∧ (s.pwr.wakeable && bit (s.feat0 0x0D) 1) = false ∧ op ≤ 1 ∧ 1 ≤ eid ∧ eid ≤
      0xFE) ∧
    (∃ (op : Nat) (eid : Nat) (s : State), s.mctpOk = true ∧ (s.pwr.wakeable && bit (s.feat0 0x0D) 1) = false ∧ (1 < op ∨ eid = 0 ∨ 0xFE <
      eid)) ∧
    (∃ (s : State), s.mctpOk = true ∧ (s.pwr.wakeable && bit (s.feat0 0x0D) 1) = true) ∧
    (∃ (s : State), s.mctpOk = false) ∧
    (∃ (s : State), s.mctpOk = true ∧ (s.pwr.wakeable && bit (s.feat0 0x0D) 1) = false) ∧
    (∃ (msgType : Nat) (s : State), s.mctpOk = true ∧ (s.pwr.wakeable && bit (s.feat0 0x0D) 1) = false ∧ msgType ∈ mctpTypes) ∧
    (∃ (msgType : Nat) (s : State), s.mctpOk = true ∧ (s.pwr.wakeable && bit (s.feat0 0x0D) 1) = false ∧ msgType ∉ mctpTypes) ∧
    (∃ (s : State), s.mctpOk = true ∧ (s.pwr.wakeable && bit (s.feat0 0x0D) 1) = false) ∧
    (∃ (addr : Nat) (count : Nat) (s : State), s.mctpOk = true ∧ (s.pwr.wakeable && bit (s.feat0 0x0D) 1) = false ∧ ohmithRange addr count
      = true) ∧
    (∃ (addr : Nat) (count : Nat) (s : State), s.mctpOk = true ∧ (s.pwr.wakeable && bit (s.feat0 0x0D) 1) = false ∧ ohmithRange addr count
      = false) ∧
    (∃ (bytes : List Byte) (r : Res) (s : State), s.mctpOk = true ∧ (s.pwr.wakeable && bit (s.feat0 0x0D) 1) = false ∧ bytes.length = 64 ∧
      s.activating = false ∧ s.ohmithBad (parsePacket bytes) bytes = some r) ∧
    (∃ (bytes : List Byte) (s : State), s.mctpOk = true ∧ (s.pwr.wakeable && bit (s.feat0 0x0D) 1) = false ∧ bytes.length = 64 ∧
      s.activating = false ∧ s.ohmithBad (parsePacket bytes) bytes = none) ∧
    (∃ (bytes : List Byte) (s : State), (bytes.length ≠ 64 ∨ s.activating = true)) ∧
    (∃ (s : State), s.alert = true) ∧
    (∃ (s : State), s.alert = false) :=
  ⟨⟨0, 9, up, by decide⟩,
   ⟨0, 255, up, by decide⟩,
   ⟨{ up with pwr := { up.pwr with pstate := 4 } }, by decide⟩,
   ⟨State.reset, by decide⟩,
   ⟨up, by decide⟩,
   ⟨5, up, by decide⟩,
   ⟨6, up, by decide⟩,
   ⟨up, by decide⟩,
   ⟨0, 4, up, by decide⟩,
   ⟨0x100000, 4, up, by decide⟩,
   ⟨packetBytes 1 5 0 0, { status := 0x0100 }, up, by decide +kernel⟩,
   ⟨packetBytes 0x21 5 0xFFFF 0x700, up, by decide +kernel⟩,
   ⟨[], up, by decide⟩,
   ⟨{ up with alert := true }, by decide⟩,
   ⟨up, by decide⟩⟩

/-- States and operands that meet the hypotheses of `Obligations.StepTakesTheFront`, one for each statement in it. -/
theorem witness_step_takes_the_front :
    (∃ (s : State), s.pending = []) :=
  ⟨up, by decide⟩

/-- States and operands that meet the hypotheses of `Obligations.CanonicalKept`, one for each statement in it. -/
theorem witness_canonical_kept :
    (∃ (s t : State), s.canonical = true ∧ step s = .next t) :=
  ⟨up, up, by exact ⟨by decide, rfl⟩⟩

/-- States and operands that meet the hypotheses of `Obligations.SecurityVersionFloor`, one for each statement in it. -/
theorem witness_security_version_floor :
    (∃ (s : State), s.start.phase = .service ∧ s.mns.powerFail = false ∧ s.eventRoom = true) ∧
    (∃ (s t : State), step s = .next t) :=
  ⟨⟨{ up with start := { phase := .service } }, by decide⟩,
   ⟨up, up, by exact rfl⟩⟩

/-- States and operands that meet the hypotheses of `Obligations.TagsMoveInOrder`, one for each statement in it. -/
theorem witness_tags_move_in_order :
    (∃ (s t : State), step s = .next t) :=
  ⟨up, up, by exact rfl⟩

/-- States and operands that meet the hypotheses of `Obligations.CompletionIsOnce`, one for each statement in it. -/
theorem witness_completion_is_once :
    (∃ (s : State) (n : Nat), s.live n = true) ∧
    (∃ (s : State) (n : Nat), s.live n = false) :=
  ⟨⟨managed 0x20 0, 0, by decide⟩,
   ⟨up, 0, by decide⟩⟩

/-- States and operands that meet the hypotheses of `Obligations.Crc32c`, one for each statement in it. -/
theorem witness_crc32c :
    (∃ (b : List Byte), b.length = 60) :=
  ⟨List.replicate 60 0#8, by decide⟩

/-- States and operands that meet the hypotheses of `Obligations.FaultMessages`, one for each statement in it. -/
theorem witness_fault_messages :
    (∃ (sub inst k a sev : Nat) (saf : Bool), sub < 32 ∧ inst < 64 ∧ k < 64 ∧ a < 2 ^ 40 ∧ kindOf sub k a = some (sev, saf)) :=
  ⟨11, 3, 1, 9, 2, true, by decide⟩

/-- States and operands that meet the hypotheses of `Obligations.EnergyBound`, one for each statement in it. -/
theorem witness_energy_bound :
    (∃ (s : State), s.mns.busUp = true) :=
  ⟨up, by decide⟩

/-- States and operands that meet the hypotheses of `Obligations.DirtyDataKept`, one for each statement in it. -/
theorem witness_dirty_data_kept :
    (∃ (s : State), s.mns.busUp = true ∧ s.start.phase ≠ .off ∧ (∀ m, m < 32 → (s.mu m).tsq.desc = none) ∧ swf {} s.bca.index = true) :=
  ⟨{ up with bca := { index := [(7, { staged := true, sector := some {} })] } }, by decide⟩


/-! ### Ill-formed commands: one term for each check of WellFormed, which the check refuses -/

theorem test_ill_formed_mains_and_start : ([
   .powerOn 2 {}, .feedPresent 2, .feedLost 2, .eUsableUpdate { shareA := 101 }, .holdupTestDone 5000 4900 4900 false,
   .holdupTestDone 4900 5000 4800 false, .fanOvercurrent 6, .fanStall 6 200, .fanStall 0 300, .fanStallEnd 6 300, .fanStallEnd 0 299,
   .fanCurrentLimitExit 6, .fiddleheadStart true true [1024], .stage2Start [3] [] [] [], .stage2Start [8] [] [] [],
   .stage2Start [] [] [] [17], .hdaTablesLoad [17] [], .hdaTablesLoad [] [{ vol := 32, zone := 0, wp := 0, cap := 0 }],
    .replayDone { foreign := [32] }, .replayDone { openZones := [{ vol := 32, zone := 0, wp := 0, cap := 0 }] }, .busSwitchOff 3] : List Instr).all (fun i => !i.wf) = true := by decide

theorem test_ill_formed_vault_and_motion : ([
   .vaultBlockRetire 2 0, .vaultBlockRetire 0 8, .vaultChannelFailed 8 0, .vaultChannelFailed 0 4, .preampFault 0 1024,
   .preampFrameEnd 0 { cycles := 27 }, .clkLockLost 0 0 false false, .clkLockLost 0 4 false false, .servoWedgeSample 0 { wedge := 640 },
   .srvEngineFault 0 0 0, .srvEngineFault 0 8 0, .srvEngineFault 0 1 2, .spindleUnderspeed 0 4500, .takeIssue 0 { now := 0, ages := [1] } 32768, .headLoaded 0 [] {} [] [] 1024,
   .decodeAttemptDone 0 0 0 {}, .decodeAttemptDone 0 0 1 { finding := 3 }, .tablesReady 0 { reads := [{ burst := 1 }] }, .tsqCycle 0 { micro := 3 },
   .tsqCycle 0 { nano := 3 }, .sectorEncode { mu := 0, reads := [{ burst := 1 }] },
   .assistMonitorRead 0 4096 true, .converterSwap 64, .converterSparePeriod 64 true, .sensorReading 16 none,
    .governorEval 0 101] : List Instr).all (fun i => !i.wf) = true := by decide

theorem test_ill_formed_host : ([
   .portClaim 0 256, .taskPacket 0 256 [], .taskPacket 0 0 (List.replicate 65 0), .portTagCountWrite 0 256 0,
   .portTagCountWrite 0 0 (2 ^ 32), .cqEnable 0 256 1#32, .cqEnable 0 0 0#32, .cqDisable 0 256 0#32, .cqDisable 0 0 1#32,
   .cqHeadWrite 0 256 0, .cqHeadWrite 0 0 (2 ^ 32), .registerWrite 0 (2 ^ 26) [0#32] true, .registerWrite 0 0 [] true,
   .hostMemoryError 0 (2 ^ 64) 0, .hostMemoryError 0 0 27, .cqPost 0 256, .coalesceTimer 0 256, .eventNoticePost 0 256, .linkTrained 0 0 1,
    .linkTrained 0 6 1, .linkTrained 0 1 3, .aerCorrectable 0 16, .bar0WriteDiscard 0 27 0 [], .bar0WriteDiscard 0 0 (2 ^ 26) []] : List Instr).all (fun i => !i.wf) = true := by decide

theorem test_ill_formed_buffer_and_faults : ([
   .cacheFillComplete (2 ^ 22), .bufScrubStep { source := 2 ^ 30 } (List.replicate 8 0) .none, .bufScrubStep {} [] .none,
   .readEgressDone { tag := 0, reads := [{ burst := 1 }] },
   .sramScrub 0 0 0 0 true [], .sramScrub 21 0 0 0 true [], .sramScrub 1 32 0 0 true [], .sramScrub 1 0 0 (2 ^ 32) true [], .handshakeStall 0 0 1 0 0,
   .handshakeStall 21 0 1 0 0, .handshakeStall 1 32 1 0 0, .handshakeStall 1 0 0 0 0, .handshakeStall 1 0 21 0 0,
   .handshakeStall 1 0 1 32 0, .handshakeStall 1 0 1 0 4, .mgtHang 4 .none, .mgtLoadPublish 101, .latentTest 0 1 0 0 true,
    .latentTest 10 1 0 0 true, .latentTest 1 0 0 0 true, .latentTest 1 21 0 0 true, .latentTest 1 1 32 0 true] : List Instr).all (fun i => !i.wf) = true := by decide

theorem test_ill_formed_management_bus : ([
   .doeRequest 0 0 [], .spdmGetVersion 0 [], .spdmGetCapabilities 0 [], .spdmNegotiateAlgorithms 0 [], .spdmGetDigests 0 [],
   .spdmGetCertificate 0 [], .spdmChallenge 0 [] true, .spdmGetMeasurements 0 [] true, .spdmChunkGet 0 [], .spdmRespondIfReady 0 [],
   .spdmUnsupported 0 [], .mctpSetEndpointId 32 0 1, .mctpSetEndpointId 0 4 1, .mctpSetEndpointId 0 0 256, .mctpGetEndpointId 32,
   .mctpGetVersionSupport 32 0, .mctpGetVersionSupport 0 256, .mctpGetMessageTypeSupport 32, .ohmithRegisterRead (2 ^ 32) 1,
    .ohmithRegisterRead 0 (2 ^ 32), .ohmithTaskPacket []] : List Instr).all (fun i => !i.wf) = true := by decide

theorem test_ill_formed_tokens : ([
   .cacheCtlInvalidateRange 0 [1], .setFeature 0 [1], .clearLog 0 [1], .attestQuote 0 [], .calibrateCalref 0 [1],
   .calibrateChannel 0 [1] [], .calibrateChannel 0 [] [(0, [])], .calibrateStore 0 [1], .keyMgmtCreate 0 [1], .keyMgmtUnlock 0 [1],
   .keyMgmtErase 0 [1], .keyMgmtEnrolCustodian 0 [1] [], .keyMgmtRemoveCustodian 0 [1], .keyMgmtEnrolMakerKey 0 [1] [],
    .keyMgmtRemoveMakerKey 0 [1], .servoTuneReplace 0 [1] [], .volumeCtlFormat 0 [1] [] ([], [])] : List Instr).all (fun i => !i.wf) = true := by decide


/-- Data too long for its command. -/
theorem test_ill_formed_images (d : List Byte) (h : 16777216 < d.length) : (.fwDownloadPart 0 d : Instr).wf = false ∧
    (.microcodeLoadLoad 0 d : Instr).wf = false := by
  simp [Instr.wf, h]

theorem test_ill_formed_enrolments_and_tables (d : List Byte) (h : 16777216 < d.length) : (.keyMgmtEnrolCustodian 0 [] d : Instr).wf = false ∧
    (.keyMgmtEnrolMakerKey 0 [] d : Instr).wf = false ∧
    (.servoTuneReplace 0 [] d : Instr).wf = false := by
  simp [Instr.wf, h]

theorem test_ill_formed_long_requests (d : List Byte) (h : 8184 < d.length) : (.doeRequest 0 0 d : Instr).wf = false ∧
    (.spdmGetVersion 0 d : Instr).wf = false ∧
    (.spdmGetCapabilities 0 d : Instr).wf = false ∧
    (.spdmNegotiateAlgorithms 0 d : Instr).wf = false ∧
    (.spdmGetDigests 0 d : Instr).wf = false ∧
    (.spdmGetCertificate 0 d : Instr).wf = false ∧
    (.spdmChunkGet 0 d : Instr).wf = false ∧
    (.spdmRespondIfReady 0 d : Instr).wf = false ∧
    (.spdmUnsupported 0 d : Instr).wf = false ∧
    (.spdmChallenge 0 d true : Instr).wf = false ∧
    (.spdmGetMeasurements 0 d true : Instr).wf = false := by
  simp [Instr.wf, h]

/-! ### Worked examples of the spec -/

/-- The aged bank and the bank after a dump (R84, R88, R615). -/
theorem test_usable_energy : usableEnergy 5000 1900 800 = 1681 ∧ energyBound 1681 = 75 ∧ usableEnergy 2871 2800 200 = 644 ∧ energyBound 644 = 24
    ∧ usableEnergy 2870 2800 200 < 644 := by decide

/-- One failed channel, 30 GiB erased (R496). -/
theorem test_vault_bound : rateTerm 75 7 = 65 ∧ capTerm 7680 = 116 ∧ vaultBound 7680 75 7 = 65 := by decide

/-- The burst that holds 0xE_A800_1234 (R457). -/
theorem test_buffer_place : bufPlace 0xEA8001234 = { sc := 7, bg := 4, ba := 3, col := 0, row := 0xEA80 } := by decide

/-- The message of the off-track cut on MU 7 (R543). -/
theorem test_fault_message : mkMsg 11 7 1 0x12345678 = 0x58E0D00012345678#64 := by decide

/-- Sectors of a track and tracks of a band in the outermost rate zone (R146, R167). -/
theorem test_sectors_per_track : sptOf 62500 = 936 ∧ btrkOf 936 = 71 := by decide +kernel

/-- The delays at the outermost and innermost legal rates (R221, R222). -/
theorem test_write_delays : wddOf 1800 (rate480 80000000 28800) = 8 * 64 + 41 ∧ wddOf 1800 (rate480 32000000 19200) = 2 * 64 + 19
    ∧ ceilSymbols 12 (rate480 80000000 28800) = 58 ∧ ceilSymbols 12 (rate480 32000000 19200) = 16
    ∧ bridgeOf (rate480 80000000 28800) = 8640 ∧ bridgeOf (rate480 32000000 19200) = 2304 := by decide

/-- HTR_WR 420 at 52.5 °C (R230). -/
theorem test_heater_code : heaterCode 500 420 (-24) 840 40 0 = 401 := by decide

/-- The CRC's usual check value: the digits 1 to 9 (R357 names the polynomial). -/
theorem test_crc32c : crc32c [0x31, 0x32, 0x33, 0x34, 0x35, 0x36, 0x37, 0x38, 0x39] = 0xE3069283#32 := by decide +kernel

/-- The packet of the servo measurement (R356, R424). -/
theorem test_servo_tune_packet :
    let p := parsePacket ([0x2F, 0, 0x41, 0x01, 0x06, 0, 0x05, 0] ++ List.replicate 12 0 ++ [1, 0, 0, 0] ++ List.replicate 16 0
      ++ [1, 0, 0, 0, 0, 4, 0x9A, 1, 2, 3, 9, 4, 0, 0, 0, 8] ++ List.replicate 8 0)
    p.opc = 0x2F ∧ p.tag = 0x141 ∧ p.vol = 6 ∧ p.cqid = 5 ∧ p.p0 = 1
      ∧ tuneOf 0x141 6 p = { cmd := some 0x141, act := 0, point := 1, mode := 0, f := 1024, a := 410, d := 1, settle := 2048, chans := [2, 3, 9, 4], prbsHold := 1 } := by
  decide +kernel

end Sys2Proof.Tests
end

section
/-! PROOF. What every function of the model keeps: the queue, SVN_MIN, the fuses of revoked keys and the canonical form of the stores
(`Keeps`, Laws/Ops). One lemma for each function from states to states, in the order of the model, and one for each row's meaning; the
proof of a lemma follows the function's text, call by call. -/

namespace Sys2Proof.Machine

variable {s₀ s : State}

/-! ### Changes outside and inside the stores -/

theorem State.keeps (s : State) : Keeps s s := Keeps.refl s

/-- A change outside all that `Keeps` reads. `by rfl`, where a proof gives `e` so, waits until the changed state is known. -/
theorem Keeps.outside {t : State} (hs : Keeps s₀ s)
    (e : (t.pending, t.nor.svnMin, t.nor.revoked, t.nor.ctr, t.tags, t.cmds, t.cqs, t.eps, t.hdas, t.mus, t.ctr) =
      (s.pending, s.nor.svnMin, s.nor.revoked, s.nor.ctr, s.tags, s.cmds, s.cqs, s.eps, s.hdas, s.mus, s.ctr)) : Keeps s₀ t := by
  simp only [Prod.mk.injEq] at e
  obtain ⟨pending, svn, revoked, saved, tags, cmds, cqs, eps, hdas, mus, ctr⟩ := e
  exact hs.trans (.of_same pending svn revoked saved tags cmds cqs eps hdas mus ctr)

/-- A change of NOR that leaves SVN_MIN, the fuses and the copy of the counters. -/
theorem Keeps.withNor (hs : Keeps s₀ s) {x : Nor} (e : (x.svnMin, x.revoked, x.ctr) = (s.nor.svnMin, s.nor.revoked, s.nor.ctr)) :
    Keeps s₀ { s with nor := x } := by
  simp only [Prod.mk.injEq] at e
  obtain ⟨svn, revoked, saved⟩ := e
  exact hs.trans (.of_same rfl svn revoked saved rfl rfl rfl rfl rfl rfl rfl)

theorem Keeps.withTime (hs : Keeps s₀ s) {x} : Keeps s₀ { s with time := x } := hs.outside rfl
theorem Keeps.withFlt (hs : Keeps s₀ s) {x} : Keeps s₀ { s with flt := x } := hs.outside rfl
theorem Keeps.withLog (hs : Keeps s₀ s) {x} : Keeps s₀ { s with log := x } := hs.outside rfl
theorem Keeps.withThp (hs : Keeps s₀ s) {x} : Keeps s₀ { s with thp := x } := hs.outside rfl
theorem Keeps.withPwr (hs : Keeps s₀ s) {x} : Keeps s₀ { s with pwr := x } := hs.outside rfl
theorem Keeps.withMns (hs : Keeps s₀ s) {x} : Keeps s₀ { s with mns := x } := hs.outside rfl
theorem Keeps.withCal (hs : Keeps s₀ s) {x} : Keeps s₀ { s with cal := x } := hs.outside rfl
theorem Keeps.withStart (hs : Keeps s₀ s) {x} : Keeps s₀ { s with start := x } := hs.outside rfl
theorem Keeps.withStore (hs : Keeps s₀ s) {x} : Keeps s₀ { s with store := x } := hs.outside rfl
theorem Keeps.withLdp (hs : Keeps s₀ s) {x} : Keeps s₀ { s with ldp := x } := hs.outside rfl
theorem Keeps.withFeat (hs : Keeps s₀ s) {x} : Keeps s₀ { s with feat := x } := hs.outside rfl
theorem Keeps.withMctpEid (hs : Keeps s₀ s) {x} : Keeps s₀ { s with mctpEid := x } := hs.outside rfl
theorem Keeps.withAlert (hs : Keeps s₀ s) {x} : Keeps s₀ { s with alert := x } := hs.outside rfl
theorem Keeps.withMgt (hs : Keeps s₀ s) {x} : Keeps s₀ { s with mgt := x } := hs.outside rfl
theorem Keeps.withBuf (hs : Keeps s₀ s) {x} : Keeps s₀ { s with buf := x } := hs.outside rfl
theorem Keeps.withBca (hs : Keeps s₀ s) {x} : Keeps s₀ { s with bca := x } := hs.outside rfl
theorem Keeps.withVlt (hs : Keeps s₀ s) {x} : Keeps s₀ { s with vlt := x } := hs.outside rfl
theorem Keeps.withSec (hs : Keeps s₀ s) {x} : Keeps s₀ { s with sec := x } := hs.outside rfl

theorem canonical_iff (s : State) : s.canonical = true ↔
    swf {} s.tags = true ∧ swf {} s.cmds = true ∧ swf {} s.cqs = true ∧ swf {} s.eps = true ∧ swf {} s.hdas = true ∧ swf {} s.mus = true ∧
    swf {} s.ctr = true ∧ swf {} s.nor.ctr = true := by
  simp [State.canonical, and_assoc]

/-- A change of stores, with NOR and the queue as they were, that leaves each store canonical. -/
theorem Keeps.stores {t : State} (pending : t.pending = s.pending) (nor : t.nor = s.nor)
    (tags : swf {} s.tags = true → swf {} t.tags = true) (cmds : swf {} s.cmds = true → swf {} t.cmds = true)
    (cqs : swf {} s.cqs = true → swf {} t.cqs = true) (eps : swf {} s.eps = true → swf {} t.eps = true)
    (hdas : swf {} s.hdas = true → swf {} t.hdas = true) (mus : swf {} s.mus = true → swf {} t.mus = true)
    (ctr : swf {} s.ctr = true → swf {} t.ctr = true) : Keeps s t := by
  refine ⟨pending, nor ▸ Nat.le_refl _, fun _ h => nor ▸ h, fun c => ?_⟩
  rw [canonical_iff] at c ⊢
  obtain ⟨h1, h2, h3, h4, h5, h6, h7, h8⟩ := c
  exact ⟨tags h1, cmds h2, cqs h3, eps h4, hdas h5, mus h6, ctr h7, nor ▸ h8⟩

theorem Keeps.setCmd (hs : Keeps s₀ s) {t c} : Keeps s₀ { s with cmds := sset s.cmds t c {} } :=
  hs.trans (.stores rfl rfl id (swf_sset _ _ _ _) id id id id id)

theorem Keeps.clearCtrs (hs : Keeps s₀ s) {p} : Keeps s₀ { s with ctr := sdrop s.ctr p } :=
  hs.trans (.stores rfl rfl id id id id id id (swf_sdrop _ _ _))

/-- The state in a pair, under the name that a match gives it. -/
theorem Keeps.of_fst {α : Type} {p : State × α} {t x} (h : Keeps s₀ p.1) (e : p = (t, x)) : Keeps s₀ t := by rwa [e] at h

theorem Keeps.of_snd {α : Type} {p : α × State} {t x} (h : Keeps s₀ p.2) (e : p = (x, t)) : Keeps s₀ t := by rwa [e] at h

theorem Keeps.fold {α : Type} {f : State → α → State} {l : List α} (hs : Keeps s₀ s) (hf : ∀ s a, Keeps s₀ s → Keeps s₀ (f s a)) :
    Keeps s₀ (l.foldl f s) := by
  induction l generalizing s with
  | nil => exact hs
  | cons a r ih => exact ih (hf _ _ hs)

/-! ### Answers -/

/-- A command's outcome is a next state, and it keeps what every operation keeps. -/
def Answers (s : State) (o : Out) : Prop := ∃ t, o = .next t ∧ Keeps s t

theorem Answers.next {t} (h : Keeps s t) : Answers s (.next t) := ⟨t, rfl, h⟩

theorem Answers.guarded {c t} (h : Keeps s t) : Answers s (guarded c s t) := ⟨_, rfl, h.guarded rfl⟩

theorem Answers.unheld {c t} (h : Keeps s t) : Answers s (unheld c s t) := ⟨_, rfl, h.unheld rfl⟩

theorem Answers.detected {c stop t} (h : Keeps s t) : Answers s (detected c stop s t) :=
  ⟨_, rfl, Keeps.ite (h.ite (hold_keeps s h)) s.keeps⟩

theorem Answers.ite {c : Prop} [Decidable c] {o u : Out} (h : Answers s o) (k : Answers s u) : Answers s (if c then o else u) := by
  split
  · exact h
  · exact k

/-! ### The named operations over the state (Machine/Ops) -/

theorem Keeps.updHda (hs : Keeps s₀ s) {h f} : Keeps s₀ (s.updHda h f) := hs.trans (updHda_keeps s _ _)
theorem Keeps.updMu (hs : Keeps s₀ s) {m f} : Keeps s₀ (s.updMu m f) := hs.trans (updMu_keeps s _ _)
theorem Keeps.updEp (hs : Keeps s₀ s) {e f} : Keeps s₀ (s.updEp e f) := hs.trans (updEp_keeps s _ _)
theorem Keeps.updCmd (hs : Keeps s₀ s) {t f} : Keeps s₀ (s.updCmd t f) := hs.trans (updCmd_keeps s _ _)
theorem Keeps.setTag (hs : Keeps s₀ s) {t r} : Keeps s₀ (s.setTag t r) := hs.trans (setTag_keeps s _ _)
theorem Keeps.updCq (hs : Keeps s₀ s) {q f} : Keeps s₀ (s.updCq q f) := hs.trans (updCq_keeps s _ _)
theorem Keeps.updPort (hs : Keeps s₀ s) {m f} : Keeps s₀ (s.updPort m f) := hs.trans (updPort_keeps s _ _)
theorem Keeps.updZone (hs : Keeps s₀ s) {v z f} : Keeps s₀ (s.updZone v z f) := hs.trans (updZone_keeps s _ _ _)
theorem Keeps.draw (hs : Keeps s₀ s) : Keeps s₀ s.draw.2 := hs.trans (draw_keeps s)
theorem Keeps.emit (hs : Keeps s₀ s) {o} : Keeps s₀ (s.emit o) := hs.trans (emit_keeps s _)
theorem Keeps.offerRaw (hs : Keeps s₀ s) {e} : Keeps s₀ (s.offerRaw e) := hs.trans (offerRaw_keeps s _)
theorem Keeps.bumpRaw (hs : Keeps s₀ s) {a w n} : Keeps s₀ (s.bumpRaw a w n) := hs.trans (bumpRaw_keeps s _ _ _)
theorem Keeps.pressure (hs : Keeps s₀ s) : Keeps s₀ s.pressure := hs.trans (pressure_keeps s)
theorem Keeps.offer (hs : Keeps s₀ s) {e} : Keeps s₀ (s.offer e) := hs.trans (offer_keeps s _)
theorem Keeps.bumpW (hs : Keeps s₀ s) {sub inst a w n} : Keeps s₀ (s.bumpW sub inst a w n) := hs.trans (bumpW_keeps s _ _ _ _ _)
theorem Keeps.bump (hs : Keeps s₀ s) {sub inst a n} : Keeps s₀ (s.bump sub inst a n) := hs.trans (bump_keeps s _ _ _ _)
theorem Keeps.raise (hs : Keeps s₀ s) {sub inst k a} : Keeps s₀ (s.raise sub inst k a) := hs.trans (raise_keeps s _ _ _ _)
theorem Keeps.latentFail (hs : Keeps s₀ s) {sub inst t part} : Keeps s₀ (s.latentFail sub inst t part) := hs.trans (latentFail_keeps s _ _ _ _)
theorem Keeps.latentPass (hs : Keeps s₀ s) {t} : Keeps s₀ (s.latentPass t) := hs.trans (latentPass_keeps s _)
theorem Keeps.logQueue (hs : Keeps s₀ s) {r} : Keeps s₀ (s.logQueue r) := hs.trans (logQueue_keeps s _)
theorem Keeps.logMark (hs : Keeps s₀ s) {r} : Keeps s₀ (s.logMark r) := hs.trans (logMark_keeps s _)
theorem Keeps.noticeTo (hs : Keeps s₀ s) {e l} : Keeps s₀ (s.noticeTo e l) := hs.trans (noticeTo_keeps s _ _)
theorem Keeps.notice (hs : Keeps s₀ s) {scope code r0 r1 r2 status defer} : Keeps s₀ (s.notice scope code r0 r1 r2 status defer) := hs.trans (notice_keeps s _ _ _ _ _ _ _)
theorem Keeps.post (hs : Keeps s₀ s) {t q port r} : Keeps s₀ (s.post t q port r) := hs.trans (post_keeps s _ _ _ _)
theorem Keeps.complete (hs : Keeps s₀ s) {t r} : Keeps s₀ (s.complete t r) := hs.trans (complete_keeps s _ _)
theorem Keeps.setPhase (hs : Keeps s₀ s) {t p} : Keeps s₀ (s.setPhase t p) := hs.trans (setPhase_keeps s _ _)
theorem Keeps.settleWakeN (hs : Keeps s₀ s) : Keeps s₀ s.settleWakeN := hs.withMns
theorem Keeps.fireWake (hs : Keeps s₀ s) {src} : Keeps s₀ (s.fireWake src) := hs.trans (fireWake_keeps s _)

/-! ### Task ports, tags, completion queues, interrupts and event queues (Machine/Ports) -/

theorem Answers.barServed {e c t} (h : Keeps s t) : Answers s (s.barServed e c t) := .guarded (h.ite s.keeps.emit)

theorem Keeps.grant (hs : Keeps s₀ s) {m x} : Keeps s₀ (s.grant m x) := by
  unfold State.grant
  split
  · exact hs
  · exact hs.updPort.setTag

theorem execPortClaim_answers {ep port} : Answers s (execPortClaim ep port s) := .barServed s.keeps.grant.emit
theorem Keeps.writeTagCount (hs : Keeps s₀ s) {e m count} : Keeps s₀ (s.writeTagCount e m count) := hs.updPort.ite hs.updPort

theorem execPortTagCountWrite_answers {ep port value} : Answers s (execPortTagCountWrite ep port value s) :=
  .barServed s.keeps.writeTagCount

theorem Keeps.writeDisable (hs : Keeps s₀ s) {e q ctl} : Keeps s₀ (s.writeDisable e q ctl) := hs.updCq.ite (hs.updCq.ite hs.updCq.updEp)
theorem Keeps.writeCqCtl (hs : Keeps s₀ s) {e q ctl} : Keeps s₀ (s.writeCqCtl e q ctl) := hs.updCq.ite hs.writeDisable
theorem execCqEnable_answers {ep queue ctl} : Answers s (execCqEnable ep queue ctl s) := .barServed s.keeps.writeCqCtl
theorem execCqDisable_answers {ep queue ctl} : Answers s (execCqDisable ep queue ctl s) := .barServed s.keeps.writeCqCtl

theorem Keeps.freeTags (hs : Keeps s₀ s) {l} : Keeps s₀ (s.freeTags l) := by
  induction l generalizing s with
  | nil => exact hs
  | cons x r ih =>
    cases x with
    | none => exact ih hs
    | some x => exact ih hs.setTag.updPort

theorem Keeps.writeHead (hs : Keeps s₀ s) {e q v} : Keeps s₀ (s.writeHead e q v) := hs.updCq.freeTags.ite hs.updCq.raise
theorem execCqHeadWrite_answers {ep queue value} : Answers s (execCqHeadWrite ep queue value s) := .barServed s.keeps.writeHead
theorem Keeps.msixOut (hs : Keeps s₀ s) {e v} : Keeps s₀ (s.msixOut e v) := hs.emit.bump
theorem Keeps.msixDue (hs : Keeps s₀ s) {e v} : Keeps s₀ (s.msixDue e v) := hs.updEp.ite hs.msixOut

theorem Keeps.msixFlush (hs : Keeps s₀ s) {e l} : Keeps s₀ (s.msixFlush e l) := by
  induction l generalizing s with
  | nil => exact hs
  | cons _ _ ih => exact ih (hs.ite hs.updEp.msixOut)

theorem Keeps.msixRelease (hs : Keeps s₀ s) {e} : Keeps s₀ (s.msixRelease e) := hs.msixFlush.ite hs
theorem Keeps.afterPost (hs : Keeps s₀ s) {e m imm} : Keeps s₀ (s.afterPost e m imm) := hs.updCq.msixDue.ite hs.updCq
theorem Keeps.writeEntry (hs : Keeps s₀ s) {e m x h} : Keeps s₀ (s.writeEntry e m x h) := hs.emit.updCq.afterPost

theorem execCqPost_answers {ep queue} : Answers s (execCqPost ep queue s) := by
  unfold execCqPost
  extract_lets
  split
  · exact .next s.keeps
  · exact .guarded s.keeps.updCq.writeEntry

theorem execCoalesceTimer_answers {ep queue} : Answers s (execCoalesceTimer ep queue s) := .guarded s.keeps.updCq.msixDue

theorem execEventNoticePost_answers {ep queue} : Answers s (execEventNoticePost ep queue s) := by
  unfold execEventNoticePost
  extract_lets
  split
  · exact .guarded s.keeps.updCq.writeEntry
  · split
    · exact .next s.keeps
    · exact .guarded s.keeps.updCq.writeEntry

/-! ### The buffer cache, write staging, the cutting room and the preserved dirty index (Machine/Cache) -/

theorem Keeps.updLine (hs : Keeps s₀ s) {k f} : Keeps s₀ (s.updLine k f) := hs.withBca
theorem Keeps.evict (hs : Keeps s₀ s) {k} : Keeps s₀ (s.evict k) := hs.withBca.ite hs

theorem Keeps.allocate (hs : Keeps s₀ s) {v b cls write} : Keeps s₀ (s.allocate v b cls write).2 := by
  unfold State.allocate
  extract_lets
  split
  · exact hs
  · exact (hs.evict.withBca.bump.ite hs.evict).withBca

theorem Keeps.touch (hs : Keeps s₀ s) {k} : Keeps s₀ (s.touch k) := hs.withBca
theorem Keeps.cutDrop (hs : Keeps s₀ s) {v b} : Keeps s₀ (s.cutDrop v b) := hs.withBca
theorem Keeps.wroteSector (hs : Keeps s₀ s) {k i marks} : Keeps s₀ (s.wroteSector k i marks) := hs.withBuf
theorem Keeps.wroteLine (hs : Keeps s₀ s) {k data} : Keeps s₀ (s.wroteLine k data) := hs.fold fun _ _ hs => hs.wroteSector

theorem Keeps.recall (hs : Keeps s₀ s) {v b i cls} : Keeps s₀ (s.recall v b i cls) := by
  unfold State.recall
  split
  · exact hs
  · split
    · exact hs
    · split
      · exact hs
      · next e => exact (hs.cutDrop.allocate.of_snd e).wroteLine.updLine.bump

theorem Keeps.undirty (hs : Keeps s₀ s) {k keep} : Keeps s₀ (s.undirty k keep) := by
  unfold State.undirty
  extract_lets
  split
  · exact hs.withBca
  · exact hs.withBca.updLine

theorem Keeps.undirtyAll (hs : Keeps s₀ s) {keep l} : Keeps s₀ (s.undirtyAll keep l) := by
  induction l generalizing s with
  | nil => exact hs
  | cons _ _ ih => exact ih hs.undirty

theorem Keeps.onMediumReport (hs : Keeps s₀ s) {k} : Keeps s₀ (s.onMediumReport k) := hs.withBca.ite hs.undirty
theorem Keeps.markDirty (hs : Keeps s₀ s) {k staged d seq} : Keeps s₀ (s.markDirty k staged d seq) := hs.withBca
theorem Keeps.bypassLine (hs : Keeps s₀ s) {v lba} : Keeps s₀ (s.bypassLine v lba) := hs.withBca.bump
theorem Keeps.wroteOutside (hs : Keeps s₀ s) {k} : Keeps s₀ (s.wroteOutside k) := hs.withBuf
theorem Keeps.cutDropOn (hs : Keeps s₀ s) {v b} : Keeps s₀ (s.cutDropOn v b) := hs.cutDrop.ite hs
theorem Keeps.placeStaged (hs : Keeps s₀ s) {v lba d seq} : Keeps s₀ (s.placeStaged v lba d seq) := hs.bypassLine.cutDropOn.wroteOutside.markDirty

theorem Keeps.placeLineAs (hs : Keeps s₀ s) {cls v lba d seq} : Keeps s₀ (s.placeLineAs cls v lba d seq) := by
  unfold State.placeLineAs
  extract_lets
  split
  · exact hs.cutDrop.wroteSector.updLine.touch.markDirty
  · split
    · next e => exact (hs.cutDrop.allocate.of_snd e).wroteSector.updLine.touch.markDirty
    · next e => exact (hs.cutDrop.allocate.of_snd e).bump.markDirty

theorem Keeps.reserveLine (hs : Keeps s₀ s) {t v lba} : Keeps s₀ (s.reserveLine t v lba) := by
  unfold State.reserveLine
  extract_lets
  split
  · exact hs
  · split
    · exact hs.wroteSector.updLine
    · split
      · exact hs.bump
      · split
        · next e => exact (hs.allocate.of_snd e).wroteSector.updLine
        · next e => exact (hs.allocate.of_snd e).bump

theorem Keeps.reserveLines (hs : Keeps s₀ s) {t v n lba} : Keeps s₀ (s.reserveLines t v n lba) := by
  induction n generalizing s lba with
  | zero => exact hs
  | succ n ih => exact ih hs.reserveLine

theorem Keeps.commitLine (hs : Keeps s₀ s) {k v lba d seq} : Keeps s₀ (s.commitLine k v lba d seq) := hs.cutDrop.updLine.touch.markDirty

theorem Keeps.placeSector (hs : Keeps s₀ s) {t v lba d seq} : Keeps s₀ (s.placeSector t v lba d seq) := by
  unfold State.placeSector
  split
  · exact hs.commitLine.ite hs.placeStaged
  · exact hs.placeStaged

theorem Keeps.placeAll (hs : Keeps s₀ s) {t v lba seq l} : Keeps s₀ (s.placeAll t v lba seq l) := by
  induction l generalizing s lba with
  | nil => exact hs
  | cons _ _ ih => exact ih hs.placeSector

theorem Keeps.dropWriter (hs : Keeps s₀ s) {t} : Keeps s₀ (s.dropWriter t) := hs.trans (dropWriter_keeps s _)
theorem Keeps.invalidateLines (hs : Keeps s₀ s) {p} : Keeps s₀ (s.invalidateLines p) := hs.withBca.bump
theorem Keeps.bypassed (hs : Keeps s₀ s) : Keeps s₀ s.bypassed := hs.ite hs.withBca.bump
theorem Keeps.newKey (hs : Keeps s₀ s) : Keeps s₀ s.newKey := hs.draw.draw.withBca
theorem Keeps.fillEnd (hs : Keeps s₀ s) {k} : Keeps s₀ (s.fillEnd k) := hs.updLine
theorem execCacheFillComplete_answers {frame} : Answers s (execCacheFillComplete frame s) := .guarded s.keeps.fillEnd
theorem Keeps.judgeGroup (hs : Keeps s₀ s) {g} : Keeps s₀ (s.judgeGroup g) := (hs.withBca.withBca.raise.ite hs.withBca).ite hs.withBca

theorem Keeps.judgeGroups (hs : Keeps s₀ s) {l} : Keeps s₀ (s.judgeGroups l) := by
  induction l generalizing s with
  | nil => exact hs
  | cons _ _ ih => exact ih hs.judgeGroup

theorem execCacheConflictWindow_answers : Answers s (execCacheConflictWindow s) := .guarded s.keeps.judgeGroups.withBca

theorem execRekeyPassDone_answers : Answers s (execRekeyPassDone s) := by
  unfold execRekeyPassDone
  refine .guarded ?_
  extract_lets _ s₁
  have h₁ : Keeps s s₁ := s.keeps.withBca.newKey.bump
  split
  · exact h₁.complete
  · exact h₁

/-! ### Buffer memory by address (Machine/Burst) -/

theorem Keeps.setPoison (hs : Keeps s₀ s) {a p} : Keeps s₀ (s.setPoison a p) := hs.withBuf
theorem Keeps.bufCorrected (hs : Keeps s₀ s) {a word} : Keeps s₀ (s.bufCorrected a word) := hs.raise.bump.bump.ite hs.raise.bump
theorem Keeps.bufUncorrectable (hs : Keeps s₀ s) {a} : Keeps s₀ (s.bufUncorrectable a) := hs.raise.bump

theorem Keeps.poisonBurst (hs : Keeps s₀ s) {a kind p} : Keeps s₀ (s.poisonBurst a kind p).1 :=
  hs.setPoison.raise.bump.ite hs.setPoison.bufUncorrectable

theorem Keeps.decodeWord (hs : Keeps s₀ s) {a flips p} : Keeps s₀ (s.decodeWord a flips p).1 := by
  unfold State.decodeWord
  extract_lets
  split
  · exact hs
  · split
    · exact hs.bufCorrected
    · split
      · exact hs.setPoison.bufUncorrectable
      · exact hs

theorem Keeps.decodeWords (hs : Keeps s₀ s) {a p l} : Keeps s₀ (s.decodeWords a p l).1 := by
  induction l generalizing s a p with
  | nil => exact hs
  | cons _ _ ih => exact ih hs.decodeWord

theorem Keeps.decodeBurst (hs : Keeps s₀ s) {a hmeta words p} : Keeps s₀ (s.decodeBurst a hmeta words p).1 := by
  unfold State.decodeBurst
  extract_lets
  split
  · exact hs.poisonBurst
  · split
    next t _ e =>
    have ht : Keeps s₀ t := by
      refine .of_fst ?_ e
      split
      · exact hs.bufCorrected
      · exact hs
    split
    · exact ht.poisonBurst
    · exact ht.decodeWords

theorem Keeps.poisonSector (hs : Keeps s₀ s) {k ws} : Keeps s₀ (s.poisonSector k ws) := by
  refine hs.trans (.stores rfl rfl id (fun h => ?_) id id id id id)
  unfold State.poisonSector
  dsimp only
  with_reducible exact swf_smap _ _ _ h

theorem Keeps.markHolder (hs : Keeps s₀ s) {n ws x} : Keeps s₀ (s.markHolder n ws x) := by
  unfold State.markHolder
  split
  · exact hs
  · exact hs.ite (hs.poisonSector.ite hs.poisonSector.withBuf)
  · exact hs.withSec
  · exact hs.updMu

theorem Keeps.readBurst (hs : Keeps s₀ s) {b p} : Keeps s₀ (s.readBurst b p).1 := hs.decodeBurst.markHolder
theorem Keeps.readBursts (hs : Keeps s₀ s) {l} : Keeps s₀ (s.readBursts l) := hs.fold fun _ _ hs => hs.readBurst

theorem Keeps.bufWrite (hs : Keeps s₀ s) {a bs flips} : Keeps s₀ (s.bufWrite a bs flips) :=
  hs.withBuf.setPoison.ite (hs.withBuf.bump.ite (hs.withBuf.bufCorrected.ite (hs.withBuf.setPoison.bufUncorrectable.ite hs.withBuf)))

theorem Keeps.filled (hs : Keeps s₀ s) {cold} : Keeps s₀ (s.filled cold) := hs.withBuf

/-! ### The work of commands and of destage as it ends (Machine/Work) -/

theorem Keeps.settleFuaOf (hs : Keeps s₀ s) {l} : Keeps s₀ (s.settleFuaOf l) := by
  induction l generalizing s with
  | nil => exact hs
  | cons _ _ ih => exact ih (hs.complete.ite hs)

theorem Keeps.settleFua (hs : Keeps s₀ s) : Keeps s₀ s.settleFua := hs.settleFuaOf

theorem Keeps.noteLossOf (hs : Keeps s₀ s) {z ks l} : Keeps s₀ (s.noteLossOf z ks l) := by
  induction l generalizing s with
  | nil => exact hs
  | cons _ _ ih => exact ih hs.updCmd

theorem Keeps.startFill (hs : Keeps s₀ s) {t v lba} : Keeps s₀ (s.startFill t v lba) := by
  unfold State.startFill
  extract_lets
  split
  · exact hs
  · split
    · exact hs.updLine
    · split
      · exact hs
      · split
        · next e => exact (hs.allocate.of_snd e).updLine
        · next e => exact hs.allocate.of_snd e

theorem Keeps.resumeWaits (hs : Keeps s₀ s) {v lba l} : Keeps s₀ (s.resumeWaits v lba l) := by
  induction l generalizing s with
  | nil => exact hs
  | cons _ _ ih => exact ih ((hs.updCmd.startFill.ite hs.updCmd).ite hs)

theorem Keeps.resumeReads (hs : Keeps s₀ s) {ks} : Keeps s₀ (s.resumeReads ks) := hs.fold fun _ _ hs => hs.resumeWaits

theorem Keeps.deferErrorAs (hs : Keeps s₀ s) {conv v z lba count cause} : Keeps s₀ (s.deferErrorAs conv v z lba count cause) :=
  hs.updZone.raise.notice

theorem Keeps.deferError (hs : Keeps s₀ s) {v z lba count cause} : Keeps s₀ (s.deferError v z lba count cause) := hs.deferErrorAs

theorem Keeps.lose (hs : Keeps s₀ s) {v z cause ks} : Keeps s₀ (s.lose v z cause ks) := by
  unfold State.lose
  split
  · exact hs
  · exact hs.noteLossOf.undirtyAll.deferError.settleFua.resumeReads

theorem Keeps.loseZones (hs : Keeps s₀ s) {v cause l} : Keeps s₀ (s.loseZones v cause l) := by
  induction l generalizing s with
  | nil => exact hs
  | cons _ _ ih => exact ih hs.lose

theorem Keeps.forget (hs : Keeps s₀ s) {t} : Keeps s₀ (s.forget t) := hs.trans (forget_keeps s _)
theorem Keeps.unwrite (hs : Keeps s₀ s) {t} : Keeps s₀ (s.unwrite t) := hs.trans (unwrite_keeps s _)
theorem Keeps.letGo (hs : Keeps s₀ s) {t} : Keeps s₀ (s.letGo t) := hs.trans (letGo_keeps s _)
theorem Keeps.endWith (hs : Keeps s₀ s) {t r} : Keeps s₀ (s.endWith t r) := hs.trans (endWith_keeps s _ _)
theorem Keeps.orphaned (hs : Keeps s₀ s) {t} : Keeps s₀ (s.orphaned t) := hs.trans (orphaned_keeps s _)
theorem Keeps.adopt (hs : Keeps s₀ s) {c} : Keeps s₀ (s.adopt c) := hs.withMgt
theorem Keeps.discard (hs : Keeps s₀ s) {t} : Keeps s₀ (s.discard t) := hs.trans (discard_keeps s _)

theorem Keeps.discardAll (hs : Keeps s₀ s) {l} : Keeps s₀ (s.discardAll l) := by
  induction l generalizing s with
  | nil => exact hs
  | cons _ _ ih => exact ih hs.discard

theorem Keeps.endAll (hs : Keeps s₀ s) {r l} : Keeps s₀ (s.endAll r l) := by
  induction l generalizing s with
  | nil => exact hs
  | cons _ _ ih => exact ih hs.endWith

theorem Keeps.endLost (hs : Keeps s₀ s) {l} : Keeps s₀ (s.endLost l) := by
  induction l generalizing s with
  | nil => exact hs
  | cons _ _ ih => exact ih (hs.endWith.ite hs)

theorem Keeps.invalidateVolume (hs : Keeps s₀ s) {v} : Keeps s₀ (s.invalidateVolume v) := hs.invalidateLines
theorem Keeps.invalidateZone (hs : Keeps s₀ s) {v z} : Keeps s₀ (s.invalidateZone v z) := hs.invalidateLines
theorem Keeps.scrubBegins (hs : Keeps s₀ s) {t} : Keeps s₀ (s.scrubBegins t) := hs.withMgt
theorem Keeps.keepScrubPage (hs : Keeps s₀ s) {c aborted} : Keeps s₀ (s.keepScrubPage c aborted) := hs.withMgt.ite hs
theorem Keeps.scrubAborted (hs : Keeps s₀ s) {t} : Keeps s₀ (s.scrubAborted t) := hs.keepScrubPage.ite hs

/-! ### From the task packet to the disposal of a command (Machine/Intake) -/

theorem Keeps.refusePacket (hs : Keeps s₀ s) {e port tag reason} : Keeps s₀ (s.refusePacket e port tag reason) := hs.updPort.bumpW.raise
theorem Keeps.refuseToPort (hs : Keeps s₀ s) {e port tag status} : Keeps s₀ (s.refuseToPort e port tag status) := hs.post.ite hs.refusePacket
theorem Keeps.acceptPacket (hs : Keeps s₀ s) {e m p} : Keeps s₀ (s.acceptPacket e m p) := (hs.setTag.setCmd.outside (by rfl)).fireWake

theorem Keeps.taskWrite (hs : Keeps s₀ s) {e port bs} : Keeps s₀ (s.taskWrite e port bs) := by
  unfold State.taskWrite
  extract_lets
  split
  · exact hs.refusePacket
  · split
    · exact hs.refusePacket
    · split
      · exact hs.refuseToPort
      · split
        · exact hs.refuseToPort
        · split
          · exact hs.post
          · split
            · exact hs.post
            · exact hs.acceptPacket

theorem Keeps.badAccess (hs : Keeps s₀ s) {e a} : Keeps s₀ (s.badAccess e a) := hs.bump.raise

theorem execTaskPacket_answers {ep port bytes} : Answers s (execTaskPacket ep port bytes s) :=
  .barServed (s.keeps.taskWrite.ite s.keeps.badAccess)

theorem execSegmentListFetched_answers {tag dataList metaList} : Answers s (execSegmentListFetched tag dataList metaList s) := by
  unfold execSegmentListFetched
  extract_lets
  refine .guarded ?_
  split
  · exact s.keeps.endWith
  · exact s.keeps.updCmd

theorem Keeps.deliverDeferred (hs : Keeps s₀ s) {t v z} : Keeps s₀ (s.deliverDeferred t v z) := by
  unfold State.deliverDeferred
  split
  · exact hs
  · exact hs.updZone.endWith

theorem Keeps.block (hs : Keeps s₀ s) {t v z x} : Keeps s₀ (s.block t v z x) := by
  unfold State.block
  split
  · exact hs.endWith
  · exact hs.deliverDeferred

theorem Keeps.takeInWrite (hs : Keeps s₀ s) {t v z append} : Keeps s₀ (s.takeInWrite t v z append) := hs.setPhase.ite hs.updZone.updCmd
theorem Keeps.takeInOther (hs : Keeps s₀ s) {t p} : Keeps s₀ (s.takeInOther t p) := hs.updCmd

theorem Keeps.takeIn (hs : Keeps s₀ s) {t} : Keeps s₀ (s.takeIn t) := by
  unfold State.takeIn
  extract_lets
  split
  · split
    · exact hs.block
    · exact hs.endWith.ite hs.setPhase
  · split
    · split
      · exact hs.block
      · exact hs.endWith.ite hs.takeInWrite
    · exact hs.takeInOther

theorem execIntake_answers {tag} : Answers s (execIntake tag s) := .guarded s.keeps.takeIn
theorem Keeps.toSch (hs : Keeps s₀ s) {t v} : Keeps s₀ (s.toSch t v) := hs.updMu.setPhase.ite hs.updMu.setPhase

theorem execOverflowToSch_answers {mu} : Answers s (execOverflowToSch mu s) := by
  unfold execOverflowToSch
  split
  · exact .next s.keeps
  · exact .guarded s.keeps.updMu.setPhase

theorem Keeps.abort (hs : Keeps s₀ s) {a t} : Keeps s₀ (s.abort a t) := hs.complete.ite (hs.complete.ite hs.scrubAborted.endWith.complete)
theorem execAbort_answers {tag} : Answers s (execAbort tag s) := .guarded s.keeps.abort

theorem execFlush_answers {tag} : Answers s (execFlush tag s) := by
  unfold execFlush
  extract_lets
  refine .guarded ?_
  split
  · exact s.keeps.complete
  · exact s.keeps.setPhase

theorem execFlushComplete_answers {tag} : Answers s (execFlushComplete tag s) := .guarded s.keeps.complete

/-! ### Reads and writes of host data (Machine/Data) -/

theorem Keeps.notePressure (hs : Keeps s₀ s) : Keeps s₀ s.notePressure := hs.fold fun _ _ hs => hs.updHda.ite hs
theorem Keeps.seePressure (hs : Keeps s₀ s) : Keeps s₀ s.seePressure := hs.notePressure.ite hs
theorem Keeps.toBudget (hs : Keeps s₀ s) {t} : Keeps s₀ (s.toBudget t) := hs.withBca.seePressure.setPhase
theorem execWrite_answers {tag} : Answers s (execWrite tag s) := .guarded s.keeps.toBudget
theorem execZoneAppend_answers {tag} : Answers s (execZoneAppend tag s) := .guarded s.keeps.toBudget

theorem execDirtyBudgetGrant_answers : Answers s (execDirtyBudgetGrant s) := by
  unfold execDirtyBudgetGrant
  split
  · exact .next s.keeps
  · exact .guarded s.keeps.seePressure.withBca.updCmd

theorem execHostDataFetchDone_answers {tag sectors metas} : Answers s (execHostDataFetchDone tag sectors metas s) :=
  .guarded s.keeps.reserveLines.updCmd

theorem Keeps.commit (hs : Keeps s₀ s) {t now} : Keeps s₀ (s.commit t now) := by
  unfold State.commit
  extract_lets _ _ _ _ _ _ _ s₁
  have h₁ : Keeps s₀ s₁ := hs.withBca.updZone.placeAll.dropWriter.bypassed.seePressure
  exact h₁.updCmd.ite h₁.complete

theorem execWriteCommit_answers {tag} : Answers s (execWriteCommit tag s) := .guarded s.keeps.draw.commit
theorem Keeps.setSec (hs : Keeps s₀ s) {t i o} : Keeps s₀ (s.setSec t i o) := hs.updCmd

theorem Keeps.readSector (hs : Keeps s₀ s) {t v lba i fills} : Keeps s₀ (s.readSector t v lba i fills) := by
  unfold State.readSector
  split
  · exact hs.setSec
  · exact hs.touch.bump.setSec
  · exact (hs.recall.ite hs).bump.bump.setSec
  · exact hs.bump.setSec
  · exact hs.bump.setSec
  · exact hs.bump.startFill.ite hs.bump

theorem Keeps.readSectors (hs : Keeps s₀ s) {t v lba fills l} : Keeps s₀ (s.readSectors t v lba fills l) := by
  induction l generalizing s with
  | nil => exact hs
  | cons _ _ ih => exact ih hs.readSector

theorem Keeps.lookupAll (hs : Keeps s₀ s) {t fills} : Keeps s₀ (s.lookupAll t fills) := hs.readSectors.setPhase.ite hs.readSectors.toSch
theorem execRead_answers {tag} : Answers s (execRead tag s) := .guarded s.keeps.lookupAll
theorem execVerify_answers {tag} : Answers s (execVerify tag s) := .guarded s.keeps.lookupAll
theorem Keeps.toHost (hs : Keeps s₀ s) {t c ofMeta o bs} : Keeps s₀ (s.toHost t c ofMeta o bs) := hs.fold fun _ _ hs => hs.emit
theorem Keeps.sendSector (hs : Keeps s₀ s) {t i c o} : Keeps s₀ (s.sendSector t i c o) := hs.toHost.toHost.ite hs.toHost

theorem Keeps.sendAll (hs : Keeps s₀ s) {t c held l} : Keeps s₀ (s.sendAll t c held l) := by
  induction l generalizing s with
  | nil => exact hs
  | cons _ _ ih => exact ih (hs.sendSector.ite hs)

theorem Keeps.reportWithheld (hs : Keeps s₀ s) {v l} : Keeps s₀ (s.reportWithheld v l) := by
  induction l generalizing s with
  | nil => exact hs
  | cons x r ih =>
    obtain ⟨lba, w⟩ := x
    cases w with
    | check => exact ih hs.raise.bump
    | seal_ => exact ih hs.raise.bump
    | poison n => exact ih hs.bump
    | no => exact ih hs

theorem Keeps.raisePoison (hs : Keeps s₀ s) : Keeps s₀ s.raisePoison := hs.draw.raise

theorem Keeps.egress (hs : Keeps s₀ s) {t} : Keeps s₀ (s.egress t) := by
  unfold State.egress
  extract_lets _ held unread s₁ s₂ s₃ s₄
  have h₂ : Keeps s₀ s₂ := (hs.sendAll.ite hs).reportWithheld
  have h₃ : Keeps s₀ s₃ := h₂.raisePoison.ite h₂
  have h₄ : Keeps s₀ s₄ := by
    unfold s₄
    clear_value unread
    split
    · exact h₃
    · exact h₃.raise.bump
  exact h₄.complete

theorem execReadEgressDone_answers {egress} : Answers s (execReadEgressDone egress s) := .guarded s.keeps.readBursts.egress
theorem Keeps.aerUncorr (hs : Keeps s₀ s) {e b addr} : Keeps s₀ (s.aerUncorr e b addr) := hs.updEp.bump.raise

theorem execHostMemoryError_answers {tag address aerBit} : Answers s (execHostMemoryError tag address aerBit s) :=
  .guarded s.keeps.aerUncorr.endWith

theorem Keeps.markHanded (hs : Keeps s₀ s) {l} : Keeps s₀ (s.markHanded l) := by
  induction l generalizing s with
  | nil => exact hs
  | cons _ _ ih => exact ih hs.withBca

theorem Keeps.handOver (hs : Keeps s₀ s) {v z track ks} : Keeps s₀ (s.handOver v z track ks) := by
  unfold State.handOver
  split
  · exact hs
  · exact hs.markHanded.updMu.updZone

theorem execDestageHandover_answers {mu zone offset now} : Answers s (execDestageHandover mu zone offset now s) :=
  .guarded s.keeps.handOver

/-! ### The common frame of the commands that MGT executes (Machine/Manage) -/

theorem Keeps.addLate (hs : Keeps s₀ s) {e} : Keeps s₀ (s.addLate e) := hs.withNor (by rfl)
theorem Keeps.late (hs : Keeps s₀ s) {e} : Keeps s₀ (s.late e) := hs.addLate.ite hs

theorem Keeps.updSlot (hs : Keeps s₀ s) {n f} : Keeps s₀ (s.updSlot n f) := by
  unfold State.updSlot
  split <;> exact hs.withNor rfl

theorem Keeps.signSlate (hs : Keeps s₀ s) {cause boot} : Keeps s₀ (s.signSlate cause boot) := hs.draw.outside (by rfl)

theorem Keeps.writeSlate (hs : Keeps s₀ s) {ok} : Keeps s₀ (s.writeSlate ok) := by
  unfold State.writeSlate
  split
  · exact hs
  · split
    · extract_lets old _ _ s₁ s₂
      have h₁ : Keeps s₀ s₁ := hs.withNor rfl
      have h₂ : Keeps s₀ s₂ := by
        unfold s₂
        clear_value old
        split
        · exact h₁
        · exact h₁.raise.bump
      exact h₂.notice.ite h₂
    · exact hs.raise

theorem Keeps.authFailed (hs : Keeps s₀ s) {e cause} : Keeps s₀ (s.authFailed e cause) := hs.updEp.raise.bump

theorem Answers.manage {t opc sub tok data takes need moves codes run} (hrun : ∀ t, Keeps s t → Keeps s (run t)) : Answers s (s.manage t opc sub tok data takes need moves codes run) := by
  unfold State.manage
  extract_lets
  refine .guarded ?_
  split
  · exact s.keeps.endWith
  · split
    · split
      · exact s.keeps.endWith
      · split
        · exact s.keeps.authFailed.endWith
        · exact hrun _ s.keeps.updEp
    · exact hrun _ s.keeps

theorem Answers.simple {t opc sub codes run} (hrun : ∀ t, Keeps s t → Keeps s (run t)) : Answers s (s.simple t opc sub codes run) :=
  .manage hrun

theorem Keeps.sendBytes (hs : Keeps s₀ s) {t bs} : Keeps s₀ (s.sendBytes t bs) := hs.ite hs.toHost

/-! ### Key domains, custodian and maker keys, nonces (Machine/Keys) -/

theorem Keeps.updKd (hs : Keeps s₀ s) {k f} : Keeps s₀ (s.updKd k f) := hs.withNor (by rfl)
theorem Keeps.releaseKd (hs : Keeps s₀ s) {k} : Keeps s₀ (s.releaseKd k) := hs.updKd.ite hs

theorem Keeps.releaseOpt (hs : Keeps s₀ s) {x} : Keeps s₀ (s.releaseOpt x) := by
  unfold State.releaseOpt
  split
  · exact hs
  · exact hs.releaseKd

theorem Keeps.createKey (hs : Keeps s₀ s) {t k} : Keeps s₀ (s.createKey t k) := hs.draw.updKd.withSec.endWith.ite hs.endWith

theorem execKeyMgmtCreate_answers {tag token} : Answers s (execKeyMgmtCreate tag token s) := by
  unfold execKeyMgmtCreate
  exact .manage fun _ hs => hs.createKey

theorem Keeps.dropKey (hs : Keeps s₀ s) {k} : Keeps s₀ (s.dropKey k) := hs.withSec
theorem Keeps.unmarked (hs : Keeps s₀ s) {k erase} : Keeps s₀ (s.unmarked k erase) := hs.withSec
theorem Keeps.keyMarked (hs : Keeps s₀ s) {t k erase} : Keeps s₀ (s.keyMarked t k erase) := hs.withSec.setPhase
theorem Keeps.lockDone (hs : Keeps s₀ s) {k} : Keeps s₀ (s.lockDone k) := hs.unmarked.updKd.dropKey
theorem Keeps.lockKey (hs : Keeps s₀ s) {t k} : Keeps s₀ (s.lockKey t k) := hs.endWith.ite (hs.keyMarked.ite hs.lockDone.endWith)

theorem execKeyMgmtLock_answers {tag} : Answers s (execKeyMgmtLock tag s) := by
  unfold execKeyMgmtLock
  extract_lets
  split
  · exact .guarded s.keeps.adopt.lockDone
  · exact Answers.ite (.guarded s.keeps.lockDone.endWith) (.simple fun _ hs => hs.lockKey)

theorem Keeps.unlockKey (hs : Keeps s₀ s) {t k} : Keeps s₀ (s.unlockKey t k) := hs.endWith.ite (hs.updKd.withSec.endWith.ite hs.endWith)

theorem execKeyMgmtUnlock_answers {tag token} : Answers s (execKeyMgmtUnlock tag token s) := by
  unfold execKeyMgmtUnlock
  exact .manage fun _ hs => hs.unlockKey

theorem Keeps.eraseZones (hs : Keeps s₀ s) {n l} : Keeps s₀ (s.eraseZones n l).2 := by
  induction l generalizing s n with
  | nil => exact hs
  | cons _ _ ih => exact ih hs.lose.invalidateZone

theorem Keeps.eraseDone (hs : Keeps s₀ s) {k} : Keeps s₀ (s.eraseDone k).2 := hs.unmarked.updKd.dropKey.eraseZones.raise.releaseKd
theorem Keeps.eraseEnd (hs : Keeps s₀ s) {t k} : Keeps s₀ (s.eraseEnd t k) := hs.eraseDone.endWith
theorem Keeps.eraseKey (hs : Keeps s₀ s) {t k} : Keeps s₀ (s.eraseKey t k) := hs.endWith.ite (hs.keyMarked.ite hs.eraseEnd)

theorem execKeyMgmtErase_answers {tag token} : Answers s (execKeyMgmtErase tag token s) := by
  unfold execKeyMgmtErase
  extract_lets
  split
  · exact .guarded s.keeps.adopt.eraseDone
  · exact Answers.ite (.guarded s.keeps.eraseEnd) (.manage fun _ hs => hs.eraseKey)

theorem Keeps.enrolCustodian (hs : Keeps s₀ s) {t slot key} : Keeps s₀ (s.enrolCustodian t slot key) :=
  hs.endWith.ite (hs.withNor (by rfl)).late.endWith

theorem execKeyMgmtEnrolCustodian_answers {tag token data} : Answers s (execKeyMgmtEnrolCustodian tag token data s) :=
  .manage fun _ hs => hs.enrolCustodian

theorem execKeyMgmtRemoveCustodian_answers {tag token} : Answers s (execKeyMgmtRemoveCustodian tag token s) :=
  .manage fun _ hs => (hs.withNor (by rfl)).late.endWith

theorem Keeps.enrolMaker (hs : Keeps s₀ s) {t data} : Keeps s₀ (s.enrolMaker t data) := hs.endWith.ite (hs.withNor (by rfl)).late.endWith

theorem execKeyMgmtEnrolMakerKey_answers {tag token data} : Answers s (execKeyMgmtEnrolMakerKey tag token data s) :=
  .manage fun _ hs => hs.enrolMaker

theorem execKeyMgmtRemoveMakerKey_answers {tag token} : Answers s (execKeyMgmtRemoveMakerKey tag token s) :=
  .manage fun _ hs => (hs.withNor (by rfl)).late.endWith

theorem execKeyMgmtStatus_answers {tag} : Answers s (execKeyMgmtStatus tag s) := .simple fun _ hs => hs.endWith
theorem execAuthNonce_answers {tag} : Answers s (execAuthNonce tag s) := .simple fun _ hs => hs.draw.updEp.endWith

/-! ### Zone management, zone reports, formats, ownership and event bindings (Machine/Zones) -/

theorem Keeps.undestage (hs : Keeps s₀ s) {v p} : Keeps s₀ (s.undestage v p) := hs.updMu.fold fun _ _ hs => hs.updZone
theorem Keeps.dropZone (hs : Keeps s₀ s) {v z} : Keeps s₀ (s.dropZone v z) := hs.undirtyAll.undestage.settleFua
theorem Keeps.journalDue (hs : Keeps s₀ s) {v} : Keeps s₀ (s.journalDue v) := hs.updMu

theorem Keeps.openZone (hs : Keeps s₀ s) {t v z k} : Keeps s₀ (s.openZone t v z k) := by
  unfold State.openZone
  extract_lets _ _ taken
  have taken_keeps {u} (hu : Keeps s₀ u) : Keeps s₀ (taken u) := hu.updZone.journalDue.endWith
  split
  · exact hs.endWith
  · split
    · exact hs.endWith
    · split
      · exact hs.endWith
      · exact hs.endWith.ite ((taken_keeps hs).ite (hs.endWith.ite (taken_keeps hs)))

theorem Keeps.changeZone (hs : Keeps s₀ s) {v z sub} : Keeps s₀ (s.changeZone v z sub) := by
  unfold State.changeZone
  split
  · exact hs
  · extract_lets _ s₁ _ s₂
    have h₁ : Keeps s₀ s₁ := hs.dropZone.ite hs
    have h₂ : Keeps s₀ s₂ := h₁.updZone.invalidateZone.ite h₁.updZone
    exact h₂.releaseOpt.ite h₂

theorem Keeps.changeAll (hs : Keeps s₀ s) {v sub n l} : Keeps s₀ (s.changeAll v sub n l).2.2 := by
  induction l generalizing s n with
  | nil => exact hs
  | cons z r ih =>
    unfold State.changeAll
    split
    · exact ih hs
    · split
      · exact ih hs
      · exact ih hs.changeZone

theorem Keeps.manageZone (hs : Keeps s₀ s) {t v z sub all} : Keeps s₀ (s.manageZone t v z sub all) := by
  unfold State.manageZone
  extract_lets reset
  have reset_keeps {u} (hu : Keeps s₀ u) : Keeps s₀ (reset u) := hu.bypassed.ite hu
  split
  · exact (reset_keeps hs.changeAll).journalDue.endWith
  · split
    · exact hs.endWith
    · exact (reset_keeps hs.changeZone).journalDue.endWith

theorem Answers.zoneMgmt {tag sub run} (hrun : ∀ t a0 a1 a2, Keeps s t → Keeps s (run t a0 a1 a2)) : Answers s (s.zoneMgmt tag sub run) := by
  unfold State.zoneMgmt
  extract_lets
  refine .guarded ?_
  split
  · exact s.keeps.block
  · exact s.keeps.endWith.ite (hrun _ _ _ _ s.keeps)

theorem execZoneMgmtOpen_answers {tag} : Answers s (execZoneMgmtOpen tag s) := .zoneMgmt fun _ _ _ _ hs => hs.openZone
theorem execZoneMgmtClose_answers {tag} : Answers s (execZoneMgmtClose tag s) := .zoneMgmt fun _ _ _ _ hs => hs.manageZone
theorem execZoneMgmtFinish_answers {tag} : Answers s (execZoneMgmtFinish tag s) := .zoneMgmt fun _ _ _ _ hs => hs.manageZone
theorem execZoneMgmtReset_answers {tag} : Answers s (execZoneMgmtReset tag s) := .zoneMgmt fun _ _ _ _ hs => hs.manageZone
theorem execZoneReport_answers {tag} : Answers s (execZoneReport tag s) := .manage fun _ hs => hs.sendBytes.endWith
theorem Keeps.dropVolume (hs : Keeps s₀ s) {v} : Keeps s₀ (s.dropVolume v) := hs.undirtyAll.undestage.settleFua

theorem Keeps.formatVolume (hs : Keeps s₀ s) {t v f} : Keeps s₀ (s.formatVolume t v f) :=
  ((hs.dropVolume.updMu.invalidateVolume.ite hs.dropVolume.updMu).fold fun _ _ hs => hs.releaseKd).bypassed.setPhase

theorem execVolumeCtlFormat_answers {tag token rateZones zones} : Answers s (execVolumeCtlFormat tag token rateZones zones s) := by
  unfold execVolumeCtlFormat
  exact .manage fun _ hs => hs.formatVolume

theorem Keeps.setOwner (hs : Keeps s₀ s) {v o} : Keeps s₀ (s.setOwner v o) := (hs.outside (by rfl)).raise.notice

theorem Answers.changeOwner {t sub codes run} (hrun : ∀ t, Keeps s t → Keeps s (run t)) : Answers s (s.changeOwner t sub codes run) := by
  unfold State.changeOwner
  refine .guarded ?_
  split
  · exact s.keeps.endWith
  · exact hrun _ s.keeps

theorem execVolumeCtlRelease_answers {tag} : Answers s (execVolumeCtlRelease tag s) := by
  unfold execVolumeCtlRelease
  exact .changeOwner fun _ hs => hs.setOwner.endWith

theorem execVolumeCtlTakeover_answers {tag} : Answers s (execVolumeCtlTakeover tag s) := by
  unfold execVolumeCtlTakeover
  exact .changeOwner fun _ hs => (hs.ite hs.setOwner).endWith

theorem execVolumeCtlSetDefaultKdom_answers {tag} : Answers s (execVolumeCtlSetDefaultKdom tag s) := .simple fun _ hs => hs.updMu.endWith
theorem Keeps.rebind (hs : Keeps s₀ s) {t f} : Keeps s₀ (s.rebind t f) := hs.updEp.endWith.ite hs.endWith
theorem execEventArmBind_answers {tag} : Answers s (execEventArmBind tag s) := .simple fun _ hs => hs.rebind
theorem execEventArmUnbind_answers {tag} : Answers s (execEventArmUnbind tag s) := .simple fun _ hs => hs.rebind

/-! ### CACHE_CTL (Machine/CacheCtl) -/

theorem Answers.cacheOp {t sub codes run} (hrun : ∀ t, Keeps s t → Keeps s (run t)) : Answers s (s.cacheOp t sub codes run) :=
  .ite (.next s.keeps) (.simple hrun)

theorem Keeps.cacheDisable (hs : Keeps s₀ s) {t} : Keeps s₀ (s.cacheDisable t) := hs.withBca.endWith.ite hs.endWith
theorem execCacheCtlDisable_answers {tag} : Answers s (execCacheCtlDisable tag s) := .cacheOp fun _ hs => hs.cacheDisable

theorem Keeps.cacheEnable (hs : Keeps s₀ s) {t resume stale} : Keeps s₀ (s.cacheEnable t resume stale) := by
  unfold State.cacheEnable
  split
  · exact hs.endWith
  · extract_lets _ s₁
    have h₁ : Keeps s₀ s₁ := hs.ite hs.bump.bump
    exact (h₁.withBca.ite h₁.withBca.newKey).endWith

theorem execCacheCtlEnable_answers {tag} : Answers s (execCacheCtlEnable tag s) := .cacheOp fun _ hs => hs.cacheEnable
theorem execCacheCtlFlushRange_answers {tag} : Answers s (execCacheCtlFlushRange tag s) := .cacheOp fun _ hs => hs.updCmd
theorem Keeps.invalidateRange (hs : Keeps s₀ s) {p} : Keeps s₀ (s.invalidateRange p) := hs.invalidateLines.ite hs
theorem Keeps.discardRange (hs : Keeps s₀ s) {t p} : Keeps s₀ (s.discardRange t p) := hs.undirtyAll.undestage.settleFua.invalidateRange.endWith

theorem execCacheCtlInvalidateRange_answers {tag token} : Answers s (execCacheCtlInvalidateRange tag token s) :=
  Answers.ite (.next s.keeps) (.manage fun _ hs => hs.discardRange.ite hs.invalidateRange.endWith)

theorem Keeps.rekey (hs : Keeps s₀ s) {t} : Keeps s₀ (s.rekey t) := hs.endWith.ite hs.bump.withBca.setPhase

theorem execCacheCtlRekey_answers {tag} : Answers s (execCacheCtlRekey tag s) :=
  Answers.ite (.next s.keeps) (.cacheOp fun _ hs => hs.rekey)

/-! ### Takes (Machine/Takes) -/

theorem Keeps.toEgress (hs : Keeps s₀ s) {t v} : Keeps s₀ (s.toEgress t v) := hs.updMu.setPhase
theorem Keeps.settleRead (hs : Keeps s₀ s) {t} : Keeps s₀ (s.settleRead t) := hs.toEgress.ite hs

theorem Keeps.settleLadder (hs : Keeps s₀ s) {t fuel} : Keeps s₀ (s.settleLadder t fuel) := by
  induction fuel generalizing s with
  | zero => exact hs
  | succ fuel ih =>
    unfold State.settleLadder
    extract_lets
    split
    · exact hs.toEgress
    · split
      · exact hs.updCmd
      · exact ih hs.updCmd

theorem Keeps.toRecovery (hs : Keeps s₀ s) {t} : Keeps s₀ (s.toRecovery t) := hs.updMu.setPhase.updCmd.settleLadder

theorem Keeps.stepZeroDone (hs : Keeps s₀ s) {t track} : Keeps s₀ (s.stepZeroDone t track) :=
  hs.updCmd.toEgress.ite (hs.updCmd.ite (hs.updCmd.updCmd.toEgress.ite hs.updCmd.toRecovery))

theorem Keeps.ladderDone (hs : Keeps s₀ s) {t served} : Keeps s₀ (s.ladderDone t served) := hs.updCmd.settleLadder

theorem Keeps.countTake (hs : Keeps s₀ s) {d} : Keeps s₀ (s.countTake d) := by
  unfold State.countTake
  split
  · exact hs
  · exact hs.updCmd

theorem Keeps.ladderMoves (hs : Keeps s₀ s) {t old} : Keeps s₀ (s.ladderMoves t old) := hs.updMu.updCmd.settleLadder.ite hs

theorem Keeps.deliverTo (hs : Keeps s₀ s) {lba o l} : Keeps s₀ (s.deliverTo lba o l) := by
  induction l generalizing s with
  | nil => exact hs
  | cons _ _ ih => exact ih hs.setSec.ladderMoves.settleRead

theorem Keeps.deliver (hs : Keeps s₀ s) {owner v lba o} : Keeps s₀ (s.deliver owner v lba o) := by
  unfold State.deliver
  extract_lets
  split
  · exact hs.deliverTo
  · exact (hs.deliverTo.fold fun _ _ hs => hs.wroteSector).withBca

theorem Keeps.trackDone (hs : Keeps s₀ s) {v z lbas} : Keeps s₀ (s.trackDone v z lbas) := hs.undestage
theorem Keeps.noteRewritten (hs : Keeps s₀ s) {v l} : Keeps s₀ (s.noteRewritten v l) := hs.updMu.ite hs

theorem Keeps.reportSectors (hs : Keeps s₀ s) {v l} : Keeps s₀ (s.reportSectors v l) := by
  induction l generalizing s with
  | nil => exact hs
  | cons _ _ ih => exact ih hs.onMediumReport.updZone.noteRewritten.resumeReads

theorem Keeps.report (hs : Keeps s₀ s) {v z lbas} : Keeps s₀ (s.report v z lbas) := hs.ite hs.seePressure.reportSectors.trackDone.journalDue.settleFua

theorem Keeps.spendBudget (hs : Keeps s₀ s) {v d} : Keeps s₀ (s.spendBudget v d) := by
  unfold State.spendBudget
  split
  · exact hs
  · extract_lets _ _ _ _ _ s₁
    have h₁ : Keeps s₀ s₁ := hs.raise.bump.lose.undestage
    exact (h₁.fold fun _ _ hs => hs.onMediumReport).ite h₁

theorem Keeps.settleBudget (hs : Keeps s₀ s) {v z track} : Keeps s₀ (s.settleBudget v z track) := by
  unfold State.settleBudget
  split
  · exact hs
  · exact hs.spendBudget.ite hs

theorem Keeps.attemptFailed (hs : Keeps s₀ s) {v z track} : Keeps s₀ (s.attemptFailed v z track) := hs.bump.updMu.updMu.settleBudget
theorem Keeps.writeJournal (hs : Keeps s₀ s) {v} : Keeps s₀ (s.writeJournal v) := hs.updMu
theorem Keeps.endFormats (hs : Keeps s₀ s) {v r} : Keeps s₀ (s.endFormats v r) := hs.fold fun _ _ hs => hs.endWith

theorem Keeps.systemWritten (hs : Keeps s₀ s) {v failed} : Keeps s₀ (s.systemWritten v failed) :=
  (hs.bump.updMu.ite hs.bump.draw.raise.bump.updMu.endFormats).ite (hs.ite hs.writeJournal.endFormats)

theorem Keeps.systemRead (hs : Keeps s₀ s) {v failed} : Keeps s₀ (s.systemRead v failed) := hs.updMu

theorem Keeps.slipTake (hs : Keeps s₀ s) {v d resume} : Keeps s₀ (s.slipTake v d resume) := by
  unfold State.slipTake
  extract_lets s₁
  have h₁ : Keeps s₀ s₁ := by
    unfold s₁
    split
    · exact hs.updCmd.ite hs
    · exact hs
  exact h₁.updMu.ite h₁

theorem Keeps.updCalib (hs : Keeps s₀ s) {v f} : Keeps s₀ (s.updCalib v f) := hs.updMu

theorem Keeps.takeSpent (hs : Keeps s₀ s) {v d failed} : Keeps s₀ (s.takeSpent v d failed) := by
  unfold State.takeSpent
  split
  · exact hs.attemptFailed.ite hs
  · split
    · exact hs.systemWritten
    · split
      · exact hs.systemRead
      · split
        · exact hs.updCalib
        · split
          · exact hs
          · exact hs.ite (hs.stepZeroDone.ite (hs.ladderDone.ite hs))

theorem Keeps.updateTrim (hs : Keeps s₀ s) {m} : Keeps s₀ (s.updateTrim m) := hs.ite (hs.updMu.raise.ite hs.updMu)

theorem Keeps.endTake (hs : Keeps s₀ s) {m o} : Keeps s₀ (s.endTake m o) := by
  unfold State.endTake
  split
  · exact hs
  · extract_lets _ _ _ _ _ s₁ _ s₂
    have h₁ : Keeps s₀ s₁ := (hs.bump.ite hs).updateTrim.ite (hs.bump.ite hs)
    have h₂ : Keeps s₀ s₂ := h₁.ite h₁.withLdp
    split
    · exact h₂.updMu.takeSpent.ite h₂.updMu.slipTake
    · exact h₂.updMu.bump.ite h₂.updMu
    · exact h₂.updMu.takeSpent
    · exact h₂.updMu.takeSpent

theorem Keeps.failTake (hs : Keeps s₀ s) {m} : Keeps s₀ (s.failTake m) := hs.updMu.endTake.ite hs

/-! ### The two scrubbers, of buffer SDRAM and of on-chip SRAMs, and SCRUB (Machine/Buffer) -/

theorem Keeps.scrubPassEnd (hs : Keeps s₀ s) {p} : Keeps s₀ (s.scrubPassEnd p) := by
  unfold State.scrubPassEnd
  extract_lets s₁
  have h₁ : Keeps s₀ s₁ := hs.bump
  split
  next s₂ e =>
  have h₂ : Keeps s₀ s₂ := h₁.draw.of_snd e
  extract_lets _ s₃ _ _ s₄
  have h₄ : Keeps s₀ s₄ := h₂.outside rfl
  split
  · exact h₄.complete
  · exact h₄

theorem execBufScrubStep_answers {hmeta words holds} : Answers s (execBufScrubStep hmeta words holds s) :=
  .guarded (s.keeps.readBurst.scrubPassEnd.ite s.keeps.readBurst.withBuf)

theorem Keeps.tagLost (hs : Keeps s₀ s) {sram word} : Keeps s₀ (s.tagLost sram word) := (hs.bump.ite hs).updLine.ite (hs.withBca.ite hs)

theorem Keeps.sramLost (hs : Keeps s₀ s) {sub inst sram word lost} : Keeps s₀ (s.sramLost sub inst sram word lost) :=
  hs.ite (hs.tagLost.ite (hs.aerUncorr.endLost.ite hs.endLost))

theorem execSramScrub_answers {sub inst sram word uncorrectable lost} : Answers s (execSramScrub sub inst sram word uncorrectable lost s) :=
  .guarded (s.keeps.raise.sramLost.ite s.keeps.raise)

theorem Keeps.scrubFrom (hs : Keeps s₀ s) {t l} : Keeps s₀ (s.scrubFrom t l) := by
  unfold State.scrubFrom
  extract_lets _ _ s₁
  have h₁ : Keeps s₀ s₁ := hs.keepScrubPage
  split
  · exact h₁.complete
  · exact h₁.updCmd.toSch

theorem execScrubMedia_answers {tag} : Answers s (execScrubMedia tag s) :=
  Answers.ite (.next s.keeps.updCmd.scrubFrom) (Answers.ite (.next s.keeps) (.simple fun _ hs => hs.scrubBegins.scrubFrom))

theorem Keeps.scrubBuffer (hs : Keeps s₀ s) {t} : Keeps s₀ (s.scrubBuffer t) := by
  unfold State.scrubBuffer
  extract_lets
  split
  · exact hs.setPhase.withBuf
  · exact hs.setPhase.withBuf

theorem execScrubBuffer_answers {tag} : Answers s (execScrubBuffer tag s) :=
  Answers.ite (.next s.keeps) (.simple fun _ hs => hs.scrubBuffer)

/-! ### The current ledger, speed targets, per-HDA power states, port power, seeks, gate cuts, the emergency retract and the end of a capture (Machine/Motion) -/

theorem Keeps.settleLedger (hs : Keeps s₀ s) : Keeps s₀ s.settleLedger := (hs.withMns.ite hs).ite (hs.withMns.ite hs)
theorem Keeps.setAlloc (hs : Keeps s₀ s) {h a} : Keeps s₀ (s.setAlloc h a) := hs.withMns.settleLedger
theorem Keeps.askSpin (hs : Keeps s₀ s) {h} : Keeps s₀ (s.askSpin h) := hs.withMns
theorem Keeps.retarget (hs : Keeps s₀ s) {h} : Keeps s₀ (s.retarget h) := hs.updHda
theorem Keeps.retargetAll (hs : Keeps s₀ s) : Keeps s₀ s.retargetAll := hs.fold fun _ _ hs => hs.retarget
theorem Keeps.portOn (hs : Keeps s₀ s) {h} : Keeps s₀ (s.portOn h) := hs.updHda.withPwr.updMu.updMu
theorem Keeps.brake (hs : Keeps s₀ s) {h} : Keeps s₀ (s.brake h) := hs.draw.updHda
theorem Keeps.portOff (hs : Keeps s₀ s) {h} : Keeps s₀ (s.portOff h) := (hs.outside (by rfl)).updHda.updMu.updMu.setAlloc
theorem Keeps.cutGate (hs : Keeps s₀ s) {m} : Keeps s₀ (s.cutGate m) := hs.updMu.bump
theorem Keeps.stopTsq (hs : Keeps s₀ s) {m} : Keeps s₀ (s.stopTsq m) := hs.ite (hs.failTake.ite hs.updMu)
theorem Keeps.stopMu (hs : Keeps s₀ s) {m} : Keeps s₀ (s.stopMu m) := hs.updMu.stopTsq

theorem Keeps.endTune (hs : Keeps s₀ s) {h ended} : Keeps s₀ (s.endTune h ended) := by
  unfold State.endTune
  split
  · exact hs
  · extract_lets
    split
    · exact hs.withMgt.updHda.updMu.complete
    · exact hs.withMgt.updHda.updMu

theorem Keeps.retractAct (hs : Keeps s₀ s) {m} : Keeps s₀ (s.retractAct m) := hs.updMu.ite hs

theorem Keeps.retract (hs : Keeps s₀ s) {h cause} : Keeps s₀ (s.retract h cause) := by
  unfold State.retract
  extract_lets _ _ _ _ s₁ s₂ _ s₃
  have h₁ : Keeps s₀ s₁ := hs.raise.endTune.ite hs
  have h₂ : Keeps s₀ s₂ := h₁.bump.ite h₁
  have h₃ : Keeps s₀ s₃ := (h₂.updHda.ite h₂).retractAct.retractAct
  exact h₃.stopMu.stopMu.ite h₃.stopTsq.stopTsq

theorem Keeps.engineFault (hs : Keeps s₀ s) {h kind act} : Keeps s₀ (s.engineFault h kind act) := by
  unfold State.engineFault
  extract_lets s₁
  have h₁ : Keeps s₀ s₁ := hs.raise.bump
  exact h₁.updHda.retract

theorem Keeps.settleSrvReset (hs : Keeps s₀ s) {h} : Keeps s₀ (s.settleSrvReset h) := hs.updHda.stopMu.stopMu.ite hs

theorem Keeps.endHs (hs : Keeps s₀ s) {h r} : Keeps s₀ (s.endHs h r) := by
  unfold State.endHs
  extract_lets c _
  clear_value c
  split
  · exact hs.updHda.complete
  · exact hs.updHda

theorem Keeps.failHs (hs : Keeps s₀ s) {h r0} : Keeps s₀ (s.failHs h r0) := hs.withMns.endHs.ite hs
theorem Keeps.settleConverters (hs : Keeps s₀ s) : Keeps s₀ s.settleConverters := hs.ite (hs.withCal.fold fun _ _ hs => hs.complete)
theorem Keeps.setPort (hs : Keeps s₀ s) {h f} : Keeps s₀ (s.setPort h f) := (hs.updHda.ite hs.updHda.notice).settleConverters
theorem Keeps.setHs (hs : Keeps s₀ s) {h n} : Keeps s₀ (s.setHs h n) := hs.setPort

theorem Keeps.sinkHs (hs : Keeps s₀ s) {h} : Keeps s₀ (s.sinkHs h) := by
  unfold State.sinkHs
  extract_lets _ s₁ s₂
  have h₁ : Keeps s₀ s₁ := hs.setHs.ite hs
  have h₂ : Keeps s₀ s₂ := h₁.brake.ite h₁
  exact h₂.setHs.portOff.ite h₂

theorem Keeps.riseHs (hs : Keeps s₀ s) {h} : Keeps s₀ (s.riseHs h) := (hs.setHs.updMu.updMu.ite hs.setHs).retarget.ite (hs.failHs.ite hs)

theorem Keeps.settleHs (hs : Keeps s₀ s) {h} : Keeps s₀ (s.settleHs h) := by
  unfold State.settleHs
  split
  · exact hs
  · extract_lets s₁
    have h₁ : Keeps s₀ s₁ := hs.retarget.sinkHs.riseHs
    exact h₁.endHs.ite h₁

theorem Keeps.beginHs (hs : Keeps s₀ s) {h target cmd restart} : Keeps s₀ (s.beginHs h target cmd restart) :=
  (hs.updHda.portOn.ite (hs.updHda.askSpin.ite hs.updHda)).retarget.settleHs

theorem Keeps.startSeek (hs : Keeps s₀ s) {m head track} : Keeps s₀ (s.startSeek m head track) := hs.updMu
theorem Keeps.askSeek (hs : Keeps s₀ s) {m head track} : Keeps s₀ (s.askSeek m head track) := hs.ite (hs.startSeek.ite (hs.updHda.ite hs).updMu)
theorem Keeps.settleRelease (hs : Keeps s₀ s) {h} : Keeps s₀ (s.settleRelease h) := hs.brake.ite hs
theorem Keeps.overspeed (hs : Keeps s₀ s) {h} : Keeps s₀ (s.overspeed h) := hs.engineFault.ite hs

/-! ### What the module recovers from the medium when it first loads an MU (Machine/Layout) -/

theorem Keeps.recoverMu (hs : Keeps s₀ s) {m f js b conv} : Keeps s₀ (s.recoverMu m f js b conv) := hs.updMu

theorem Keeps.readFormat (hs : Keeps s₀ s) {m copies records js conv} : Keeps s₀ (s.readFormat m copies records js conv) := by
  unfold State.readFormat
  split
  · exact hs
  · extract_lets
    split
    · exact hs.updMu.recoverMu
    · exact hs.updMu.updMu

/-! ### Spindles, heads, coils and captures (Machine/Servo) -/

theorem Keeps.loadSets (hs : Keeps s₀ s) {h coef} : Keeps s₀ (s.loadSets h coef) := by
  unfold State.loadSets
  extract_lets
  split
  · exact hs.updHda.updHda
  · exact hs.updHda.updHda.raise

theorem execSpinupAdmit_answers : Answers s (execSpinupAdmit s) := by
  unfold execSpinupAdmit
  split
  · exact .next s.keeps
  · exact .guarded s.keeps.withMns.setAlloc.updHda.retarget

theorem Keeps.driveOpen (hs : Keeps s₀ s) {h f} : Keeps s₀ (s.driveOpen h f) := hs.draw.updHda
theorem execSpinupCommutate_answers {h} : Answers s (execSpinupCommutate h s) := .guarded s.keeps.driveOpen
theorem execBackEmfDetected_answers {h rpm} : Answers s (execBackEmfDetected h rpm s) := .guarded s.keeps.driveOpen.overspeed
theorem execSpinupAllocationRun_answers {h} : Answers s (execSpinupAllocationRun h s) := .guarded s.keeps.setAlloc

theorem execSpunUp_answers {h} : Answers s (execSpunUp h s) := by
  unfold execSpunUp
  extract_lets _ s₁
  have h₁ : Keeps s s₁ := s.keeps.setAlloc.updHda
  exact .guarded (h₁.setHs.ite h₁).retarget.settleHs

theorem execSpinupFail_answers {h} : Answers s (execSpinupFail h s) := .guarded s.keeps.updHda.raise.failHs
theorem execSpindleUnderspeed_answers {h rpm} : Answers s (execSpindleUnderspeed h rpm s) := .unheld s.keeps.updHda.raise.retract

theorem execSpindleStopped_answers {h} : Answers s (execSpindleStopped h s) := by
  unfold execSpindleStopped
  extract_lets _ s₁
  have h₁ : Keeps s s₁ := s.keeps.updHda.setAlloc
  exact .guarded (h₁.settleHs.portOff.ite h₁.settleHs)

theorem execHeadLoadStart_answers {mu} : Answers s (execHeadLoadStart mu s) := .guarded s.keeps.updMu

theorem execHeadLoaded_answers {mu copy0 records journal copy1 convKdom} : Answers s (execHeadLoaded mu copy0 records journal copy1 convKdom s) :=
  .guarded s.keeps.updMu.bump.readFormat.settleHs

theorem execHeadLoadFail_answers {mu} : Answers s (execHeadLoadFail mu s) := .guarded s.keeps.updMu.raise.stopMu.failHs
theorem execHeadUnload_answers {mu} : Answers s (execHeadUnload mu s) := .guarded s.keeps.updMu
theorem Keeps.parked (hs : Keeps s₀ s) {m} : Keeps s₀ (s.parked m) := (hs.updMu.brake.ite hs.updMu).settleHs.settleSrvReset
theorem execHeadParked_answers {mu} : Answers s (execHeadParked mu s) := .guarded s.keeps.parked
theorem execHeadUnloadFail_answers {mu} : Answers s (execHeadUnloadFail mu s) := .guarded s.keeps.raise.updMu
theorem execEmergencyRetract_answers {h} : Answers s (execEmergencyRetract h s) := .unheld s.keeps.retract

theorem execRetractParked_answers {h} : Answers s (execRetractParked h s) := by
  unfold execRetractParked
  extract_lets _ _ _ s₁ s₂
  have h₁ : Keeps s s₁ := s.keeps.updHda.ite s.keeps
  have h₂ : Keeps s s₂ := h₁.parked.ite h₁
  exact .guarded (h₂.parked.ite h₂)

theorem execSrvEngineFault_answers {h kind act} : Answers s (execSrvEngineFault h kind act s) := .unheld s.keeps.engineFault

theorem execSeekStart_answers {mu} : Answers s (execSeekStart mu s) := by
  unfold execSeekStart
  split
  · exact .next s.keeps
  · exact .guarded s.keeps.startSeek

theorem execCoilModelUpdate_answers {hda act ms} : Answers s (execCoilModelUpdate hda act ms s) := by
  unfold execCoilModelUpdate
  extract_lets
  refine .guarded ?_
  extract_lets
  split
  next u e =>
  have hu : Keeps s u := by
    refine .of_snd ?_ e
    split
    · exact s.keeps.draw
    · exact s.keeps
  extract_lets
  split
  next v e =>
  extract_lets w
  have hw : Keeps s w := (hu.draw.of_snd e).updMu
  exact hw.raise.bump.ite hw

theorem execCaptureStart_answers {h} : Answers s (execCaptureStart h s) := by
  unfold execCaptureStart
  split
  · exact .next s.keeps
  · exact .guarded s.keeps.updHda

theorem execCaptureDone_answers {h} : Answers s (execCaptureDone h s) := by
  unfold execCaptureDone
  split
  · exact .next s.keeps
  · exact .guarded s.keeps.endTune

theorem execLatentTestDue_answers {mu} : Answers s (execLatentTestDue mu s) := .guarded s.keeps.updMu.raise

/-! ### What a reset of the islands leaves (Machine/Reset) -/

theorem Keeps.resetIslands (hs : Keeps s₀ s) : Keeps s₀ s.resetIslands :=
  hs.trans (.stores rfl rfl (fun _ => rfl) (fun _ => rfl) (fun _ => rfl) (swf_smap _ _ _) (fun _ => rfl) (swf_smap _ _ _) id)

/-! ### Sensors, thermal levels, the thermal shutdown and the fans (Machine/Thermal) -/

theorem Keeps.updSensor (hs : Keeps s₀ s) {n f} : Keeps s₀ (s.updSensor n f) := hs.withThp
theorem Keeps.settleTherm (hs : Keeps s₀ s) : Keeps s₀ s.settleTherm := hs.ite hs.withThp.notice
theorem Keeps.keepMax (hs : Keeps s₀ s) {n t} : Keeps s₀ (s.keepMax n t) := hs.updSensor.withNor (by rfl)
theorem Keeps.failSensor (hs : Keeps s₀ s) {n} : Keeps s₀ (s.failSensor n) := hs.ite hs.updSensor.latentFail
theorem Keeps.levelRise (hs : Keeps s₀ s) {n old new} : Keeps s₀ (s.levelRise n old new) := hs.ite (hs.raise.bump.ite hs.raise.bump)

theorem Keeps.thermalShutdown (hs : Keeps s₀ s) {n} : Keeps s₀ (s.thermalShutdown n) := by
  unfold State.thermalShutdown
  extract_lets _ s₁ trip _ s₂ vlt _ s₃
  have h₁ : Keeps s₀ s₁ := hs.raise.bump.fold fun _ _ hs => hs.retract
  clear_value s₁
  have h₂ : Keeps s₀ s₂ := h₁.withNor rfl
  have h₃ : Keeps s₀ s₃ := h₂.resetIslands
  clear_value s₃
  exact h₃.outside rfl

theorem Keeps.tripped (hs : Keeps s₀ s) {n} : Keeps s₀ (s.tripped n) := hs.ite (hs.withThp.ite hs.thermalShutdown)

theorem execSensorReading_answers {n reading} : Answers s (execSensorReading n reading s) := by
  unfold execSensorReading
  refine .detected ?_
  split
  · exact s.keeps.failSensor.retargetAll.settleTherm
  · extract_lets _ _ _ _ _ s₁
    have h₁ : Keeps s s₁ := (s.keeps.latentPass.ite s.keeps).updSensor.keepMax.levelRise.retargetAll.settleTherm
    exact h₁.tripped.ite h₁

theorem Keeps.comparePair (hs : Keeps s₀ s) {n} : Keeps s₀ (s.comparePair n) := by
  unfold State.comparePair
  extract_lets _ _ s₁
  have h₁ : Keeps s₀ s₁ := hs.updSensor.updSensor
  exact hs.ite (hs.updSensor.updSensor.ite (h₁.failSensor.failSensor.ite h₁))

theorem execSensorCompare_answers : Answers s (execSensorCompare s) :=
  .guarded (s.keeps.fold fun _ _ hs => hs.comparePair).retargetAll.settleTherm

theorem Keeps.hdaReading (hs : Keeps s₀ s) {h t} : Keeps s₀ (s.hdaReading h t) := hs.updHda.keepMax.levelRise.withThp.settleTherm
theorem Keeps.forgetTemp (hs : Keeps s₀ s) {h} : Keeps s₀ (s.forgetTemp h) := hs.updHda.withThp.settleTherm

theorem execHdaTempRead_answers {h reading} : Answers s (execHdaTempRead h reading s) := by
  unfold execHdaTempRead
  refine .guarded ?_
  split
  · exact s.keeps.updHda.raise
  · exact s.keeps.hdaReading

theorem Keeps.updFan (hs : Keeps s₀ s) {f g} : Keeps s₀ (s.updFan f g) := hs.withThp
theorem Keeps.readTachs (hs : Keeps s₀ s) : Keeps s₀ s.readTachs := hs.fold fun _ _ hs => hs.draw.updFan
theorem execFanDutyUpdate_answers : Answers s (execFanDutyUpdate s) := .guarded s.keeps.readTachs.withThp
theorem execFanOvercurrent_answers {fan} : Answers s (execFanOvercurrent fan s) := .guarded s.keeps.updFan.raise
theorem execFanCurrentLimitExit_answers {fan} : Answers s (execFanCurrentLimitExit fan s) := .guarded s.keeps.updFan
theorem execFanStall_answers {fan rpm} : Answers s (execFanStall fan rpm s) := .guarded s.keeps.updFan.raise.bump
theorem execFanStallEnd_answers {fan rpm} : Answers s (execFanStallEnd fan rpm s) := .guarded s.keeps.updFan

/-! ### Calibration records, the load of an HDA's sets and tables, and trims taken into the write table (Machine/Calib) -/

theorem Keeps.failRecords (hs : Keeps s₀ s) {bad} : Keeps s₀ (s.failRecords bad) := hs.withNor (by rfl)
theorem Keeps.recordErrors (hs : Keeps s₀ s) {recno} : Keeps s₀ (s.recordErrors recno) := hs.fold fun _ _ hs => hs.raise
theorem Keeps.storeRecord (hs : Keeps s₀ s) {r} : Keeps s₀ (s.storeRecord r) := (hs.outside (by rfl)).late
theorem Keeps.measure (hs : Keeps s₀ s) {e} : Keeps s₀ (s.measure e) := hs.addLate.ite hs.withSec

theorem Keeps.loadHdaTables (hs : Keeps s₀ s) {h} : Keeps s₀ (s.loadHdaTables h) := by
  unfold State.loadHdaTables
  extract_lets _ r _ _ s₁ _ _ s₂
  have h₁ : Keeps s₀ s₁ := hs.recordErrors.loadSets.updMu.updMu
  clear_value s₁
  have h₂ : Keeps s₀ s₂ := h₁.withCal
  clear_value r
  split
  · exact h₂
  · exact h₂.measure.measure

theorem Keeps.applyModuleRecord (hs : Keeps s₀ s) : Keeps s₀ s.applyModuleRecord := by
  unfold State.applyModuleRecord
  extract_lets s₁
  have h₁ : Keeps s₀ s₁ := hs.recordErrors
  split
  · exact h₁.withCal
  · exact h₁.withCal

theorem Keeps.takeTrims (hs : Keeps s₀ s) {m} : Keeps s₀ (s.takeTrims m) := hs.updMu

/-! ### The Weold port (Machine/Weold) -/

theorem execHdaInserted_answers {h} : Answers s (execHdaInserted h s) := .guarded (s.keeps.updHda.ite s.keeps.updHda.setPort.portOn.raise)

theorem Keeps.bringUpTemp (hs : Keeps s₀ s) {h t} : Keeps s₀ (s.bringUpTemp h t) := by
  unfold State.bringUpTemp
  split
  · exact hs.updHda.raise
  · exact hs.hdaReading

theorem Keeps.described (hs : Keeps s₀ s) {h b} : Keeps s₀ (s.described h b) := hs.updHda.updMu.updMu

theorem Keeps.acceptHda (hs : Keeps s₀ s) {h b} : Keeps s₀ (s.acceptHda h b) := by
  unfold State.acceptHda
  extract_lets _ _ _ _ _ _ _ _ _ s₁
  have h₁ : Keeps s₀ s₁ := (hs.described.bringUpTemp.setPort.withNor (by rfl)).updMu.updMu.raise.portOff.measure
  exact h₁.loadHdaTables.ite h₁

theorem Keeps.spinIfWarm (hs : Keeps s₀ s) {h b} : Keeps s₀ (s.spinIfWarm h b) := by
  unfold State.spinIfWarm
  extract_lets s₁
  have h₁ : Keeps s₀ s₁ := hs.described.bringUpTemp
  exact h₁.updHda.askSpin.ite h₁.updHda.portOff.failHs

theorem execHdaAccepted_answers {h found} : Answers s (execHdaAccepted h found s) :=
  Answers.ite (.guarded s.keeps.acceptHda) (.guarded s.keeps.spinIfWarm)

theorem Keeps.rejectHda (hs : Keeps s₀ s) {h b} : Keeps s₀ (s.rejectHda h b) := by
  unfold State.rejectHda
  extract_lets _ s₁
  have h₁ : Keeps s₀ s₁ := by
    unfold s₁
    split
    · exact hs.raise.ite hs
    · exact hs
  exact h₁.portOff.setPort.raise.failHs

theorem execHdaRejected_answers {h found} : Answers s (execHdaRejected h found s) := .guarded s.keeps.rejectHda

theorem Keeps.release (hs : Keeps s₀ s) {h} : Keeps s₀ (s.release h) := by
  unfold State.release
  extract_lets c _ s₂
  have h₂ : Keeps s₀ s₂ := hs.portOff.setPort.raise
  clear_value c
  split
  · exact h₂.complete
  · exact h₂

theorem execHdaReleased_answers {h} : Answers s (execHdaReleased h s) := .guarded s.keeps.release
theorem Keeps.loseVolume (hs : Keeps s₀ s) {v} : Keeps s₀ (s.loseVolume v) := hs.undestage.loseZones.invalidateVolume

theorem Keeps.surpriseRemoval (hs : Keeps s₀ s) {h} : Keeps s₀ (s.surpriseRemoval h) := by
  unfold State.surpriseRemoval
  extract_lets _ s₁
  have h₁ : Keeps s₀ s₁ := by
    unfold s₁
    split
    · exact hs.endAll.complete
    · exact hs.endAll
  exact h₁.failHs.endTune.loseVolume.loseVolume.failTake.failTake.portOff.updMu.updMu.setPort.forgetTemp.raise

theorem Keeps.quietRemoval (hs : Keeps s₀ s) {h} : Keeps s₀ (s.quietRemoval h) := hs.portOff.setPort.forgetTemp

theorem execHdaRemoved_answers {h} : Answers s (execHdaRemoved h s) :=
  .unheld (s.keeps.updHda.ite (s.keeps.surpriseRemoval.ite s.keeps.quietRemoval))

theorem Keeps.paWrite (hs : Keeps s₀ s) {m a v} : Keeps s₀ (s.paWrite m a v) := hs.updMu
theorem Keeps.paRead (hs : Keeps s₀ s) {m a v ok} : Keeps s₀ (s.paRead m a v ok) := hs.updMu.ite hs.updMu.raise
theorem Keeps.assistBit (hs : Keeps s₀ s) {m stat b kind} : Keeps s₀ (s.assistBit m stat b kind) := hs.raise.ite hs

theorem Keeps.preampFault (hs : Keeps s₀ s) {m stat} : Keeps s₀ (s.preampFault m stat) := by
  unfold State.preampFault
  extract_lets _ _ s₁
  have h₁ : Keeps s₀ s₁ := hs.updMu.cutGate.raise
  exact (h₁.updMu.bump.ite h₁).assistBit.assistBit.assistBit

theorem Keeps.setStat (hs : Keeps s₀ s) {m stat} : Keeps s₀ (s.setStat m stat) := hs.updMu.ite hs.preampFault
theorem Keeps.frameEnd (hs : Keeps s₀ s) {m f flips live} : Keeps s₀ (s.frameEnd m f flips live) := hs.updMu.paRead.ite (hs.paWrite.ite hs.setStat)

theorem execPreampFrameEnd_answers {mu frame} : Answers s (execPreampFrameEnd mu frame s) := by
  unfold execPreampFrameEnd
  split
  · exact .next s.keeps
  · exact .guarded (s.keeps.updMu.ite s.keeps.updMu.frameEnd)

theorem execPreampFault_answers {mu stat} : Answers s (execPreampFault mu stat s) := .unheld s.keeps.setStat

/-! ### The rotation-locked clock and the spindle governor (Machine/Clock) -/

theorem Keeps.setBand (hs : Keeps s₀ s) {h b} : Keeps s₀ (s.setBand h b) := hs.ite hs.updHda.updMu.updMu.raise
theorem Keeps.declareLock (hs : Keeps s₀ s) {h speed} : Keeps s₀ (s.declareLock h speed) := hs.draw.updHda.setBand

theorem Keeps.acquire (hs : Keeps s₀ s) {h marks speed edgesOk} : Keeps s₀ (s.acquire h marks speed edgesOk) := by
  unfold State.acquire
  extract_lets c put s₁
  have put_keeps {f} : Keeps s₀ (put f) := hs.updHda
  clear_value put
  have h₁ : Keeps s₀ s₁ := hs.ite put_keeps
  split
  · exact put_keeps.ite (put_keeps.ite put_keeps)
  · exact put_keeps.ite (put_keeps.ite (put_keeps.ite hs.declareLock))
  · exact h₁.setBand.ite h₁

theorem Keeps.compareSpeed (hs : Keeps s₀ s) {h speed bemf} : Keeps s₀ (s.compareSpeed h speed bemf) :=
  hs.updHda.latentPass.ite (hs.updHda.raise.latentFail.ite hs.updHda)

theorem execClkIndexEdge_answers {h marks speed edgesOk bemf} : Answers s (execClkIndexEdge h marks speed edgesOk bemf s) := by
  unfold execClkIndexEdge
  refine .guarded ?_
  extract_lets _ s₁
  have h₁ : Keeps s s₁ := s.keeps.updHda.ite s.keeps.updHda.raise.bump
  exact (h₁.acquire.compareSpeed.ite h₁.acquire).overspeed

theorem execSymbolClockSettled_answers {h} : Answers s (execSymbolClockSettled h s) := .guarded s.keeps.updHda.updMu.updMu
theorem Keeps.stopClocks (hs : Keeps s₀ s) {h} : Keeps s₀ (s.stopClocks h) := hs.updHda.updMu.updMu

theorem Keeps.loseLock (hs : Keeps s₀ s) {h case lateA lateB} : Keeps s₀ (s.loseLock h case lateA lateB) :=
  hs.updMu.updMu.cutGate.cutGate.failTake.failTake.stopClocks.raise.bump

theorem execClkLockLost_answers {h case lateA lateB} : Answers s (execClkLockLost h case lateA lateB s) :=
  .unheld (s.keeps.stopClocks.ite s.keeps.loseLock)

theorem execKChangeDone_answers {mu} : Answers s (execKChangeDone mu s) := .guarded s.keeps.updMu
theorem execGovernorEval_answers {h busy} : Answers s (execGovernorEval h busy s) := .guarded s.keeps.updHda.seePressure.retarget
theorem execSpeedTargetReached_answers {h} : Answers s (execSpeedTargetReached h s) := .guarded s.keeps.updHda.settleHs

/-! ### The issue of a take and the loads of its channel and write entries (Machine/Takeup) -/

theorem Keeps.paWrites (hs : Keeps s₀ s) {m l} : Keeps s₀ (s.paWrites m l) := by
  induction l generalizing s with
  | nil => exact hs
  | cons _ _ ih => exact ih hs.paWrite

theorem Keeps.closeGates (hs : Keeps s₀ s) {m} : Keeps s₀ (s.closeGates m) := hs.updMu.cutGate.ite hs.updMu
theorem Keeps.changeK (hs : Keeps s₀ s) {m head rz} : Keeps s₀ (s.changeK m head rz) := hs.ite hs.closeGates.updHda.updMu
theorem Keeps.seekFor (hs : Keeps s₀ s) {m head track write} : Keeps s₀ (s.seekFor m head track write) := hs.ite hs.updMu.askSeek
theorem Keeps.startTake (hs : Keeps s₀ s) {m d} : Keeps s₀ (s.startTake m d) := hs.updMu.withPwr.bump.seekFor.changeK
theorem Keeps.latchSettings (hs : Keeps s₀ s) {m} : Keeps s₀ (s.latchSettings m) := hs.updMu
theorem Keeps.systemDesc (hs : Keeps s₀ s) {m d} : Keeps s₀ (s.systemDesc m d).2 := hs.draw.draw.draw.draw
theorem Keeps.lowerRetry (hs : Keeps s₀ s) {m old} : Keeps s₀ (s.lowerRetry m old) := hs.fold fun _ _ hs => hs.spendBudget

theorem Keeps.issue (hs : Keeps s₀ s) {m d} : Keeps s₀ (s.issue m d) := by
  unfold State.issue
  extract_lets s₁
  have h₁ : Keeps s₀ s₁ := hs.latchSettings.lowerRetry
  exact h₁.ite h₁.startTake

theorem Keeps.placeSystem (hs : Keeps s₀ s) {m} : Keeps s₀ (s.placeSystem m) := by
  unfold State.placeSystem
  split
  · exact hs
  · split
    · exact hs
    · split
      next e => exact (hs.systemDesc.of_snd e).updMu

theorem Keeps.choose (hs : Keeps s₀ s) {m angle l} : Keeps s₀ (s.choose m angle l) := by
  unfold State.choose
  split
  · exact hs
  · exact (hs.bump.ite hs).countTake.updMu.issue

theorem execTakeIssue_answers {mu clock angle} : Answers s (execTakeIssue mu clock angle s) := by
  unfold execTakeIssue
  extract_lets _ s₁
  have h₁ : Keeps s s₁ := s.keeps.placeSystem
  refine .guarded ?_
  split
  · exact h₁.updMu.updMu.issue
  · exact h₁.updMu.choose

theorem Keeps.paRenew (hs : Keeps s₀ s) {m a v} : Keeps s₀ (s.paRenew m a v) := hs.ite hs.paWrite

theorem Keeps.paRenews (hs : Keeps s₀ s) {m l} : Keeps s₀ (s.paRenews m l) := by
  induction l generalizing s with
  | nil => exact hs
  | cons _ _ ih => exact ih hs.paRenew

theorem Keeps.entryRead (hs : Keeps s₀ s) {m i write} : Keeps s₀ (s.entryRead m i write) := hs.bump

theorem Keeps.loadChannel (hs : Keeps s₀ s) {m d} : Keeps s₀ (s.loadChannel m d).2 := by
  unfold State.loadChannel
  extract_lets _ _ e _ _ _ s₂
  have h₂ : Keeps s₀ s₂ := (hs.ite hs.entryRead).updMu
  clear_value s₂ e
  split
  · dsimp only
    exact h₂.paRenews
  · exact h₂.raise.bump

theorem Keeps.delays (hs : Keeps s₀ s) {m d} : Keeps s₀ (s.delays m d) := hs.updMu

theorem Keeps.loadWrite (hs : Keeps s₀ s) {m d} : Keeps s₀ (s.loadWrite m d).2 := by
  unfold State.loadWrite
  extract_lets _ _ _ s₁ _ s₂
  have h₂ : Keeps s₀ s₂ := hs.entryRead.updMu
  clear_value s₂
  split
  · split
    extract_lets s₃
    have h₃ : Keeps s₀ s₃ := h₂.paRenews
    split
    · exact h₃.paRenews.paRenew.delays
    · exact h₃
  · exact h₂.raise.bump

theorem Keeps.faultStays (hs : Keeps s₀ s) {m} : Keeps s₀ (s.faultStays m) := hs.raise.failTake
theorem Keeps.loadTables (hs : Keeps s₀ s) {m d} : Keeps s₀ (s.loadTables m d) := hs.loadChannel.loadWrite.updMu.ite hs.loadChannel.loadWrite.failTake

theorem Keeps.clearFault (hs : Keeps s₀ s) {m d stays t} (e : s.clearFault m d stays = some t) : Keeps s₀ t := by
  unfold State.clearFault at e
  split at e
  · split at e
    · cases e
    · cases e
      exact hs.updMu.paWrite
  · cases e
    exact hs

theorem execTablesReady_answers {mu found} : Answers s (execTablesReady mu found s) := by
  unfold execTablesReady
  extract_lets
  split
  · exact .next s.keeps
  · refine .guarded ?_
    extract_lets
    split
    · exact s.keeps.readBursts.faultStays
    · next e => exact (s.keeps.readBursts.clearFault e).loadTables

/-! ### Where the head stands on its track, and the read gate, write gate and assist enable that follow it (Machine/Gates) -/

theorem Keeps.spanEnd (hs : Keeps s₀ s) {m more} : Keeps s₀ (s.spanEnd m more) := hs.updMu
theorem Keeps.wedgeGap (hs : Keeps s₀ s) {m d} : Keeps s₀ (s.wedgeGap m d) := hs.updMu
theorem Keeps.spanBegins (hs : Keeps s₀ s) {m} : Keeps s₀ (s.spanBegins m) := hs.updMu
theorem Keeps.resyncs (hs : Keeps s₀ s) {m sector j} : Keeps s₀ (s.resyncs m sector j) := hs.updMu

theorem Keeps.readGateAt (hs : Keeps s₀ s) {m d p} : Keeps s₀ (s.readGateAt m d p) := by
  unfold State.readGateAt
  extract_lets
  split
  · exact hs.updMu.updMu
  · exact (hs.updMu.resyncs.ite hs.updMu).updMu

theorem Keeps.assistLead (hs : Keeps s₀ s) {m e q} : Keeps s₀ (s.assistLead m e q) := hs.updMu.ite hs

theorem Keeps.writeGateAt (hs : Keeps s₀ s) {m d p} : Keeps s₀ (s.writeGateAt m d p) := by
  unfold State.writeGateAt
  extract_lets
  split
  · split
    · exact hs.assistLead.ite hs
    · exact hs
  · extract_lets
    split
    · exact hs.ite hs.spanEnd
    · split
      · exact hs
      · exact (hs.wedgeGap.ite hs).ite (hs.spanBegins.ite hs.assistLead)

theorem Keeps.gatesAt (hs : Keeps s₀ s) {m d cycle} : Keeps s₀ (s.gatesAt m d cycle) := hs.readGateAt.writeGateAt

/-! ### One cycle of a track sequencer (Machine/Cycle) -/

theorem Keeps.tsqFault (hs : Keeps s₀ s) {m kind} : Keeps s₀ (s.tsqFault m kind) := hs.raise.bump
theorem Keeps.tsqDie (hs : Keeps s₀ s) {m kind} : Keeps s₀ (s.tsqDie m kind) := hs.tsqFault.endTake

theorem Keeps.takeLba (hs : Keeps s₀ s) {m d sector} : Keeps s₀ (s.takeLba m d sector).2 := by
  unfold State.takeLba
  split
  · exact hs
  · exact hs.draw

theorem Keeps.refuseGate (hs : Keeps s₀ s) {m d sector} : Keeps s₀ (s.refuseGate m d sector) := hs.takeLba.raise.bump
theorem Keeps.readSlip (hs : Keeps s₀ s) {m sector} : Keeps s₀ (s.readSlip m sector) := hs.ite hs.updMu.bump
theorem Keeps.writeSlip (hs : Keeps s₀ s) {m sector} : Keeps s₀ (s.writeSlip m sector) := hs.ite hs.updMu.bump
theorem Keeps.sectorRead (hs : Keeps s₀ s) {m late} : Keeps s₀ (s.sectorRead m late) := hs.ite (hs.readSlip.ite hs.updMu)

theorem Keeps.doRg (hs : Keeps s₀ s) {m d op cycle} : Keeps s₀ (s.doRg m d op cycle) := by
  unfold State.doRg
  split
  · exact hs.sectorRead
  · exact hs.updMu
  · exact hs.ite (hs.updMu.ite hs.refuseGate)
  · exact hs.updMu
  · exact hs

theorem Keeps.sectorWrite (hs : Keeps s₀ s) {m d late} : Keeps s₀ (s.sectorWrite m d late) :=
  hs.ite (hs.writeSlip.ite (hs.refuseGate.writeSlip.ite hs.updMu))

theorem Keeps.doWg (hs : Keeps s₀ s) {m d op cycle} : Keeps s₀ (s.doWg m d op cycle) := by
  unfold State.doWg
  split
  · exact hs.updMu
  · exact hs.sectorWrite
  · exact hs.updMu
  · exact hs

theorem Keeps.postMsg (hs : Keeps s₀ s) {m v} : Keeps s₀ (s.postMsg m v) := hs.withStore.ite hs.bump
theorem Keeps.report1 (hs : Keeps s₀ s) {m o} : Keeps s₀ (s.report1 m o) := hs.tsqFault.ite hs.updMu

theorem Keeps.doSig (hs : Keeps s₀ s) {m op a} : Keeps s₀ (s.doSig m op a) := by
  unfold State.doSig
  split
  · exact hs.report1
  · exact hs.report1
  · exact hs.report1
  · exact hs.report1
  · exact hs.postMsg
  · exact hs

theorem Keeps.doSrv (hs : Keeps s₀ s) {m d op imm a} : Keeps s₀ (s.doSrv m d op imm a) := by
  unfold State.doSrv
  split
  · extract_lets s₁
    have h₁ : Keeps s₀ s₁ := hs.updMu.askSeek
    split
    · exact h₁.changeK
    · exact h₁
  · exact hs.updMu
  · exact hs.updMu
  · exact hs

theorem Keeps.heaterStep (hs : Keeps s₀ s) {m head extra} : Keeps s₀ (s.heaterStep m head extra) := hs.paWrite

theorem Keeps.doTbl (hs : Keeps s₀ s) {m d op} : Keeps s₀ (s.doTbl m d op) :=
  hs.ite (hs.updMu.heaterStep.ite (hs.updMu.heaterStep.ite (hs.updMu.heaterStep.ite hs.updMu)))

theorem Keeps.nanoExec (hs : Keeps s₀ s) {m d nw cycle} : Keeps s₀ (s.nanoExec m d nw cycle) := by
  unfold State.nanoExec
  extract_lets _ _ _ _ _ _ upq s₁ _ _ s₂ s₃ s₄
  have upq_keeps {u f} (hu : Keeps s₀ u) : Keeps s₀ (upq u f) := hu.updMu
  clear_value upq
  have h₁ : Keeps s₀ s₁ := hs.doRg.doWg
  have h₂ : Keeps s₀ s₂ := upq_keeps h₁
  have h₃ : Keeps s₀ s₃ := h₂.doSig.doSrv.doTbl
  have h₄ : Keeps s₀ s₄ := upq_keeps h₃
  clear_value s₄
  split
  · exact h₄
  · exact upq_keeps h₄.draw

theorem Keeps.safeViolation (hs : Keeps s₀ s) {m} : Keeps s₀ (s.safeViolation m) := hs.updMu.raise.bump
theorem Keeps.endRoutine (hs : Keeps s₀ s) {m} : Keeps s₀ (s.endRoutine m) := (hs.updMu.safeViolation.ite hs.updMu).endTake
theorem Keeps.goTo (hs : Keeps s₀ s) {m a safe} : Keeps s₀ (s.goTo m a safe) := hs.updMu
theorem Keeps.takeEvent (hs : Keeps s₀ s) {m a stop} : Keeps s₀ (s.takeEvent m a stop) := hs.tsqDie.ite hs.updMu

theorem Keeps.callRet (hs : Keeps s₀ s) {m a nxt target} : Keeps s₀ (s.callRet m a nxt target) := by
  unfold State.callRet
  split
  · exact hs.tsqDie.ite hs.updMu.goTo
  · split
    · exact hs.endRoutine
    · exact hs.updMu.goTo

theorem Keeps.loop (hs : Keeps s₀ s) {m a i target} : Keeps s₀ (s.loop m a i target).2 := by
  unfold State.loop
  extract_lets
  split
  · exact hs
  · exact hs.updMu

theorem Keeps.microExec (hs : Keeps s₀ s) {m d a w nw i} : Keeps s₀ (s.microExec m d a w nw i) := by
  unfold State.microExec
  extract_lets _ nxt
  split
  · exact hs.takeEvent
  · split
    · exact hs.updMu
    · split
      next u e =>
      have hu : Keeps s₀ u := by
        refine .of_snd ?_ e
        split
        · exact hs.loop
        · exact hs
      extract_lets t
      have ht : Keeps s₀ t := hu.nanoExec
      clear_value t nxt
      split
      · exact ht.goTo
      · exact ht.goTo
      · exact ht.callRet.ite ht.goTo
      · exact ht.callRet.ite ht.goTo
      · exact ht.goTo
      · exact ht.goTo
      · exact ht.goTo
      · exact ht.goTo

theorem Keeps.corrected (hs : Keeps s₀ s) {m ecc} : Keeps s₀ (s.corrected m ecc) := hs.bump.ite hs

theorem Keeps.cycle (hs : Keeps s₀ s) {m d i} : Keeps s₀ (s.cycle m d i) := by
  unfold State.cycle
  extract_lets _ s₁
  have h₁ : Keeps s₀ s₁ := hs.updMu.gatesAt
  split
  · exact h₁.tsqDie
  · split
    · exact h₁.corrected.tsqDie
    · split
      · exact h₁.corrected.tsqDie
      · exact h₁.corrected.corrected.tsqDie.ite h₁.corrected.corrected.microExec

theorem execTsqCycle_answers {mu inputs} : Answers s (execTsqCycle mu inputs s) := by
  unfold execTsqCycle
  split
  · exact .next s.keeps
  · exact .guarded s.keeps.cycle

theorem execTsqSafeViolation_answers {mu} : Answers s (execTsqSafeViolation mu s) := .guarded s.keeps.safeViolation

theorem Keeps.endSwap (hs : Keeps s₀ s) {p r} : Keeps s₀ (s.endSwap p r) := by
  unfold State.endSwap
  extract_lets
  split
  · exact hs.withStore.complete
  · exact hs.withStore

theorem execMicrocodeSwapInstall_answers {copiesOk} : Answers s (execMicrocodeSwapInstall copiesOk s) := by
  unfold execMicrocodeSwapInstall
  split
  · exact .next s.keeps
  · refine .guarded ?_
    split
    · extract_lets s₁
      have h₁ : Keeps s s₁ := s.keeps.withStore
      exact (h₁.raise.measure.ite h₁.raise).endSwap
    · exact s.keeps.withStore.tsqFault.endSwap

/-! ### Reading slates and quoting them (Machine/Slates) -/

theorem Keeps.giveSlate (hs : Keeps s₀ s) {t x} : Keeps s₀ (s.giveSlate t x) := by
  unfold State.giveSlate
  split
  · exact hs.endWith
  · exact hs.sendBytes.endWith

theorem execGetSlateRead_answers {tag} : Answers s (execGetSlateRead tag s) := .manage fun _ hs => hs.giveSlate
theorem execGetSlateNewest_answers {tag} : Answers s (execGetSlateNewest tag s) := .manage fun _ hs => hs.giveSlate
theorem execGetSlateOldestUnexported_answers {tag} : Answers s (execGetSlateOldestUnexported tag s) := .manage fun _ hs => hs.giveSlate
theorem Keeps.markSlates (hs : Keeps s₀ s) {n} : Keeps s₀ (s.markSlates n) := hs.withNor (by rfl)
theorem Keeps.markExported (hs : Keeps s₀ s) {t n} : Keeps s₀ (s.markExported t n) := hs.markSlates.endWith
theorem execGetSlateMarkExported_answers {tag} : Answers s (execGetSlateMarkExported tag s) := .simple fun _ hs => hs.markExported
theorem Keeps.quote (hs : Keeps s₀ s) {nonce omitLate} : Keeps s₀ (s.quote nonce omitLate).2 := hs.draw

theorem Keeps.attest (hs : Keeps s₀ s) {t nonce} : Keeps s₀ (s.attest t nonce) := by
  unfold State.attest
  split
  next e =>
  split
  · exact hs.endWith
  · exact (hs.quote.of_snd e).sendBytes.endWith

theorem execAttestQuote_answers {tag nonce} : Answers s (execAttestQuote tag nonce s) :=
  Answers.ite (.manage fun _ hs => hs.attest) (.next s.keeps)

/-! ### Firmware images, slots and activation (Machine/Firmware) -/

theorem Keeps.stagePart (hs : Keeps s₀ s) {o data} : Keeps s₀ (s.stagePart o data) := hs.withSec

theorem execFwDownloadPart_answers {tag data} : Answers s (execFwDownloadPart tag data s) :=
  Answers.ite (.manage fun _ hs => hs.stagePart.endWith) (.next s.keeps)

theorem Keeps.stagedPoison (hs : Keeps s₀ s) {t n} : Keeps s₀ (s.stagedPoison t n) := hs.bump.raisePoison.endWith

theorem Keeps.commitImage (hs : Keeps s₀ s) {t len} : Keeps s₀ (s.commitImage t len) := by
  unfold State.commitImage
  extract_lets
  split
  · exact hs.stagedPoison
  · split
    · exact hs.endWith
    · split
      · exact hs.authFailed.endWith
      · exact hs.updSlot.setPhase

theorem Keeps.slotWritten (hs : Keeps s₀ s) {len} : Keeps s₀ (s.slotWritten len) := hs.updSlot
theorem Keeps.commitEnd (hs : Keeps s₀ s) {t len} : Keeps s₀ (s.commitEnd t len) := hs.slotWritten.endWith

theorem execFwDownloadCommit_answers {tag} : Answers s (execFwDownloadCommit tag s) := by
  unfold execFwDownloadCommit
  split
  · exact .next s.keeps.adopt.slotWritten
  · exact Answers.ite (.next s.keeps.commitEnd) (Answers.ite (.simple fun _ hs => hs.commitImage) (.next s.keeps))

theorem execFwDownloadDiscard_answers {tag} : Answers s (execFwDownloadDiscard tag s) :=
  Answers.ite (.simple fun _ hs => hs.withSec.endWith) (.next s.keeps)

theorem execFwActivateNextReset_answers {tag} : Answers s (execFwActivateNextReset tag s) :=
  Answers.ite (.simple fun _ hs => (hs.withNor (by rfl)).endWith) (.next s.keeps)

theorem execFwActivateImmediate_answers {tag} : Answers s (execFwActivateImmediate tag s) :=
  Answers.ite (.simple fun _ hs => (hs.outside (by rfl)).setPhase) (.next s.keeps)

theorem Keeps.writeHandover (hs : Keeps s₀ s) : Keeps s₀ s.writeHandover := hs.draw.draw.draw.draw.bufWrite

theorem execActivationHandover_answers : Answers s (execActivationHandover s) := by
  unfold execActivationHandover
  split
  · exact .next s.keeps
  · exact .guarded s.keeps.writeHandover.withMgt

theorem Keeps.endOpt (hs : Keeps s₀ s) {t r} : Keeps s₀ (s.endOpt t r) := by
  unfold State.endOpt
  split
  · exact hs
  · exact hs.endWith

theorem Keeps.endActivation (hs : Keeps s₀ s) {t r} : Keeps s₀ (s.endActivation t r) := hs.withMgt.endOpt
theorem Keeps.nextBoot (hs : Keeps s₀ s) : Keeps s₀ s.nextBoot := hs.ite (hs.withNor (by rfl))
theorem Keeps.runSlot (hs : Keeps s₀ s) {slot slateOk} : Keeps s₀ (s.runSlot slot slateOk) := (hs.outside (by rfl)).nextBoot.signSlate.writeSlate

theorem Keeps.newFirmware (hs : Keeps s₀ s) {a cause slateOk} : Keeps s₀ (s.newFirmware a cause slateOk) :=
  hs.runSlot.withMgt.ite (hs.withNor (by rfl)).authFailed.endActivation

theorem execActivationNewFwStart_answers {found slateOk} : Answers s (execActivationNewFwStart found slateOk s) := by
  unfold execActivationNewFwStart
  split
  · exact .next s.keeps
  · exact .guarded s.keeps.newFirmware

theorem Keeps.putSwap (hs : Keeps s₀ s) {x} : Keeps s₀ (s.putSwap x) := hs.withStore.ite hs.withStore

theorem Keeps.activationDone (hs : Keeps s₀ s) {a vendor} : Keeps s₀ (s.activationDone a vendor) := by
  unfold State.activationDone
  extract_lets _ s₁
  have h₁ : Keeps s₀ s₁ := hs.endActivation.notice
  exact h₁.putSwap.ite h₁

theorem execActivationDone_answers {vendor} : Answers s (execActivationDone vendor s) := by
  unfold execActivationDone
  split
  · exact .next s.keeps
  · exact .guarded s.keeps.activationDone

theorem Keeps.takeover (hs : Keeps s₀ s) {a slateOk} : Keeps s₀ (s.takeover a slateOk) := hs.runSlot.endActivation.raise

theorem execActivationTimeout_answers {slateOk} : Answers s (execActivationTimeout slateOk s) := by
  unfold execActivationTimeout
  split
  · exact .next s.keeps
  · exact .guarded s.keeps.takeover

/-! ### The spore vault (Machine/Vault) -/

theorem Keeps.updArea (hs : Keeps s₀ s) {n f} : Keeps s₀ (s.updArea n f) := by
  unfold State.updArea
  split <;> exact hs.withNor rfl

theorem execVaultBoundUpdate_answers {erased} : Answers s (execVaultBoundUpdate erased s) := .guarded s.keeps.withVlt
theorem Keeps.beginErase (hs : Keeps s₀ s) {n} : Keeps s₀ (s.beginErase n) := hs.updArea.withVlt
theorem Keeps.eraseNext (hs : Keeps s₀ s) : Keeps s₀ s.eraseNext := hs.withVlt.beginErase.ite hs
theorem Keeps.eraseBoth (hs : Keeps s₀ s) : Keeps s₀ s.eraseBoth := hs.withVlt.eraseNext.ite hs.withVlt.beginErase

theorem execVaultEraseDone_answers : Answers s (execVaultEraseDone s) := by
  unfold execVaultEraseDone
  split
  · exact .next s.keeps
  · exact .guarded s.keeps.updArea.withVlt.eraseNext

theorem Keeps.startDump (hs : Keeps s₀ s) : Keeps s₀ s.startDump := hs.ite ((hs.withNor (by rfl)).ite hs.updArea.bump.withVlt)
theorem Keeps.closeImage (hs : Keeps s₀ s) {progress} : Keeps s₀ (s.closeImage progress) := hs.updArea.withVlt
theorem Keeps.holdRestart (hs : Keeps s₀ s) : Keeps s₀ s.holdRestart := hs.withMns.resetIslands.outside (by rfl)

theorem Keeps.dumpEnd (hs : Keeps s₀ s) {progress} : Keeps s₀ (s.dumpEnd progress) := by
  unfold State.dumpEnd
  extract_lets
  split
  · extract_lets s₁
    have h₁ : Keeps s₀ s₁ := hs.closeImage.thermalShutdown
    clear_value s₁
    exact (h₁.outside (by rfl)).ite h₁
  · exact hs.closeImage.holdRestart.ite hs.closeImage

theorem execVaultDumpDone_answers : Answers s (execVaultDumpDone s) := .guarded s.keeps.dumpEnd

theorem Keeps.failChannel (hs : Keeps s₀ s) {c progress} : Keeps s₀ (s.failChannel c progress) := by
  unfold State.failChannel
  extract_lets _ s₁
  have h₁ : Keeps s₀ s₁ := hs.withVlt.raise
  exact h₁.dumpEnd.ite h₁

theorem execVaultChannelFailed_answers {channel progress} : Answers s (execVaultChannelFailed channel progress s) :=
  .guarded s.keeps.failChannel

theorem execVaultBlockRetire_answers {area channel} : Answers s (execVaultBlockRetire area channel s) := by
  unfold execVaultBlockRetire
  refine .guarded ?_
  extract_lets s₁
  have h₁ : Keeps s s₁ := s.keeps.updArea.bump
  exact (h₁.withVlt.failChannel.ite h₁.withVlt).ite h₁

theorem Keeps.releaseVlt (hs : Keeps s₀ s) {channels} : Keeps s₀ (s.releaseVlt channels) := hs.withVlt.fold fun _ _ hs => hs.ite hs.raise
theorem Keeps.raiseStamped (hs : Keeps s₀ s) {k a t} : Keeps s₀ (s.raiseStamped k a t) := hs.offer

theorem Keeps.loseOpen (hs : Keeps s₀ s) {l} : Keeps s₀ (s.loseOpen l) := by
  induction l generalizing s with
  | nil => exact hs
  | cons _ _ ih => exact ih hs.deferErrorAs

theorem Keeps.allLost (hs : Keeps s₀ s) {dirty t zs} : Keeps s₀ (s.allLost dirty t zs) := hs.loseOpen.raiseStamped.withVlt

theorem Keeps.skippedDump (hs : Keeps s₀ s) {zs} : Keeps s₀ (s.skippedDump zs) := by
  unfold State.skippedDump
  split
  · exact hs
  · exact hs.allLost.withNor (by rfl)

theorem Keeps.restoreZone (hs : Keeps s₀ s) {gone k x} : Keeps s₀ (s.restoreZone gone k x) := hs.updZone

theorem Keeps.restoreZones (hs : Keeps s₀ s) {i foreign l} : Keeps s₀ (s.restoreZones i foreign l) := by
  induction l generalizing s with
  | nil => exact hs
  | cons _ _ ih => exact ih hs.restoreZone

theorem Keeps.installDirty (hs : Keeps s₀ s) {conv k d} : Keeps s₀ (s.installDirty conv k d) := hs.placeStaged.ite hs.placeLineAs

theorem Keeps.installAll (hs : Keeps s₀ s) {conv l} : Keeps s₀ (s.installAll conv l) := by
  induction l generalizing s with
  | nil => exact hs
  | cons _ _ ih => exact ih hs.installDirty

theorem Keeps.loseKeys (hs : Keeps s₀ s) {i cause ks l} : Keeps s₀ (s.loseKeys i cause ks l) := by
  induction l generalizing s with
  | nil => exact hs
  | cons _ _ ih => exact ih hs.deferErrorAs

theorem Keeps.enterService (hs : Keeps s₀ s) : Keeps s₀ s.enterService := (hs.outside (by rfl)).emit

theorem Keeps.replayGood (hs : Keeps s₀ s) {i found} : Keeps s₀ (s.replayGood i found) := by
  unfold State.replayGood
  extract_lets _ _ _ _ _ _ _ _ _ s₁ s₂
  have h₁ : Keeps s₀ s₁ := hs.restoreZones.installAll.loseKeys.loseKeys.loseKeys.raiseStamped
  have h₂ : Keeps s₀ s₂ := h₁.ite h₁.raiseStamped
  exact (h₂.ite h₂.raiseStamped).withVlt.raise

theorem Keeps.replayBad (hs : Keeps s₀ s) {i found} : Keeps s₀ (s.replayBad i found) := by
  unfold State.replayBad
  extract_lets s₁
  have h₁ : Keeps s₀ s₁ := hs.raiseStamped
  exact (h₁.ite h₁.raiseStamped).allLost.withVlt.raise

theorem Keeps.replayEnd (hs : Keeps s₀ s) : Keeps s₀ s.replayEnd := by
  unfold State.replayEnd
  extract_lets _ _ _ _ s₁
  have h₁ : Keeps s₀ s₁ := hs.updArea.withVlt.bump
  exact (h₁.withVlt.ite h₁.eraseBoth).enterService

theorem execReplayStart_answers : Answers s (execReplayStart s) := .guarded s.keeps.withVlt.emit

theorem execReplayDone_answers {found} : Answers s (execReplayDone found s) :=
  .guarded (s.keeps.replayGood.ite s.keeps.replayBad).replayEnd

theorem Keeps.reinstall (hs : Keeps s₀ s) : Keeps s₀ s.reinstall := hs.installAll

/-! ### Mains feeds, the power-fail signal, the hold-up bank with its energy and health test, and the CALREF connector (Machine/Mains) -/

/-- NOR takes a copy of the counters. -/
theorem Keeps.saveTime (hs : Keeps s₀ s) : Keeps s₀ s.saveTime := by
  refine hs.trans ⟨rfl, Nat.le_refl _, fun _ h => h, fun c => ?_⟩
  rw [canonical_iff] at c ⊢
  obtain ⟨h1, h2, h3, h4, h5, h6, h7, -⟩ := c
  exact ⟨h1, h2, h3, h4, h5, h6, h7, h7⟩

theorem Keeps.assertPowerFail (hs : Keeps s₀ s) {case} : Keeps s₀ (s.assertPowerFail case) := by
  unfold State.assertPowerFail
  split
  · exact hs
  · extract_lets s₁ s₂ _ s₃
    have h₁ : Keeps s₀ s₁ := hs.raise.bump
    have h₂ : Keeps s₀ s₂ := h₁.bump.ite h₁
    have h₃ : Keeps s₀ s₃ := h₂.withMns
    split
    next s₄ e =>
    have h₄ : Keeps s₀ s₄ := h₃.draw.of_snd e
    extract_lets s₅
    have h₅ : Keeps s₀ s₅ := h₄.saveTime.ite h₄
    exact h₅.startDump.ite h₅

theorem Keeps.updFeed (hs : Keeps s₀ s) {f g} : Keeps s₀ (s.updFeed f g) := hs.withMns
theorem execFeedPresent_answers {feed} : Answers s (execFeedPresent feed s) := .guarded s.keeps.updFeed.raise.settleLedger

theorem execFeedLost_answers {feed} : Answers s (execFeedLost feed s) := by
  unfold execFeedLost
  refine .unheld ?_
  extract_lets _ s₁
  have h₁ : Keeps s s₁ := s.keeps.updFeed.raise.bump.settleLedger
  exact h₁.ite h₁.assertPowerFail

theorem Keeps.markStages (hs : Keeps s₀ s) : Keeps s₀ s.markStages := hs.withMns
theorem execInputStageFault_answers : Answers s (execInputStageFault s) := .unheld s.keeps.markStages.assertPowerFail
theorem execBusCollapse_answers : Answers s (execBusCollapse s) := .unheld s.keeps.assertPowerFail
theorem execHoldupConverterJoin_answers : Answers s (execHoldupConverterJoin s) := .guarded s.keeps.withMns
theorem execEUsableUpdate_answers {m} : Answers s (execEUsableUpdate m s) := .guarded s.keeps.withMns
theorem execHoldupTestStart_answers : Answers s (execHoldupTestStart s) := .guarded s.keeps.withMns

theorem Keeps.testDone (hs : Keeps s₀ s) {cap esr cellOver} : Keeps s₀ (s.testDone cap esr cellOver) := by
  unfold State.testDone
  extract_lets _ _ _ _ _ _ s₁ _ s₂ s₃
  have h₁ : Keeps s₀ s₁ := hs.outside (by rfl)
  have h₂ : Keeps s₀ s₂ := h₁.raise.raise.ite h₁.raise
  have h₃ : Keeps s₀ s₃ := h₂.raise.ite h₂
  exact (h₃.latentFail.ite h₃.latentPass).endAll

theorem execHoldupTestDone_answers {v0 v0s v1 cellOver} : Answers s (execHoldupTestDone v0 v0s v1 cellOver s) := .guarded s.keeps.testDone
theorem execCalrefPresent_answers : Answers s (execCalrefPresent s) := .guarded s.keeps.withMns

theorem execCalrefGone_answers : Answers s (execCalrefGone s) := by
  unfold execCalrefGone
  refine .guarded ?_
  extract_lets _ _ s₁
  have h₁ : Keeps s s₁ := s.keeps.outside (by rfl)
  split
  · exact h₁.complete
  · exact h₁

/-! ### The PCI Express host link (Machine/HostLink) -/

theorem Keeps.noeshReset (hs : Keeps s₀ s) {e} : Keeps s₀ (s.noeshReset e) := by
  unfold State.noeshReset
  extract_lets s₁ s₂
  have h₁ : Keeps s₀ s₁ := hs.discardAll
  have h₂ : Keeps s₀ s₂ := h₁.trans (.stores rfl rfl (swf_sdrop _ _ _) id (swf_sdrop _ _ _) id id id id)
  exact h₂.updEp

theorem execPerstAssert_answers {ep} : Answers s (execPerstAssert ep s) := .unheld (s.keeps.updEp.noeshReset.updEp.ite s.keeps.updEp)
theorem execPerstRelease_answers {ep} : Answers s (execPerstRelease ep s) := .unheld s.keeps.updEp
theorem execHotReset_answers {ep} : Answers s (execHotReset ep s) := .unheld s.keeps.noeshReset.updEp
theorem execFunctionLevelReset_answers {ep} : Answers s (execFunctionLevelReset ep s) := .guarded s.keeps.noeshReset.updEp
theorem execFunctionLevelResetDone_answers {ep} : Answers s (execFunctionLevelResetDone ep s) := .guarded s.keeps.updEp
theorem Keeps.controllerReset (hs : Keeps s₀ s) {e} : Keeps s₀ (s.controllerReset e) := hs.ite hs.noeshReset.updEp
theorem execControllerReset_answers {ep} : Answers s (execControllerReset ep s) := .barServed s.keeps.controllerReset
theorem execControllerResetDone_answers {ep} : Answers s (execControllerResetDone ep s) := .guarded s.keeps.updEp
theorem Keeps.sendLtr (hs : Keeps s₀ s) {e} : Keeps s₀ (s.sendLtr e) := hs.emit.ite hs
theorem Keeps.restLink (hs : Keeps s₀ s) {e} : Keeps s₀ (s.restLink e) := hs.updEp.ite hs

theorem execConfigSpaceWrite_answers {ep field} : Answers s (execConfigSpaceWrite ep field s) := by
  unfold execConfigSpaceWrite
  refine .guarded ?_
  extract_lets s₁
  have h₁ : Keeps s s₁ := s.keeps.updEp.restLink.msixRelease.settleWakeN
  split
  · exact h₁.sendLtr
  · exact h₁

theorem execAspmL1Entry_answers {ep l12} : Answers s (execAspmL1Entry ep l12 s) := .guarded s.keeps.updEp
theorem execAspmL1Exit_answers {ep} : Answers s (execAspmL1Exit ep s) := .guarded s.keeps.updEp.settleWakeN

theorem Keeps.linkTrained (hs : Keeps s₀ s) {e speed width} : Keeps s₀ (s.linkTrained e speed width) :=
  ((hs.bump.ite hs).updEp.restLink.raise.ite (hs.bump.ite hs).updEp.restLink).settleWakeN

theorem execLinkTrained_answers {ep speed width} : Answers s (execLinkTrained ep speed width s) := .guarded s.keeps.linkTrained
theorem execAerCorrectable_answers {ep aerBit} : Answers s (execAerCorrectable ep aerBit s) := .guarded s.keeps.updEp.bump.raise

theorem execBar0WriteDiscard_answers {ep aerBit address lost} : Answers s (execBar0WriteDiscard ep aerBit address lost s) := by
  unfold execBar0WriteDiscard
  refine .guarded ?_
  extract_lets s₁
  have h₁ : Keeps s s₁ := s.keeps.aerUncorr
  exact h₁.endLost.ite h₁

theorem Keeps.settleAlert (hs : Keeps s₀ s) : Keeps s₀ s.settleAlert := hs.withAlert
theorem Keeps.clearFaultSum (hs : Keeps s₀ s) {e m} : Keeps s₀ (s.clearFaultSum e m) := hs.updEp.settleAlert
theorem Keeps.writeFaultPin (hs : Keeps s₀ s) {w} : Keeps s₀ (s.writeFaultPin w) := hs.withFlt.ite hs

theorem Keeps.writePort (hs : Keeps s₀ s) {e n ofs w} : Keeps s₀ (s.writePort e n ofs w) :=
  hs.updPort.ite (hs.updPort.ite (hs.writeTagCount.ite (hs.updPort.ite hs)))

theorem Keeps.writeCq (hs : Keeps s₀ s) {e q ofs w} : Keeps s₀ (s.writeCq e q ofs w) :=
  hs.updCq.ite (hs.updCq.ite (hs.updCq.ite (hs.writeCqCtl.ite (hs.updCq.ite (hs.writeHead.ite (hs.updCq.ite hs))))))

theorem Keeps.writeDw (hs : Keeps s₀ s) {e a w} : Keeps s₀ (s.writeDw e a w) :=
  (hs.controllerReset.ite hs).ite (hs.clearFaultSum.ite (hs.writeFaultPin.ite (hs.updEp.ite (hs.writePort.ite (hs.writeCq.ite (hs.updEp.msixRelease.ite hs))))))

theorem Keeps.writeDws (hs : Keeps s₀ s) {e a l} : Keeps s₀ (s.writeDws e a l) := by
  induction l generalizing s a with
  | nil => exact hs
  | cons _ _ ih => exact ih hs.writeDw

theorem execRegisterWrite_answers {ep address words whole} : Answers s (execRegisterWrite ep address words whole s) :=
  .barServed (s.keeps.writeDws.ite s.keeps.badAccess)

theorem execFaultSumClear_answers {ep mask} : Answers s (execFaultSumClear ep mask s) := .barServed s.keeps.clearFaultSum
theorem execFaultPinRelease_answers {ep value} : Answers s (execFaultPinRelease ep value s) := .barServed s.keeps.writeFaultPin

/-! ### The read channel and the decoder pool (Machine/ReadPath) -/

theorem Keeps.updWork (hs : Keeps s₀ s) {m sector f} : Keeps s₀ (s.updWork m sector f) := hs.updMu
theorem Keeps.sectorFails (hs : Keeps s₀ s) {m sector} : Keeps s₀ (s.sectorFails m sector) := hs.updWork.updMu
theorem Keeps.startRead (hs : Keeps s₀ s) {m d sector} : Keeps s₀ (s.startRead m d sector) := hs.refuseGate.updMu.ite (hs.readSlip.ite hs.updMu)

theorem Keeps.requestAttempt (hs : Keeps s₀ s) {m sector} : Keeps s₀ (s.requestAttempt m sector) := by
  unfold State.requestAttempt
  split
  · exact hs
  · split
    · exact hs.sectorFails
    · exact hs.updWork.withLdp

theorem execClapperDecision_answers {mu signal} : Answers s (execClapperDecision mu signal s) := by
  unfold execClapperDecision
  extract_lets
  split
  · refine .guarded ?_
    extract_lets _ _ s₁
    have h₁ : Keeps s s₁ := s.keeps.updMu.updWork
    exact (h₁.bump.ite h₁).requestAttempt
  · exact .next s.keeps

theorem Keeps.grantEngine (hs : Keeps s₀ s) {m} : Keeps s₀ (s.grantEngine m) := by
  unfold State.grantEngine
  split
  · exact hs
  · exact hs.withLdp.updWork

theorem execLdpGrant_answers : Answers s (execLdpGrant s) := by
  unfold execLdpGrant
  split
  · exact .next s.keeps
  · exact .guarded s.keeps.grantEngine

theorem Keeps.sectorRead1 (hs : Keeps s₀ s) {m w o globals locals x} : Keeps s₀ (s.sectorRead1 m w o globals locals x) := by
  unfold State.sectorRead1
  extract_lets _ _ s₁
  have h₁ : Keeps s₀ s₁ := by
    unfold s₁
    split
    · exact hs.updWork
    · exact hs.updWork.bump
    · exact hs.updWork.bump
  split
  · exact h₁.updCalib
  · split
    · exact h₁
    · exact h₁.deliver

theorem Keeps.convergedWord (hs : Keeps s₀ s) {m w word} : Keeps s₀ (s.convergedWord m w word) := by
  unfold State.convergedWord
  extract_lets _ s₁
  have h₁ : Keeps s₀ s₁ := hs.updMu.ite hs
  exact h₁.ite h₁.updMu

theorem Keeps.attemptDone (hs : Keeps s₀ s) {m w o full locals word} : Keeps s₀ (s.attemptDone m w o full locals word) := by
  unfold State.attemptDone
  extract_lets _ s₁ s₂ again
  have h₁ : Keeps s₀ s₁ := hs.withLdp
  have h₂ : Keeps s₀ s₂ := h₁.updWork
  have again_keeps {u} (hu : Keeps s₀ u) : Keeps s₀ (again u) := hu.bump.requestAttempt
  clear_value again s₂
  split
  split
  · exact again_keeps h₂
  · extract_lets _ _ s₃
    have h₃ : Keeps s₀ s₃ := h₂.convergedWord
    exact h₃.sectorRead1.ite (again_keeps h₃.bump)

theorem Keeps.poolLost (hs : Keeps s₀ s) {m w} : Keeps s₀ (s.poolLost m w) := hs.endAll

theorem execDecodeAttemptDone_answers {mu sector locals memory} : Answers s (execDecodeAttemptDone mu sector locals memory s) := by
  unfold execDecodeAttemptDone
  extract_lets _ _ stray
  have stray_answers : Answers s stray := .guarded s.keeps.withLdp
  split
  · split
    · exact stray_answers
    · split
      · refine .guarded ?_
        split
        · exact s.keeps.raise.attemptDone.poolLost
        · exact (s.keeps.raise.ite s.keeps).attemptDone
      · exact stray_answers
  · exact stray_answers

theorem execRecoveryTakeSubmit_answers {mu} : Answers s (execRecoveryTakeSubmit mu s) := by
  unfold execRecoveryTakeSubmit
  extract_lets
  split
  · exact .next s.keeps
  · exact .guarded s.keeps.updMu

theorem Keeps.measureFail (hs : Keeps s₀ s) {item} : Keeps s₀ (s.measureFail item) := hs.raise.bump

theorem execConverterSparePeriod_answers {converter ok} : Answers s (execConverterSparePeriod converter ok s) :=
  .guarded ((s.keeps.updMu.ite s.keeps.updMu.withCal).bump.settleConverters.ite s.keeps.withCal.measureFail.settleConverters)

theorem execConverterSwap_answers {converter} : Answers s (execConverterSwap converter s) := .guarded s.keeps.updMu

/-! ### The module's power states, wake sources, channel gating and the corrections of the calibration engine (Machine/Power) -/

theorem Keeps.reachPs (hs : Keeps s₀ s) {n} : Keeps s₀ (s.reachPs n) := hs.withPwr.raise.notice.sendLtr.sendLtr

theorem Keeps.endPs (hs : Keeps s₀ s) : Keeps s₀ s.endPs := by
  unfold State.endPs
  extract_lets c _ s₁
  have h₁ : Keeps s₀ s₁ := hs.withPwr
  clear_value c
  split
  · exact h₁.complete
  · exact h₁

theorem Keeps.stepPs (hs : Keeps s₀ s) {k n} : Keeps s₀ (s.stepPs k n) := by
  unfold State.stepPs
  extract_lets _ _ s₁
  have h₁ : Keeps s₀ s₁ := hs.withPwr.ite hs.withPwr.reachPs
  exact h₁.endPs.ite h₁

theorem Keeps.pushDown (hs : Keeps s₀ s) {n} : Keeps s₀ (s.pushDown n) :=
  hs.fold fun _ _ hs => hs.ite (hs.setHs.ite (hs.setHs.ite (hs.ite hs.beginHs)))

theorem Keeps.enterPs (hs : Keeps s₀ s) {n cmd} : Keeps s₀ (s.enterPs n cmd) := hs.withPwr.pushDown.stepPs.ite hs.withPwr.pushDown
theorem Keeps.sleep (hs : Keeps s₀ s) : Keeps s₀ s.sleep := hs.trans (.stores rfl rfl id id id (swf_smap _ _ _) id id id)

theorem Keeps.entryStep (hs : Keeps s₀ s) {k} : Keeps s₀ (s.entryStep k) :=
  hs.stepPs.ite (hs.stepPs.ite (hs.sleep.stepPs.ite (hs.withPwr.pushDown.ite hs.withPwr)))

theorem execPsEntryStep_answers : Answers s (execPsEntryStep s) := .guarded s.keeps.entryStep
theorem Keeps.pullUp (hs : Keeps s₀ s) {n} : Keeps s₀ (s.pullUp n) := hs.fold fun _ _ hs => hs.ite hs.beginHs

theorem Keeps.exitPs3 (hs : Keeps s₀ s) : Keeps s₀ s.exitPs3 := by
  unfold State.exitPs3
  extract_lets _ s₁
  have h₁ : Keeps s₀ s₁ := hs.stepPs.ite hs.withPwr
  exact h₁.pullUp.ite h₁

theorem Keeps.exitPs (hs : Keeps s₀ s) {n cmd} : Keeps s₀ (s.exitPs n cmd) := by
  unfold State.exitPs
  extract_lets _ s₁
  have h₁ : Keeps s₀ s₁ := hs.withPwr
  split
  · refine .settleWakeN (h₁.trans (.stores rfl rfl id id id (fun h => ?_) id id id))
    dsimp only
    with_reducible exact swf_smap _ _ _ h
  · exact h₁.exitPs3

theorem Keeps.wakeDomains (hs : Keeps s₀ s) : Keeps s₀ s.wakeDomains := by
  unfold State.wakeDomains
  extract_lets _ s₁ _ s₂
  have h₁ : Keeps s₀ s₁ := hs.trans (.stores rfl rfl id id id id (swf_smap _ _ _) (swf_smap _ _ _) id)
  have h₂ : Keeps s₀ s₂ := h₁.withPwr
  exact (h₂.fold fun _ _ hs => hs.loadSets).reinstall

theorem Keeps.endGating (hs : Keeps s₀ s) : Keeps s₀ s.endGating := (hs.withPwr.fold fun _ _ hs => hs.setHs.ite hs).retargetAll

theorem Keeps.exitStep (hs : Keeps s₀ s) {k} : Keeps s₀ (s.exitStep k) :=
  hs.withPwr.ite (hs.wakeDomains.withPwr.ite (hs.exitPs3.ite ((hs.stepPs.pullUp.ite hs.stepPs).ite (hs.stepPs.ite hs.endGating.stepPs))))

theorem execPsExitStep_answers : Answers s (execPsExitStep s) := .guarded s.keeps.exitStep
theorem Keeps.movePs (hs : Keeps s₀ s) {n cmd} : Keeps s₀ (s.movePs n cmd) := hs.enterPs.ite hs.exitPs
theorem execWakeTimer_answers : Answers s (execWakeTimer s) := .guarded s.keeps.fireWake
theorem execWake_answers : Answers s (execWake s) := .guarded s.keeps.withPwr.bump.exitPs
theorem execChannelGating_answers {mu} : Answers s (execChannelGating mu s) := .guarded s.keeps.withPwr
theorem execCalCorrection_answers : Answers s (execCalCorrection s) := .guarded s.keeps.withCal
theorem Keeps.calrefStore (hs : Keeps s₀ s) {x} : Keeps s₀ (s.calrefStore x) := hs.storeRecord.withCal

theorem execCalrefMeasurementDone_answers {found} : Answers s (execCalrefMeasurementDone found s) := by
  unfold execCalrefMeasurementDone
  refine .guarded ?_
  extract_lets c _ s₁ finish
  have h₁ : Keeps s s₁ := s.keeps.withCal
  have finish_keeps {r u} (hu : Keeps s u) : Keeps s (finish r u) := by
    unfold finish
    clear_value c
    split
    · exact hu.complete
    · exact hu
  split
  · exact finish_keeps h₁.measureFail
  · exact finish_keeps (h₁.calrefStore.fold fun _ _ hs => hs.raise)

/-! ### Starts (Machine/StartUp) -/

theorem Keeps.nextPcc (hs : Keeps s₀ s) : Keeps s₀ s.nextPcc := hs.ite (hs.withTime.raise.ite hs.withTime)
theorem Keeps.loadMasks (hs : Keeps s₀ s) {ok} : Keeps s₀ (s.loadMasks ok) := hs.withFlt.ite hs.withFlt.raise

theorem Keeps.loadFeatures (hs : Keeps s₀ s) {linkOk} : Keeps s₀ (s.loadFeatures linkOk) := by
  unfold State.loadFeatures
  extract_lets s₁ _ _ s₂
  have h₁ : Keeps s₀ s₁ := hs.withFeat
  have h₂ : Keeps s₀ s₂ := h₁.outside rfl
  exact (h₂.ite h₂.raise).settleAlert

theorem Keeps.forgetBuffer (hs : Keeps s₀ s) : Keeps s₀ s.forgetBuffer :=
  (hs.filled (cold := true)).trans (.stores rfl rfl id id id id id (fun _ => rfl) id)

theorem Keeps.release_ (hs : Keeps s₀ s) {x cause cold} : Keeps s₀ (s.release_ x cause cold) :=
  ((hs.withStart.withMns.withPwr.forgetBuffer.ite hs.withStart.withMns.withPwr).newKey.outside (by rfl)).loadMasks.loadFeatures.settleTherm

theorem Keeps.eraseAgain (hs : Keeps s₀ s) : Keeps s₀ s.eraseAgain := by
  unfold State.eraseAgain
  split
  · exact hs.withVlt.ite hs.beginErase
  · exact hs.eraseNext

/-- The counters begin again with their copy in NOR. -/
theorem Keeps.wakeAlwaysOn (hs : Keeps s₀ s) : Keeps s₀ s.wakeAlwaysOn := by
  refine hs.trans ⟨rfl, Nat.le_refl _, fun _ h => h, fun c => ?_⟩
  rw [canonical_iff] at c ⊢
  obtain ⟨h1, h2, h3, h4, h5, h6, -, h8⟩ := c
  exact ⟨h1, h2, h3, h4, h5, h6, h8, h8⟩

theorem Keeps.powerUp (hs : Keeps s₀ s) {x} : Keeps s₀ (s.powerUp x) := (hs.nextPcc.outside (by rfl)).releaseVlt.eraseBoth.release_
theorem execPowerOn_answers {feed found} : Answers s (execPowerOn feed found s) := .unheld s.keeps.updFeed.wakeAlwaysOn.powerUp.emit.emit

theorem Keeps.moduleReset (hs : Keeps s₀ s) {pin} : Keeps s₀ (s.moduleReset pin) := by
  unfold State.moduleReset
  extract_lets _ s₁ _ t
  have ht : Keeps s₀ t := (hs.fold fun _ _ hs => hs.retract).resetIslands
  clear_value t
  exact ht.outside rfl

theorem execModuleReset_answers : Answers s (execModuleReset s) := .unheld s.keeps.moduleReset

theorem execVltRelease_answers {channels} : Answers s (execVltRelease channels s) := by
  unfold execVltRelease
  refine .guarded ?_
  extract_lets s₁
  have h₁ : Keeps s s₁ := s.keeps.releaseVlt.eraseAgain
  exact h₁.startDump.ite h₁

theorem execModuleRestart_answers {found} : Answers s (execModuleRestart found s) := .guarded (s.keeps.withStart.ite s.keeps.release_)

theorem execThermalHoldRestart_answers {found} : Answers s (execThermalHoldRestart found s) :=
  .guarded s.keeps.withThp.releaseVlt.eraseAgain.release_

theorem execDumpRestart_answers {found} : Answers s (execDumpRestart found s) :=
  .guarded (s.keeps.holdRestart.ite s.keeps).powerUp.emit.emit

theorem execBusSwitchOff_answers {progress} : Answers s (execBusSwitchOff progress s) := by
  unfold execBusSwitchOff
  refine .unheld ?_
  extract_lets s₁
  have h₁ : Keeps s s₁ := s.keeps.closeImage.ite s.keeps
  refine h₁.trans (.stores rfl rfl (fun _ => rfl) (fun _ => rfl) (fun _ => rfl) (fun h => ?_) (fun _ => rfl) (fun _ => rfl) (fun _ => rfl))
  dsimp only
  with_reducible exact swf_smap _ _ _ h

theorem execColdFillDone_answers : Answers s (execColdFillDone s) := .guarded s.keeps.filled.withBuf.emit
theorem execWarmFillDone_answers : Answers s (execWarmFillDone s) := .guarded s.keeps.filled.withBuf.reinstall.emit

theorem Keeps.takePending (hs : Keeps s₀ s) : Keeps s₀ s.takePending := by
  unfold State.takePending
  split
  · exact hs.withNor (by rfl)
  · exact hs

theorem Keeps.loadKeys (hs : Keeps s₀ s) {lost} : Keeps s₀ (s.loadKeys lost) := (hs.fold fun _ _ hs => (hs.withNor (by rfl)).raise).withSec
theorem Keeps.runStage0 (hs : Keeps s₀ s) {slot fallback} : Keeps s₀ (s.runStage0 slot fallback) := hs.outside (by rfl)

theorem execFiddleheadStart_answers {okA okB lostKeys} : Answers s (execFiddleheadStart okA okB lostKeys s) := by
  unfold execFiddleheadStart
  refine .guarded ?_
  extract_lets _ _ _ s₁
  have h₁ : Keeps s s₁ := s.keeps.nextBoot.takePending.loadKeys.emit
  exact h₁.runStage0.ite (h₁.runStage0.ite h₁.withStart.emit)

theorem execStage2Start_answers {failed patch vendor badRecords} : Answers s (execStage2Start failed patch vendor badRecords s) := by
  unfold execStage2Start
  refine .guarded ?_
  extract_lets _ s₁ _ _ _ s₂
  have h₁ : Keeps s s₁ := s.keeps.withSec.emit
  have h₂ : Keeps s s₂ := (h₁.outside (by rfl)).failRecords.applyModuleRecord
  split
  · exact h₁.withStart
  · split
    · exact h₂.measure.emit
    · exact h₂.emit

theorem execHdaTablesLoad_answers {badRecords openZones} : Answers s (execHdaTablesLoad badRecords openZones s) := by
  unfold execHdaTablesLoad
  refine .guarded ?_
  extract_lets _ _ s₁ _ _ s₂
  have h₁ : Keeps s s₁ := (s.keeps.failRecords.emit.fold fun _ _ hs => hs.loadHdaTables.ite hs).skippedDump
  clear_value s₁
  have h₂ : Keeps s s₂ := h₁.outside rfl
  exact h₂.enterService.ite h₂

/-- SVN_MIN rises to the running image's SVN at most, and fuses are only burnt. -/
theorem Keeps.burnFuses (hs : Keeps s₀ s) : Keeps s₀ s.burnFuses := by
  refine hs.trans ⟨rfl, Nat.le_max_left _ _, fun i h => ?_, fun c => c⟩
  simp [State.burnFuses, h]

theorem execBootReady_answers {slateOk} : Answers s (execBootReady slateOk s) := by
  unfold execBootReady
  refine .guarded ?_
  extract_lets _ _ _ _ _ s₁
  have h₁ : Keeps s s₁ := (s.keeps.signSlate.writeSlate.burnFuses.outside (by rfl)).sendLtr.sendLtr
  exact (h₁.ite h₁.exitPs).emit.emit

/-! ### The fault collector with its reactions, the writer of the continuity log, latent tests, the watch over the management cores and the operating time (Machine/FaultLog) -/

theorem Keeps.resetTsq (hs : Keeps s₀ s) {m} : Keeps s₀ (s.resetTsq m) := hs.failTake.updMu
theorem Keeps.resetRch (hs : Keeps s₀ s) {m} : Keeps s₀ (s.resetRch m) := hs.failTake.updMu
theorem Keeps.resetWas (hs : Keeps s₀ s) {m} : Keeps s₀ (s.resetWas m) := hs.updMu
theorem Keeps.resetLdp (hs : Keeps s₀ s) : Keeps s₀ s.resetLdp := (hs.fold fun _ _ hs => hs.fold fun _ _ hs => hs.sectorFails).withLdp

theorem Keeps.restartCore (hs : Keeps s₀ s) {core} : Keeps s₀ (s.restartCore core) := by
  unfold State.restartCore
  extract_lets task _ s₁
  have h₁ : Keeps s₀ s₁ := hs.withMgt
  clear_value task
  split
  · exact h₁
  · exact h₁.endWith
  · extract_lets
    split
    · exact h₁.updMu.takeSpent
    · exact h₁

theorem Keeps.blockReset (hs : Keeps s₀ s) {m} : Keeps s₀ (s.blockReset m) := by
  unfold State.blockReset
  extract_lets
  split
  · exact hs.fold fun _ _ hs => hs.controllerReset.ite hs
  · exact hs.fold fun _ _ hs => hs.controllerReset.ite hs
  · exact hs.resetTsq
  · exact hs.resetRch
  · exact hs.resetLdp
  · exact hs.resetWas
  · exact hs.updHda.settleSrvReset
  · exact hs.failTake.failTake.stopClocks
  · exact hs.restartCore
  · exact hs

theorem Keeps.driveFault (hs : Keeps s₀ s) {src} : Keeps s₀ (s.driveFault src) := hs.withFlt

theorem Keeps.react (hs : Keeps s₀ s) {m r header} : Keeps s₀ (s.react m r header) := by
  unfold State.react
  extract_lets s₁ s₂ _ s₃ s₄
  have h₁ : Keeps s₀ s₁ := hs.notice.ite hs
  have h₂ : Keeps s₀ s₂ := h₁.driveFault.ite h₁
  have h₃ : Keeps s₀ s₃ := h₂.withLog.ite h₂
  have h₄ : Keeps s₀ s₄ := h₃.blockReset.ite h₃
  exact h₄.moduleReset.ite h₄

theorem Keeps.sumFault (hs : Keeps s₀ s) {m} : Keeps s₀ (s.sumFault m) := hs.ite hs.updEp.updEp.settleAlert
theorem Keeps.enterHistory (hs : Keeps s₀ s) {h} : Keeps s₀ (s.enterHistory h) := hs.withFlt.bump.ite hs.withFlt

theorem Keeps.accept_ (hs : Keeps s₀ s) {e} : Keeps s₀ (s.accept_ e) := by
  unfold State.accept_
  extract_lets _ _ _ _ _ s₁
  have h₁ : Keeps s₀ s₁ := hs.enterHistory.bump.sumFault
  exact (h₁.logQueue.ite h₁).react

theorem execFaultEventAccept_answers : Answers s (execFaultEventAccept s) := by
  unfold execFaultEventAccept
  split
  · exact .next s.keeps
  · exact .unheld s.keeps.withFlt.accept_

theorem Keeps.updRing (hs : Keeps s₀ s) {h f} : Keeps s₀ (s.updRing h f) := by
  unfold State.updRing
  split <;> exact hs.withNor rfl

theorem Keeps.programRecord (hs : Keeps s₀ s) {r} : Keeps s₀ (s.programRecord r) := hs.updRing.withNor (by rfl)
theorem Keeps.failProgram (hs : Keeps s₀ s) {h} : Keeps s₀ (s.failProgram h) := hs.updRing.raise.bump

theorem Keeps.writeCleared (hs : Keeps s₀ s) {r} : Keeps s₀ (s.writeCleared r) := by
  unfold State.writeCleared
  extract_lets _ _ _ _ s₁
  have h₁ : Keeps s₀ s₁ := hs.updRing.updRing.programRecord
  split
  · exact h₁.complete
  · exact h₁

theorem Keeps.writeRecord (hs : Keeps s₀ s) {r} : Keeps s₀ (s.writeRecord r) := hs.writeCleared.ite hs.programRecord

theorem execLogRecordWrite_answers {ok} : Answers s (execLogRecordWrite ok s) := by
  unfold execLogRecordWrite
  split
  · split
    · exact .guarded (s.keeps.withLog.programRecord.ite s.keeps.failProgram)
    · split
      · exact .next s.keeps
      · exact .guarded (s.keeps.withLog.writeRecord.ite s.keeps.failProgram)
  · exact .next s.keeps

theorem Keeps.eraseOldest (hs : Keeps s₀ s) {h ok} : Keeps s₀ (s.eraseOldest h ok) := by
  unfold State.eraseOldest
  split
  · exact hs
  · exact hs.updRing.bump.ite hs.updRing.bump.raise

theorem execLogSegmentErase_answers {ringH ok} : Answers s (execLogSegmentErase ringH ok s) := .guarded s.keeps.eraseOldest

theorem execHandshakeStall_answers {sub inst sender sinst cls} : Answers s (execHandshakeStall sub inst sender sinst cls s) :=
  .guarded s.keeps.raise

theorem Keeps.holdTask (hs : Keeps s₀ s) {x} : Keeps s₀ (s.holdTask x) := by
  unfold State.holdTask
  split
  · exact hs.setPhase.ite hs
  · exact hs

theorem execMgtHang_answers {core task} : Answers s (execMgtHang core task s) := .guarded s.keeps.raise.holdTask.withMgt

theorem execMgtLoadPublish_answers {load} : Answers s (execMgtLoadPublish load s) := by
  unfold execMgtLoadPublish
  refine .guarded ?_
  extract_lets _ _ _ s₁
  have h₁ : Keeps s s₁ := s.keeps.withMgt
  exact h₁.raise.bump.ite h₁

theorem execLatentTest_answers {test sub inst part pass} : Answers s (execLatentTest test sub inst part pass s) :=
  .guarded (s.keeps.latentPass.ite s.keeps.latentFail)

theorem Keeps.hourTick (hs : Keeps s₀ s) : Keeps s₀ s.hourTick := (hs.withTime.ite (hs.withTime.withTime.raise.ite hs.withTime.withTime)).saveTime

theorem execOpsTick_answers : Answers s (execOpsTick s) := by
  unfold execOpsTick
  refine .guarded ?_
  extract_lets _ _ _ s₁
  have h₁ : Keeps s s₁ := s.keeps.outside (by rfl)
  exact h₁.withTime.withTime.ite h₁.withTime.hourTick

/-! ### The registers that can be read of the global region and of the diagnostic window, and the register snapshots that they feed (Machine/Regs) -/

theorem execNmiSnapshot_answers : Answers s (execNmiSnapshot s) := by
  unfold execNmiSnapshot
  split
  · exact .next s.keeps
  · exact .guarded (s.keeps.withLog.fold fun _ _ hs => hs.logQueue)

/-! ### The write path (Machine/WritePath) -/

theorem Keeps.crcCut (hs : Keeps s₀ s) {m lba sector poisoned} : Keeps s₀ (s.crcCut m lba sector poisoned) := hs.bump.updMu.raise.bump.bump
theorem Keeps.encoded (hs : Keeps s₀ s) {m sector word} : Keeps s₀ (s.encoded m sector word) := hs.updMu
theorem Keeps.encodeOrCut (hs : Keeps s₀ s) {m d k x} : Keeps s₀ (s.encodeOrCut m d k x) := hs.encoded.ite hs.crcCut

theorem execSectorEncode_answers {fetch} : Answers s (execSectorEncode fetch s) := by
  unfold execSectorEncode
  extract_lets
  split
  · split
    · exact .next s.keeps.draw.encoded
    · split
      · exact .next s.keeps
      · exact .guarded s.keeps.readBursts.encodeOrCut
  · exact .next s.keeps

theorem Keeps.startWrite (hs : Keeps s₀ s) {m d sector} : Keeps s₀ (s.startWrite m d sector) :=
  hs.spanEnd.updMu.ite (hs.spanEnd.writeSlip.ite (hs.updMu.ite hs.spanEnd).spanBegins.updMu)

theorem execSectorStart_answers {mu} : Answers s (execSectorStart mu s) := by
  unfold execSectorStart
  extract_lets
  split
  · exact .next s.keeps
  · split
    · exact .next s.keeps.startRead
    · split
      · exact .next s.keeps.startWrite
      · exact .next s.keeps

theorem Keeps.cutAssist (hs : Keeps s₀ s) {m} : Keeps s₀ (s.cutAssist m) := hs.updMu.bump
theorem Keeps.monitor (hs : Keeps s₀ s) {m mon} : Keeps s₀ (s.monitor m mon) := hs.updMu.cutAssist.raise.ite hs.updMu

theorem execAssistMonitorRead_answers {mu mon parityOk} : Answers s (execAssistMonitorRead mu mon parityOk s) :=
  .detected (s.keeps.updMu.monitor.ite s.keeps.updMu.raise)

theorem Keeps.noGateCut (hs : Keeps s₀ s) {m} : Keeps s₀ (s.noGateCut m) := hs.cutAssist.raise
theorem execAstCutNogate_answers {mu} : Answers s (execAstCutNogate mu s) := .unheld s.keeps.noGateCut

/-! ### IDENTIFY, features, log pages, POWER_STATE, HDA_CTL, CLEAR_THERMAL_HOLD, COUNTER_CTL and FAULT_CTL (Machine/Mgmt) -/

theorem execIdentifyModule_answers {tag} : Answers s (execIdentifyModule tag s) := .manage fun _ hs => hs.sendBytes.endWith
theorem execIdentifyVolume_answers {tag} : Answers s (execIdentifyVolume tag s) := .manage fun _ hs => hs.sendBytes.endWith
theorem Answers.getFeature {t sub f} : Answers s (s.getFeature t sub f) := .simple fun _ hs => hs.endWith
theorem execGetFeatureCurrent_answers {tag} : Answers s (execGetFeatureCurrent tag s) := .getFeature
theorem execGetFeatureSaved_answers {tag} : Answers s (execGetFeatureSaved tag s) := .getFeature
theorem execGetFeatureDefault_answers {tag} : Answers s (execGetFeatureDefault tag s) := .getFeature

theorem Keeps.putFeature (hs : Keeps s₀ s) {fid idx v} : Keeps s₀ (s.putFeature fid idx v) := by
  unfold State.putFeature
  extract_lets _ _ s₁
  have h₁ : Keeps s₀ s₁ := hs.withNor (by rfl)
  exact h₁.ite h₁.withFeat

theorem Keeps.setFloor (hs : Keeps s₀ s) {floor slot} : Keeps s₀ (s.setFloor floor slot) := hs.ite hs.logMark.withLog

theorem Keeps.setFeature (hs : Keeps s₀ s) {t slot} : Keeps s₀ (s.setFeature t slot) :=
  hs.endWith.ite (hs.putFeature.settleAlert.ite (hs.putFeature.setFloor.ite hs.putFeature)).late.endWith

theorem execSetFeature_answers {tag token} : Answers s (execSetFeature tag token s) :=
  Answers.ite (.next s.keeps) (.manage fun _ hs => hs.setFeature)

theorem Keeps.getLog (hs : Keeps s₀ s) {t} : Keeps s₀ (s.getLog t) := (hs.sendBytes.withStore.ite hs.sendBytes).endWith
theorem execGetLog_answers {tag} : Answers s (execGetLog tag s) := .manage fun _ hs => hs.getLog

theorem Keeps.clearLog (hs : Keeps s₀ s) {t slot} : Keeps s₀ (s.clearLog t slot) := by
  unfold State.clearLog
  extract_lets
  split
  · exact hs.withFlt.endWith
  · exact hs.logMark.setPhase
  · exact hs.withStore.endWith
  · exact hs.withMgt.endWith

theorem execClearLog_answers {tag token} : Answers s (execClearLog tag token s) :=
  Answers.ite (.next s.keeps) (.manage fun _ hs => hs.clearLog)

theorem execPowerStateSet_answers {tag} : Answers s (execPowerStateSet tag s) := .simple fun _ hs => hs.endWith.ite hs.setPhase.movePs
theorem execPowerStateGet_answers {tag} : Answers s (execPowerStateGet tag s) := .simple fun _ hs => hs.endWith
theorem Keeps.setHsCtl (hs : Keeps s₀ s) {t h n} : Keeps s₀ (s.setHsCtl t h n) := hs.setHs.endWith.ite hs.setPhase.beginHs
theorem execHdaCtlSetHs_answers {tag} : Answers s (execHdaCtlSetHs tag s) := Answers.ite (.next s.keeps) (.simple fun _ hs => hs.setHsCtl)
theorem Keeps.beginRelease (hs : Keeps s₀ s) {t h} : Keeps s₀ (s.beginRelease t h) := hs.setPhase.setPort

theorem execHdaCtlRelease_answers {tag} : Answers s (execHdaCtlRelease tag s) :=
  Answers.ite (.next s.keeps) (.simple fun _ hs => hs.beginRelease)

theorem execHdaCtlRestart_answers {tag} : Answers s (execHdaCtlRestart tag s) :=
  Answers.ite (.next s.keeps) (.simple fun _ hs => hs.setPhase.beginHs)

theorem execHdaCtlGet_answers {tag} : Answers s (execHdaCtlGet tag s) := .simple fun _ hs => hs.endWith

theorem execClearThermalHold_answers {tag} : Answers s (execClearThermalHold tag s) :=
  .simple fun _ hs => (hs.outside (by rfl)).settleTherm.endWith

theorem execCounterCtlClearRange_answers {tag} : Answers s (execCounterCtlClearRange tag s) := .simple fun _ hs => hs.clearCtrs.endWith
theorem execCounterCtlClearAll_answers {tag} : Answers s (execCounterCtlClearAll tag s) := .simple fun _ hs => hs.clearCtrs.endWith
theorem execCounterCtlClearTime_answers {tag} : Answers s (execCounterCtlClearTime tag s) := .simple fun _ hs => hs.withTime.endWith

theorem execFaultCtlSetMask_answers {tag} : Answers s (execFaultCtlSetMask tag s) :=
  .simple fun _ hs => (hs.outside (by rfl)).late.endWith

theorem execFaultCtlGetMask_answers {tag} : Answers s (execFaultCtlGetMask tag s) := .simple fun _ hs => hs.endWith

theorem execFaultCtlRestoreDefaults_answers {tag} : Answers s (execFaultCtlRestoreDefaults tag s) :=
  .simple fun _ hs => (hs.outside (by rfl)).late.endWith

theorem Keeps.forcePath (hs : Keeps s₀ s) {sub inst kind addr} : Keeps s₀ (s.forcePath sub inst kind addr) :=
  hs.cutGate.raise.ite (hs.crcCut.ite (hs.cutAssist.raise.ite (hs.engineFault.ite (hs.raise.retract.ite hs.loseLock))))

theorem Keeps.markInjected (hs : Keeps s₀ s) {old src kind} : Keeps s₀ (s.markInjected old src kind) := hs.withFlt
theorem Keeps.inject (hs : Keeps s₀ s) {p} : Keeps s₀ (s.inject p) := hs.forcePath.markInjected.ite hs.offer
theorem execFaultCtlInject_answers {tag} : Answers s (execFaultCtlInject tag s) := .simple fun _ hs => hs.inject.endWith

/-! ### The Data Object Exchange mailboxes and the SPDM responder (Machine/Spdm) -/

theorem Keeps.updSpdm (hs : Keeps s₀ s) {conn f} : Keeps s₀ (s.updSpdm conn f) := hs.updEp.ite hs.withSec
theorem Keeps.answer (hs : Keeps s₀ s) {conn bs} : Keeps s₀ (s.answer conn bs) := (hs.updEp.ite hs).emit
theorem Keeps.mctp (hs : Keeps s₀ s) {f} (hf : ∀ t, Keeps s₀ t → Keeps s₀ (f t)) : Keeps s₀ (s.mctp f) := hs.fireWake.ite (hf _ hs)

theorem execDoeRequest_answers {ep kind bytes} : Answers s (execDoeRequest ep kind bytes s) :=
  .guarded (s.keeps.answer.ite (s.keeps.updEp.updEp.ite s.keeps))

theorem execDoeAbort_answers {ep} : Answers s (execDoeAbort ep s) := .guarded s.keeps.updEp
theorem Keeps.respond (hs : Keeps s₀ s) {conn r} : Keeps s₀ (s.respond conn r) := hs.answer.ite hs.updSpdm.answer

theorem Answers.spdmServe {conn codeOk req f} (hf : ∀ t, Keeps s t → Keeps s (f t)) : Answers s (s.spdmServe conn codeOk req f) :=
  .guarded ((hf _ s.keeps).ite (s.keeps.mctp hf))

theorem Answers.spdmAsk {conn code stage min req f} (hf : ∀ t, Keeps s t → Keeps s (f t)) : Answers s (s.spdmAsk conn code stage min req f) :=
  .spdmServe fun _ hs => by
    extract_lets
    split
    · exact hs.updSpdm.answer
    · exact hf _ hs.updSpdm

theorem execSpdmGetVersion_answers {conn request} : Answers s (execSpdmGetVersion conn request s) :=
  .spdmServe fun _ hs => hs.updSpdm.answer

theorem execSpdmGetCapabilities_answers {conn request} : Answers s (execSpdmGetCapabilities conn request s) :=
  .spdmAsk fun _ hs => hs.updSpdm.answer

theorem execSpdmNegotiateAlgorithms_answers {conn request} : Answers s (execSpdmNegotiateAlgorithms conn request s) :=
  .spdmAsk fun _ hs => hs.answer.ite hs.updSpdm.answer

theorem execSpdmGetDigests_answers {conn request} : Answers s (execSpdmGetDigests conn request s) := .spdmAsk fun _ hs => hs.respond

theorem execSpdmGetCertificate_answers {conn request} : Answers s (execSpdmGetCertificate conn request s) :=
  .spdmAsk fun _ hs => hs.answer.ite hs.respond

theorem Keeps.respondOrDefer (hs : Keeps s₀ s) {conn code ready r} : Keeps s₀ (s.respondOrDefer conn code ready r) := hs.respond.ite hs.updSpdm.answer

theorem execSpdmChallenge_answers {conn request ready} : Answers s (execSpdmChallenge conn request ready s) :=
  .spdmAsk fun _ hs => hs.answer.ite hs.draw.draw.respondOrDefer

theorem execSpdmGetMeasurements_answers {conn request ready} : Answers s (execSpdmGetMeasurements conn request ready s) := by
  unfold execSpdmGetMeasurements
  refine .spdmAsk fun u hs => ?_
  extract_lets
  split
  · exact hs.answer
  · split
    · exact hs.answer
    · split
      next e =>
      have h := hs.draw.of_snd e
      extract_lets
      split
      · exact h.draw.respondOrDefer
      · exact h.respondOrDefer

theorem execSpdmChunkGet_answers {conn request} : Answers s (execSpdmChunkGet conn request s) :=
  .spdmServe fun _ hs => by
    extract_lets
    split
    · exact hs.answer
    · exact hs.answer.ite (hs.answer.ite hs.updSpdm.answer)

theorem execSpdmRespondIfReady_answers {conn request} : Answers s (execSpdmRespondIfReady conn request s) :=
  .spdmServe fun _ hs => by
    extract_lets
    split
    · exact hs.answer
    · split
      · exact hs.answer
      · exact hs.answer.ite hs.updSpdm.respond

theorem execSpdmUnsupported_answers {conn request} : Answers s (execSpdmUnsupported conn request s) :=
  .spdmServe fun _ hs => hs.bump.answer

/-! ### MCTP over SMBus (Machine/Mctp) -/

theorem Answers.mctpServe {f} (hf : ∀ t, Keeps s t → Keeps s (f t)) : Answers s (s.mctpServe f) := .guarded (s.keeps.mctp hf)

theorem execMctpSetEndpointId_answers {inst op eid} : Answers s (execMctpSetEndpointId inst op eid s) :=
  .mctpServe fun _ hs => hs.withMctpEid.answer.ite hs.answer

theorem execMctpGetEndpointId_answers {inst} : Answers s (execMctpGetEndpointId inst s) := .mctpServe fun _ hs => hs.answer

theorem execMctpGetVersionSupport_answers {inst msgType} : Answers s (execMctpGetVersionSupport inst msgType s) :=
  .mctpServe fun _ hs => hs.draw.answer.ite hs.answer

theorem execMctpGetMessageTypeSupport_answers {inst} : Answers s (execMctpGetMessageTypeSupport inst s) :=
  .mctpServe fun _ hs => hs.answer

theorem execOhmithRegisterRead_answers {addr count} : Answers s (execOhmithRegisterRead addr count s) :=
  .mctpServe fun _ hs => hs.emit.ite hs.emit

theorem Keeps.ohmithLog (hs : Keeps s₀ s) {p} : Keeps s₀ (s.ohmithLog p).2.2 := (hs.outside (by rfl)).ite hs
theorem Keeps.ohmithMark (hs : Keeps s₀ s) {n} : Keeps s₀ (s.ohmithMark n).2.2 := hs.markSlates

theorem Keeps.ohmithRun (hs : Keeps s₀ s) {p nonce} : Keeps s₀ (s.ohmithRun p nonce).2.2 := by
  unfold State.ohmithRun
  extract_lets
  split
  · exact hs
  · split
    · exact hs
    · split
      · exact hs
      · exact hs
  · exact hs.ohmithLog
  · split
    · exact hs
    · split
      · exact hs
      · split
        · exact hs
        · exact hs.ohmithMark
  · exact hs.quote

theorem execOhmithTaskPacket_answers {bytes} : Answers s (execOhmithTaskPacket bytes s) := by
  refine .guarded (s.keeps.mctp fun _ hs => ?_)
  extract_lets
  split
  · exact hs.answer
  · exact hs.ohmithRun.answer

theorem execSmbusAlertResponse_answers : Answers s (execSmbusAlertResponse s) := .guarded s.keeps.emit

/-! ### SERVO_WEDGE_SAMPLE (Machine/Wedge) -/

theorem Keeps.decideSectors (hs : Keeps s₀ s) {m good} : Keeps s₀ (s.decideSectors m good) := hs.updMu.report.settleBudget.ite hs.updMu.report
theorem Keeps.writingLba (hs : Keeps s₀ s) {m} : Keeps s₀ (s.writingLba m).2 := hs.takeLba
theorem Keeps.servoCut (hs : Keeps s₀ s) {m kind} : Keeps s₀ (s.servoCut m kind) := hs.writingLba.cutGate.raise
theorem Keeps.segmentEnds (hs : Keeps s₀ s) {m wedge} : Keeps s₀ (s.segmentEnds m wedge) := (hs.spanEnd.ite (hs.wedgeGap.ite hs)).updMu

theorem Keeps.wasSample (hs : Keeps s₀ s) {m wedge valid pes} : Keeps s₀ (s.wasSample m wedge valid pes) := by
  unfold State.wasSample
  extract_lets _ _ _ _ _ _ _ _ s₁
  have h₁ : Keeps s₀ s₁ := hs.segmentEnds.updMu.decideSectors
  exact h₁.servoCut.ite h₁

theorem Keeps.demodulate (hs : Keeps s₀ s) {m i wedge} : Keeps s₀ (s.demodulate m i wedge) := by
  unfold State.demodulate
  split
  next e₁ =>
  split
  next e₂ =>
  split
  next e₃ =>
  extract_lets _ _ _ t
  have ht : Keeps s₀ t := (((hs.draw.of_snd e₁).draw.of_snd e₂).draw.of_snd e₃).updMu
  exact ht.bump.ite ht

theorem Keeps.injectSample (hs : Keeps s₀ s) {h wedge} : Keeps s₀ (s.injectSample h wedge).1 := by
  unfold State.injectSample
  extract_lets put
  have put_keeps {u a x} (hu : Keeps s₀ u) : Keeps s₀ (put u a x) := hu.updMu
  split
  · exact put_keeps (put_keeps hs)
  · split
    exact put_keeps (put_keeps hs.updHda)

theorem Keeps.command (hs : Keeps s₀ s) {h i gen} : Keeps s₀ (s.command h i gen) := hs.draw.draw.draw.updHda.updMu.updMu
theorem Keeps.posLost (hs : Keeps s₀ s) {m} : Keeps s₀ (s.posLost m) := hs.engineFault.ite hs
theorem Keeps.vcmFault (hs : Keeps s₀ s) {m} : Keeps s₀ (s.vcmFault m) := hs.engineFault.ite hs

theorem Keeps.wedgeSample (hs : Keeps s₀ s) {h i} : Keeps s₀ (s.wedgeSample h i) := by
  unfold State.wedgeSample
  split
  next s₁ _ e =>
  extract_lets s₂ arrive s₃
  have h₂ : Keeps s₀ s₂ := (hs.injectSample.of_fst e).demodulate.demodulate
  have arrive_keeps {u m} (hu : Keeps s₀ u) : Keeps s₀ (arrive u m) := hu.wasSample
  have h₃ : Keeps s₀ s₃ := (arrive_keeps (arrive_keeps h₂)).command
  exact h₃.posLost.posLost.vcmFault.vcmFault.settleRelease

theorem execServoWedgeSample_answers {h sample} : Answers s (execServoWedgeSample h sample s) := .detected s.keeps.wedgeSample

/-! ### CALIBRATE, MICROCODE_LOAD and SERVO_TUNE (Machine/MgmtUnits) -/

theorem execCalibrateHoldupTest_answers {tag} : Answers s (execCalibrateHoldupTest tag s) := .simple fun _ hs => hs.withMns.setPhase

theorem execCalibrateCalref_answers {tag token} : Answers s (execCalibrateCalref tag token s) :=
  Answers.ite (.next s.keeps) (.manage fun _ hs => hs.withCal.setPhase)

theorem Keeps.calConverters (hs : Keeps s₀ s) {t} : Keeps s₀ (s.calConverters t) := hs.withCal.setPhase.settleConverters

theorem execCalibrateConverter_answers {tag} : Answers s (execCalibrateConverter tag s) :=
  Answers.ite (.next s.keeps) (.simple fun _ hs => hs.calConverters)

theorem Keeps.beginChannel (hs : Keeps s₀ s) {t v} : Keeps s₀ (s.beginChannel t v) := hs.updMu.setPhase
theorem Keeps.channelEnd (hs : Keeps s₀ s) {v k adapted} : Keeps s₀ (s.channelEnd v k adapted).2 := hs.updMu.takeTrims

theorem execCalibrateChannel_answers {tag token adapted} : Answers s (execCalibrateChannel tag token adapted s) := by
  unfold execCalibrateChannel
  extract_lets
  split
  · split
    · exact .next s.keeps.adopt
    · exact .guarded s.keeps.adopt.channelEnd
  · split
    · split
      · exact .next s.keeps
      · exact .guarded s.keeps.channelEnd.endWith
    · exact Answers.ite (.next s.keeps) (.manage fun _ hs => hs.beginChannel)

theorem Keeps.storeHda (hs : Keeps s₀ s) {h} : Keeps s₀ (s.storeHda h) := hs.takeTrims.takeTrims.storeRecord.withCal

theorem execCalibrateStore_answers {tag token} : Answers s (execCalibrateStore tag token s) :=
  Answers.ite (.next s.keeps) (.manage fun _ hs => hs.storeHda.endWith)

theorem Keeps.refuseImage (hs : Keeps s₀ s) {t a} : Keeps s₀ (s.refuseImage t a) := hs.draw.draw.endWith

theorem Keeps.loadImage (hs : Keeps s₀ s) {t img} : Keeps s₀ (s.loadImage t img) := by
  unfold State.loadImage
  split
  · exact hs.authFailed.endWith
  · split
    · exact hs.refuseImage
    · exact hs.setPhase.putSwap

theorem execMicrocodeLoadLoad_answers {tag data} : Answers s (execMicrocodeLoadLoad tag data s) := .manage fun _ hs => hs.loadImage
theorem execMicrocodeLoadClear_answers {tag} : Answers s (execMicrocodeLoadClear tag s) := .simple fun _ hs => hs.setPhase.putSwap

theorem execMicrocodeLoadBind_answers {tag} : Answers s (execMicrocodeLoadBind tag s) :=
  .simple fun _ hs => hs.endWith.ite hs.withStore.endWith

theorem execMicrocodeLoadUnbind_answers {tag} : Answers s (execMicrocodeLoadUnbind tag s) := .simple fun _ hs => hs.withStore.endWith
theorem execMicrocodeLoadRomMode_answers {tag} : Answers s (execMicrocodeLoadRomMode tag s) := .simple fun _ hs => hs.withStore.endWith
theorem Keeps.tuneStart (hs : Keeps s₀ s) {t v p} : Keeps s₀ (s.tuneStart t v p) := hs.endWith.ite hs.updHda.updMu.stopTsq.setPhase
theorem execServoTuneStart_answers {tag} : Answers s (execServoTuneStart tag s) := .simple fun _ hs => hs.tuneStart

theorem Keeps.tuneStop (hs : Keeps s₀ s) {t v} : Keeps s₀ (s.tuneStop t v) := by
  unfold State.tuneStop
  split
  · exact hs.endWith
  · exact hs.endTune.endWith.ite hs.endWith

theorem execServoTuneStop_answers {tag} : Answers s (execServoTuneStop tag s) := .simple fun _ hs => hs.tuneStop

theorem Keeps.tuneReplace (hs : Keeps s₀ s) {t data} : Keeps s₀ (s.tuneReplace t data) := by
  unfold State.tuneReplace
  extract_lets
  split
  · exact hs.endWith
  · exact hs.updHda.late.endWith

theorem execServoTuneReplace_answers {tag token data} : Answers s (execServoTuneReplace tag token data s) :=
  Answers.ite (.next s.keeps) (.manage fun _ hs => hs.tuneReplace)

/-! ### Every command, and the step -/

/-- Every command answers a next state that keeps the queue, SVN_MIN, the burnt fuses and the canonical form. -/
theorem exec_answers (i : Instr) (s : State) : Answers s (exec i s) :=
  match i with
  | .powerOn .. => execPowerOn_answers
  | .feedPresent .. => execFeedPresent_answers
  | .feedLost .. => execFeedLost_answers
  | .inputStageFault => execInputStageFault_answers
  | .busCollapse => execBusCollapse_answers
  | .holdupConverterJoin => execHoldupConverterJoin_answers
  | .spinupAdmit => execSpinupAdmit_answers
  | .spinupAllocationRun .. => execSpinupAllocationRun_answers
  | .eUsableUpdate .. => execEUsableUpdate_answers
  | .holdupTestStart => execHoldupTestStart_answers
  | .holdupTestDone .. => execHoldupTestDone_answers
  | .fanOvercurrent .. => execFanOvercurrent_answers
  | .fanStall .. => execFanStall_answers
  | .fanDutyUpdate => execFanDutyUpdate_answers
  | .calrefPresent => execCalrefPresent_answers
  | .calrefGone => execCalrefGone_answers
  | .moduleReset => execModuleReset_answers
  | .vltRelease .. => execVltRelease_answers
  | .moduleRestart .. => execModuleRestart_answers
  | .perstAssert .. => execPerstAssert_answers
  | .perstRelease .. => execPerstRelease_answers
  | .hotReset .. => execHotReset_answers
  | .functionLevelReset .. => execFunctionLevelReset_answers
  | .controllerReset .. => execControllerReset_answers
  | .controllerResetDone .. => execControllerResetDone_answers
  | .coldFillDone => execColdFillDone_answers
  | .warmFillDone => execWarmFillDone_answers
  | .fiddleheadStart .. => execFiddleheadStart_answers
  | .stage2Start .. => execStage2Start_answers
  | .hdaTablesLoad .. => execHdaTablesLoad_answers
  | .replayStart => execReplayStart_answers
  | .replayDone .. => execReplayDone_answers
  | .bootReady .. => execBootReady_answers
  | .thermalHoldRestart .. => execThermalHoldRestart_answers
  | .vaultDumpDone => execVaultDumpDone_answers
  | .dumpRestart .. => execDumpRestart_answers
  | .busSwitchOff .. => execBusSwitchOff_answers
  | .vaultBoundUpdate .. => execVaultBoundUpdate_answers
  | .vaultEraseDone => execVaultEraseDone_answers
  | .vaultBlockRetire .. => execVaultBlockRetire_answers
  | .vaultChannelFailed .. => execVaultChannelFailed_answers
  | .hdaInserted .. => execHdaInserted_answers
  | .hdaAccepted .. => execHdaAccepted_answers
  | .hdaRejected .. => execHdaRejected_answers
  | .hdaRemoved .. => execHdaRemoved_answers
  | .hdaReleased .. => execHdaReleased_answers
  | .preampFault .. => execPreampFault_answers
  | .preampFrameEnd .. => execPreampFrameEnd_answers
  | .hdaTempRead .. => execHdaTempRead_answers
  | .clkIndexEdge .. => execClkIndexEdge_answers
  | .symbolClockSettled .. => execSymbolClockSettled_answers
  | .clkLockLost .. => execClkLockLost_answers
  | .kChangeDone .. => execKChangeDone_answers
  | .servoWedgeSample .. => execServoWedgeSample_answers
  | .srvEngineFault .. => execSrvEngineFault_answers
  | .seekStart .. => execSeekStart_answers
  | .coilModelUpdate .. => execCoilModelUpdate_answers
  | .spinupCommutate .. => execSpinupCommutate_answers
  | .spunUp .. => execSpunUp_answers
  | .spinupFail .. => execSpinupFail_answers
  | .spindleUnderspeed .. => execSpindleUnderspeed_answers
  | .spindleStopped .. => execSpindleStopped_answers
  | .headLoadStart .. => execHeadLoadStart_answers
  | .headLoaded .. => execHeadLoaded_answers
  | .headLoadFail .. => execHeadLoadFail_answers
  | .headUnload .. => execHeadUnload_answers
  | .headParked .. => execHeadParked_answers
  | .headUnloadFail .. => execHeadUnloadFail_answers
  | .emergencyRetract .. => execEmergencyRetract_answers
  | .retractParked .. => execRetractParked_answers
  | .captureStart .. => execCaptureStart_answers
  | .captureDone .. => execCaptureDone_answers
  | .latentTestDue .. => execLatentTestDue_answers
  | .takeIssue .. => execTakeIssue_answers
  | .tablesReady .. => execTablesReady_answers
  | .tsqCycle .. => execTsqCycle_answers
  | .tsqSafeViolation .. => execTsqSafeViolation_answers
  | .microcodeSwapInstall .. => execMicrocodeSwapInstall_answers
  | .sectorStart .. => execSectorStart_answers
  | .clapperDecision .. => execClapperDecision_answers
  | .sectorEncode .. => execSectorEncode_answers
  | .assistMonitorRead .. => execAssistMonitorRead_answers
  | .astCutNogate .. => execAstCutNogate_answers
  | .recoveryTakeSubmit .. => execRecoveryTakeSubmit_answers
  | .ldpGrant => execLdpGrant_answers
  | .decodeAttemptDone .. => execDecodeAttemptDone_answers
  | .converterSwap .. => execConverterSwap_answers
  | .converterSparePeriod .. => execConverterSparePeriod_answers
  | .portClaim .. => execPortClaim_answers
  | .taskPacket .. => execTaskPacket_answers
  | .portTagCountWrite .. => execPortTagCountWrite_answers
  | .cqEnable .. => execCqEnable_answers
  | .cqDisable .. => execCqDisable_answers
  | .cqHeadWrite .. => execCqHeadWrite_answers
  | .faultSumClear .. => execFaultSumClear_answers
  | .faultPinRelease .. => execFaultPinRelease_answers
  | .registerWrite .. => execRegisterWrite_answers
  | .intake .. => execIntake_answers
  | .overflowToSch .. => execOverflowToSch_answers
  | .dirtyBudgetGrant => execDirtyBudgetGrant_answers
  | .hostDataFetchDone .. => execHostDataFetchDone_answers
  | .writeCommit .. => execWriteCommit_answers
  | .destageHandover .. => execDestageHandover_answers
  | .flushComplete .. => execFlushComplete_answers
  | .readEgressDone .. => execReadEgressDone_answers
  | .hostMemoryError .. => execHostMemoryError_answers
  | .cqPost .. => execCqPost_answers
  | .coalesceTimer .. => execCoalesceTimer_answers
  | .eventNoticePost .. => execEventNoticePost_answers
  | .cacheFillComplete .. => execCacheFillComplete_answers
  | .rekeyPassDone => execRekeyPassDone_answers
  | .cacheConflictWindow => execCacheConflictWindow_answers
  | .bufScrubStep .. => execBufScrubStep_answers
  | .sramScrub .. => execSramScrub_answers
  | .activationHandover => execActivationHandover_answers
  | .activationNewFwStart .. => execActivationNewFwStart_answers
  | .activationDone .. => execActivationDone_answers
  | .activationTimeout .. => execActivationTimeout_answers
  | .faultEventAccept => execFaultEventAccept_answers
  | .nmiSnapshot => execNmiSnapshot_answers
  | .logRecordWrite .. => execLogRecordWrite_answers
  | .logSegmentErase .. => execLogSegmentErase_answers
  | .handshakeStall .. => execHandshakeStall_answers
  | .mgtHang .. => execMgtHang_answers
  | .mgtLoadPublish .. => execMgtLoadPublish_answers
  | .latentTest .. => execLatentTest_answers
  | .opsTick => execOpsTick_answers
  | .sensorReading .. => execSensorReading_answers
  | .sensorCompare => execSensorCompare_answers
  | .psEntryStep => execPsEntryStep_answers
  | .psExitStep => execPsExitStep_answers
  | .wakeTimer => execWakeTimer_answers
  | .wake => execWake_answers
  | .channelGating .. => execChannelGating_answers
  | .governorEval .. => execGovernorEval_answers
  | .speedTargetReached .. => execSpeedTargetReached_answers
  | .calCorrection => execCalCorrection_answers
  | .linkTrained .. => execLinkTrained_answers
  | .aspmL1Entry .. => execAspmL1Entry_answers
  | .aerCorrectable .. => execAerCorrectable_answers
  | .bar0WriteDiscard .. => execBar0WriteDiscard_answers
  | .doeRequest .. => execDoeRequest_answers
  | .doeAbort .. => execDoeAbort_answers
  | .spdmGetVersion .. => execSpdmGetVersion_answers
  | .spdmGetCapabilities .. => execSpdmGetCapabilities_answers
  | .spdmNegotiateAlgorithms .. => execSpdmNegotiateAlgorithms_answers
  | .spdmGetDigests .. => execSpdmGetDigests_answers
  | .spdmGetCertificate .. => execSpdmGetCertificate_answers
  | .spdmChallenge .. => execSpdmChallenge_answers
  | .spdmGetMeasurements .. => execSpdmGetMeasurements_answers
  | .spdmChunkGet .. => execSpdmChunkGet_answers
  | .spdmRespondIfReady .. => execSpdmRespondIfReady_answers
  | .spdmUnsupported .. => execSpdmUnsupported_answers
  | .mctpSetEndpointId .. => execMctpSetEndpointId_answers
  | .mctpGetEndpointId .. => execMctpGetEndpointId_answers
  | .mctpGetVersionSupport .. => execMctpGetVersionSupport_answers
  | .mctpGetMessageTypeSupport .. => execMctpGetMessageTypeSupport_answers
  | .ohmithRegisterRead .. => execOhmithRegisterRead_answers
  | .ohmithTaskPacket .. => execOhmithTaskPacket_answers
  | .smbusAlertResponse => execSmbusAlertResponse_answers
  | .read .. => execRead_answers
  | .write .. => execWrite_answers
  | .zoneAppend .. => execZoneAppend_answers
  | .verify .. => execVerify_answers
  | .flush .. => execFlush_answers
  | .zoneMgmtOpen .. => execZoneMgmtOpen_answers
  | .zoneMgmtClose .. => execZoneMgmtClose_answers
  | .zoneMgmtFinish .. => execZoneMgmtFinish_answers
  | .zoneMgmtReset .. => execZoneMgmtReset_answers
  | .zoneReport .. => execZoneReport_answers
  | .abort .. => execAbort_answers
  | .cacheCtlDisable .. => execCacheCtlDisable_answers
  | .cacheCtlEnable .. => execCacheCtlEnable_answers
  | .cacheCtlFlushRange .. => execCacheCtlFlushRange_answers
  | .cacheCtlInvalidateRange .. => execCacheCtlInvalidateRange_answers
  | .cacheCtlRekey .. => execCacheCtlRekey_answers
  | .scrubMedia .. => execScrubMedia_answers
  | .scrubBuffer .. => execScrubBuffer_answers
  | .identifyModule .. => execIdentifyModule_answers
  | .identifyVolume .. => execIdentifyVolume_answers
  | .getFeatureCurrent .. => execGetFeatureCurrent_answers
  | .getFeatureSaved .. => execGetFeatureSaved_answers
  | .getFeatureDefault .. => execGetFeatureDefault_answers
  | .setFeature .. => execSetFeature_answers
  | .getLog .. => execGetLog_answers
  | .clearLog .. => execClearLog_answers
  | .getSlateRead .. => execGetSlateRead_answers
  | .getSlateNewest .. => execGetSlateNewest_answers
  | .getSlateOldestUnexported .. => execGetSlateOldestUnexported_answers
  | .getSlateMarkExported .. => execGetSlateMarkExported_answers
  | .attestQuote .. => execAttestQuote_answers
  | .fwDownloadPart .. => execFwDownloadPart_answers
  | .fwDownloadCommit .. => execFwDownloadCommit_answers
  | .fwDownloadDiscard .. => execFwDownloadDiscard_answers
  | .fwActivateNextReset .. => execFwActivateNextReset_answers
  | .fwActivateImmediate .. => execFwActivateImmediate_answers
  | .powerStateSet .. => execPowerStateSet_answers
  | .powerStateGet .. => execPowerStateGet_answers
  | .hdaCtlSetHs .. => execHdaCtlSetHs_answers
  | .hdaCtlRelease .. => execHdaCtlRelease_answers
  | .hdaCtlRestart .. => execHdaCtlRestart_answers
  | .hdaCtlGet .. => execHdaCtlGet_answers
  | .calibrateHoldupTest .. => execCalibrateHoldupTest_answers
  | .calibrateCalref .. => execCalibrateCalref_answers
  | .calibrateChannel .. => execCalibrateChannel_answers
  | .calibrateStore .. => execCalibrateStore_answers
  | .calibrateConverter .. => execCalibrateConverter_answers
  | .microcodeLoadLoad .. => execMicrocodeLoadLoad_answers
  | .microcodeLoadClear .. => execMicrocodeLoadClear_answers
  | .microcodeLoadBind .. => execMicrocodeLoadBind_answers
  | .microcodeLoadUnbind .. => execMicrocodeLoadUnbind_answers
  | .microcodeLoadRomMode .. => execMicrocodeLoadRomMode_answers
  | .keyMgmtCreate .. => execKeyMgmtCreate_answers
  | .keyMgmtLock .. => execKeyMgmtLock_answers
  | .keyMgmtUnlock .. => execKeyMgmtUnlock_answers
  | .keyMgmtErase .. => execKeyMgmtErase_answers
  | .keyMgmtEnrolCustodian .. => execKeyMgmtEnrolCustodian_answers
  | .keyMgmtRemoveCustodian .. => execKeyMgmtRemoveCustodian_answers
  | .keyMgmtEnrolMakerKey .. => execKeyMgmtEnrolMakerKey_answers
  | .keyMgmtRemoveMakerKey .. => execKeyMgmtRemoveMakerKey_answers
  | .keyMgmtStatus .. => execKeyMgmtStatus_answers
  | .authNonce .. => execAuthNonce_answers
  | .servoTuneStart .. => execServoTuneStart_answers
  | .servoTuneStop .. => execServoTuneStop_answers
  | .servoTuneReplace .. => execServoTuneReplace_answers
  | .clearThermalHold .. => execClearThermalHold_answers
  | .counterCtlClearRange .. => execCounterCtlClearRange_answers
  | .counterCtlClearAll .. => execCounterCtlClearAll_answers
  | .counterCtlClearTime .. => execCounterCtlClearTime_answers
  | .faultCtlSetMask .. => execFaultCtlSetMask_answers
  | .faultCtlGetMask .. => execFaultCtlGetMask_answers
  | .faultCtlRestoreDefaults .. => execFaultCtlRestoreDefaults_answers
  | .faultCtlInject .. => execFaultCtlInject_answers
  | .volumeCtlFormat .. => execVolumeCtlFormat_answers
  | .volumeCtlRelease .. => execVolumeCtlRelease_answers
  | .volumeCtlTakeover .. => execVolumeCtlTakeover_answers
  | .volumeCtlSetDefaultKdom .. => execVolumeCtlSetDefaultKdom_answers
  | .eventArmBind .. => execEventArmBind_answers
  | .eventArmUnbind .. => execEventArmUnbind_answers
  | .configSpaceWrite .. => execConfigSpaceWrite_answers
  | .aspmL1Exit .. => execAspmL1Exit_answers
  | .functionLevelResetDone .. => execFunctionLevelResetDone_answers
  | .fanStallEnd .. => execFanStallEnd_answers
  | .fanCurrentLimitExit .. => execFanCurrentLimitExit_answers
  | .backEmfDetected .. => execBackEmfDetected_answers
  | .segmentListFetched .. => execSegmentListFetched_answers
  | .calrefMeasurementDone .. => execCalrefMeasurementDone_answers

theorem exec_keeps {i : Instr} {s t : State} (h : exec i s = .next t) : Keeps s t := by
  obtain ⟨u, hu, hk⟩ := exec_answers i s
  rw [hu] at h
  cases h
  exact hk

/-- A step is nothing on an empty queue, and otherwise the front command's effect without it in the queue. -/
theorem step_cases {s t : State} (h : step s = .next t) :
    (s.pending = [] ∧ t = s) ∨ ∃ c r, s.pending = c :: r ∧ exec c { s with pending := r } = .next t := by
  unfold step at h
  split at h
  next e =>
    cases h
    exact .inl ⟨e, rfl⟩
  next c r e => exact .inr ⟨c, r, e, h⟩

/-- Settles O52: the canonical form does not read the queue, and every command keeps it. -/
theorem canonicalKept : Obligations.CanonicalKept := by
  intro s t canonical h
  obtain ⟨-, rfl⟩ | ⟨c, r, -, hexec⟩ := step_cases h
  · exact canonical
  · obtain ⟨-, -, -, kept⟩ := exec_keeps hexec
    exact kept canonical

end Sys2Proof.Machine
end

section
/-! PROOF. The reset state (O53). -/

namespace Sys2Proof.Machine

/-- Every store is empty at reset, so a read of any index gives the default. -/
theorem reset_reads_default (n : Nat) :
    State.reset.tag n = {} ∧ State.reset.counter n = {} ∧ State.reset.port n = portReset n ∧ State.reset.hda n = {} ∧ State.reset.ep n = {} ∧
      State.reset.cq n = {} :=
  ⟨rfl, rfl, rfl, rfl, rfl, rfl⟩

/-- Settles O53: the stores are empty, and what their unlisted entries stand at is what the statement says. -/
theorem stateAtReset : Obligations.StateAtReset := by
  refine ⟨rfl, rfl, rfl, rfl, fun n => ?_, fun a => ?_, fun m => ?_, fun h => ?_, fun e => ?_, fun q => ?_, rfl⟩
  · obtain ⟨tag, -⟩ := reset_reads_default n
    rw [tag]
  · obtain ⟨-, counter, -⟩ := reset_reads_default a
    exact counter
  · obtain ⟨-, -, port, -⟩ := reset_reads_default m
    rw [port]
    exact ⟨rfl, rfl, rfl⟩
  · obtain ⟨-, -, -, hda, -⟩ := reset_reads_default h
    rw [hda]
  · obtain ⟨-, -, -, -, ep, -⟩ := reset_reads_default e
    rw [ep]
  · obtain ⟨-, -, -, -, -, cq⟩ := reset_reads_default q
    rw [cq]

end Sys2Proof.Machine
end

section
/-! PROOF. The release of a command's record and its completion: what they read, and what a change outside that leaves them. A managed command
that takes neither data nor a token (`State.simple`). -/

namespace Sys2Proof.Machine

variable {s u : State}

/-! ### What the release of a command reads -/

/-- The parts that a release reads or writes. -/
def Part.released : Part → Bool
  | .log | .pwr | .mns | .cal | .hdas | .mus | .store | .cmds | .mgt | .buf | .bca => true
  | _ => false

/-- `u` with the parts that a release reads or writes as they are in `s`. -/
def State.releasedAs (u s : State) : State :=
  { u with log := s.log, pwr := s.pwr, mns := s.mns, cal := s.cal, hdas := s.hdas, mus := s.mus, store := s.store, cmds := s.cmds
           mgt := s.mgt, buf := s.buf, bca := s.bca }

theorem releasedAs_of_unchanged {ps : List Part} (h : unchangedBut ps s u) (hp : ∀ p ∈ ps, p.released = false) : u.releasedAs s = u := by
  have same (p : Part) (r : p.released = true) : p.same s u := h p fun hm => by simp [hp p hm] at r
  have log : u.log = s.log := same .log rfl
  have pwr : u.pwr = s.pwr := same .pwr rfl
  have mns : u.mns = s.mns := same .mns rfl
  have cal : u.cal = s.cal := same .cal rfl
  have hdas : u.hdas = s.hdas := same .hdas rfl
  have mus : u.mus = s.mus := same .mus rfl
  have store : u.store = s.store := same .store rfl
  have cmds : u.cmds = s.cmds := same .cmds rfl
  have mgt : u.mgt = s.mgt := same .mgt rfl
  have buf : u.buf = s.buf := same .buf rfl
  have bca : u.bca = s.bca := same .bca rfl
  simp only [State.releasedAs, ← log, ← pwr, ← mns, ← cal, ← hdas, ← mus, ← store, ← cmds, ← mgt, ← buf, ← bca]

theorem unwrite_releasedAs (t : Nat) : (u.releasedAs s).unwrite t = u.releasedAs (s.unwrite t) := by
  unfold State.unwrite
  extract_lets
  rw [apply_ite u.releasedAs, apply_ite u.releasedAs]
  rfl

/-- A release does to `u` what it does to `s`, where `u` has the parts of `s` that a release reads. -/
theorem letGo_releasedAs (t : Nat) : (u.releasedAs s).letGo t = u.releasedAs (s.letGo t) := by
  simp only [State.letGo, unwrite_releasedAs]
  rfl

/-- A change of parts that no release reads stays that change over a release. -/
theorem letGo_unchanged {ps : List Part} (h : unchangedBut ps s u) (hp : ∀ p ∈ ps, p.released = false) (t : Nat) :
    unchangedBut ps (s.letGo t) (u.letGo t) := by
  have e : u.letGo t = u.releasedAs (s.letGo t) := by rw [← letGo_releasedAs, releasedAs_of_unchanged h hp]
  rw [e]
  intro p hn
  have hs := h p hn
  cases p <;> simp_all [Part.same, State.releasedAs]

/-! ### The end of a command -/

theorem mayBegin_live {t opc sub : Nat} (h : s.mayBegin t opc sub = true) : s.live t = true := by
  simp only [State.mayBegin, Bool.and_eq_true] at h
  obtain ⟨⟨⟨⟨⟨live, -⟩, -⟩, -⟩, -⟩, -⟩ := h
  exact live

theorem live_letGo (t : Nat) : (s.letGo t).live t = s.live t := by
  simp [State.live, State.tag, State.cmd, State.ep]

theorem live_of_unchanged {ps : List Part} (h : unchangedBut ps s u) (tags : Part.tags ∉ ps) (cmds : Part.cmds ∉ ps) (eps : Part.eps ∉ ps)
    (t : Nat) : u.live t = s.live t := by
  have ht : u.tags = s.tags := h .tags tags
  have hc : u.cmds = s.cmds := h .cmds cmds
  have he : u.eps = s.eps := h .eps eps
  simp [State.live, State.tag, State.cmd, State.ep, ht, hc, he]

/-- A live command that has changed parts besides tags, commands, endpoints and what a release reads completes, and leaves every other
command. -/
theorem endWith_ends {ps qs : List Part} {t : Nat} (r : Res) (hl : s.live t = true) (h : unchangedBut ps s u)
    (hp : ∀ p ∈ ps, p.released = false ∧ p ≠ .tags ∧ p ≠ .eps) (hq : ∀ p ∈ ps ++ [.tags, .cqs, .cmds], p ∈ qs) :
    completes s (u.endWith t r) t r ∧ (∀ k, k ≠ t → (u.endWith t r).cmd k = s.cmd k) ∧ unchangedBut qs (s.letGo t) (u.endWith t r) := by
  have tags : Part.tags ∉ ps := fun hm => (hp _ hm).2.1 rfl
  have eps : Part.eps ∉ ps := fun hm => (hp _ hm).2.2 rfl
  have cmds : Part.cmds ∉ ps := fun hm => by simpa [Part.released] using (hp _ hm).1
  have same : u.cmds = s.cmds := h .cmds cmds
  have live : (u.letGo t).live t = true := by rw [live_letGo, live_of_unchanged h tags cmds eps, hl]
  refine ⟨?_, fun k hk => ?_, ?_⟩
  · have done := complete_completes (u.letGo t) t r live
    simpa only [completes, State.endWith, State.cmd, letGo_cmds, same] using done
  · rw [State.endWith, State.complete, if_pos live]
    simp [State.cmd, sget_sset, hk, same]
  · have released := letGo_unchanged h (fun p hm => (hp p hm).1) t
    refine (released.mono fun p hm => hq p (List.mem_append_left _ hm)).trans ?_
    exact (complete_frame (u.letGo t) t r).mono fun p hm => hq p (List.mem_append_right _ hm)

/-! ### Managed commands without data -/

/-- A command that may begin and is refused with a conflict ends with it. -/
theorem simple_refused {t opc sub k : Nat} {codes : List (Bool × Nat)} {run : State → State} (hb : s.mayBegin t opc sub = true)
    (hc : firstCode codes = some k) : s.simple t opc sub codes run = .next (s.endWith t (conflict k)) := by
  unfold State.simple State.manage
  simp only [hc]
  exact guarded_same _ _ _ (by simp [hb, State.mayMove]) (by simp)

/-- A command that may begin and meets no conflict is carried out. -/
theorem simple_runs {t opc sub : Nat} {codes : List (Bool × Nat)} {run : State → State} (hb : s.mayBegin t opc sub = true)
    (hc : firstCode codes = none) (quiet : (run s).flt.offered = s.flt.offered) : s.simple t opc sub codes run = .next (run s) := by
  unfold State.simple State.manage
  simp only [hc]
  exact guarded_same _ _ _ (by simp [hb, State.mayMove]) quiet

/-- A refused command of this kind changes nothing but its own completion. -/
theorem simple_conflict {t opc sub k : Nat} {codes : List (Bool × Nat)} {run : State → State} (hb : s.mayBegin t opc sub = true)
    (hc : firstCode codes = some k) :
    ∃ v, s.simple t opc sub codes run = .next v ∧ completes s v t (conflict k) ∧ (∀ k, k ≠ t → v.cmd k = s.cmd k) ∧
      unchangedBut [.tags, .cmds, .cqs] (s.letGo t) v := by
  refine ⟨_, simple_refused hb hc, ?_⟩
  exact endWith_ends (ps := []) _ (mayBegin_live hb) (unchangedBut.refl s []) (by decide) (by decide)

end Sys2Proof.Machine
end

section
/-! PROOF. CLEAR_THERMAL_HOLD, COUNTER_CTL and the operating time (O43). -/

namespace Sys2Proof.Machine

variable {s : State}

/-! ### Counters dropped from the store -/

/-- A dropped key reads as the default, and any other as before. -/
theorem sget_sdrop {α : Type} (m : Sparse α) (p : Nat → Bool) (k : Nat) (d : α) : sget (sdrop m p) k d = if p k then d else sget m k d := by
  induction m with
  | nil => simp [sdrop, sget]
  | cons x r ih =>
    obtain ⟨j, v⟩ := x
    by_cases hj : j = k
    · subst hj
      by_cases hp : p j <;> simp_all [sdrop, sget]
    · by_cases hp : p j <;> simp_all [sdrop, sget]

/-- COUNTER_CTL clears the counters that `p` names and no other, and completes. -/
theorem clearCounters_ends {t : Nat} {p : Nat → Bool} (hl : s.live t = true) :
    (∀ k, p k = true → ({ s with ctr := sdrop s.ctr p }.endWith t {}).counter k = {}) ∧
    (∀ k, p k = false → ({ s with ctr := sdrop s.ctr p }.endWith t {}).counter k = s.counter k) ∧
    completes s ({ s with ctr := sdrop s.ctr p }.endWith t {}) t {} ∧
    (∀ k, k ≠ t → ({ s with ctr := sdrop s.ctr p }.endWith t {}).cmd k = s.cmd k) ∧
    unchangedBut [.ctr, .tags, .cqs, .cmds] (s.letGo t) ({ s with ctr := sdrop s.ctr p }.endWith t {}) := by
  have frame : unchangedBut [.ctr] s { s with ctr := sdrop s.ctr p } := by
    intro q hq
    cases q <;> simp_all [Part.same]
  refine ⟨fun k hk => ?_, fun k hk => ?_, endWith_ends _ hl frame (by decide) (by decide)⟩
  · simp [State.counter, sget_sdrop, hk]
  · simp [State.counter, sget_sdrop, hk]

/-! ### The thermal hold -/

theorem settleTherm_frame (s : State) : unchangedBut [.thp, .cqs] s s.settleTherm := by
  unfold State.settleTherm
  extract_lets l
  split
  · exact unchangedBut.refl s _
  · have level : unchangedBut [.thp, .cqs] s { s with thp := { s.thp with level := l } } := by
      intro q hq
      cases q <;> simp_all [Part.same]
    exact level.trans ((notice_frame _ _ _ _ _ _ _ _).mono (by decide))

@[simp] theorem settleTherm_hold (s : State) : s.settleTherm.thp.hold = s.thp.hold := by
  unfold State.settleTherm
  extract_lets
  split
  · rfl
  · rw [notice_thp]

@[simp] theorem settleTherm_nor (s : State) : s.settleTherm.nor = s.nor := settleTherm_frame s .nor (by decide)
@[simp] theorem settleTherm_flt (s : State) : s.settleTherm.flt = s.flt := settleTherm_frame s .flt (by decide)

theorem clearHold_frame (s : State) :
    unchangedBut [.nor, .thp, .cqs] s ({ s with thp := { s.thp with hold := false }, nor := { s.nor with hold := false } }.settleTherm) := by
  refine .trans (t := { s with thp := { s.thp with hold := false }, nor := { s.nor with hold := false } }) ?_ ((settleTherm_frame _).mono (by decide))
  intro q hq
  cases q <;> simp_all [Part.same]

/-! ### The second -/

/-- The state in which a second finds the operating time: transition timer, test clock and up time have moved on. -/
def State.ticked (s : State) : State :=
  { s with pwr := { s.pwr with timerLeft := s.pwr.timerLeft - 1 }
           mns := { s.mns with bank := { s.mns.bank with sinceTest := addSat 86400 s.mns.bank.sinceTest 1 } }
           time := { s.time with up := s.time.up + 1 } }

theorem execOpsTick_eq (s : State) : execOpsTick s = guarded s.mns.busUp s
    (if s.time.ops + 1 < 3600 then { s.ticked with time := { s.ticked.time with ops := s.time.ops + 1 } } else s.ticked.hourTick) := rfl

theorem ticked_frame (s : State) : unchangedBut [.time, .pwr, .mns] s s.ticked := by
  intro q hq
  cases q <;> simp_all [Part.same, State.ticked]

theorem raise_offers (s : State) (sub inst k a : Nat) : offered (s.raise sub inst k a) (mkMsg sub inst k a) := by
  simp [offered, State.raise, State.offer, State.offerRaw]

theorem saveTime_frame (s : State) : unchangedBut [.nor] s s.saveTime := by
  intro q hq
  cases q <;> simp_all [Part.same, State.saveTime]

@[simp] theorem saveTime_time (s : State) : s.saveTime.time = s.time := rfl
theorem offered_saveTime (s : State) (m : BitVec 64) : offered s.saveTime m ↔ offered s m := Iff.rfl

/-- The hour with the counter of hours saturated, able to count, and at its end. -/
theorem hourTick_saturated (h : s.time.ophSat = true) : s.hourTick = { s with time := { s.time with ops := 0 } }.saveTime := by
  simp [State.hourTick, h]

theorem hourTick_counts (h : s.time.ophSat = false) (n : s.time.oph + 1 < 2 ^ 32) :
    s.hourTick = { s with time := { s.time with ops := 0, oph := s.time.oph + 1 } }.saveTime := by
  rw [State.hourTick]
  simp only [h, Bool.false_eq_true, if_false, if_neg (Nat.not_le.mpr n)]

theorem hourTick_overflows (h : s.time.ophSat = false) (n : 2 ^ 32 ≤ s.time.oph + 1) :
    s.hourTick = ({ s with time := { s.time with ops := 0, oph := 2 ^ 32 - 1, ophSat := true } }.raise 18 0 0x3F 0x18).saveTime := by
  rw [State.hourTick]
  simp only [h, Bool.false_eq_true, if_false, if_pos n]

theorem withTime_frame (s : State) (x : OpTime) : unchangedBut [.time] s { s with time := x } := by
  intro q hq
  cases q <;> simp_all [Part.same]

/-! ### The rows -/

theorem clearThermalHold_ends {tag : TagNo} (hb : s.mayBegin tag 0x30 0 = true)
    (hc : firstCode [(s.thp.hold && !s.belowRelease, 0x0009)] = none) :
    ∃ t, execClearThermalHold tag s = .next t ∧ t.thp.hold = false ∧ t.nor = { s.nor with hold := false } ∧ completes s t tag {} ∧
      (∀ k, k ≠ (tag : Nat) → t.cmd k = s.cmd k) ∧ unchangedBut [.nor, .thp, .tags, .cqs, .cmds] (s.letGo tag) t := by
  have runs : execClearThermalHold tag s = .next _ := simple_runs hb hc (by simp only [endWith_flt, settleTherm_flt])
  refine ⟨_, runs, ?_, ?_, endWith_ends _ (mayBegin_live hb) (clearHold_frame s) (by decide) (by decide)⟩
  · simp only [endWith_thp, settleTherm_hold]
  · simp only [endWith_nor, settleTherm_nor]

theorem clearThermalHold_conflict {tag : TagNo} {k : Nat} (hb : s.mayBegin tag 0x30 0 = true)
    (hc : firstCode [(s.thp.hold && !s.belowRelease, 0x0009)] = some k) :
    ∃ t, execClearThermalHold tag s = .next t ∧ completes s t tag (conflict k) ∧ (∀ k, k ≠ (tag : Nat) → t.cmd k = s.cmd k) ∧
      unchangedBut [.tags, .cmds, .cqs] (s.letGo tag) t :=
  simple_conflict hb hc

theorem counterCtlClearTime_ends {tag : TagNo} (hb : s.mayBegin tag 0x31 3 = true) (hc : firstCode [(!s.factory, 0x000C)] = none) :
    ∃ t, execCounterCtlClearTime tag s = .next t ∧ t.time = { up := s.time.up } ∧ completes s t tag {} ∧
      (∀ k, k ≠ (tag : Nat) → t.cmd k = s.cmd k) ∧ unchangedBut [.time, .tags, .cqs, .cmds] (s.letGo tag) t := by
  have runs : execCounterCtlClearTime tag s = .next _ := simple_runs hb hc (by simp only [endWith_flt])
  exact ⟨_, runs, by simp only [endWith_time], endWith_ends _ (mayBegin_live hb) (withTime_frame s _) (by decide) (by decide)⟩

theorem counterCtlClearTime_conflict {tag : TagNo} {k : Nat} (hb : s.mayBegin tag 0x31 3 = true)
    (hc : firstCode [(!s.factory, 0x000C)] = some k) :
    ∃ t, execCounterCtlClearTime tag s = .next t ∧ completes s t tag (conflict k) ∧ (∀ k, k ≠ (tag : Nat) → t.cmd k = s.cmd k) ∧
      unchangedBut [.tags, .cmds, .cqs] (s.letGo tag) t :=
  simple_conflict hb hc

theorem counterCtlClearRange_runs {tag : TagNo} (hb : s.mayBegin tag 0x31 1 = true) :
    execCounterCtlClearRange tag s = .next ({ s with ctr := sdrop s.ctr fun k =>
      ((s.countersIn (s.cmd tag).pkt.p2.toNat (s.cmd tag).pkt.p3.toNat).map (ctrKey (s.cmd tag).ep)).contains k }.endWith tag {}) :=
  simple_runs hb rfl (by simp only [endWith_flt])

theorem counterCtlClearAll_runs {tag : TagNo} (hb : s.mayBegin tag 0x31 2 = true) :
    execCounterCtlClearAll tag s = .next ({ s with ctr := sdrop s.ctr (ctrOf (s.cmd tag).ep) }.endWith tag {}) :=
  simple_runs hb rfl (by simp only [endWith_flt])

/-- A second within the hour. -/
theorem opsTick_counts (up : s.mns.busUp = true) (h : s.time.ops + 1 < 3600) :
    execOpsTick s = .next { s.ticked with time := { s.ticked.time with ops := s.time.ops + 1 } } := by
  rw [execOpsTick_eq, if_pos h]
  exact guarded_same _ _ _ up rfl

/-- The second that ends an hour, where there is room for an event or none is offered. -/
theorem opsTick_hour (up : s.mns.busUp = true) (h : 3600 ≤ s.time.ops + 1)
    (free : s.eventRoom = true ∨ s.ticked.hourTick.flt.offered = s.flt.offered) : execOpsTick s = .next s.ticked.hourTick := by
  rw [execOpsTick_eq, if_neg (Nat.not_lt.mpr h)]
  obtain room | quiet := free
  · exact guarded_room _ _ _ up room
  · exact guarded_same _ _ _ up quiet

/-- Settles O43: one lemma above for each command, and one for each way that an hour ends. -/
theorem holdsCountersAndTime : Obligations.HoldsCountersAndTime := by
  refine ⟨fun tag s hb hc => clearThermalHold_ends hb hc, fun tag k s hb hc => clearThermalHold_conflict hb hc, fun tag s hb => ?_, fun tag s hb => ?_,
    fun tag s hb hc => counterCtlClearTime_ends hb hc, fun tag k s hb hc => counterCtlClearTime_conflict hb hc, fun s up h => ?_, fun s up h sat n => ?_,
    fun s up h sat n room => ?_, fun s up h sat room => ?_, fun s down => guarded_false s _ _ down⟩
  · obtain ⟨cleared, kept, ends⟩ := clearCounters_ends (mayBegin_live hb)
    exact ⟨_, counterCtlClearRange_runs hb, fun k hk => cleared k (by simpa using hk), fun k hk => kept k (by simpa using hk), ends⟩
  · exact ⟨_, counterCtlClearAll_runs hb, clearCounters_ends (mayBegin_live hb)⟩
  · exact ⟨_, opsTick_counts up h, rfl, rfl, rfl, rfl, (ticked_frame s).trans ((withTime_frame s.ticked _).mono (by decide))⟩
  · have e := hourTick_counts (s := s.ticked) sat n
    refine ⟨_, (opsTick_hour up h (.inr (by rw [e]; rfl))).trans (by rw [e]), rfl, rfl, rfl, rfl, ?_⟩
    exact ((ticked_frame s).mono (by decide)).trans
      (((withTime_frame _ _).mono (by decide)).trans ((saveTime_frame _).mono (by decide)))
  · have e := hourTick_overflows (s := s.ticked) sat n
    refine ⟨_, (opsTick_hour up h (.inl room)).trans (by rw [e]), ?_, rfl, (offered_saveTime _ _).mpr (raise_offers _ _ _ _ _), ?_⟩
    · rw [saveTime_time, raise_time]
      rfl
    · exact ((ticked_frame s).mono (by decide)).trans
        (((withTime_frame _ _).mono (by decide)).trans (((raise_frame _ _ _ _ _).mono (by decide)).trans ((saveTime_frame _).mono (by decide))))
  · have e := hourTick_saturated (s := s.ticked) sat
    refine ⟨_, (opsTick_hour up h (.inl room)).trans (by rw [e]), rfl, rfl, ?_⟩
    exact ((ticked_frame s).mono (by decide)).trans
      (((withTime_frame _ _).mono (by decide)).trans ((saveTime_frame _).mono (by decide)))

end Sys2Proof.Machine
end

section
/-! PROOF. The end of a warm fill writes poison marks (O10). -/

namespace Sys2Proof.Machine

/-- A warm fill ends on the state that a module reset leaves: no line is listed, one dirty sector without poison marks (volume 0, LBA 0) is kept
in the index, and the first burst of region 0, where that sector's line is allocated, is marked as poisoned. -/
def State.beforeReinstall : State := { buf := { fill := 2, poison := [(0, 1)] }, bca := { index := [(0, { sector := some {} })] } }

/-- The sector is installed again in the line of set 0, way 0, and its marks, none, become the marks of the line's bursts. -/
theorem warmFillDone_clears_poison :
    ∃ t, exec .warmFillDone State.beforeReinstall = .next t ∧ t.poisonOf 0 = 0 :=
  ⟨_, rfl, by decide⟩

/-- Refutes O10, in its last clause: after a warm fill the poison marks of region 0 do not all stand. `State.reinstall` puts the dirty sectors
back in lines, and the marks of each sector replace those of the bursts it comes to lie in. The burst at address 0, marked before, is not
marked afterwards. -/
theorem not_powerOnAndOff : ¬ Obligations.PowerOnAndOff := by
  unfold Obligations.PowerOnAndOff
  rintro ⟨-, -, -, -, warm⟩
  obtain ⟨t, step, -, stands, -⟩ := warm State.beforeReinstall rfl (by decide)
  obtain ⟨u, step', cleared⟩ := warmFillDone_clears_poison
  obtain rfl : u = t := by
    rw [step'] at step
    exact Host.Outcome.next.inj step
  obtain ⟨kept, -⟩ := stands 0 (by decide)
  rw [cleared] at kept
  exact absurd kept (by decide)

end Sys2Proof.Machine
end
